-- ==== Sys2Proof/Word.lean ====
section
/-! DEFINITION. The words the manual computes with, by width. -/

namespace Sys2Proof

abbrev Byte := BitVec 8
abbrev W16 := BitVec 16
abbrev W32 := BitVec 32
abbrev W64 := BitVec 64
/-- A byte string, lowest address first. -/
abbrev Bytes := List Byte

end Sys2Proof
end

