-- ==== Sys2Proof/Syntax.lean ====
section
/-! DEFINITION. The commands the block takes: one constructor per row of spec/opcode_table.json.
A cue command names the logical bay whose sequencer issues; the cue itself is read from that bay's cue
memory. Operands that the module's surroundings decide (a measured power, a received frame, a failed
channel) are the command's. -/

namespace Sys2Proof

/-- A Felsyn frame at a port (R264, R265): the port it arrived on or leaves by, the checks its
Ethernet part met, the header's fields, the payload and the appended CRC-32C. -/
structure Frame where
  port : Nat
  etype : Nat := 0x88B5
  fcsBad : Bool := false
  fecBad : Bool := false
  ver : Nat := 1
  typ : Nat
  level : Nat := 0
  backup : Bool := false
  retx : Bool := false
  part : Nat := 0
  src : Nat := 0
  dst : Nat := 0
  seq : Nat := 0
  ack : Nat := 0
  len : Nat := 0
  shard : Nat := 0
  milepost : Nat := 0
  bundle : Nat := 0
  ncontr : Nat := 0
  rev : Nat := 0
  satf : Nat := 0
  smallf : Nat := 0
  payload : Bytes := []
  crc : W32 := 0
  /-- the Ethernet addresses, the 802.1Q tag that a received frame may carry, and the frame check sequence (R264) -/
  dstMac : BitVec 48 := 0
  srcMac : BitVec 48 := 0
  tag : Option (BitVec 16) := none
  fcs : W32 := 0
  deriving DecidableEq, Repr

/-- The internal faults of R412. -/
inductive InternalKind where
  | ring | noBoundary | colvel
  deriving DecidableEq, Repr

/-- The PLLs whose loss of lock R407 settles. -/
inductive Pll where
  | root | memory | pcie | felsyn (port : Nat)
  deriving DecidableEq, Repr

/-- What boot reads from one socket's serial presence data (R186, R187): the module type (72 or 144;
0 for an empty socket, any other value a type outside R186), its organisation (0: JEDEC DDR5 MRDIMM, two 40-bit
subchannels, x4 devices), DRAM density, speed bin, the data rates it supports (bit i of `rates`: 0 12,800; 1 10,400;
2 8,800 MT/s) and its temperature. -/
structure Spd where
  typ : Nat
  organisation : Nat
  density : Nat
  bin : Nat
  rates : Nat
  temp : Nat
  deriving DecidableEq, Repr

/-- What the meter measured over a whole minute (R342): energy in mJ, the highest and lowest 100 ms mean
and the highest tick mean in W, and the milliseconds covered. -/
structure MinuteMeter where
  energy : Nat
  pmax100 : Nat
  pmin100 : Nat
  ppeak : Nat
  coverMs : Nat
  deriving DecidableEq, Repr

/-- The commands. -/
inductive Instr where
  /-- SET (R112): SET cue writes one address generator's BASE or one dimension's extent and stride and zeroes its indices. -/
  | set (lb : Nat)
  /-- LOADW (R51): LOADW cue is issued to an array's LOADW queue to write a weight tile into the shadow registers. -/
  | loadw (lb : Nat)
  /-- FEED (R55): FEED cue is issued to stream M rows through an array, optionally preceded by a swap marker. -/
  | feed (lb : Nat)
  /-- DRAIN (R64): DRAIN cue is issued to the drain unit to read accumulator rows through the drain stages and store them. -/
  | drain (lb : Nat)
  /-- MOVE (R117): MOVE cue hands a stream descriptor to the bay stream engine or a green-room queue. -/
  | move (lb : Nat)
  /-- RING_OPEN (R145): RING OPEN opens a revolve end with its geometry, and a consumer end sends N empty credits. -/
  | ringOpen (lb : Nat)
  /-- RING_CLOSE (R148): RING CLOSE closes a revolve end and leaves slot contents in place. -/
  | ringClose (lb : Nat)
  /-- RING_ACQ (R146): RING ACQ retires at the producer end once EMPTY is at least 1. -/
  | ringAcq (lb : Nat)
  /-- RING_FILL (R146): RING FILL marks the head slot full, advances the head and sends a full credit. -/
  | ringFill (lb : Nat)
  /-- RING_TAKE (R146): RING TAKE retires at the consumer end once FULL is at least 1. -/
  | ringTake (lb : Nat)
  /-- RING_FREE (R146): RING FREE marks the tail slot empty, advances the tail and sends an empty credit. -/
  | ringFree (lb : Nat)
  /-- WAIT (R91): WAIT cue tests a bay semaphore and retires at once when the count is at least N. -/
  | wait (lb : Nat)
  /-- POST (R91): POST cue issues an addition to a semaphore of a bay of the lane, delivered after its fence. -/
  | post (lb : Nat)
  /-- LOOP (R87): LOOP cue opens a counted loop of n iterations. -/
  | loop (lb : Nat)
  /-- ENDL (R87): ENDL decrements the innermost loop count and branches to the body or closes the loop. -/
  | endl (lb : Nat)
  /-- MARK (R123): MARK cue latches counters, may start a photocall and may strobe EVT_IO. -/
  | mark (lb : Nat)
  /-- EXIT (R97): EXIT cue sets the live set in force, or is where a pending LIVE stop takes effect. -/
  | exit (lb : Nat)
  /-- PROMPT_FIRST (R228): PROMPT FIRST loads the predictor header as the bay's context and replaces the INT32 sums with x times P1 tiles. -/
  | promptFirst (lb : Nat)
  /-- PROMPT_NEXT (R229): PROMPT NEXT adds x times further P1 tiles into the bay's sums. -/
  | promptNext (lb : Nat)
  /-- PROMPT_SELECT (R230): PROMPT SELECT scores a span of neurons, selects them and writes an index list, optionally starting a column move. -/
  | promptSelect (lb : Nat)
  /-- MATCH_ASSOC (R225): MATCH in ASSOC mode intersects two index lists through the associative memory. -/
  | matchAssoc (lb : Nat)
  /-- MATCH_BITMAP (R226): MATCH in BITMAP mode ANDs two bitmaps and writes the set positions. -/
  | matchBitmap (lb : Nat)
  /-- WALK (R126): WALK cue streams generator data through the named arrays for a duration at a duty. -/
  | walk (lb : Nat)
  /-- HALT (R85): HALT cue is issued and waits for every earlier cue of the part to complete. -/
  | halt (lb : Nat)
  /-- HALT_RETIRE (R75): HALT retires once earlier work completes, the bay goes DONE and the command ends after the last part's HALT. -/
  | haltRetire (lb : Nat)
  /-- CUE_ACCEPT (R85): A cue waiting in issue stall is accepted when its target queue frees an entry. -/
  | cueAccept (lb : Nat)
  /-- LOADW_END (R54): A LOADW finishes its 128 cycles and the array has a pending tile. -/
  | loadwEnd (lb : Nat) (arr : Nat)
  /-- FEED_END (R57): A FEED ends its input occupancy and the next FEED on the array may begin. -/
  | feedEnd (lb : Nat) (arr : Nat)
  /-- DRAIN_ROW_READ (R60): The drain reads an accumulator row once the row is final under the interlock. -/
  | drainRowRead (lb : Nat)
  /-- DRAIN_ROW_STORE (R68): A drained row's stores are granted and the row becomes visible, waiting for a revolve slot if needed. -/
  | drainRowStore (lb : Nat)
  /-- WAIT_SATISFIED (R91): A waiting WAIT finds its semaphore at least N, subtracts N and retires. -/
  | waitSatisfied (lb : Nat)
  /-- POST_DELIVERY (R93): A POST's addition reaches its target semaphore after its fence and delivery delay. -/
  | postDelivery (lb : Nat)
  /-- REVOLVE_CREDIT (R147): A full or empty credit arrives at a revolve end and raises its count. -/
  | revolveCredit (lb : Nat)
  /-- SCHED_OVERRUN (R94): A WAIT or revolve stall outlasts the slot's declared slack and raises SCHED_OVERRUN under the overrun policy. -/
  | schedOverrun (lb : Nat)
  /-- CROSSBAR_GRANT (R137): The bay crossbar grants a waiting wings access in a CK_D cycle by priority. -/
  | crossbarGrant (lb : Nat)
  /-- CROSSBAR_AGE (R137): A requester that has waited 64 CK_D cycles is raised above priority 1. -/
  | crossbarAge (lb : Nat)
  /-- SHEET_LOAD_DONE (R82): All parts of a loaded sheet have arrived and been checked, and every bay of the lane issues its first cue together. -/
  | sheetLoadDone (cid : Nat)
  /-- STOP_RECEIVE (R96): A POINTERS stop reaches a bay, which issues nothing further and stops its units at row boundaries. -/
  | stopReceive (lb : Nat)
  /-- BAY_STOP_DONE (R96): A stopped bay's units are released and it enters IDLE. -/
  | bayStopDone (lb : Nat)
  /-- STASH_SAVE_DONE (R98): A bay finishes writing its saved state and live ranges and enters PARK. -/
  | stashSaveDone (lb : Nat)
  /-- EXIT_LATE (R99): A LIVE stop not in effect within EXIT_GAP falls back to a POINTERS stop on every bay of the lane. -/
  | exitLate (cid : Nat)
  /-- CURTAIN_GO (R150): Writing RST_CURTCTL.GO requests a curtain, queued behind one that runs. -/
  | curtainGo (v : W32)
  /-- CURTAIN_START (R151): A requested curtain starts, stops covered bays and holds accesses to covered storage. -/
  | curtainStart
  /-- CURTAIN_DONE (R152): A curtain finishes zeroing, releases held accesses and records CURTAIN_DONE. -/
  | curtainDone
  /-- STREAM_ACCEPT (R118): A stream engine accepts a MOVE, reads its descriptor and checks it for DESC_BAD, MISALIGN and OVERLAP. -/
  | streamAccept (eng : Nat)
  /-- RUNAHEAD_REQUEST (R174): A stream engine issues a run-ahead request, dropping granules that no window permits. -/
  | runaheadRequest (eng : Nat)
  /-- STREAM_DELIVER (R173): A stream engine demands an element, checks its window and delivers or writes it. -/
  | streamDeliver (eng : Nat)
  /-- STALE_REFETCH (R177): A stale granule's refetch returns and is delivered under REFETCH. -/
  | staleRefetch (eng : Nat)
  /-- MOVE_DONE (R117): A MOVE's last byte becomes visible and its DONE semaphore gains 1. -/
  | moveDone (eng : Nat)
  /-- STR_WINCTL_COMMIT (R172): Writing STR_WINCTL.COMMIT marks the staged memory windows for application. -/
  | strWinctlCommit
  /-- WINDOW_APPLY (R172): Staged windows take effect at the next slot boundary or within 1 µs with no running order. -/
  | windowApply
  /-- PATROL_SCRUB (R194): Patrol reads a granule, writes back corrected data or marks it poisoned. -/
  | patrolScrub (granule : Nat)
  /-- REFRESH (R195): A memory controller refreshes at its interval, stalling accesses that meet it. -/
  | refresh (chan : Nat)
  /-- MEM_ZERO_GO (R196): Writing MEM_ZERO.GO starts a memory scrub or sets REFUSED. -/
  | memZeroGo
  /-- MEM_ZERO_DONE (R196): A memory scrub finishes zeroing DDR and releases held BAR2 accesses. -/
  | memZeroDone
  /-- MEM_RETIRE_GO (R198): Writing MEM_RETIRE.GO requests retirement of a channel, which is accepted or refused. -/
  | memRetireGo (v : W32)
  /-- MIGRATE_GRANULE (R199): A granule of the retiring channel is copied into the reserve and remapped. -/
  | migrateGranule
  /-- CHAN_RETIRED (R198): The last granule is remapped and the channel is placed in self-refresh and turned off. -/
  | chanRetired
  /-- CHANNEL_AUTO_RETIRE (R361): A channel correcting single-device errors in 64 granules within an hour triggers automatic retirement. -/
  | channelAutoRetire (chan : Nat)
  /-- DEP_CTL_FLUSH (R202): Writing DEP_CTL.FLUSH writes back every dirty depot line. -/
  | depCtlFlush (pd : Nat)
  /-- DEP_CTL_DISABLE (R202): Clearing DEP_CTL.ENABLE writes back the depot and then bypasses it. -/
  | depCtlDisable (pd : Nat)
  /-- GATHER_COMMAND (R308): A GATHER command starts a job from its job record on a port die's gather engine. -/
  | gatherCommand (cid : Nat)
  /-- GATHER_JOB_DONE (R209): A gather job writes CODE and UCOUNT, releases its depot ways and posts its semaphore. -/
  | gatherJobDone (pd : Nat)
  /-- CHK_GO (R212): Writing CHK_CTL.GO starts or resumes a host check-value scan. -/
  | chkGo (e : Nat) (v : W32)
  /-- CHK_PAUSE (R213): Writing CHK_CTL.PAUSE stops a running scan at the next 64 B boundary. -/
  | chkPause (e : Nat) (covered : Nat)
  /-- CHK_SCAN_DONE (R212): A host scan completes with its result and code. -/
  | chkScanDone (e : Nat)
  /-- RUN_COMMAND (R309): A RUN command starts a cue sheet on its lane, from resident parts or by loading them. -/
  | runCommand (cid : Nat)
  /-- MILEPOST_COMMAND (R279): A MILEPOST command checks its deadlines and exchange entries and waits for T_k. -/
  | milepostCommand (cid : Nat)
  /-- SNAPSHOT_COMMAND (R256): A SNAPSHOT command streams shards after a milepost's update to host memory or a peer. -/
  | snapshotCommand (cid : Nat)
  /-- SNAPSHOT_COMPLETE (R454): A snapshot's last write or manifest is sent and the command completes. -/
  | snapshotComplete (cid : Nat)
  /-- MILEPOST_OPEN (R280): At T_k the tollhouses read and zero the sums and send CONTRIB frames. -/
  | milepostOpen
  /-- CONTRIB_RECEIVE (R281): A level-0 role receives a CONTRIB and accepts, carries or drops it. -/
  | contribReceive (f : Frame)
  /-- DEADLINE_D0 (R284): At T_k + D0 level-0 roles close open bundles and send their SUM frames. -/
  | deadlineD0
  /-- SUM_RECEIVE (R285): A level-1 role or the owner receives a SUM part and takes the first complete copy. -/
  | sumReceive (f : Frame)
  /-- DEADLINE_D1 (R285): At T_k + D1 level-1 roles close open bundles. -/
  | deadlineD1
  /-- DEADLINE_D2 (R285): At T_k + D2 the owner closes open bundles and updates them. -/
  | deadlineD2
  /-- PARAM_RECEIVE (R290): A device receives a PARAM part, writes it into the working-copy set and forwards it. -/
  | paramReceive (f : Frame)
  /-- DEADLINE_DP (R291): At T_k + DP a device requests missing parameters and the milepost command completes. -/
  | deadlineDp
  /-- RESYNC_RECEIVE (R288): A device receiving RESYNC sends one PREQ to the shard's owner. -/
  | resyncReceive (f : Frame)
  /-- PREQ_RECEIVE (R288): The owner answers a PREQ with every PARAM part of the bundle. -/
  | preqReceive (f : Frame)
  /-- SNAP_RECEIVE (R293): A peer receives a SNAP frame and writes its bytes, checking each chunk's CRC-64. -/
  | snapReceive (f : Frame)
  /-- LACK_RECEIVE (R270): A TROUPE sender receives an LACK acknowledging frames or asking for a replay. -/
  | lackReceive (f : Frame)
  /-- REPLAY_TIMEOUT (R270): A TROUPE sender with no acknowledgement for 10 µs replays from its oldest frame. -/
  | replayTimeout (port : Nat)
  /-- EACK_RECEIVE (R271): A SWITCH sender receives an EACK bitmap of received frames. -/
  | eackReceive (f : Frame)
  /-- RETX_TIMEOUT (R271): A SWITCH frame unacknowledged after 50 µs is retransmitted or abandoned after eight tries. -/
  | retxTimeout (dst : Nat) (seq : Nat)
  /-- HELLO_RECEIVE (R262): A TROUPE port receives the peer's HELLO and checks its troupe and position. -/
  | helloReceive (f : Frame)
  /-- TIME_EXCHANGE (R273): Once per millisecond a device exchanges TIME frames with its parent and slews its time. -/
  | timeExchange
  /-- TIME_FRAME_RECEIVE (R273): A TIME frame is timestamped on arrival and answered or used for the offset. -/
  | timeFrameReceive (f : Frame)
  /-- HOLDOVER (R274): A device with no TIME exchange for 10 ms enters holdover. -/
  | holdover
  /-- FAB_TIMESET_WRITE (R275): Writing FAB_TIMESET on the root sets UTC time to be stepped at the next PPS edge. -/
  | fabTimesetWrite (ns : W64)
  /-- PPS_IN_EDGE (R275): A rising PPS_IN edge slews or steps the root's time to the nearest second. -/
  | ppsInEdge
  /-- PPS_OUT (R461): Each whole second of system time pulses PPS_OUT. -/
  | ppsOut
  /-- LANE_LOSS (R263): A port loses one lane and continues on three, recording LINK_DEGRADE. -/
  | laneLoss (port : Nat) (lane : Nat)
  /-- LINK_DOWN (R263): A port with under three lanes or no progress for 2 ms goes down and loses unacknowledged frames. -/
  | linkDown (port : Nat)
  /-- LINK_UP (R262): A port completes training and comes up, possibly completing the device's join. -/
  | linkUp (port : Nat)
  /-- RUN_CTL_GO (R304): Writing RUN_CTL.GO loads and checks a running-order image. -/
  | runCtlGo (v : W32)
  /-- RUN_CTL_STOP (R304): Writing RUN_CTL.STOP ends the running order at its next slot boundary. -/
  | runCtlStop (v : W32)
  /-- IMAGE_TAKE_EFFECT (R304): A loaded image takes effect at a frame start and makes a new first seed point. -/
  | imageTakeEffect
  /-- SLOT_BOUNDARY (R395): At a slot boundary the running order applies map, windows and holds, reads call boards, pre-empts and starts commands. -/
  | slotBoundary
  /-- BUDGET_EXPIRY (R313): A command's budget runs out, RUN_OVERBUD counts, and a BE RUN becomes stoppable. -/
  | budgetExpiry (cid : Nat)
  /-- RUN_ABORT_GO (R316): Writing RUN_ABORT.GO aborts a queued, running or parked entry. -/
  | runAbortGo (v : W32)
  /-- INTERNAL_FAULT (R412): A control-ring error, four frames without a slot boundary or loss of both Colvel cores causes a cold reset. -/
  | internalFault (kind : InternalKind)
  /-- MARGIN_CHECK_DONE (R351): A margin check records the bay's margin and updates LOWRUN, possibly making a swap candidate. -/
  | marginCheckDone (lb : Nat) (margin : Nat)
  /-- UST_SWAP_GO (R355): Writing UST_SWAP.GO requests a swap of a logical bay. -/
  | ustSwapGo (v : W32)
  /-- UNDERSTUDY_CHECK_DONE (R358): The powered understudy finishes its margin check and the swap waits for F0 or is refused. -/
  | understudyCheckDone (d : Nat) (margin : Nat)
  /-- SWAP_COPY_DONE (R359): The bay's wings and resident state finish copying to the understudy. -/
  | swapCopyDone (d : Nat)
  /-- WIRE_REMAP (R353): A causeway wire with 16 retries in a second is replaced by a spare or the group halves. -/
  | wireRemap (d : Nat) (cwy : Nat) (group : Nat)
  /-- PHASE_FAIL (R354): A failed regulator phase is switched out and a third failure limits the throttle level. -/
  | phaseFail (rail : Nat)
  /-- HEARTBEAT_MISS (R362): Three missed heartbeats make the standby Colvel core primary and a new standby is brought in. -/
  | heartbeatMiss (p2failed : Bool) (p3failed : Bool)
  /-- ENV_CTL_LOAD (R327): Writing ENV_CTL.LOAD submits a draw schedule for verification. -/
  | envCtlLoad (v : W32)
  /-- SCHEDULE_VERIFY_DONE (R327): Schedule verification ends, accepting or refusing the schedule. -/
  | scheduleVerifyDone
  /-- ENVELOPE_TICK (R332): At each tick the loop measures P, sets bounds and moves the throttle level or walk-on steps. -/
  | envelopeTick (p : Nat) (vin : Nat) (iin : Nat) (dt : Nat)
  /-- ENV_CTL_SHED (R336): Writing ENV_CTL.SHED orders or clears a shed. -/
  | envCtlShed (v : W32)
  /-- SHED_N_FALL (R336): SHED_N low past the deglitch time starts a shed. -/
  | shedNFall
  /-- SHED_N_RISE (R336): SHED_N high past the deglitch time removes the pin's shed condition. -/
  | shedNRise
  /-- SAG_BEGIN (R338): The input falls below 44 V and a sag shed begins. -/
  | sagBegin (vin : Nat)
  /-- SAG_END (R338): The input stays at or above 45 V for 1 ms and the sag ends. -/
  | sagEnd (vin : Nat)
  /-- DROPOUT (R339): The input falls below 36 V and the module rides through on its bulk. -/
  | dropout (vin : Nat)
  /-- DARK_STOP (R339): A dropout of 2 ms or a bulk below 40 V stops the module and records POWER_FAIL. -/
  | darkStop (bulk : Nat)
  /-- SURGE (R340): The input enters 58–72 V and a SURGE event is recorded. -/
  | surge (vin : Nat)
  /-- SURGE_TIMEOUT (R340): An overvoltage beyond 10 ms or above 72 V opens the hot-swap stage. -/
  | surgeTimeout (vin : Nat)
  /-- PWR_EN_RISE (R340): PWR_EN rising charges the bulk and powers the AON domains up to PWR_OK. -/
  | pwrEnRise
  /-- PWR_EN_LOW (R461): PWR_EN low for 10 ms turns the module off by a dark stop without ride-through. -/
  | pwrEnLow
  /-- THERM_LIMIT (R341): A junction reaching 95 °C records THERM_LIMIT and holds the throttle level up. -/
  | thermLimit (die : Nat) (temp : Nat)
  /-- THERMTRIP (R341): A junction at 110 °C lowers THERMTRIP_N and makes a dark stop without ride-through. -/
  | thermtrip (die : Nat)
  /-- COOLANT_ALERT (R466): An inlet above 40 °C or flow below 4 L/min raises ALERT_N. -/
  | coolantAlert (flow : Nat) (inlet : Nat) (outlet : Nat)
  /-- METERED_MINUTE (R342): At each minute's end the module writes and signs a metered-minute record. -/
  | meteredMinute (m : MinuteMeter)
  /-- DUMP_CAPTURE (R375): At each 2^K µs the central reader captures all counters and writes a DUMP record. -/
  | dumpCapture
  /-- BW_WINDOW (R378): A derived bandwidth unit's window ends and it reports COUNT and MBPS. -/
  | bwWindow (n : Nat)
  /-- PHOTOCALL_DONE (R383): A photocall copy ends and its PHOTO record is written. -/
  | photocallDone (lb : Nat)
  /-- EVT_IO_EDGE (R385): A deglitched rising edge on EVT_IO serves PIN-mode photocall entries. -/
  | evtIoEdge
  /-- OBS_EVT_WRITE (R399): A write to OBS_EVT changes the EVT_IO role within 1 µs and may record PIN_CONFLICT. -/
  | obsEvtWrite (v : W32)
  /-- OBS_STEPCTL_INC (R381): Writing OBS_STEPCTL.INC raises the step number by 1. -/
  | obsStepctlInc
  /-- OBS_RING_ENABLE (R373): Setting a ring's EN resets its WR and RD to 0. -/
  | obsRingEnable (n : Nat) (v : W32)
  /-- TABLEAU_PIN (R387): A falling TABLEAU_N edge with PINEN set triggers a tableau. -/
  | tableauPin
  /-- TAB_CTL_FREEZE (R387): Writing TAB_CTL.FREEZE triggers a tableau. -/
  | tabCtlFreeze (v : W32)
  /-- TABLEAU_CLOCK_STOP (R387): 64 CK_C cycles after the trigger all stopped clocks and odometers halt together. -/
  | tableauClockStop
  /-- TABLEAU_FROZEN (R387): In-flight memory requests complete, depots write back and DDR enters self-refresh. -/
  | tableauFrozen
  /-- TAB_CTL_RESUME (R391): Writing TAB_CTL.RESUME with TABLEAU_N high begins the thaw. -/
  | tabCtlResume (v : W32)
  /-- TABLEAU_THAW_DONE (R391): DDR leaves self-refresh and every stopped clock restarts in one cycle. -/
  | tableauThawDone
  /-- PLL_LOCK (R404): CK_ROOT locks at boot, or boot halts at CLOCK without a reference. -/
  | pllLock (refok : Bool)
  /-- PLL_LOCK_LOSS (R407): CK_ROOT or a memory PLL loses lock, the module sheds and cold-resets. -/
  | pllLockLoss (pll : Pll)
  /-- PERST_N_FALL (R411): PERST_N falling stops every bay, puts DDR in self-refresh and holds logic in warm reset. -/
  | perstNFall
  /-- PERST_N_RISE (R415): PERST_N rising starts link training and the warm boot. -/
  | perstNRise
  /-- RST_CTL_COLD (R408): Writing RST_CTL.COLD starts a cold reset. -/
  | rstCtlCold
  /-- BOOT_IMAGE_CHECK (R422): The boot ROM selects and verifies firmware images and the playbill. -/
  | bootImageCheck
  /-- SPD_CHECK (R187): Boot reads all 32 SPDs and checks the population. -/
  | spdCheck (sockets : List Spd)
  /-- MEM_TRAIN (R188): Memory training ends at a rate, falls back, retires a channel or halts boot. -/
  | memTrain (failing : List (List Nat)) (readback : Bool)
  /-- SELF_TEST (R418): SRAM and array self-test ends, swapping failed bays for understudies. -/
  | selfTest (failed : List Nat)
  /-- BOOT_DDR_ZERO (R420): Boot finishes zeroing DDR on the full path. -/
  | bootDdrZero
  /-- BOOT_READY (R416): Boot completes, READY becomes 1 and vector 10 is sent. -/
  | bootReady
  /-- MEM_LATCH_OPEN (R464): A memory socket latch opened while PWR_OK is high starts a dark stop. -/
  | memLatchOpen
  /-- DOE_FRAGMENT (R452): A DOE object carrying a trust-message fragment arrives. -/
  | doeFragment (more : Bool) (off : Nat) (data : Bytes)
  /-- DOE_ABORT (R452): A DOE Abort discards the message in progress. -/
  | doeAbort
  /-- GET_CERT (R437): GET_CERT returns the device or firmware-key certificate. -/
  | getCert
  /-- GET_REPORT (R441): GET_REPORT returns a signed attestation report over a nonce. -/
  | getReport
  /-- ENROL_OP (R437): ENROL_OP enrols a new operator key. -/
  | enrolOp
  /-- ENROL_FAC (R437): ENROL_FAC enrols a new facility key with proof of possession. -/
  | enrolFac
  /-- RELEASE_FAC (R437): RELEASE_FAC erases the facility key. -/
  | releaseFac
  /-- SEAL (R433): SEAL moves the module from OPEN to SEALED. -/
  | seal
  /-- DECOMMISSION (R438): DECOMMISSION stops, curtains and scrubs the module, erases keys and blows the state fuse. -/
  | decommission
  /-- UPDATE_BEGIN (R439): UPDATE_BEGIN erases the target's inactive slot for an update. -/
  | updateBegin
  /-- UPDATE_DATA (R439): UPDATE_DATA writes update data at an offset. -/
  | updateData
  /-- UPDATE_END (R439): UPDATE_END checks digest, header, signature and floor and activates the slot from the next reset. -/
  | updateEnd
  /-- MGMT_REG_READ (R465): The management command REG_READ returns a BAR0 register value. -/
  | mgmtRegRead (off : Nat)
  /-- MGMT_SHED (R465): The management command SHED sets or clears ENV_CTL.SHED. -/
  | mgmtShed (arg : Byte)
  /-- MGMT_COLD (R465): The management command COLD with its guard value starts a cold reset. -/
  | mgmtCold (guardValue : W32)
  /-- MGMT_CURTAIN (R465): The management command CURTAIN queues a curtain of given masks. -/
  | mgmtCurtain (bays : W64) (grm : Byte) (keep : Byte)
  /-- SCHED_DATA (R465): SCHED_DATA writes part of the management port's schedule buffer. -/
  | schedData (off64 : Nat) (data : Bytes)
  /-- SCHED_SUBMIT (R465): SCHED_SUBMIT submits the buffered schedule under the schedule checks. -/
  | schedSubmit
  /-- METER_READ (R465): METER_READ returns 256 B of the metered-minute store. -/
  | meterRead (off : Nat)
  /-- MSG_DATA (R465): MSG_DATA delivers a fragment of a trust message through the management port. -/
  | msgData (more : Bool) (off : Nat) (data : Bytes)
  /-- MSG_READ (R465): MSG_READ returns a fragment of a trust-message response. -/
  | msgRead (off : Nat)
  /-- STATUS (R465): STATUS returns RST_BOOTSTAT and ENV_STAT. -/
  | status
  /-- MGMT_RESULT_READ (R465): A private read returns the pending result or NOT_READY. -/
  | mgmtResultRead
  /-- MGMT_MSG_TIMEOUT (R465): A half-sent management trust message is discarded after 10 s without a fragment. -/
  | mgmtMsgTimeout
  /-- BAR2_READ (R449): A host BAR2 read is split into irregular requests and completed, poisoned if needed. -/
  | bar2Read (off : Nat) (len : Nat)
  /-- BAR2_WRITE (R449): A host BAR2 write is performed through the memory controllers of its granules. -/
  | bar2Write (off : Nat) (data : Bytes) (poisoned : Bool)
  /-- BAR2_RESIZE (R448): A Resizable BAR write changes the BAR2 size and its base rounding. -/
  | bar2Resize (log2 : Nat)
  /-- POWER_STATE_CHANGE (R444): The host moves the function between D0 and D3hot. -/
  | powerStateChange (d3 : Bool)
  /-- HST_EVSTAT_CLEAR (R450): Writing 1 to an HST_EVSTAT bit clears that event status. -/
  | hstEvstatClear (v : W32)
  /-- CUE_RNDCTL_CLR (R45): Writing CUE_RNDCTL.CLR clears CUE_NUMSAT and CUE_NUMNAN. -/
  | cueRndctlClr (p : Nat) (v : W32)
  /-- CUE_ARRCTL_ECLR (R72): Writing CUE_ARRCTL.ECLR clears CUE_ARRECC. -/
  | cueArrctlEclr (p : Nat)
  /-- CUE_SEQCTL_CCLR (R106): Writing CUE_SEQCTL.CCLR clears CUE_STOPCNT. -/
  | cueSeqctlCclr (p : Nat)
  /-- WNG_CTL_ECLR (R154): Writing WNG_CTL.ECLR clears WNG_ECC and revolve stall counts. -/
  | wngCtlEclr (p : Nat)
  /-- GRM_CTL_ECLR (R155): Writing GRM_CTL.ECLR clears GRM_ECC. -/
  | grmCtlEclr (d : Nat)
  /-- STR_CTL_CCLR (R183): Writing STR_CTL.CCLR clears STR_FAULT and the stream counters. -/
  | strCtlCclr (eng : Nat)
  /-- MEM_CHCTL_ECLR (R216): Writing MEM_CHCTL.ECLR clears MEM_ECC and MEM_ERRADDR. -/
  | memChctlEclr (chan : Nat)
  /-- GTH_CTL_CCLR (R217): Writing GTH_CTL.CCLR clears GTH_OOB. -/
  | gthCtlCclr (pd : Nat)
  /-- SPR_CTL_CCLR (R237): Writing SPR_CTL.CCLR clears the sparsity counters. -/
  | sprCtlCclr (p : Nat)
  /-- PRM_CTL_CCLR (R238): Writing PRM_CTL.CCLR clears PRM_AUD0–7 and PRM_DROP. -/
  | prmCtlCclr (d : Nat)
  /-- TLH_UPDCTL_CCLR (R252): Writing TLH_UPDCTL.CCLR clears TLH_SKIP and TLH_SNAPHOLD. -/
  | tlhUpdctlCclr (pd : Nat)
  /-- FAB_PORTCTL_CCLR (R295): Writing FAB_PORTCTL.CCLR clears FAB_PORTERR and the byte counters. -/
  | fabPortctlCclr (port : Nat) (v : W32)
  /-- FAB_CNTCTL_CCLR (R297): Writing FAB_CNTCTL.CCLR clears the tollhouse fabric counters. -/
  | fabCntctlCclr (pd : Nat)
  /-- RUN_CNTCTL_CCLR (R324): Writing RUN_CNTCTL.CCLR clears the running-order counters. -/
  | runCntctlCclr
  /-- ENV_CTL_CCLR (R347): Writing ENV_CTL.CCLR clears ENV_CNT. -/
  | envCtlCclr (v : W32)
  /-- OBS_BCTL_CCLR (R370): Writing OBS_BCTL.CCLR clears a block's OBS_CNT0–7. -/
  | obsBctlCclr (blk : Nat) (v : W32)
  /-- OBS_CCTL_CCLR (R392): Writing OBS_CCTL.CCLR clears OBS_SAMPDROP and every ring's LOST. -/
  | obsCctlCclr
  /-- HST_CTL_CCLR (R456): Writing HST_CTL.CCLR clears HST_ERR. -/
  | hstCtlCclr
  /-- REGISTER_WRITE (R8): A register write with no behaviour of its own acts as its access code lays down. -/
  | registerWrite (bar : Nat) (off : Nat) (size : Nat) (value : W64)
  /-- PROMPT_END (R124): A PROMPT finishes its 2 + 128 × NTILE cycles in the prompter, freeing the prompter for the bay's next PROMPT and, for SELECT, writing the list and handing over the column move. -/
  | promptEnd (d : Nat)
  /-- MATCH_END (R125): A MATCH finishes its execution in the matcher, writes its output list and frees its place in the two-entry matcher queue. -/
  | matchEnd (lb : Nat)
  /-- WALK_END (R126): A WALK finishes its DURM1 + 1 cycles and leaves the FEED queues of the arrays it named. -/
  | walkEnd (lb : Nat)
  /-- DEPOT_FLUSH_DONE (R202): A depot write-back completes, DEP_STAT.FLUSHING clears, and after a cleared ENABLE accesses then bypass the depot. -/
  | depotFlushDone (pd : Nat)
  /-- INPUT_RETURN (R339): The input returns to 44 V, either within 2 ms of a dropout so that the event continues as a sag, or after a dark stop while the bulk still holds 36 V so that a warm-path boot with cause DARKSTOP follows. -/
  | inputReturn (vin : Nat)
  /-- BULK_DEPLETED (R413): After a dark stop the bulk falls to 36 V, so AON, MGT and DDR self-refresh lose power and DDR content is lost, and the next boot is a power-on. -/
  | bulkDepleted
  /-- HOST_LINK_RETRAIN (R455): The PCI Express link goes down or retrains at a lower rate or width, for example after its PLL loses lock, raising Link Bandwidth Notification and counting HST_LINK.RETRAINS. -/
  | hostLinkRetrain (rate : Nat) (width : Nat) (up : Bool)
  deriving DecidableEq, Repr

end Sys2Proof
end

