-- ==== Sys2Proof/Decode.lean ====
section
/-! DEFINITION. The block decodes no instruction words: the rows of spec/opcode_table.json give no bits,
so no word spells a command. (Cues have encodings, R107 to R126; a cue is read from a bay's cue memory by
the cue commands and decoded in Machine/CueCode.lean.) -/

namespace Sys2Proof

/-- The command a word spells by the table's bits: none, since no row of the table gives bits. -/
def decodeTableWord (_nbits _w : Nat) : Option Instr := none

end Sys2Proof
end

