-- ==== Sys2Proof/Machine/Regs.lean ====
section
/-! DEFINITION. The registers of the module by the manual's names, and one name per field.
A register is named by its table row, the unit that holds it (physical bay, die, channel, port,
stream engine, observed block or ring; 0 for a module-global register) and its index in an array of
registers. 128-bit registers are two 64-bit halves (R447), `_LO` and `_HI`. -/

namespace Sys2Proof.Machine

/-- The register names of the manual's register tables. -/
inductive RegName where
  | CUE_RNDCTL | CUE_RNDSEED | CUE_NUMSAT | CUE_NUMNAN | CUE_ARRSTAT | CUE_DSCALE
  | CUE_ARRECC | CUE_ARRCTL | CUE_ID | CUE_SEQSTAT | CUE_SHEETNO | CUE_FAULT
  | CUE_LIVEMASK | CUE_STOPCNT | CUE_SEQCTL | CUE_LOOP | CUE_TOKEN | CUE_RESSTAT
  | CUE_AGBASE | CUE_AGDIM | CUE_SEM | CUE_RESTAB_LO | CUE_RESTAB_HI | RNG_GEOM
  | RNG_STAT | WNG_ECC | WNG_CTL | GRM_ECC | GRM_CTL | GRM_STAGE
  | RST_CURTBAY | RST_CURTCTL | RST_CURTSTAT | STR_STAT | STR_FAULT | STR_BOUND
  | STR_PADG | STR_RADROP | STR_STALE | STR_CTL | STR_WINW0 | STR_WINW1
  | STR_WINCTL | STR_WINFAULT | MEM_CFG | MEM_INFO | MEM_RETIRE | MEM_MIGPOS
  | MEM_ZERO | MEM_CHSTAT | MEM_ECC | MEM_ERRADDR | MEM_PATROL | MEM_CHCTL
  | DEP_CTL | DEP_STAT | DEP_ECC | GTH_STAT | GTH_JOB | GTH_OOB
  | GTH_CTL | CHK_CTL | CHK_START | CHK_LEN | CHK_POS | CHK_RUN
  | CHK_RESULT | CHK_STAT | CHK_MISCNT | SPR_OVERFULL | SPR_METADUP | SPR_IDXOOB
  | SPR_CTL | PRM_STAT | PRM_CTX | PRM_AUD | PRM_DROP | PRM_MAKEUP
  | PRM_CTL | TLH_SHARDBASE | TLH_SHARDCNT | TLH_UPDSTAT | TLH_SKIP | TLH_SNAPHOLD
  | TLH_UPDCTL | FAB_PORTCTL | FAB_PORTSTAT | FAB_PORTERR | FAB_PORTTX | FAB_PORTRX
  | FAB_DEVNO | FAB_TOPO | FAB_ETYPE | FAB_MACPFX | FAB_XTBASE | FAB_XTCNT
  | FAB_CARRYBASE | FAB_CARRYN | FAB_DLINE | FAB_MPPOL | FAB_MPSTAT | FAB_TIME
  | FAB_TIMESET | FAB_TIMESTAT | FAB_LATE | FAB_STALE | FAB_BACKUP | FAB_SAT
  | FAB_RXDROP | FAB_E2ELOST | FAB_RESYNC | FAB_CNTCTL | RUN_BASE | RUN_CTL
  | RUN_STAT | RUN_FRAME | RUN_ODO | RUN_ABORT | RUN_TABLE | RUN_MISS
  | RUN_OVERBUD | RUN_PREEMPT | RUN_MAKEUP | RUN_OVERRUN | RUN_CNTCTL | ENV_SCHEDBASE
  | ENV_CTL | ENV_DEGLITCH | ENV_GUARD | ENV_STAT | ENV_POWER | ENV_SCHED
  | ENV_ENTRYW0 | ENV_ENTRYW1 | ENV_ENERGY | ENV_INFO | ENV_WALKCAL | ENV_CNT
  | ENV_MMSTAT | ENV_EVHEAD | ENV_EVLOG_LO | ENV_EVLOG_HI | PWR_DOMSTAT | PWR_TEMP
  | UST_MAP | UST_BAYST | UST_MARGIN | UST_CFG | UST_SWAP | UST_STAT
  | UST_SRAM | UST_CWY | UST_VRM | UST_COLVEL | UST_SVCUS | UST_LOSTUS
  | UST_EXCLUS | UST_LOSTEV | OBS_ODO | OBS_SEL | OBS_CNT | OBS_BCTL
  | OBS_PHOTOSTAT | OBS_LATCHTAG | OBS_LATCHODO | OBS_LATCHCNT | OBS_USER_EN | OBS_STEP
  | OBS_STEPCTL | OBS_DUMP | OBS_SAMPCTL | OBS_SAMPBAYS | OBS_SAMPDROP | OBS_EVT
  | OBS_CCTL | OBS_RINGBASE | OBS_RINGCTL | OBS_RINGWR | OBS_RINGRD | OBS_RINGSTAT
  | OBS_BWSEL | OBS_BW | OBS_PHOTO | OBS_PHOTOCTL | TAB_CTL | TAB_STAT
  | TAB_PAGE | TAB_HOLD | TAB_BAR2 | CLK_STAT | CLK_FREQ | RST_CTL
  | RST_REASON | RST_BOOTSTAT | RST_BOOTTIME | RST_BOOTCFG | RST_PLAYBILL | RST_IMG
  | RST_IMGMARK | RST_IDENT | RST_SERIAL | RST_LEVEL | RST_BAYS | SEC_STATE
  | SEC_CMDCTR | SEC_DEVID_LO | SEC_DEVID_HI | SEC_ROOTID | SEC_FACID | SEC_OPID
  | SEC_REPORTS | SEC_FLOOR | HST_LINK | HST_BAR2BASE | HST_DMACTL | HST_DMAFAULT
  | HST_EVSTAT | HST_EVEN | HST_ERR | HST_CTL | HST_HWINW0 | HST_HWINW1
  | MSIX_ADDR | MSIX_DATA | MSIX_PBA | PWR_COOL | TLH_RNDCTL | TLH_RNDSEED | TLH_NUMSAT
  | TLH_NUMNAN
  deriving DecidableEq, Repr

/-- One register: its table name, the unit that holds it, and its index in an array of registers. -/
structure Reg where
  name : RegName
  unit : Nat := 0
  idx  : Nat := 0
  deriving DecidableEq, Repr

/-- One field of a register: bits `lo` to `lo + w - 1`. -/
structure Fld where
  reg : RegName
  lo  : Nat
  w   : Nat
  deriving DecidableEq, Repr

/-- The access codes of R8. -/
inductive Access where
  | RW | RO | WO | W1C | RWS
  deriving DecidableEq, Repr

/-! Fields of R45. -/
abbrev CUE_RNDCTL_CLR : Fld := ⟨.CUE_RNDCTL, 1, 1⟩
abbrev CUE_RNDCTL_FIXED : Fld := ⟨.CUE_RNDCTL, 0, 1⟩
abbrev CUE_RNDSEED_SEED : Fld := ⟨.CUE_RNDSEED, 0, 64⟩
abbrev CUE_NUMSAT_COUNT : Fld := ⟨.CUE_NUMSAT, 0, 32⟩
abbrev CUE_NUMNAN_INF : Fld := ⟨.CUE_NUMNAN, 16, 16⟩
abbrev CUE_NUMNAN_NAN : Fld := ⟨.CUE_NUMNAN, 0, 16⟩
/-! Fields of R72. -/
abbrev CUE_ARRSTAT_PEND_BW : Fld := ⟨.CUE_ARRSTAT, 18, 1⟩
abbrev CUE_ARRSTAT_PEND_BX : Fld := ⟨.CUE_ARRSTAT, 17, 1⟩
abbrev CUE_ARRSTAT_PEND_F : Fld := ⟨.CUE_ARRSTAT, 16, 1⟩
abbrev CUE_ARRSTAT_DQ : Fld := ⟨.CUE_ARRSTAT, 12, 2⟩
abbrev CUE_ARRSTAT_BW_LQ : Fld := ⟨.CUE_ARRSTAT, 10, 2⟩
abbrev CUE_ARRSTAT_BW_FQ : Fld := ⟨.CUE_ARRSTAT, 8, 2⟩
abbrev CUE_ARRSTAT_BX_LQ : Fld := ⟨.CUE_ARRSTAT, 6, 2⟩
abbrev CUE_ARRSTAT_BX_FQ : Fld := ⟨.CUE_ARRSTAT, 4, 2⟩
abbrev CUE_ARRSTAT_F_LQ : Fld := ⟨.CUE_ARRSTAT, 2, 2⟩
abbrev CUE_ARRSTAT_F_FQ : Fld := ⟨.CUE_ARRSTAT, 0, 2⟩
abbrev CUE_DSCALE_VALUE : Fld := ⟨.CUE_DSCALE, 0, 32⟩
abbrev CUE_ARRECC_UNCORR : Fld := ⟨.CUE_ARRECC, 16, 16⟩
abbrev CUE_ARRECC_CORR : Fld := ⟨.CUE_ARRECC, 0, 16⟩
abbrev CUE_ARRCTL_ECLR : Fld := ⟨.CUE_ARRCTL, 0, 1⟩
/-! Fields of R106. -/
abbrev CUE_ID_MINMAJOR : Fld := ⟨.CUE_ID, 16, 8⟩
abbrev CUE_ID_LEVEL : Fld := ⟨.CUE_ID, 0, 16⟩
abbrev CUE_SEQSTAT_STATE : Fld := ⟨.CUE_SEQSTAT, 28, 4⟩
abbrev CUE_SEQSTAT_LDEPTH : Fld := ⟨.CUE_SEQSTAT, 25, 3⟩
abbrev CUE_SEQSTAT_PC : Fld := ⟨.CUE_SEQSTAT, 0, 14⟩
abbrev CUE_SHEETNO_ACTIVE : Fld := ⟨.CUE_SHEETNO, 16, 1⟩
abbrev CUE_SHEETNO_SHEET : Fld := ⟨.CUE_SHEETNO, 0, 12⟩
abbrev CUE_FAULT_CODE : Fld := ⟨.CUE_FAULT, 14, 8⟩
abbrev CUE_FAULT_PC : Fld := ⟨.CUE_FAULT, 0, 14⟩
abbrev CUE_LIVEMASK_MASK : Fld := ⟨.CUE_LIVEMASK, 0, 16⟩
abbrev CUE_STOPCNT_EXITLATE : Fld := ⟨.CUE_STOPCNT, 16, 16⟩
abbrev CUE_STOPCNT_PARKS : Fld := ⟨.CUE_STOPCNT, 0, 16⟩
abbrev CUE_SEQCTL_CCLR : Fld := ⟨.CUE_SEQCTL, 0, 1⟩
abbrev CUE_LOOP_REMAIN : Fld := ⟨.CUE_LOOP, 0, 17⟩
abbrev CUE_TOKEN_TOKEN : Fld := ⟨.CUE_TOKEN, 0, 64⟩
abbrev CUE_RESSTAT_KEPT : Fld := ⟨.CUE_RESSTAT, 1, 1⟩
abbrev CUE_RESSTAT_HELD : Fld := ⟨.CUE_RESSTAT, 0, 1⟩
abbrev CUE_AGBASE_BASE : Fld := ⟨.CUE_AGBASE, 0, 48⟩
abbrev CUE_AGDIM_INDEX : Fld := ⟨.CUE_AGDIM, 48, 16⟩
abbrev CUE_AGDIM_EXTM1 : Fld := ⟨.CUE_AGDIM, 32, 16⟩
abbrev CUE_AGDIM_STRIDE : Fld := ⟨.CUE_AGDIM, 0, 32⟩
abbrev CUE_SEM_VALUE : Fld := ⟨.CUE_SEM, 0, 16⟩
abbrev CUE_RESTAB_LO_VALID : Fld := ⟨.CUE_RESTAB_LO, 63, 1⟩
abbrev CUE_RESTAB_LO_SHEET : Fld := ⟨.CUE_RESTAB_LO, 48, 12⟩
abbrev CUE_RESTAB_LO_BASE : Fld := ⟨.CUE_RESTAB_LO, 32, 14⟩
abbrev CUE_RESTAB_LO_LENM1 : Fld := ⟨.CUE_RESTAB_LO, 16, 14⟩
abbrev CUE_RESTAB_HI_HDRCRC : Fld := ⟨.CUE_RESTAB_HI, 0, 32⟩
/-! Fields of R154. -/
abbrev RNG_GEOM_OPEN : Fld := ⟨.RNG_GEOM, 45, 1⟩
abbrev RNG_GEOM_ROLE : Fld := ⟨.RNG_GEOM, 44, 1⟩
abbrev RNG_GEOM_PEER : Fld := ⟨.RNG_GEOM, 38, 6⟩
abbrev RNG_GEOM_PRV : Fld := ⟨.RNG_GEOM, 33, 5⟩
abbrev RNG_GEOM_NSLM1 : Fld := ⟨.RNG_GEOM, 29, 4⟩
abbrev RNG_GEOM_SLSZM1 : Fld := ⟨.RNG_GEOM, 17, 12⟩
abbrev RNG_GEOM_BASE : Fld := ⟨.RNG_GEOM, 0, 17⟩
abbrev RNG_STAT_STALL : Fld := ⟨.RNG_STAT, 32, 32⟩
abbrev RNG_STAT_INDEX : Fld := ⟨.RNG_STAT, 28, 4⟩
abbrev RNG_STAT_COUNT : Fld := ⟨.RNG_STAT, 23, 5⟩
abbrev RNG_STAT_CURSOR : Fld := ⟨.RNG_STAT, 0, 12⟩
abbrev WNG_ECC_UNCORR : Fld := ⟨.WNG_ECC, 16, 16⟩
abbrev WNG_ECC_CORR : Fld := ⟨.WNG_ECC, 0, 16⟩
abbrev WNG_CTL_ECLR : Fld := ⟨.WNG_CTL, 0, 1⟩
/-! Fields of R155. -/
abbrev GRM_ECC_UNCORR : Fld := ⟨.GRM_ECC, 16, 16⟩
abbrev GRM_ECC_CORR : Fld := ⟨.GRM_ECC, 0, 16⟩
abbrev GRM_CTL_ECLR : Fld := ⟨.GRM_CTL, 0, 1⟩
abbrev GRM_STAGE_HELD : Fld := ⟨.GRM_STAGE, 31, 1⟩
abbrev GRM_STAGE_USE : Fld := ⟨.GRM_STAGE, 29, 2⟩
abbrev GRM_STAGE_BAY : Fld := ⟨.GRM_STAGE, 12, 6⟩
abbrev GRM_STAGE_SHEET : Fld := ⟨.GRM_STAGE, 0, 12⟩
/-! Fields of R156. -/
abbrev RST_CURTBAY_BAYS : Fld := ⟨.RST_CURTBAY, 0, 64⟩
abbrev RST_CURTCTL_GO : Fld := ⟨.RST_CURTCTL, 9, 1⟩
abbrev RST_CURTCTL_KEEP : Fld := ⟨.RST_CURTCTL, 8, 1⟩
abbrev RST_CURTCTL_GRM : Fld := ⟨.RST_CURTCTL, 0, 8⟩
abbrev RST_CURTSTAT_BUSY : Fld := ⟨.RST_CURTSTAT, 31, 1⟩
abbrev RST_CURTSTAT_QUEUED : Fld := ⟨.RST_CURTSTAT, 30, 1⟩
abbrev RST_CURTSTAT_DONE : Fld := ⟨.RST_CURTSTAT, 0, 16⟩
/-! Fields of R183. -/
abbrev STR_STAT_STAGED : Fld := ⟨.STR_STAT, 16, 1⟩
abbrev STR_STAT_XPOSE : Fld := ⟨.STR_STAT, 15, 1⟩
abbrev STR_STAT_INFLIGHT : Fld := ⟨.STR_STAT, 8, 7⟩
abbrev STR_STAT_BUSY : Fld := ⟨.STR_STAT, 4, 1⟩
abbrev STR_STAT_QUEUE : Fld := ⟨.STR_STAT, 0, 4⟩
abbrev STR_FAULT_ELEM : Fld := ⟨.STR_FAULT, 32, 32⟩
abbrev STR_FAULT_CODE : Fld := ⟨.STR_FAULT, 24, 8⟩
abbrev STR_FAULT_DESC : Fld := ⟨.STR_FAULT, 0, 19⟩
abbrev STR_BOUND_COUNT : Fld := ⟨.STR_BOUND, 0, 32⟩
abbrev STR_PADG_COUNT : Fld := ⟨.STR_PADG, 0, 32⟩
abbrev STR_RADROP_COUNT : Fld := ⟨.STR_RADROP, 0, 32⟩
abbrev STR_STALE_REFETCH : Fld := ⟨.STR_STALE, 16, 16⟩
abbrev STR_STALE_MARKED : Fld := ⟨.STR_STALE, 0, 16⟩
abbrev STR_CTL_CCLR : Fld := ⟨.STR_CTL, 0, 1⟩
/-! Fields of R185. -/
abbrev STR_WINW0_BASE : Fld := ⟨.STR_WINW0, 6, 42⟩
abbrev STR_WINW0_W : Fld := ⟨.STR_WINW0, 1, 1⟩
abbrev STR_WINW0_RD : Fld := ⟨.STR_WINW0, 0, 1⟩
abbrev STR_WINW1_LIMIT : Fld := ⟨.STR_WINW1, 6, 42⟩
abbrev STR_WINCTL_PEND : Fld := ⟨.STR_WINCTL, 1, 1⟩
abbrev STR_WINCTL_COMMIT : Fld := ⟨.STR_WINCTL, 0, 1⟩
abbrev STR_WINFAULT_WR : Fld := ⟨.STR_WINFAULT, 63, 1⟩
abbrev STR_WINFAULT_ADDR : Fld := ⟨.STR_WINFAULT, 0, 48⟩
/-! Fields of R215. -/
abbrev MEM_CFG_RESERVE : Fld := ⟨.MEM_CFG, 2, 1⟩
abbrev MEM_CFG_RATEMAX : Fld := ⟨.MEM_CFG, 0, 2⟩
abbrev MEM_INFO_CAP : Fld := ⟨.MEM_INFO, 16, 16⟩
abbrev MEM_INFO_RATE : Fld := ⟨.MEM_INFO, 14, 2⟩
abbrev MEM_INFO_RETIRED : Fld := ⟨.MEM_INFO, 7, 1⟩
abbrev MEM_INFO_RCHAN : Fld := ⟨.MEM_INFO, 0, 5⟩
abbrev MEM_RETIRE_GO : Fld := ⟨.MEM_RETIRE, 31, 1⟩
abbrev MEM_RETIRE_STATE : Fld := ⟨.MEM_RETIRE, 29, 2⟩
abbrev MEM_RETIRE_CHAN : Fld := ⟨.MEM_RETIRE, 0, 5⟩
abbrev MEM_MIGPOS_GRANULES : Fld := ⟨.MEM_MIGPOS, 0, 32⟩
abbrev MEM_ZERO_GO : Fld := ⟨.MEM_ZERO, 31, 1⟩
abbrev MEM_ZERO_BUSY : Fld := ⟨.MEM_ZERO, 30, 1⟩
abbrev MEM_ZERO_REFUSED : Fld := ⟨.MEM_ZERO, 29, 1⟩
/-! Fields of R216. -/
abbrev MEM_CHSTAT_STATE : Fld := ⟨.MEM_CHSTAT, 28, 4⟩
abbrev MEM_CHSTAT_TEMP : Fld := ⟨.MEM_CHSTAT, 0, 8⟩
abbrev MEM_ECC_BUS : Fld := ⟨.MEM_ECC, 48, 16⟩
abbrev MEM_ECC_UNCORR : Fld := ⟨.MEM_ECC, 32, 16⟩
abbrev MEM_ECC_CORR : Fld := ⟨.MEM_ECC, 0, 32⟩
abbrev MEM_ERRADDR_VALID : Fld := ⟨.MEM_ERRADDR, 63, 1⟩
abbrev MEM_ERRADDR_UNC : Fld := ⟨.MEM_ERRADDR, 62, 1⟩
abbrev MEM_ERRADDR_ADDR : Fld := ⟨.MEM_ERRADDR, 0, 48⟩
abbrev MEM_PATROL_HOURS : Fld := ⟨.MEM_PATROL, 0, 8⟩
abbrev MEM_CHCTL_ECLR : Fld := ⟨.MEM_CHCTL, 0, 1⟩
/-! Fields of R217. -/
abbrev DEP_CTL_FLUSH : Fld := ⟨.DEP_CTL, 1, 1⟩
abbrev DEP_CTL_ENABLE : Fld := ⟨.DEP_CTL, 0, 1⟩
abbrev DEP_STAT_FLUSHING : Fld := ⟨.DEP_STAT, 31, 1⟩
abbrev DEP_STAT_GTHWAYS : Fld := ⟨.DEP_STAT, 30, 1⟩
abbrev DEP_STAT_DIRTY : Fld := ⟨.DEP_STAT, 0, 20⟩
abbrev DEP_ECC_UNCORR : Fld := ⟨.DEP_ECC, 16, 16⟩
abbrev DEP_ECC_CORR : Fld := ⟨.DEP_ECC, 0, 16⟩
abbrev GTH_STAT_STATE : Fld := ⟨.GTH_STAT, 60, 4⟩
abbrev GTH_STAT_CODE : Fld := ⟨.GTH_STAT, 52, 8⟩
abbrev GTH_STAT_UCOUNT : Fld := ⟨.GTH_STAT, 0, 21⟩
abbrev GTH_JOB_ADDR : Fld := ⟨.GTH_JOB, 0, 48⟩
abbrev GTH_OOB_COUNT : Fld := ⟨.GTH_OOB, 0, 32⟩
abbrev GTH_CTL_CCLR : Fld := ⟨.GTH_CTL, 0, 1⟩
abbrev CHK_CTL_PAUSE : Fld := ⟨.CHK_CTL, 3, 1⟩
abbrev CHK_CTL_GO : Fld := ⟨.CHK_CTL, 2, 1⟩
abbrev CHK_CTL_INIT : Fld := ⟨.CHK_CTL, 1, 1⟩
abbrev CHK_CTL_ALG : Fld := ⟨.CHK_CTL, 0, 1⟩
abbrev CHK_START_ADDR : Fld := ⟨.CHK_START, 0, 48⟩
abbrev CHK_LEN_BYTES : Fld := ⟨.CHK_LEN, 0, 41⟩
abbrev CHK_POS_BYTES : Fld := ⟨.CHK_POS, 0, 41⟩
abbrev CHK_RUN_VALUE : Fld := ⟨.CHK_RUN, 0, 64⟩
abbrev CHK_RESULT_VALUE : Fld := ⟨.CHK_RESULT, 0, 64⟩
abbrev CHK_STAT_BUSY : Fld := ⟨.CHK_STAT, 31, 1⟩
abbrev CHK_STAT_PAUSED : Fld := ⟨.CHK_STAT, 30, 1⟩
abbrev CHK_STAT_CODE : Fld := ⟨.CHK_STAT, 0, 8⟩
abbrev CHK_MISCNT_COUNT : Fld := ⟨.CHK_MISCNT, 0, 32⟩
/-! Fields of R237. -/
abbrev SPR_OVERFULL_COUNT : Fld := ⟨.SPR_OVERFULL, 0, 32⟩
abbrev SPR_METADUP_COUNT : Fld := ⟨.SPR_METADUP, 0, 32⟩
abbrev SPR_IDXOOB_COUNT : Fld := ⟨.SPR_IDXOOB, 0, 32⟩
abbrev SPR_CTL_CCLR : Fld := ⟨.SPR_CTL, 0, 1⟩
/-! Fields of R238. -/
abbrev PRM_STAT_BUSY : Fld := ⟨.PRM_STAT, 31, 1⟩
abbrev PRM_STAT_BAY : Fld := ⟨.PRM_STAT, 28, 3⟩
abbrev PRM_STAT_STG : Fld := ⟨.PRM_STAT, 26, 2⟩
abbrev PRM_STAT_HOLD : Fld := ⟨.PRM_STAT, 25, 1⟩
abbrev PRM_CTX_NEXTN : Fld := ⟨.PRM_CTX, 48, 16⟩
abbrev PRM_CTX_VALID : Fld := ⟨.PRM_CTX, 32, 1⟩
abbrev PRM_CTX_LASTCNT : Fld := ⟨.PRM_CTX, 0, 16⟩
abbrev PRM_AUD_AUDITED : Fld := ⟨.PRM_AUD, 32, 32⟩
abbrev PRM_AUD_MISSED : Fld := ⟨.PRM_AUD, 0, 32⟩
abbrev PRM_DROP_CAP : Fld := ⟨.PRM_DROP, 32, 32⟩
abbrev PRM_DROP_MKDROP : Fld := ⟨.PRM_DROP, 16, 16⟩
abbrev PRM_DROP_IDXOOB : Fld := ⟨.PRM_DROP, 0, 16⟩
abbrev PRM_MAKEUP_VALID : Fld := ⟨.PRM_MAKEUP, 63, 1⟩
abbrev PRM_MAKEUP_DEPTH : Fld := ⟨.PRM_MAKEUP, 58, 5⟩
abbrev PRM_MAKEUP_BAY : Fld := ⟨.PRM_MAKEUP, 55, 3⟩
abbrev PRM_MAKEUP_SHEET : Fld := ⟨.PRM_MAKEUP, 43, 12⟩
abbrev PRM_MAKEUP_ORD : Fld := ⟨.PRM_MAKEUP, 32, 11⟩
abbrev PRM_CTL_CCLR : Fld := ⟨.PRM_CTL, 0, 1⟩
/-! Fields of R252. -/
abbrev TLH_SHARDBASE_ADDR : Fld := ⟨.TLH_SHARDBASE, 0, 48⟩
abbrev TLH_SHARDCNT_COUNT : Fld := ⟨.TLH_SHARDCNT, 0, 13⟩
abbrev TLH_UPDSTAT_BUSY : Fld := ⟨.TLH_UPDSTAT, 31, 1⟩
abbrev TLH_UPDSTAT_SNAP : Fld := ⟨.TLH_UPDSTAT, 30, 1⟩
abbrev TLH_UPDSTAT_SUMSREAD : Fld := ⟨.TLH_UPDSTAT, 29, 1⟩
abbrev TLH_UPDSTAT_CODE : Fld := ⟨.TLH_UPDSTAT, 21, 8⟩
abbrev TLH_UPDSTAT_SHARD : Fld := ⟨.TLH_UPDSTAT, 0, 13⟩
abbrev TLH_SKIP_COUNT : Fld := ⟨.TLH_SKIP, 0, 32⟩
abbrev TLH_SNAPHOLD_COUNT : Fld := ⟨.TLH_SNAPHOLD, 0, 32⟩
abbrev TLH_UPDCTL_CCLR : Fld := ⟨.TLH_UPDCTL, 0, 1⟩
/-! Fields of R295. -/
abbrev FAB_PORTCTL_EN : Fld := ⟨.FAB_PORTCTL, 31, 1⟩
abbrev FAB_PORTCTL_ROLE : Fld := ⟨.FAB_PORTCTL, 29, 2⟩
abbrev FAB_PORTCTL_PEERPOS : Fld := ⟨.FAB_PORTCTL, 26, 3⟩
abbrev FAB_PORTCTL_CCLR : Fld := ⟨.FAB_PORTCTL, 0, 1⟩
abbrev FAB_PORTSTAT_STATE : Fld := ⟨.FAB_PORTSTAT, 29, 3⟩
abbrev FAB_PORTSTAT_LANES : Fld := ⟨.FAB_PORTSTAT, 25, 4⟩
abbrev FAB_PORTSTAT_PEERPOS : Fld := ⟨.FAB_PORTSTAT, 22, 3⟩
abbrev FAB_PORTSTAT_PEERDEV : Fld := ⟨.FAB_PORTSTAT, 10, 12⟩
abbrev FAB_PORTERR_FECUNC : Fld := ⟨.FAB_PORTERR, 48, 16⟩
abbrev FAB_PORTERR_NAK : Fld := ⟨.FAB_PORTERR, 32, 16⟩
abbrev FAB_PORTERR_REPLAY : Fld := ⟨.FAB_PORTERR, 16, 16⟩
abbrev FAB_PORTERR_DOWNS : Fld := ⟨.FAB_PORTERR, 0, 16⟩
abbrev FAB_PORTTX_BYTES : Fld := ⟨.FAB_PORTTX, 0, 64⟩
abbrev FAB_PORTRX_BYTES : Fld := ⟨.FAB_PORTRX, 0, 64⟩
/-! Fields of R296. -/
abbrev FAB_DEVNO_DEVICE : Fld := ⟨.FAB_DEVNO, 0, 12⟩
abbrev FAB_TOPO_JOINED : Fld := ⟨.FAB_TOPO, 31, 1⟩
abbrev FAB_TOPO_NCIRCM1 : Fld := ⟨.FAB_TOPO, 5, 5⟩
abbrev FAB_TOPO_NTRPM1 : Fld := ⟨.FAB_TOPO, 1, 4⟩
abbrev FAB_ETYPE_ETYPE : Fld := ⟨.FAB_ETYPE, 0, 16⟩
abbrev FAB_MACPFX_PREFIX : Fld := ⟨.FAB_MACPFX, 0, 32⟩
abbrev FAB_XTBASE_ADDR : Fld := ⟨.FAB_XTBASE, 0, 48⟩
abbrev FAB_XTCNT_COUNT : Fld := ⟨.FAB_XTCNT, 0, 24⟩
abbrev FAB_CARRYBASE_ADDR : Fld := ⟨.FAB_CARRYBASE, 0, 48⟩
abbrev FAB_CARRYN_SLOTS : Fld := ⟨.FAB_CARRYN, 0, 16⟩
abbrev FAB_DLINE_MICROS : Fld := ⟨.FAB_DLINE, 0, 32⟩
abbrev FAB_MPPOL_CARRY : Fld := ⟨.FAB_MPPOL, 0, 1⟩
abbrev FAB_MPSTAT_MILEPOST : Fld := ⟨.FAB_MPSTAT, 32, 32⟩
abbrev FAB_MPSTAT_OPEN : Fld := ⟨.FAB_MPSTAT, 31, 1⟩
abbrev FAB_MPSTAT_PDONE : Fld := ⟨.FAB_MPSTAT, 30, 1⟩
abbrev FAB_MPSTAT_CODE : Fld := ⟨.FAB_MPSTAT, 0, 8⟩
abbrev FAB_TIME_NS : Fld := ⟨.FAB_TIME, 0, 64⟩
abbrev FAB_TIMESET_NS : Fld := ⟨.FAB_TIMESET, 0, 64⟩
abbrev FAB_TIMESTAT_ROOT : Fld := ⟨.FAB_TIMESTAT, 31, 1⟩
abbrev FAB_TIMESTAT_LOCKED : Fld := ⟨.FAB_TIMESTAT, 30, 1⟩
abbrev FAB_TIMESTAT_HOLDOVER : Fld := ⟨.FAB_TIMESTAT, 29, 1⟩
abbrev FAB_TIMESTAT_PPS : Fld := ⟨.FAB_TIMESTAT, 28, 1⟩
abbrev FAB_TIMESTAT_OFFSET : Fld := ⟨.FAB_TIMESTAT, 0, 16⟩
/-! Fields of R297. -/
abbrev FAB_LATE_COUNT : Fld := ⟨.FAB_LATE, 0, 32⟩
abbrev FAB_STALE_COUNT : Fld := ⟨.FAB_STALE, 0, 32⟩
abbrev FAB_BACKUP_COUNT : Fld := ⟨.FAB_BACKUP, 0, 32⟩
abbrev FAB_SAT_COUNT : Fld := ⟨.FAB_SAT, 0, 32⟩
abbrev FAB_RXDROP_COUNT : Fld := ⟨.FAB_RXDROP, 0, 32⟩
abbrev FAB_E2ELOST_COUNT : Fld := ⟨.FAB_E2ELOST, 0, 32⟩
abbrev FAB_RESYNC_COUNT : Fld := ⟨.FAB_RESYNC, 0, 32⟩
abbrev FAB_CNTCTL_CCLR : Fld := ⟨.FAB_CNTCTL, 0, 1⟩
/-! Fields of R324. -/
abbrev RUN_BASE_ADDR : Fld := ⟨.RUN_BASE, 0, 48⟩
abbrev RUN_CTL_STOP : Fld := ⟨.RUN_CTL, 1, 1⟩
abbrev RUN_CTL_GO : Fld := ⟨.RUN_CTL, 0, 1⟩
abbrev RUN_STAT_ACTIVE : Fld := ⟨.RUN_STAT, 31, 1⟩
abbrev RUN_STAT_REH : Fld := ⟨.RUN_STAT, 30, 1⟩
abbrev RUN_STAT_SHED : Fld := ⟨.RUN_STAT, 29, 1⟩
abbrev RUN_STAT_PEND : Fld := ⟨.RUN_STAT, 28, 1⟩
abbrev RUN_STAT_CODE : Fld := ⟨.RUN_STAT, 16, 8⟩
abbrev RUN_STAT_ACT : Fld := ⟨.RUN_STAT, 6, 3⟩
abbrev RUN_STAT_SLOT : Fld := ⟨.RUN_STAT, 0, 6⟩
abbrev RUN_FRAME_FRAMES : Fld := ⟨.RUN_FRAME, 0, 64⟩
abbrev RUN_ODO_CYCLES : Fld := ⟨.RUN_ODO, 0, 64⟩
abbrev RUN_ABORT_GO : Fld := ⟨.RUN_ABORT, 31, 1⟩
abbrev RUN_ABORT_CURT : Fld := ⟨.RUN_ABORT, 30, 1⟩
abbrev RUN_ABORT_ENTRY : Fld := ⟨.RUN_ABORT, 0, 6⟩
abbrev RUN_TABLE_CODE : Fld := ⟨.RUN_TABLE, 24, 8⟩
abbrev RUN_TABLE_ACT : Fld := ⟨.RUN_TABLE, 12, 3⟩
abbrev RUN_TABLE_SLOT : Fld := ⟨.RUN_TABLE, 0, 6⟩
abbrev RUN_MISS_COUNT : Fld := ⟨.RUN_MISS, 0, 32⟩
abbrev RUN_OVERBUD_COUNT : Fld := ⟨.RUN_OVERBUD, 0, 32⟩
abbrev RUN_PREEMPT_LIVE : Fld := ⟨.RUN_PREEMPT, 16, 16⟩
abbrev RUN_PREEMPT_PTR : Fld := ⟨.RUN_PREEMPT, 0, 16⟩
abbrev RUN_MAKEUP_COUNT : Fld := ⟨.RUN_MAKEUP, 0, 32⟩
abbrev RUN_OVERRUN_COUNT : Fld := ⟨.RUN_OVERRUN, 0, 32⟩
abbrev RUN_CNTCTL_CCLR : Fld := ⟨.RUN_CNTCTL, 0, 1⟩
/-! Fields of R347. -/
abbrev ENV_SCHEDBASE_ADDR : Fld := ⟨.ENV_SCHEDBASE, 0, 48⟩
abbrev ENV_CTL_CCLR : Fld := ⟨.ENV_CTL, 2, 1⟩
abbrev ENV_CTL_SHED : Fld := ⟨.ENV_CTL, 1, 1⟩
abbrev ENV_CTL_LOAD : Fld := ⟨.ENV_CTL, 0, 1⟩
abbrev ENV_DEGLITCH_TENTHS : Fld := ⟨.ENV_DEGLITCH, 0, 7⟩
abbrev ENV_GUARD_WATTS : Fld := ⟨.ENV_GUARD, 0, 8⟩
abbrev ENV_STAT_SHED : Fld := ⟨.ENV_STAT, 31, 1⟩
abbrev ENV_STAT_PIN : Fld := ⟨.ENV_STAT, 30, 1⟩
abbrev ENV_STAT_SAG : Fld := ⟨.ENV_STAT, 29, 1⟩
abbrev ENV_STAT_DROP : Fld := ⟨.ENV_STAT, 28, 1⟩
abbrev ENV_STAT_DEFAULT : Fld := ⟨.ENV_STAT, 27, 1⟩
abbrev ENV_STAT_LBUSY : Fld := ⟨.ENV_STAT, 26, 1⟩
abbrev ENV_STAT_THERM : Fld := ⟨.ENV_STAT, 25, 1⟩
abbrev ENV_STAT_LCODE : Fld := ⟨.ENV_STAT, 16, 8⟩
abbrev ENV_STAT_LEVEL : Fld := ⟨.ENV_STAT, 11, 5⟩
abbrev ENV_STAT_WSTEPS : Fld := ⟨.ENV_STAT, 0, 11⟩
abbrev ENV_POWER_P100US : Fld := ⟨.ENV_POWER, 48, 16⟩
abbrev ENV_POWER_P100MS : Fld := ⟨.ENV_POWER, 32, 16⟩
abbrev ENV_POWER_VIN : Fld := ⟨.ENV_POWER, 16, 16⟩
abbrev ENV_POWER_IIN : Fld := ⟨.ENV_POWER, 0, 16⟩
abbrev ENV_SCHED_SERIAL : Fld := ⟨.ENV_SCHED, 32, 32⟩
abbrev ENV_SCHED_INDEX : Fld := ⟨.ENV_SCHED, 26, 6⟩
abbrev ENV_ENTRYW0_WORD : Fld := ⟨.ENV_ENTRYW0, 0, 64⟩
abbrev ENV_ENTRYW1_WORD : Fld := ⟨.ENV_ENTRYW1, 0, 64⟩
abbrev ENV_ENERGY_MJ : Fld := ⟨.ENV_ENERGY, 0, 64⟩
abbrev ENV_INFO_FLOOR : Fld := ⟨.ENV_INFO, 16, 16⟩
abbrev ENV_INFO_WALKMAX : Fld := ⟨.ENV_INFO, 0, 16⟩
abbrev ENV_WALKCAL_MW : Fld := ⟨.ENV_WALKCAL, 0, 16⟩
abbrev ENV_CNT_CAPLIMIT : Fld := ⟨.ENV_CNT, 32, 32⟩
abbrev ENV_CNT_RAMPHOLD : Fld := ⟨.ENV_CNT, 0, 32⟩
abbrev ENV_MMSTAT_NEXTSEQ : Fld := ⟨.ENV_MMSTAT, 32, 32⟩
abbrev ENV_MMSTAT_COUNT : Fld := ⟨.ENV_MMSTAT, 8, 8⟩
abbrev ENV_MMSTAT_HEAD : Fld := ⟨.ENV_MMSTAT, 0, 8⟩
abbrev ENV_EVHEAD_NEXT : Fld := ⟨.ENV_EVHEAD, 0, 5⟩
abbrev ENV_EVLOG_LO_KIND : Fld := ⟨.ENV_EVLOG_LO, 60, 4⟩
abbrev ENV_EVLOG_LO_CODE : Fld := ⟨.ENV_EVLOG_LO, 52, 8⟩
abbrev ENV_EVLOG_LO_DETAIL : Fld := ⟨.ENV_EVLOG_LO, 0, 32⟩
abbrev ENV_EVLOG_HI_TIME : Fld := ⟨.ENV_EVLOG_HI, 0, 64⟩
/-! Fields of R348. -/
abbrev PWR_DOMSTAT_ON : Fld := ⟨.PWR_DOMSTAT, 0, 20⟩
abbrev PWR_TEMP_MAX : Fld := ⟨.PWR_TEMP, 8, 8⟩
abbrev PWR_TEMP_NOW : Fld := ⟨.PWR_TEMP, 0, 8⟩
/-! Fields of R366. -/
abbrev UST_MAP_PHYS : Fld := ⟨.UST_MAP, 0, 32⟩
abbrev UST_BAYST_STATE : Fld := ⟨.UST_BAYST, 0, 18⟩
abbrev UST_MARGIN_LOWRUN : Fld := ⟨.UST_MARGIN, 16, 8⟩
abbrev UST_MARGIN_LAST : Fld := ⟨.UST_MARGIN, 8, 8⟩
abbrev UST_MARGIN_MIN : Fld := ⟨.UST_MARGIN, 0, 8⟩
abbrev UST_CFG_ECCDAY : Fld := ⟨.UST_CFG, 16, 16⟩
abbrev UST_CFG_MARGIN : Fld := ⟨.UST_CFG, 8, 8⟩
abbrev UST_CFG_CHANAUTO : Fld := ⟨.UST_CFG, 1, 1⟩
abbrev UST_CFG_AUTO : Fld := ⟨.UST_CFG, 0, 1⟩
abbrev UST_SWAP_GO : Fld := ⟨.UST_SWAP, 31, 1⟩
abbrev UST_SWAP_STATE : Fld := ⟨.UST_SWAP, 28, 3⟩
abbrev UST_SWAP_LBAY : Fld := ⟨.UST_SWAP, 0, 6⟩
abbrev UST_STAT_SERVICE : Fld := ⟨.UST_STAT, 31, 1⟩
abbrev UST_STAT_CAND : Fld := ⟨.UST_STAT, 30, 1⟩
abbrev UST_STAT_CBAY : Fld := ⟨.UST_STAT, 24, 6⟩
abbrev UST_STAT_CHANV : Fld := ⟨.UST_STAT, 23, 1⟩
abbrev UST_STAT_CHAN : Fld := ⟨.UST_STAT, 18, 5⟩
abbrev UST_STAT_CHKABORT : Fld := ⟨.UST_STAT, 8, 10⟩
abbrev UST_STAT_SPARE : Fld := ⟨.UST_STAT, 0, 8⟩
abbrev UST_SRAM_WBANK : Fld := ⟨.UST_SRAM, 24, 8⟩
abbrev UST_SRAM_GBANK : Fld := ⟨.UST_SRAM, 16, 8⟩
abbrev UST_SRAM_ROWS : Fld := ⟨.UST_SRAM, 0, 16⟩
abbrev UST_CWY_HALF : Fld := ⟨.UST_CWY, 16, 1⟩
abbrev UST_CWY_WIRES : Fld := ⟨.UST_CWY, 0, 16⟩
abbrev UST_VRM_LIMIT : Fld := ⟨.UST_VRM, 8, 1⟩
abbrev UST_VRM_PHASES : Fld := ⟨.UST_VRM, 0, 8⟩
abbrev UST_COLVEL_FAILOVERS : Fld := ⟨.UST_COLVEL, 8, 8⟩
abbrev UST_COLVEL_NOSTBY : Fld := ⟨.UST_COLVEL, 4, 1⟩
abbrev UST_COLVEL_STANDBY : Fld := ⟨.UST_COLVEL, 2, 2⟩
abbrev UST_COLVEL_PRIMARY : Fld := ⟨.UST_COLVEL, 0, 2⟩
abbrev UST_SVCUS_MICROS : Fld := ⟨.UST_SVCUS, 0, 64⟩
abbrev UST_LOSTUS_MICROS : Fld := ⟨.UST_LOSTUS, 0, 64⟩
abbrev UST_EXCLUS_MICROS : Fld := ⟨.UST_EXCLUS, 0, 64⟩
abbrev UST_LOSTEV_SWAPS : Fld := ⟨.UST_LOSTEV, 16, 16⟩
abbrev UST_LOSTEV_FRAMES : Fld := ⟨.UST_LOSTEV, 0, 16⟩
/-! Fields of R370. -/
abbrev OBS_ODO_CYCLES : Fld := ⟨.OBS_ODO, 0, 64⟩
abbrev OBS_SEL_EN : Fld := ⟨.OBS_SEL, 31, 1⟩
abbrev OBS_SEL_UNIT : Fld := ⟨.OBS_SEL, 8, 4⟩
abbrev OBS_SEL_EVENT : Fld := ⟨.OBS_SEL, 0, 8⟩
abbrev OBS_CNT_COUNT : Fld := ⟨.OBS_CNT, 0, 64⟩
abbrev OBS_BCTL_CCLR : Fld := ⟨.OBS_BCTL, 31, 1⟩
abbrev OBS_BCTL_LOFS : Fld := ⟨.OBS_BCTL, 0, 17⟩
abbrev OBS_PHOTOSTAT_BUSY : Fld := ⟨.OBS_PHOTOSTAT, 31, 1⟩
abbrev OBS_PHOTOSTAT_BAY : Fld := ⟨.OBS_PHOTOSTAT, 28, 3⟩
abbrev OBS_PHOTOSTAT_ABANDON : Fld := ⟨.OBS_PHOTOSTAT, 8, 8⟩
abbrev OBS_PHOTOSTAT_TORN : Fld := ⟨.OBS_PHOTOSTAT, 0, 8⟩
abbrev OBS_LATCHTAG_TAG : Fld := ⟨.OBS_LATCHTAG, 0, 32⟩
abbrev OBS_LATCHODO_CYCLES : Fld := ⟨.OBS_LATCHODO, 0, 64⟩
abbrev OBS_LATCHCNT_COUNT : Fld := ⟨.OBS_LATCHCNT, 0, 64⟩
/-! Fields of R392. -/
abbrev OBS_USER_EN_EN : Fld := ⟨.OBS_USER_EN, 0, 1⟩
abbrev OBS_STEP_NOW : Fld := ⟨.OBS_STEP, 0, 32⟩
abbrev OBS_STEPCTL_INC : Fld := ⟨.OBS_STEPCTL, 0, 1⟩
abbrev OBS_DUMP_EN : Fld := ⟨.OBS_DUMP, 31, 1⟩
abbrev OBS_DUMP_K : Fld := ⟨.OBS_DUMP, 0, 5⟩
abbrev OBS_SAMPCTL_EN : Fld := ⟨.OBS_SAMPCTL, 31, 1⟩
abbrev OBS_SAMPCTL_NM1 : Fld := ⟨.OBS_SAMPCTL, 0, 16⟩
abbrev OBS_SAMPBAYS_BAYS : Fld := ⟨.OBS_SAMPBAYS, 0, 64⟩
abbrev OBS_SAMPDROP_COUNT : Fld := ⟨.OBS_SAMPDROP, 0, 32⟩
abbrev OBS_EVT_CONFLICT : Fld := ⟨.OBS_EVT, 2, 1⟩
abbrev OBS_EVT_STROBE : Fld := ⟨.OBS_EVT, 1, 1⟩
abbrev OBS_EVT_TRIG : Fld := ⟨.OBS_EVT, 0, 1⟩
abbrev OBS_CCTL_CCLR : Fld := ⟨.OBS_CCTL, 0, 1⟩
abbrev OBS_RINGBASE_BASE : Fld := ⟨.OBS_RINGBASE, 12, 36⟩
abbrev OBS_RINGCTL_EN : Fld := ⟨.OBS_RINGCTL, 31, 1⟩
abbrev OBS_RINGCTL_STOP : Fld := ⟨.OBS_RINGCTL, 30, 1⟩
abbrev OBS_RINGCTL_SIZE : Fld := ⟨.OBS_RINGCTL, 0, 20⟩
abbrev OBS_RINGWR_WR : Fld := ⟨.OBS_RINGWR, 0, 32⟩
abbrev OBS_RINGRD_RD : Fld := ⟨.OBS_RINGRD, 0, 32⟩
abbrev OBS_RINGSTAT_CODE : Fld := ⟨.OBS_RINGSTAT, 56, 8⟩
abbrev OBS_RINGSTAT_LOST : Fld := ⟨.OBS_RINGSTAT, 0, 32⟩
abbrev OBS_BWSEL_EN : Fld := ⟨.OBS_BWSEL, 31, 1⟩
abbrev OBS_BWSEL_K : Fld := ⟨.OBS_BWSEL, 26, 5⟩
abbrev OBS_BWSEL_DIE : Fld := ⟨.OBS_BWSEL, 16, 4⟩
abbrev OBS_BWSEL_BAY : Fld := ⟨.OBS_BWSEL, 12, 4⟩
abbrev OBS_BWSEL_UNIT : Fld := ⟨.OBS_BWSEL, 8, 4⟩
abbrev OBS_BWSEL_EVENT : Fld := ⟨.OBS_BWSEL, 0, 8⟩
abbrev OBS_BW_MBPS : Fld := ⟨.OBS_BW, 40, 24⟩
abbrev OBS_BW_COUNT : Fld := ⟨.OBS_BW, 0, 40⟩
abbrev OBS_PHOTO_STEP : Fld := ⟨.OBS_PHOTO, 32, 32⟩
abbrev OBS_PHOTO_TAG : Fld := ⟨.OBS_PHOTO, 0, 32⟩
abbrev OBS_PHOTOCTL_EN : Fld := ⟨.OBS_PHOTOCTL, 31, 1⟩
abbrev OBS_PHOTOCTL_MODE : Fld := ⟨.OBS_PHOTOCTL, 29, 2⟩
abbrev OBS_PHOTOCTL_SHOTS : Fld := ⟨.OBS_PHOTOCTL, 0, 8⟩
/-! Fields of R393. -/
abbrev TAB_CTL_RESUME : Fld := ⟨.TAB_CTL, 2, 1⟩
abbrev TAB_CTL_FREEZE : Fld := ⟨.TAB_CTL, 1, 1⟩
abbrev TAB_CTL_PINEN : Fld := ⟨.TAB_CTL, 0, 1⟩
abbrev TAB_STAT_STATE : Fld := ⟨.TAB_STAT, 29, 3⟩
abbrev TAB_STAT_PIN : Fld := ⟨.TAB_STAT, 28, 1⟩
abbrev TAB_STAT_RDOUT : Fld := ⟨.TAB_STAT, 27, 1⟩
abbrev TAB_STAT_COUNT : Fld := ⟨.TAB_STAT, 0, 16⟩
abbrev TAB_PAGE_PAGE : Fld := ⟨.TAB_PAGE, 0, 7⟩
abbrev TAB_HOLD_MICROS : Fld := ⟨.TAB_HOLD, 0, 32⟩
abbrev TAB_BAR2_COUNT : Fld := ⟨.TAB_BAR2, 0, 32⟩
/-! Fields of R428. -/
abbrev CLK_STAT_LOCK : Fld := ⟨.CLK_STAT, 31, 1⟩
abbrev CLK_STAT_REFOK : Fld := ⟨.CLK_STAT, 30, 1⟩
abbrev CLK_STAT_ADIV : Fld := ⟨.CLK_STAT, 24, 2⟩
abbrev CLK_STAT_LOSSCNT : Fld := ⟨.CLK_STAT, 0, 16⟩
abbrev CLK_FREQ_ROOT : Fld := ⟨.CLK_FREQ, 16, 16⟩
abbrev CLK_FREQ_CKA : Fld := ⟨.CLK_FREQ, 0, 16⟩
abbrev RST_CTL_COLD : Fld := ⟨.RST_CTL, 0, 1⟩
abbrev RST_REASON_CAUSE : Fld := ⟨.RST_REASON, 28, 4⟩
abbrev RST_REASON_DDRKEPT : Fld := ⟨.RST_REASON, 27, 1⟩
abbrev RST_REASON_COUNT : Fld := ⟨.RST_REASON, 0, 16⟩
abbrev RST_BOOTSTAT_STAGE : Fld := ⟨.RST_BOOTSTAT, 28, 4⟩
abbrev RST_BOOTSTAT_CODE : Fld := ⟨.RST_BOOTSTAT, 20, 8⟩
abbrev RST_BOOTSTAT_READY : Fld := ⟨.RST_BOOTSTAT, 19, 1⟩
abbrev RST_BOOTSTAT_REH : Fld := ⟨.RST_BOOTSTAT, 18, 1⟩
abbrev RST_BOOTSTAT_OUTCOME : Fld := ⟨.RST_BOOTSTAT, 16, 2⟩
abbrev RST_BOOTTIME_MS : Fld := ⟨.RST_BOOTTIME, 0, 32⟩
abbrev RST_BOOTCFG_REHEARSE : Fld := ⟨.RST_BOOTCFG, 1, 1⟩
abbrev RST_BOOTCFG_STRICT : Fld := ⟨.RST_BOOTCFG, 0, 1⟩
abbrev RST_PLAYBILL_SERIAL : Fld := ⟨.RST_PLAYBILL, 0, 32⟩
abbrev RST_IMG_VERSION : Fld := ⟨.RST_IMG, 32, 32⟩
abbrev RST_IMG_SLOT : Fld := ⟨.RST_IMG, 30, 2⟩
abbrev RST_IMG_NMARK : Fld := ⟨.RST_IMG, 16, 8⟩
abbrev RST_IMG_UNSAT : Fld := ⟨.RST_IMG, 0, 16⟩
abbrev RST_IMGMARK_MARKS : Fld := ⟨.RST_IMGMARK, 0, 64⟩
/-! Fields of R429. -/
abbrev RST_IDENT_PART : Fld := ⟨.RST_IDENT, 16, 16⟩
abbrev RST_IDENT_STEPPING : Fld := ⟨.RST_IDENT, 8, 8⟩
abbrev RST_IDENT_NCDIE : Fld := ⟨.RST_IDENT, 4, 4⟩
abbrev RST_IDENT_NPDIE : Fld := ⟨.RST_IDENT, 0, 4⟩
abbrev RST_SERIAL_SERIAL : Fld := ⟨.RST_SERIAL, 0, 64⟩
abbrev RST_LEVEL_MINMAJOR : Fld := ⟨.RST_LEVEL, 16, 8⟩
abbrev RST_LEVEL_CUELEVEL : Fld := ⟨.RST_LEVEL, 0, 16⟩
abbrev RST_BAYS_ACTIVE : Fld := ⟨.RST_BAYS, 8, 8⟩
abbrev RST_BAYS_SPARES : Fld := ⟨.RST_BAYS, 0, 8⟩
/-! Fields of R442. -/
abbrev SEC_STATE_STATE : Fld := ⟨.SEC_STATE, 30, 2⟩
abbrev SEC_STATE_FACKEY : Fld := ⟨.SEC_STATE, 29, 1⟩
abbrev SEC_STATE_OPKEY : Fld := ⟨.SEC_STATE, 28, 1⟩
abbrev SEC_STATE_BUSY : Fld := ⟨.SEC_STATE, 27, 1⟩
abbrev SEC_STATE_UPD : Fld := ⟨.SEC_STATE, 26, 1⟩
abbrev SEC_STATE_LCODE : Fld := ⟨.SEC_STATE, 16, 8⟩
abbrev SEC_STATE_LOP : Fld := ⟨.SEC_STATE, 8, 8⟩
abbrev SEC_CMDCTR_CTR : Fld := ⟨.SEC_CMDCTR, 0, 64⟩
abbrev SEC_DEVID_LO_DEVID : Fld := ⟨.SEC_DEVID_LO, 0, 64⟩
abbrev SEC_DEVID_HI_DEVID : Fld := ⟨.SEC_DEVID_HI, 0, 64⟩
abbrev SEC_ROOTID_PREFIX : Fld := ⟨.SEC_ROOTID, 0, 64⟩
abbrev SEC_FACID_PREFIX : Fld := ⟨.SEC_FACID, 0, 64⟩
abbrev SEC_OPID_PREFIX : Fld := ⟨.SEC_OPID, 0, 64⟩
abbrev SEC_REPORTS_SEQ : Fld := ⟨.SEC_REPORTS, 0, 64⟩
abbrev SEC_FLOOR_VERSION : Fld := ⟨.SEC_FLOOR, 0, 32⟩
/-! Fields of R456. -/
abbrev HST_LINK_RATE : Fld := ⟨.HST_LINK, 29, 3⟩
abbrev HST_LINK_WIDTH : Fld := ⟨.HST_LINK, 24, 5⟩
abbrev HST_LINK_FLIT : Fld := ⟨.HST_LINK, 23, 1⟩
abbrev HST_LINK_UP : Fld := ⟨.HST_LINK, 22, 1⟩
abbrev HST_LINK_RETRAINS : Fld := ⟨.HST_LINK, 0, 16⟩
abbrev HST_BAR2BASE_BASE : Fld := ⟨.HST_BAR2BASE, 34, 14⟩
abbrev HST_DMACTL_NS : Fld := ⟨.HST_DMACTL, 0, 1⟩
abbrev HST_DMAFAULT_ADDR : Fld := ⟨.HST_DMAFAULT, 2, 62⟩
abbrev HST_DMAFAULT_CAUSE : Fld := ⟨.HST_DMAFAULT, 0, 2⟩
abbrev HST_EVSTAT_EVENTS : Fld := ⟨.HST_EVSTAT, 0, 12⟩
abbrev HST_EVEN_EN : Fld := ⟨.HST_EVEN, 0, 12⟩
abbrev HST_ERR_POISON : Fld := ⟨.HST_ERR, 48, 16⟩
abbrev HST_ERR_UR : Fld := ⟨.HST_ERR, 32, 16⟩
abbrev HST_ERR_B2DROP : Fld := ⟨.HST_ERR, 0, 32⟩
abbrev HST_CTL_CCLR : Fld := ⟨.HST_CTL, 0, 1⟩
abbrev HST_HWINW0_BASE : Fld := ⟨.HST_HWINW0, 12, 52⟩
abbrev HST_HWINW0_EN : Fld := ⟨.HST_HWINW0, 0, 1⟩
abbrev HST_HWINW1_LIMIT : Fld := ⟨.HST_HWINW1, 12, 52⟩
abbrev MSIX_ADDR_ADDR : Fld := ⟨.MSIX_ADDR, 0, 64⟩
abbrev MSIX_DATA_MASK : Fld := ⟨.MSIX_DATA, 32, 1⟩
abbrev MSIX_DATA_DATA : Fld := ⟨.MSIX_DATA, 0, 32⟩
abbrev MSIX_PBA_WORD : Fld := ⟨.MSIX_PBA, 0, 64⟩
/-! Fields of R467. -/
abbrev PWR_COOL_FLOW : Fld := ⟨.PWR_COOL, 48, 16⟩
abbrev PWR_COOL_INLET : Fld := ⟨.PWR_COOL, 40, 8⟩
abbrev PWR_COOL_OUTLET : Fld := ⟨.PWR_COOL, 32, 8⟩
abbrev PWR_COOL_LOWFLOW : Fld := ⟨.PWR_COOL, 1, 1⟩
abbrev PWR_COOL_HOTIN : Fld := ⟨.PWR_COOL, 0, 1⟩
/-! Fields of R45. -/
abbrev TLH_RNDCTL_CLR : Fld := ⟨.TLH_RNDCTL, 1, 1⟩
abbrev TLH_RNDCTL_FIXED : Fld := ⟨.TLH_RNDCTL, 0, 1⟩
abbrev TLH_RNDSEED_SEED : Fld := ⟨.TLH_RNDSEED, 0, 64⟩
abbrev TLH_NUMSAT_COUNT : Fld := ⟨.TLH_NUMSAT, 0, 32⟩
abbrev TLH_NUMNAN_INF : Fld := ⟨.TLH_NUMNAN, 16, 16⟩
abbrev TLH_NUMNAN_NAN : Fld := ⟨.TLH_NUMNAN, 0, 16⟩

end Sys2Proof.Machine
end

