-- ==== Sys2Proof/Machine/RegMap.lean ====
section
/-! DEFINITION. The register map of R10: where each register lies in BAR0, its width, and for each
field its access code (R8) and reset value, from the register tables of R45, R72, R106, R154 to R156,
R183 to R185, R215 to R217, R237, R238, R252, R295 to R297, R324, R347, R348, R366, R370, R392, R393,
R428, R429, R442, R456 and R467. Reset values that the manual gives as fused, stored or calibrated are
named in notes/assumptions/2.md. -/

namespace Sys2Proof.Machine

/-- The kinds of block of R10 that hold registers; `glob b` is the block at `b` of the module-global window. -/
inductive Region where
  | bay | engine | cdie | anyDie | pdie | memP0 | chan | chk | felPort | tlh | tlhP0
  | obs | obsDie | obsBay | ring
  | glob (base : Nat)
  deriving DecidableEq, Repr

/-- A field's bits, access code and reset value. -/
structure FSpec where
  hi  : Nat
  lo  : Nat
  acc : Access
  rst : Nat
  deriving DecidableEq, Repr

/-- A register's place in its block (offset, stride and count of its array), its width in bits, its fields. -/
structure RegSpec where
  region : Region
  off    : Nat
  stride : Nat
  count  : Nat
  width  : Nat
  fields : List FSpec
  deriving DecidableEq, Repr

/-- The register tables. -/
def RegName.spec : RegName → RegSpec
  | .CUE_RNDCTL => ⟨.bay, 0x8F00, 0x0, 1, 32,
      [⟨1, 1, .WO, 0⟩, ⟨0, 0, .RW, 0⟩]⟩
  | .CUE_RNDSEED => ⟨.bay, 0x8F08, 0x0, 1, 64,
      [⟨63, 0, .RW, 0⟩]⟩
  | .CUE_NUMSAT => ⟨.bay, 0x8F10, 0x0, 1, 32,
      [⟨31, 0, .RO, 0⟩]⟩
  | .CUE_NUMNAN => ⟨.bay, 0x8F14, 0x0, 1, 32,
      [⟨31, 16, .RO, 0⟩, ⟨15, 0, .RO, 0⟩]⟩
  | .CUE_ARRSTAT => ⟨.bay, 0x8000, 0x0, 1, 32,
      [⟨18, 18, .RO, 0⟩, ⟨17, 17, .RO, 0⟩, ⟨16, 16, .RO, 0⟩, ⟨13, 12, .RO, 0⟩, ⟨11, 10, .RO, 0⟩, ⟨9, 8, .RO, 0⟩, ⟨7, 6, .RO, 0⟩, ⟨5, 4, .RO, 0⟩, ⟨3, 2, .RO, 0⟩, ⟨1, 0, .RO, 0⟩]⟩
  | .CUE_DSCALE => ⟨.bay, 0x8010, 0x4, 4, 32,
      [⟨31, 0, .RW, 0x3F800000⟩]⟩
  | .CUE_ARRECC => ⟨.bay, 0x8020, 0x0, 1, 32,
      [⟨31, 16, .RO, 0⟩, ⟨15, 0, .RO, 0⟩]⟩
  | .CUE_ARRCTL => ⟨.bay, 0x8024, 0x0, 1, 32,
      [⟨0, 0, .WO, 0⟩]⟩
  | .CUE_ID => ⟨.bay, 0x0, 0x0, 1, 32,
      [⟨23, 16, .RO, 1⟩, ⟨15, 0, .RO, 0x100⟩]⟩
  | .CUE_SEQSTAT => ⟨.bay, 0x4, 0x0, 1, 32,
      [⟨31, 28, .RO, 1⟩, ⟨27, 25, .RO, 0⟩, ⟨13, 0, .RO, 0⟩]⟩
  | .CUE_SHEETNO => ⟨.bay, 0x8, 0x0, 1, 32,
      [⟨16, 16, .RO, 0⟩, ⟨11, 0, .RO, 0⟩]⟩
  | .CUE_FAULT => ⟨.bay, 0xC, 0x0, 1, 32,
      [⟨21, 14, .RO, 0⟩, ⟨13, 0, .RO, 0⟩]⟩
  | .CUE_LIVEMASK => ⟨.bay, 0x10, 0x0, 1, 32,
      [⟨15, 0, .RO, 0⟩]⟩
  | .CUE_STOPCNT => ⟨.bay, 0x14, 0x0, 1, 32,
      [⟨31, 16, .RO, 0⟩, ⟨15, 0, .RO, 0⟩]⟩
  | .CUE_SEQCTL => ⟨.bay, 0x18, 0x0, 1, 32,
      [⟨0, 0, .WO, 0⟩]⟩
  | .CUE_LOOP => ⟨.bay, 0x20, 0x4, 4, 32,
      [⟨16, 0, .RO, 0⟩]⟩
  | .CUE_TOKEN => ⟨.bay, 0x30, 0x0, 1, 64,
      [⟨63, 0, .RO, 0⟩]⟩
  | .CUE_RESSTAT => ⟨.bay, 0x38, 0x0, 1, 32,
      [⟨1, 1, .RO, 0⟩, ⟨0, 0, .RO, 0⟩]⟩
  | .CUE_AGBASE => ⟨.bay, 0x100, 0x40, 8, 64,
      [⟨47, 0, .RO, 0⟩]⟩
  | .CUE_AGDIM => ⟨.bay, 0x108, 0x8, 40, 64,
      [⟨63, 48, .RO, 0⟩, ⟨47, 32, .RO, 0⟩, ⟨31, 0, .RO, 0⟩]⟩
  | .CUE_SEM => ⟨.bay, 0x300, 0x4, 64, 32,
      [⟨15, 0, .RO, 0⟩]⟩
  | .CUE_RESTAB_LO => ⟨.bay, 0x400, 0x10, 32, 64,
      [⟨63, 63, .RO, 0⟩, ⟨59, 48, .RO, 0⟩, ⟨45, 32, .RO, 0⟩, ⟨29, 16, .RO, 0⟩]⟩
  | .CUE_RESTAB_HI => ⟨.bay, 0x408, 0x10, 32, 64,
      [⟨31, 0, .RO, 0⟩]⟩
  | .RNG_GEOM => ⟨.bay, 0xC000, 0x10, 32, 64,
      [⟨45, 45, .RO, 0⟩, ⟨44, 44, .RO, 0⟩, ⟨43, 38, .RO, 0⟩, ⟨37, 33, .RO, 0⟩, ⟨32, 29, .RO, 0⟩, ⟨28, 17, .RO, 0⟩, ⟨16, 0, .RO, 0⟩]⟩
  | .RNG_STAT => ⟨.bay, 0xC008, 0x10, 32, 64,
      [⟨63, 32, .RO, 0⟩, ⟨31, 28, .RO, 0⟩, ⟨27, 23, .RO, 0⟩, ⟨11, 0, .RO, 0⟩]⟩
  | .WNG_ECC => ⟨.bay, 0xCF00, 0x0, 1, 32,
      [⟨31, 16, .RO, 0⟩, ⟨15, 0, .RO, 0⟩]⟩
  | .WNG_CTL => ⟨.bay, 0xCF04, 0x0, 1, 32,
      [⟨0, 0, .WO, 0⟩]⟩
  | .GRM_ECC => ⟨.cdie, 0x20000, 0x0, 1, 32,
      [⟨31, 16, .RO, 0⟩, ⟨15, 0, .RO, 0⟩]⟩
  | .GRM_CTL => ⟨.cdie, 0x20004, 0x0, 1, 32,
      [⟨0, 0, .WO, 0⟩]⟩
  | .GRM_STAGE => ⟨.cdie, 0x20008, 0x0, 1, 32,
      [⟨31, 31, .RO, 0⟩, ⟨30, 29, .RO, 0⟩, ⟨17, 12, .RO, 0⟩, ⟨11, 0, .RO, 0⟩]⟩
  | .RST_CURTBAY => ⟨.glob 0x40000, 0x100, 0x0, 1, 64,
      [⟨63, 0, .RW, 0⟩]⟩
  | .RST_CURTCTL => ⟨.glob 0x40000, 0x108, 0x0, 1, 32,
      [⟨9, 9, .WO, 0⟩, ⟨8, 8, .RW, 0⟩, ⟨7, 0, .RW, 0⟩]⟩
  | .RST_CURTSTAT => ⟨.glob 0x40000, 0x10C, 0x0, 1, 32,
      [⟨31, 31, .RO, 0⟩, ⟨30, 30, .RO, 0⟩, ⟨15, 0, .RO, 0⟩]⟩
  | .STR_STAT => ⟨.engine, 0x0, 0x0, 1, 32,
      [⟨16, 16, .RO, 0⟩, ⟨15, 15, .RO, 0⟩, ⟨14, 8, .RO, 0⟩, ⟨4, 4, .RO, 0⟩, ⟨3, 0, .RO, 0⟩]⟩
  | .STR_FAULT => ⟨.engine, 0x8, 0x0, 1, 64,
      [⟨63, 32, .RO, 0⟩, ⟨31, 24, .RO, 0⟩, ⟨18, 0, .RO, 0⟩]⟩
  | .STR_BOUND => ⟨.engine, 0x10, 0x0, 1, 32,
      [⟨31, 0, .RO, 0⟩]⟩
  | .STR_PADG => ⟨.engine, 0x14, 0x0, 1, 32,
      [⟨31, 0, .RO, 0⟩]⟩
  | .STR_RADROP => ⟨.engine, 0x18, 0x0, 1, 32,
      [⟨31, 0, .RO, 0⟩]⟩
  | .STR_STALE => ⟨.engine, 0x1C, 0x0, 1, 32,
      [⟨31, 16, .RO, 0⟩, ⟨15, 0, .RO, 0⟩]⟩
  | .STR_CTL => ⟨.engine, 0x20, 0x0, 1, 32,
      [⟨0, 0, .WO, 0⟩]⟩
  | .STR_WINW0 => ⟨.glob 0x80000, 0x1000, 0x10, 64, 64,
      [⟨47, 6, .RW, 0⟩, ⟨1, 1, .RW, 0⟩, ⟨0, 0, .RW, 0⟩]⟩
  | .STR_WINW1 => ⟨.glob 0x80000, 0x1008, 0x10, 64, 64,
      [⟨47, 6, .RW, 0⟩]⟩
  | .STR_WINCTL => ⟨.glob 0x80000, 0x1400, 0x0, 1, 32,
      [⟨1, 1, .RO, 0⟩, ⟨0, 0, .WO, 0⟩]⟩
  | .STR_WINFAULT => ⟨.glob 0x80000, 0x1408, 0x0, 1, 64,
      [⟨63, 63, .RO, 0⟩, ⟨47, 0, .RO, 0⟩]⟩
  | .MEM_CFG => ⟨.memP0, 0x1000, 0x0, 1, 32,
      [⟨2, 2, .RW, 0⟩, ⟨1, 0, .RW, 0⟩]⟩
  | .MEM_INFO => ⟨.memP0, 0x1004, 0x0, 1, 32,
      [⟨31, 16, .RO, 0⟩, ⟨15, 14, .RO, 0⟩, ⟨7, 7, .RO, 0⟩, ⟨4, 0, .RO, 0⟩]⟩
  | .MEM_RETIRE => ⟨.memP0, 0x1008, 0x0, 1, 32,
      [⟨31, 31, .WO, 0⟩, ⟨30, 29, .RO, 0⟩, ⟨4, 0, .RW, 0⟩]⟩
  | .MEM_MIGPOS => ⟨.memP0, 0x100C, 0x0, 1, 32,
      [⟨31, 0, .RO, 0⟩]⟩
  | .MEM_ZERO => ⟨.memP0, 0x1010, 0x0, 1, 32,
      [⟨31, 31, .WO, 0⟩, ⟨30, 30, .RO, 0⟩, ⟨29, 29, .RO, 0⟩]⟩
  | .MEM_CHSTAT => ⟨.chan, 0x0, 0x0, 1, 32,
      [⟨31, 28, .RO, 0⟩, ⟨7, 0, .RO, 0⟩]⟩
  | .MEM_ECC => ⟨.chan, 0x8, 0x0, 1, 64,
      [⟨63, 48, .RO, 0⟩, ⟨47, 32, .RO, 0⟩, ⟨31, 0, .RO, 0⟩]⟩
  | .MEM_ERRADDR => ⟨.chan, 0x10, 0x0, 1, 64,
      [⟨63, 63, .RO, 0⟩, ⟨62, 62, .RO, 0⟩, ⟨47, 0, .RO, 0⟩]⟩
  | .MEM_PATROL => ⟨.chan, 0x18, 0x0, 1, 32,
      [⟨7, 0, .RW, 0x18⟩]⟩
  | .MEM_CHCTL => ⟨.chan, 0x1C, 0x0, 1, 32,
      [⟨0, 0, .WO, 0⟩]⟩
  | .DEP_CTL => ⟨.pdie, 0x20000, 0x0, 1, 32,
      [⟨1, 1, .WO, 0⟩, ⟨0, 0, .RW, 1⟩]⟩
  | .DEP_STAT => ⟨.pdie, 0x20004, 0x0, 1, 32,
      [⟨31, 31, .RO, 0⟩, ⟨30, 30, .RO, 0⟩, ⟨19, 0, .RO, 0⟩]⟩
  | .DEP_ECC => ⟨.pdie, 0x20008, 0x0, 1, 32,
      [⟨31, 16, .RO, 0⟩, ⟨15, 0, .RO, 0⟩]⟩
  | .GTH_STAT => ⟨.pdie, 0x60000, 0x0, 1, 64,
      [⟨63, 60, .RO, 0⟩, ⟨59, 52, .RO, 0⟩, ⟨20, 0, .RO, 0⟩]⟩
  | .GTH_JOB => ⟨.pdie, 0x60008, 0x0, 1, 64,
      [⟨47, 0, .RO, 0⟩]⟩
  | .GTH_OOB => ⟨.pdie, 0x60010, 0x0, 1, 32,
      [⟨31, 0, .RO, 0⟩]⟩
  | .GTH_CTL => ⟨.pdie, 0x60014, 0x0, 1, 32,
      [⟨0, 0, .WO, 0⟩]⟩
  | .CHK_CTL => ⟨.chk, 0x0, 0x0, 1, 32,
      [⟨3, 3, .WO, 0⟩, ⟨2, 2, .WO, 0⟩, ⟨1, 1, .RW, 1⟩, ⟨0, 0, .RW, 0⟩]⟩
  | .CHK_START => ⟨.chk, 0x8, 0x0, 1, 64,
      [⟨47, 0, .RW, 0⟩]⟩
  | .CHK_LEN => ⟨.chk, 0x10, 0x0, 1, 64,
      [⟨40, 0, .RW, 0⟩]⟩
  | .CHK_POS => ⟨.chk, 0x18, 0x0, 1, 64,
      [⟨40, 0, .RO, 0⟩]⟩
  | .CHK_RUN => ⟨.chk, 0x20, 0x0, 1, 64,
      [⟨63, 0, .RW, 0⟩]⟩
  | .CHK_RESULT => ⟨.chk, 0x28, 0x0, 1, 64,
      [⟨63, 0, .RO, 0⟩]⟩
  | .CHK_STAT => ⟨.chk, 0x30, 0x0, 1, 32,
      [⟨31, 31, .RO, 0⟩, ⟨30, 30, .RO, 0⟩, ⟨7, 0, .RO, 0⟩]⟩
  | .CHK_MISCNT => ⟨.chk, 0x34, 0x0, 1, 32,
      [⟨31, 0, .RO, 0⟩]⟩
  | .SPR_OVERFULL => ⟨.bay, 0x8F40, 0x0, 1, 32,
      [⟨31, 0, .RO, 0⟩]⟩
  | .SPR_METADUP => ⟨.bay, 0x8F44, 0x0, 1, 32,
      [⟨31, 0, .RO, 0⟩]⟩
  | .SPR_IDXOOB => ⟨.bay, 0x8F48, 0x0, 1, 32,
      [⟨31, 0, .RO, 0⟩]⟩
  | .SPR_CTL => ⟨.bay, 0x8F4C, 0x0, 1, 32,
      [⟨0, 0, .WO, 0⟩]⟩
  | .PRM_STAT => ⟨.cdie, 0x30000, 0x0, 1, 32,
      [⟨31, 31, .RO, 0⟩, ⟨30, 28, .RO, 0⟩, ⟨27, 26, .RO, 0⟩, ⟨25, 25, .RO, 0⟩]⟩
  | .PRM_CTX => ⟨.cdie, 0x30010, 0x10, 8, 64,
      [⟨63, 48, .RO, 0⟩, ⟨32, 32, .RO, 0⟩, ⟨15, 0, .RO, 0⟩]⟩
  | .PRM_AUD => ⟨.cdie, 0x30100, 0x8, 8, 64,
      [⟨63, 32, .RO, 0⟩, ⟨31, 0, .RO, 0⟩]⟩
  | .PRM_DROP => ⟨.cdie, 0x30180, 0x0, 1, 64,
      [⟨63, 32, .RO, 0⟩, ⟨31, 16, .RO, 0⟩, ⟨15, 0, .RO, 0⟩]⟩
  | .PRM_MAKEUP => ⟨.cdie, 0x30200, 0x0, 1, 64,
      [⟨63, 63, .RO, 0⟩, ⟨62, 58, .RO, 0⟩, ⟨57, 55, .RO, 0⟩, ⟨54, 43, .RO, 0⟩, ⟨42, 32, .RO, 0⟩]⟩
  | .PRM_CTL => ⟨.cdie, 0x30300, 0x0, 1, 32,
      [⟨0, 0, .WO, 0⟩]⟩
  | .TLH_SHARDBASE => ⟨.tlh, 0xE00, 0x0, 1, 64,
      [⟨47, 0, .RW, 0⟩]⟩
  | .TLH_SHARDCNT => ⟨.tlh, 0xE08, 0x0, 1, 32,
      [⟨12, 0, .RW, 0⟩]⟩
  | .TLH_UPDSTAT => ⟨.tlh, 0xE0C, 0x0, 1, 32,
      [⟨31, 31, .RO, 0⟩, ⟨30, 30, .RO, 0⟩, ⟨29, 29, .RO, 0⟩, ⟨28, 21, .RO, 0⟩, ⟨12, 0, .RO, 0⟩]⟩
  | .TLH_SKIP => ⟨.tlh, 0xE10, 0x0, 1, 32,
      [⟨31, 0, .RO, 0⟩]⟩
  | .TLH_SNAPHOLD => ⟨.tlh, 0xE14, 0x0, 1, 32,
      [⟨31, 0, .RO, 0⟩]⟩
  | .TLH_UPDCTL => ⟨.tlh, 0xE18, 0x0, 1, 32,
      [⟨0, 0, .WO, 0⟩]⟩
  | .FAB_PORTCTL => ⟨.felPort, 0x0, 0x0, 1, 32,
      [⟨31, 31, .RW, 0⟩, ⟨30, 29, .RW, 0⟩, ⟨28, 26, .RW, 0⟩, ⟨0, 0, .WO, 0⟩]⟩
  | .FAB_PORTSTAT => ⟨.felPort, 0x8, 0x0, 1, 32,
      [⟨31, 29, .RO, 0⟩, ⟨28, 25, .RO, 0⟩, ⟨24, 22, .RO, 0⟩, ⟨21, 10, .RO, 0⟩]⟩
  | .FAB_PORTERR => ⟨.felPort, 0x10, 0x0, 1, 64,
      [⟨63, 48, .RO, 0⟩, ⟨47, 32, .RO, 0⟩, ⟨31, 16, .RO, 0⟩, ⟨15, 0, .RO, 0⟩]⟩
  | .FAB_PORTTX => ⟨.felPort, 0x18, 0x0, 1, 64,
      [⟨63, 0, .RO, 0⟩]⟩
  | .FAB_PORTRX => ⟨.felPort, 0x20, 0x0, 1, 64,
      [⟨63, 0, .RO, 0⟩]⟩
  | .FAB_DEVNO => ⟨.tlhP0, 0x0, 0x0, 1, 32,
      [⟨11, 0, .RW, 0⟩]⟩
  | .FAB_TOPO => ⟨.tlhP0, 0x4, 0x0, 1, 32,
      [⟨31, 31, .RO, 0⟩, ⟨9, 5, .RW, 0⟩, ⟨4, 1, .RW, 0⟩]⟩
  | .FAB_ETYPE => ⟨.tlhP0, 0x8, 0x0, 1, 32,
      [⟨15, 0, .RW, 0x88B5⟩]⟩
  | .FAB_MACPFX => ⟨.tlhP0, 0xC, 0x0, 1, 32,
      [⟨31, 0, .RW, 0x2000000⟩]⟩
  | .FAB_XTBASE => ⟨.tlhP0, 0x10, 0x0, 1, 64,
      [⟨47, 0, .RW, 0⟩]⟩
  | .FAB_XTCNT => ⟨.tlhP0, 0x18, 0x0, 1, 32,
      [⟨23, 0, .RW, 0⟩]⟩
  | .FAB_CARRYBASE => ⟨.tlhP0, 0x20, 0x0, 1, 64,
      [⟨47, 0, .RW, 0⟩]⟩
  | .FAB_CARRYN => ⟨.tlhP0, 0x28, 0x0, 1, 32,
      [⟨15, 0, .RW, 0⟩]⟩
  | .FAB_DLINE => ⟨.tlhP0, 0x30, 0x4, 4, 32,
      [⟨31, 0, .RW, 0⟩]⟩
  | .FAB_MPPOL => ⟨.tlhP0, 0x40, 0x0, 1, 32,
      [⟨0, 0, .RW, 0⟩]⟩
  | .FAB_MPSTAT => ⟨.tlhP0, 0x48, 0x0, 1, 64,
      [⟨63, 32, .RO, 0⟩, ⟨31, 31, .RO, 0⟩, ⟨30, 30, .RO, 0⟩, ⟨7, 0, .RO, 0⟩]⟩
  | .FAB_TIME => ⟨.tlhP0, 0x50, 0x0, 1, 64,
      [⟨63, 0, .RO, 0⟩]⟩
  | .FAB_TIMESET => ⟨.tlhP0, 0x58, 0x0, 1, 64,
      [⟨63, 0, .WO, 0⟩]⟩
  | .FAB_TIMESTAT => ⟨.tlhP0, 0x60, 0x0, 1, 32,
      [⟨31, 31, .RO, 0⟩, ⟨30, 30, .RO, 0⟩, ⟨29, 29, .RO, 0⟩, ⟨28, 28, .RO, 0⟩, ⟨15, 0, .RO, 0⟩]⟩
  | .FAB_LATE => ⟨.tlh, 0x100, 0x0, 1, 32,
      [⟨31, 0, .RO, 0⟩]⟩
  | .FAB_STALE => ⟨.tlh, 0x104, 0x0, 1, 32,
      [⟨31, 0, .RO, 0⟩]⟩
  | .FAB_BACKUP => ⟨.tlh, 0x108, 0x0, 1, 32,
      [⟨31, 0, .RO, 0⟩]⟩
  | .FAB_SAT => ⟨.tlh, 0x10C, 0x0, 1, 32,
      [⟨31, 0, .RO, 0⟩]⟩
  | .FAB_RXDROP => ⟨.tlh, 0x110, 0x0, 1, 32,
      [⟨31, 0, .RO, 0⟩]⟩
  | .FAB_E2ELOST => ⟨.tlh, 0x114, 0x0, 1, 32,
      [⟨31, 0, .RO, 0⟩]⟩
  | .FAB_RESYNC => ⟨.tlh, 0x118, 0x0, 1, 32,
      [⟨31, 0, .RO, 0⟩]⟩
  | .FAB_CNTCTL => ⟨.tlh, 0x11C, 0x0, 1, 32,
      [⟨0, 0, .WO, 0⟩]⟩
  | .RUN_BASE => ⟨.glob 0x10000, 0x0, 0x0, 1, 64,
      [⟨47, 0, .RW, 0⟩]⟩
  | .RUN_CTL => ⟨.glob 0x10000, 0x8, 0x0, 1, 32,
      [⟨1, 1, .WO, 0⟩, ⟨0, 0, .WO, 0⟩]⟩
  | .RUN_STAT => ⟨.glob 0x10000, 0xC, 0x0, 1, 32,
      [⟨31, 31, .RO, 0⟩, ⟨30, 30, .RO, 0⟩, ⟨29, 29, .RO, 0⟩, ⟨28, 28, .RO, 0⟩, ⟨23, 16, .RO, 0⟩, ⟨8, 6, .RO, 0⟩, ⟨5, 0, .RO, 0⟩]⟩
  | .RUN_FRAME => ⟨.glob 0x10000, 0x10, 0x0, 1, 64,
      [⟨63, 0, .RO, 0⟩]⟩
  | .RUN_ODO => ⟨.glob 0x10000, 0x18, 0x0, 1, 64,
      [⟨63, 0, .RO, 0⟩]⟩
  | .RUN_ABORT => ⟨.glob 0x10000, 0x20, 0x0, 1, 32,
      [⟨31, 31, .WO, 0⟩, ⟨30, 30, .RW, 0⟩, ⟨5, 0, .RW, 0⟩]⟩
  | .RUN_TABLE => ⟨.glob 0x10000, 0x24, 0x0, 1, 32,
      [⟨31, 24, .RO, 0⟩, ⟨14, 12, .RO, 0⟩, ⟨5, 0, .RO, 0⟩]⟩
  | .RUN_MISS => ⟨.glob 0x10000, 0x28, 0x0, 1, 32,
      [⟨31, 0, .RO, 0⟩]⟩
  | .RUN_OVERBUD => ⟨.glob 0x10000, 0x2C, 0x0, 1, 32,
      [⟨31, 0, .RO, 0⟩]⟩
  | .RUN_PREEMPT => ⟨.glob 0x10000, 0x30, 0x0, 1, 32,
      [⟨31, 16, .RO, 0⟩, ⟨15, 0, .RO, 0⟩]⟩
  | .RUN_MAKEUP => ⟨.glob 0x10000, 0x34, 0x0, 1, 32,
      [⟨31, 0, .RO, 0⟩]⟩
  | .RUN_OVERRUN => ⟨.glob 0x10000, 0x38, 0x0, 1, 32,
      [⟨31, 0, .RO, 0⟩]⟩
  | .RUN_CNTCTL => ⟨.glob 0x10000, 0x3C, 0x0, 1, 32,
      [⟨0, 0, .WO, 0⟩]⟩
  | .ENV_SCHEDBASE => ⟨.glob 0x20000, 0x0, 0x0, 1, 64,
      [⟨47, 0, .RW, 0⟩]⟩
  | .ENV_CTL => ⟨.glob 0x20000, 0x8, 0x0, 1, 32,
      [⟨2, 2, .WO, 0⟩, ⟨1, 1, .RW, 0⟩, ⟨0, 0, .WO, 0⟩]⟩
  | .ENV_DEGLITCH => ⟨.glob 0x20000, 0xC, 0x0, 1, 32,
      [⟨6, 0, .RWS, 0xA⟩]⟩
  | .ENV_GUARD => ⟨.glob 0x20000, 0x10, 0x0, 1, 32,
      [⟨7, 0, .RWS, 0x28⟩]⟩
  | .ENV_STAT => ⟨.glob 0x20000, 0x14, 0x0, 1, 32,
      [⟨31, 31, .RO, 0⟩, ⟨30, 30, .RO, 0⟩, ⟨29, 29, .RO, 0⟩, ⟨28, 28, .RO, 0⟩, ⟨27, 27, .RO, 1⟩, ⟨26, 26, .RO, 0⟩, ⟨25, 25, .RO, 0⟩, ⟨23, 16, .RO, 0⟩, ⟨15, 11, .RO, 0⟩, ⟨10, 0, .RO, 0⟩]⟩
  | .ENV_POWER => ⟨.glob 0x20000, 0x18, 0x0, 1, 64,
      [⟨63, 48, .RO, 0⟩, ⟨47, 32, .RO, 0⟩, ⟨31, 16, .RO, 0⟩, ⟨15, 0, .RO, 0⟩]⟩
  | .ENV_SCHED => ⟨.glob 0x20000, 0x20, 0x0, 1, 64,
      [⟨63, 32, .RO, 0⟩, ⟨31, 26, .RO, 0⟩]⟩
  | .ENV_ENTRYW0 => ⟨.glob 0x20000, 0x28, 0x0, 1, 64,
      [⟨63, 0, .RO, 0xDAC0000⟩]⟩
  | .ENV_ENTRYW1 => ⟨.glob 0x20000, 0x30, 0x0, 1, 64,
      [⟨63, 0, .RO, 0⟩]⟩
  | .ENV_ENERGY => ⟨.glob 0x20000, 0x38, 0x0, 1, 64,
      [⟨63, 0, .RO, 0⟩]⟩
  | .ENV_INFO => ⟨.glob 0x20000, 0x40, 0x0, 1, 32,
      [⟨31, 16, .RO, 0x2BC⟩, ⟨15, 0, .RO, 0xAB0⟩]⟩
  | .ENV_WALKCAL => ⟨.glob 0x20000, 0x44, 0x0, 1, 32,
      [⟨15, 0, .RO, 0x5DC⟩]⟩
  | .ENV_CNT => ⟨.glob 0x20000, 0x48, 0x0, 1, 64,
      [⟨63, 32, .RO, 0⟩, ⟨31, 0, .RO, 0⟩]⟩
  | .ENV_MMSTAT => ⟨.glob 0x20000, 0x50, 0x0, 1, 64,
      [⟨63, 32, .RO, 0⟩, ⟨15, 8, .RO, 0⟩, ⟨7, 0, .RO, 0⟩]⟩
  | .ENV_EVHEAD => ⟨.glob 0x20000, 0x58, 0x0, 1, 32,
      [⟨4, 0, .RO, 0⟩]⟩
  | .ENV_EVLOG_LO => ⟨.glob 0x20000, 0x100, 0x10, 32, 64,
      [⟨63, 60, .RO, 0⟩, ⟨59, 52, .RO, 0⟩, ⟨31, 0, .RO, 0⟩]⟩
  | .ENV_EVLOG_HI => ⟨.glob 0x20000, 0x108, 0x10, 32, 64,
      [⟨63, 0, .RO, 0⟩]⟩
  | .PWR_DOMSTAT => ⟨.anyDie, 0x100, 0x0, 1, 32,
      [⟨19, 0, .RO, 0x80000⟩]⟩
  | .PWR_TEMP => ⟨.anyDie, 0x104, 0x0, 1, 32,
      [⟨15, 8, .RO, 0⟩, ⟨7, 0, .RO, 0⟩]⟩
  | .UST_MAP => ⟨.glob 0x50000, 0x0, 0x8, 8, 32,
      [⟨31, 0, .RO, 0x76543210⟩]⟩
  | .UST_BAYST => ⟨.glob 0x50000, 0x40, 0x8, 8, 32,
      [⟨17, 0, .RO, 0x10000⟩]⟩
  | .UST_MARGIN => ⟨.glob 0x50000, 0x400, 0x4, 72, 32,
      [⟨23, 16, .RO, 0⟩, ⟨15, 8, .RO, 0⟩, ⟨7, 0, .RO, 0xFF⟩]⟩
  | .UST_CFG => ⟨.glob 0x50000, 0x200, 0x0, 1, 32,
      [⟨31, 16, .RW, 0x40⟩, ⟨15, 8, .RW, 0x10⟩, ⟨1, 1, .RW, 1⟩, ⟨0, 0, .RW, 1⟩]⟩
  | .UST_SWAP => ⟨.glob 0x50000, 0x208, 0x0, 1, 32,
      [⟨31, 31, .WO, 0⟩, ⟨30, 28, .RO, 0⟩, ⟨5, 0, .RW, 0⟩]⟩
  | .UST_STAT => ⟨.glob 0x50000, 0x20C, 0x0, 1, 32,
      [⟨31, 31, .RO, 0⟩, ⟨30, 30, .RO, 0⟩, ⟨29, 24, .RO, 0⟩, ⟨23, 23, .RO, 0⟩, ⟨22, 18, .RO, 0⟩, ⟨17, 8, .RO, 0⟩, ⟨7, 0, .RO, 0xFF⟩]⟩
  | .UST_SRAM => ⟨.glob 0x50000, 0x210, 0x0, 1, 32,
      [⟨31, 24, .RO, 0⟩, ⟨23, 16, .RO, 0⟩, ⟨15, 0, .RO, 0⟩]⟩
  | .UST_CWY => ⟨.glob 0x50000, 0x214, 0x0, 1, 32,
      [⟨16, 16, .RO, 0⟩, ⟨15, 0, .RO, 0⟩]⟩
  | .UST_VRM => ⟨.glob 0x50000, 0x218, 0x0, 1, 32,
      [⟨8, 8, .RO, 0⟩, ⟨7, 0, .RO, 0⟩]⟩
  | .UST_COLVEL => ⟨.glob 0x50000, 0x21C, 0x0, 1, 32,
      [⟨15, 8, .RO, 0⟩, ⟨4, 4, .RO, 0⟩, ⟨3, 2, .RO, 1⟩, ⟨1, 0, .RO, 0⟩]⟩
  | .UST_SVCUS => ⟨.glob 0x50000, 0x300, 0x0, 1, 64,
      [⟨63, 0, .RO, 0⟩]⟩
  | .UST_LOSTUS => ⟨.glob 0x50000, 0x308, 0x0, 1, 64,
      [⟨63, 0, .RO, 0⟩]⟩
  | .UST_EXCLUS => ⟨.glob 0x50000, 0x310, 0x0, 1, 64,
      [⟨63, 0, .RO, 0⟩]⟩
  | .UST_LOSTEV => ⟨.glob 0x50000, 0x318, 0x0, 1, 32,
      [⟨31, 16, .RO, 0⟩, ⟨15, 0, .RO, 0⟩]⟩
  | .OBS_ODO => ⟨.obs, 0x0, 0x0, 1, 64,
      [⟨63, 0, .RO, 0⟩]⟩
  | .OBS_SEL => ⟨.obs, 0x8, 0x4, 8, 32,
      [⟨31, 31, .RW, 0⟩, ⟨11, 8, .RW, 0⟩, ⟨7, 0, .RW, 0⟩]⟩
  | .OBS_CNT => ⟨.obs, 0x28, 0x8, 8, 64,
      [⟨63, 0, .RO, 0⟩]⟩
  | .OBS_BCTL => ⟨.obs, 0x68, 0x0, 1, 32,
      [⟨31, 31, .WO, 0⟩, ⟨16, 0, .RW, 0⟩]⟩
  | .OBS_PHOTOSTAT => ⟨.obsDie, 0x70, 0x0, 1, 32,
      [⟨31, 31, .RO, 0⟩, ⟨30, 28, .RO, 0⟩, ⟨15, 8, .RO, 0⟩, ⟨7, 0, .RO, 0⟩]⟩
  | .OBS_LATCHTAG => ⟨.obsBay, 0x80, 0x0, 1, 32,
      [⟨31, 0, .RO, 0⟩]⟩
  | .OBS_LATCHODO => ⟨.obsBay, 0x88, 0x0, 1, 64,
      [⟨63, 0, .RO, 0⟩]⟩
  | .OBS_LATCHCNT => ⟨.obsBay, 0x90, 0x8, 8, 64,
      [⟨63, 0, .RO, 0⟩]⟩
  | .OBS_USER_EN => ⟨.glob 0x60000, 0x0, 0x0, 1, 32,
      [⟨0, 0, .RW, 0⟩]⟩
  | .OBS_STEP => ⟨.glob 0x60000, 0x8, 0x0, 1, 32,
      [⟨31, 0, .RW, 0⟩]⟩
  | .OBS_STEPCTL => ⟨.glob 0x60000, 0xC, 0x0, 1, 32,
      [⟨0, 0, .WO, 0⟩]⟩
  | .OBS_DUMP => ⟨.glob 0x60000, 0x10, 0x0, 1, 32,
      [⟨31, 31, .RW, 0⟩, ⟨4, 0, .RW, 0xA⟩]⟩
  | .OBS_SAMPCTL => ⟨.glob 0x60000, 0x18, 0x0, 1, 32,
      [⟨31, 31, .RW, 0⟩, ⟨15, 0, .RW, 0⟩]⟩
  | .OBS_SAMPBAYS => ⟨.glob 0x60000, 0x20, 0x0, 1, 64,
      [⟨63, 0, .RW, 0⟩]⟩
  | .OBS_SAMPDROP => ⟨.glob 0x60000, 0x28, 0x0, 1, 32,
      [⟨31, 0, .RO, 0⟩]⟩
  | .OBS_EVT => ⟨.glob 0x60000, 0x30, 0x0, 1, 32,
      [⟨2, 2, .RO, 0⟩, ⟨1, 1, .RW, 0⟩, ⟨0, 0, .RW, 0⟩]⟩
  | .OBS_CCTL => ⟨.glob 0x60000, 0x38, 0x0, 1, 32,
      [⟨0, 0, .WO, 0⟩]⟩
  | .OBS_RINGBASE => ⟨.ring, 0x100, 0x0, 1, 64,
      [⟨47, 12, .RW, 0⟩]⟩
  | .OBS_RINGCTL => ⟨.ring, 0x108, 0x0, 1, 32,
      [⟨31, 31, .RW, 0⟩, ⟨30, 30, .RW, 0⟩, ⟨19, 0, .RW, 0⟩]⟩
  | .OBS_RINGWR => ⟨.ring, 0x110, 0x0, 1, 32,
      [⟨31, 0, .RO, 0⟩]⟩
  | .OBS_RINGRD => ⟨.ring, 0x118, 0x0, 1, 32,
      [⟨31, 0, .RW, 0⟩]⟩
  | .OBS_RINGSTAT => ⟨.ring, 0x120, 0x0, 1, 64,
      [⟨63, 56, .RO, 0⟩, ⟨31, 0, .RO, 0⟩]⟩
  | .OBS_BWSEL => ⟨.glob 0x60000, 0x200, 0x10, 8, 32,
      [⟨31, 31, .RW, 0⟩, ⟨30, 26, .RW, 0⟩, ⟨19, 16, .RW, 0⟩, ⟨15, 12, .RW, 0⟩, ⟨11, 8, .RW, 0⟩, ⟨7, 0, .RW, 0⟩]⟩
  | .OBS_BW => ⟨.glob 0x60000, 0x208, 0x10, 8, 64,
      [⟨63, 40, .RO, 0⟩, ⟨39, 0, .RO, 0⟩]⟩
  | .OBS_PHOTO => ⟨.glob 0x60000, 0x300, 0x10, 16, 64,
      [⟨63, 32, .RW, 0⟩, ⟨31, 0, .RW, 0⟩]⟩
  | .OBS_PHOTOCTL => ⟨.glob 0x60000, 0x308, 0x10, 16, 32,
      [⟨31, 31, .RW, 0⟩, ⟨30, 29, .RW, 0⟩, ⟨7, 0, .RW, 0⟩]⟩
  | .TAB_CTL => ⟨.glob 0x70000, 0x0, 0x0, 1, 32,
      [⟨2, 2, .WO, 0⟩, ⟨1, 1, .WO, 0⟩, ⟨0, 0, .RW, 1⟩]⟩
  | .TAB_STAT => ⟨.glob 0x70000, 0x4, 0x0, 1, 32,
      [⟨31, 29, .RO, 0⟩, ⟨28, 28, .RO, 0⟩, ⟨27, 27, .RO, 0⟩, ⟨15, 0, .RO, 0⟩]⟩
  | .TAB_PAGE => ⟨.glob 0x70000, 0x8, 0x0, 1, 32,
      [⟨6, 0, .RW, 0⟩]⟩
  | .TAB_HOLD => ⟨.glob 0x70000, 0xC, 0x0, 1, 32,
      [⟨31, 0, .RO, 0⟩]⟩
  | .TAB_BAR2 => ⟨.glob 0x70000, 0x10, 0x0, 1, 32,
      [⟨31, 0, .RO, 0⟩]⟩
  | .CLK_STAT => ⟨.glob 0x40000, 0x0, 0x0, 1, 32,
      [⟨31, 31, .RO, 0⟩, ⟨30, 30, .RO, 0⟩, ⟨25, 24, .RO, 3⟩, ⟨15, 0, .RO, 0⟩]⟩
  | .CLK_FREQ => ⟨.glob 0x40000, 0x4, 0x0, 1, 32,
      [⟨31, 16, .RO, 0x1608⟩, ⟨15, 0, .RO, 0xEB⟩]⟩
  | .RST_CTL => ⟨.glob 0x40000, 0x200, 0x0, 1, 32,
      [⟨0, 0, .WO, 0⟩]⟩
  | .RST_REASON => ⟨.glob 0x40000, 0x208, 0x0, 1, 32,
      [⟨31, 28, .RO, 0⟩, ⟨27, 27, .RO, 0⟩, ⟨15, 0, .RO, 0⟩]⟩
  | .RST_BOOTSTAT => ⟨.glob 0x40000, 0x210, 0x0, 1, 32,
      [⟨31, 28, .RO, 0⟩, ⟨27, 20, .RO, 0xE4⟩, ⟨19, 19, .RO, 0⟩, ⟨18, 18, .RO, 0⟩, ⟨17, 16, .RO, 0⟩]⟩
  | .RST_BOOTTIME => ⟨.glob 0x40000, 0x214, 0x0, 1, 32,
      [⟨31, 0, .RO, 0⟩]⟩
  | .RST_BOOTCFG => ⟨.glob 0x40000, 0x218, 0x0, 1, 32,
      [⟨1, 1, .RW, 0⟩, ⟨0, 0, .RWS, 0⟩]⟩
  | .RST_PLAYBILL => ⟨.glob 0x40000, 0x21C, 0x0, 1, 32,
      [⟨31, 0, .RO, 0⟩]⟩
  | .RST_IMG => ⟨.glob 0x40000, 0x240, 0x10, 6, 64,
      [⟨63, 32, .RO, 0⟩, ⟨31, 30, .RO, 0⟩, ⟨23, 16, .RO, 0⟩, ⟨15, 0, .RO, 0⟩]⟩
  | .RST_IMGMARK => ⟨.glob 0x40000, 0x400, 0x8, 48, 64,
      [⟨63, 0, .RO, 0⟩]⟩
  | .RST_IDENT => ⟨.glob 0x0, 0x0, 0x0, 1, 32,
      [⟨31, 16, .RO, 0x7508⟩, ⟨15, 8, .RO, 1⟩, ⟨7, 4, .RO, 8⟩, ⟨3, 0, .RO, 4⟩]⟩
  | .RST_SERIAL => ⟨.glob 0x0, 0x8, 0x0, 1, 64,
      [⟨63, 0, .RO, 0⟩]⟩
  | .RST_LEVEL => ⟨.glob 0x0, 0x10, 0x0, 1, 32,
      [⟨23, 16, .RO, 1⟩, ⟨15, 0, .RO, 0x100⟩]⟩
  | .RST_BAYS => ⟨.glob 0x0, 0x14, 0x0, 1, 32,
      [⟨15, 8, .RO, 0x40⟩, ⟨7, 0, .RO, 0xFF⟩]⟩
  | .SEC_STATE => ⟨.glob 0x30000, 0x0, 0x0, 1, 32,
      [⟨31, 30, .RO, 0⟩, ⟨29, 29, .RO, 0⟩, ⟨28, 28, .RO, 0⟩, ⟨27, 27, .RO, 0⟩, ⟨26, 26, .RO, 0⟩, ⟨23, 16, .RO, 0⟩, ⟨15, 8, .RO, 0⟩]⟩
  | .SEC_CMDCTR => ⟨.glob 0x30000, 0x8, 0x0, 1, 64,
      [⟨63, 0, .RO, 0⟩]⟩
  | .SEC_DEVID_LO => ⟨.glob 0x30000, 0x10, 0x0, 1, 64,
      [⟨63, 0, .RO, 0⟩]⟩
  | .SEC_DEVID_HI => ⟨.glob 0x30000, 0x18, 0x0, 1, 64,
      [⟨63, 0, .RO, 0⟩]⟩
  | .SEC_ROOTID => ⟨.glob 0x30000, 0x20, 0x0, 1, 64,
      [⟨63, 0, .RO, 0⟩]⟩
  | .SEC_FACID => ⟨.glob 0x30000, 0x28, 0x0, 1, 64,
      [⟨63, 0, .RO, 0⟩]⟩
  | .SEC_OPID => ⟨.glob 0x30000, 0x30, 0x0, 1, 64,
      [⟨63, 0, .RO, 0⟩]⟩
  | .SEC_REPORTS => ⟨.glob 0x30000, 0x38, 0x0, 1, 64,
      [⟨63, 0, .RO, 0⟩]⟩
  | .SEC_FLOOR => ⟨.glob 0x30000, 0x40, 0x8, 5, 64,
      [⟨31, 0, .RO, 0⟩]⟩
  | .HST_LINK => ⟨.glob 0x80000, 0x0, 0x0, 1, 32,
      [⟨31, 29, .RO, 0⟩, ⟨28, 24, .RO, 0⟩, ⟨23, 23, .RO, 0⟩, ⟨22, 22, .RO, 0⟩, ⟨15, 0, .RO, 0⟩]⟩
  | .HST_BAR2BASE => ⟨.glob 0x80000, 0x8, 0x0, 1, 64,
      [⟨47, 34, .RW, 0⟩]⟩
  | .HST_DMACTL => ⟨.glob 0x80000, 0x10, 0x0, 1, 32,
      [⟨0, 0, .RW, 0⟩]⟩
  | .HST_DMAFAULT => ⟨.glob 0x80000, 0x18, 0x0, 1, 64,
      [⟨63, 2, .RO, 0⟩, ⟨1, 0, .RO, 0⟩]⟩
  | .HST_EVSTAT => ⟨.glob 0x80000, 0x20, 0x0, 1, 32,
      [⟨11, 0, .W1C, 0⟩]⟩
  | .HST_EVEN => ⟨.glob 0x80000, 0x28, 0x0, 1, 32,
      [⟨11, 0, .RW, 0⟩]⟩
  | .HST_ERR => ⟨.glob 0x80000, 0x30, 0x0, 1, 64,
      [⟨63, 48, .RO, 0⟩, ⟨47, 32, .RO, 0⟩, ⟨31, 0, .RO, 0⟩]⟩
  | .HST_CTL => ⟨.glob 0x80000, 0x38, 0x0, 1, 32,
      [⟨0, 0, .WO, 0⟩]⟩
  | .HST_HWINW0 => ⟨.glob 0x80000, 0x100, 0x10, 4, 64,
      [⟨63, 12, .RW, 0⟩, ⟨0, 0, .RW, 0⟩]⟩
  | .HST_HWINW1 => ⟨.glob 0x80000, 0x108, 0x10, 4, 64,
      [⟨63, 12, .RW, 0⟩]⟩
  | .MSIX_ADDR => ⟨.glob 0x80000, 0x8000, 0x10, 256, 64,
      [⟨63, 0, .RW, 0⟩]⟩
  | .MSIX_DATA => ⟨.glob 0x80000, 0x8008, 0x10, 256, 64,
      [⟨32, 32, .RW, 1⟩, ⟨31, 0, .RW, 0⟩]⟩
  | .MSIX_PBA => ⟨.glob 0x80000, 0x9000, 0x8, 4, 64,
      [⟨63, 0, .RO, 0⟩]⟩
  | .PWR_COOL => ⟨.glob 0x20000, 0x400, 0x0, 1, 64,
      [⟨63, 48, .RO, 0⟩, ⟨47, 40, .RO, 0⟩, ⟨39, 32, .RO, 0⟩, ⟨1, 1, .RO, 0⟩, ⟨0, 0, .RO, 0⟩]⟩
  | .TLH_RNDCTL => ⟨.tlh, 0xF00, 0x0, 1, 32,
      [⟨1, 1, .WO, 0⟩, ⟨0, 0, .RW, 0⟩]⟩
  | .TLH_RNDSEED => ⟨.tlh, 0xF08, 0x0, 1, 64,
      [⟨63, 0, .RW, 0⟩]⟩
  | .TLH_NUMSAT => ⟨.tlh, 0xF10, 0x0, 1, 32,
      [⟨31, 0, .RO, 0⟩]⟩
  | .TLH_NUMNAN => ⟨.tlh, 0xF14, 0x0, 1, 32,
      [⟨31, 16, .RO, 0⟩, ⟨15, 0, .RO, 0⟩]⟩

def regNames0 : List RegName :=
  [.CUE_RNDCTL, .CUE_RNDSEED, .CUE_NUMSAT, .CUE_NUMNAN, .CUE_ARRSTAT,
   .CUE_DSCALE, .CUE_ARRECC, .CUE_ARRCTL, .CUE_ID, .CUE_SEQSTAT,
   .CUE_SHEETNO, .CUE_FAULT, .CUE_LIVEMASK, .CUE_STOPCNT, .CUE_SEQCTL,
   .CUE_LOOP, .CUE_TOKEN, .CUE_RESSTAT, .CUE_AGBASE, .CUE_AGDIM,
   .CUE_SEM, .CUE_RESTAB_LO, .CUE_RESTAB_HI, .RNG_GEOM, .RNG_STAT,
   .WNG_ECC, .WNG_CTL, .GRM_ECC, .GRM_CTL, .GRM_STAGE,
   .RST_CURTBAY, .RST_CURTCTL, .RST_CURTSTAT, .STR_STAT, .STR_FAULT,
   .STR_BOUND, .STR_PADG, .STR_RADROP, .STR_STALE, .STR_CTL]

def regNames1 : List RegName :=
  [.STR_WINW0, .STR_WINW1, .STR_WINCTL, .STR_WINFAULT, .MEM_CFG,
   .MEM_INFO, .MEM_RETIRE, .MEM_MIGPOS, .MEM_ZERO, .MEM_CHSTAT,
   .MEM_ECC, .MEM_ERRADDR, .MEM_PATROL, .MEM_CHCTL, .DEP_CTL,
   .DEP_STAT, .DEP_ECC, .GTH_STAT, .GTH_JOB, .GTH_OOB,
   .GTH_CTL, .CHK_CTL, .CHK_START, .CHK_LEN, .CHK_POS,
   .CHK_RUN, .CHK_RESULT, .CHK_STAT, .CHK_MISCNT, .SPR_OVERFULL,
   .SPR_METADUP, .SPR_IDXOOB, .SPR_CTL, .PRM_STAT, .PRM_CTX,
   .PRM_AUD, .PRM_DROP, .PRM_MAKEUP, .PRM_CTL, .TLH_SHARDBASE]

def regNames2 : List RegName :=
  [.TLH_SHARDCNT, .TLH_UPDSTAT, .TLH_SKIP, .TLH_SNAPHOLD, .TLH_UPDCTL,
   .FAB_PORTCTL, .FAB_PORTSTAT, .FAB_PORTERR, .FAB_PORTTX, .FAB_PORTRX,
   .FAB_DEVNO, .FAB_TOPO, .FAB_ETYPE, .FAB_MACPFX, .FAB_XTBASE,
   .FAB_XTCNT, .FAB_CARRYBASE, .FAB_CARRYN, .FAB_DLINE, .FAB_MPPOL,
   .FAB_MPSTAT, .FAB_TIME, .FAB_TIMESET, .FAB_TIMESTAT, .FAB_LATE,
   .FAB_STALE, .FAB_BACKUP, .FAB_SAT, .FAB_RXDROP, .FAB_E2ELOST,
   .FAB_RESYNC, .FAB_CNTCTL, .RUN_BASE, .RUN_CTL, .RUN_STAT,
   .RUN_FRAME, .RUN_ODO, .RUN_ABORT, .RUN_TABLE, .RUN_MISS]

def regNames3 : List RegName :=
  [.RUN_OVERBUD, .RUN_PREEMPT, .RUN_MAKEUP, .RUN_OVERRUN, .RUN_CNTCTL,
   .ENV_SCHEDBASE, .ENV_CTL, .ENV_DEGLITCH, .ENV_GUARD, .ENV_STAT,
   .ENV_POWER, .ENV_SCHED, .ENV_ENTRYW0, .ENV_ENTRYW1, .ENV_ENERGY,
   .ENV_INFO, .ENV_WALKCAL, .ENV_CNT, .ENV_MMSTAT, .ENV_EVHEAD,
   .ENV_EVLOG_LO, .ENV_EVLOG_HI, .PWR_DOMSTAT, .PWR_TEMP, .UST_MAP,
   .UST_BAYST, .UST_MARGIN, .UST_CFG, .UST_SWAP, .UST_STAT,
   .UST_SRAM, .UST_CWY, .UST_VRM, .UST_COLVEL, .UST_SVCUS,
   .UST_LOSTUS, .UST_EXCLUS, .UST_LOSTEV, .OBS_ODO, .OBS_SEL]

def regNames4 : List RegName :=
  [.OBS_CNT, .OBS_BCTL, .OBS_PHOTOSTAT, .OBS_LATCHTAG, .OBS_LATCHODO,
   .OBS_LATCHCNT, .OBS_USER_EN, .OBS_STEP, .OBS_STEPCTL, .OBS_DUMP,
   .OBS_SAMPCTL, .OBS_SAMPBAYS, .OBS_SAMPDROP, .OBS_EVT, .OBS_CCTL,
   .OBS_RINGBASE, .OBS_RINGCTL, .OBS_RINGWR, .OBS_RINGRD, .OBS_RINGSTAT,
   .OBS_BWSEL, .OBS_BW, .OBS_PHOTO, .OBS_PHOTOCTL, .TAB_CTL,
   .TAB_STAT, .TAB_PAGE, .TAB_HOLD, .TAB_BAR2, .CLK_STAT,
   .CLK_FREQ, .RST_CTL, .RST_REASON, .RST_BOOTSTAT, .RST_BOOTTIME,
   .RST_BOOTCFG, .RST_PLAYBILL, .RST_IMG, .RST_IMGMARK, .RST_IDENT]

def regNames5 : List RegName :=
  [.RST_SERIAL, .RST_LEVEL, .RST_BAYS, .SEC_STATE, .SEC_CMDCTR,
   .SEC_DEVID_LO, .SEC_DEVID_HI, .SEC_ROOTID, .SEC_FACID, .SEC_OPID,
   .SEC_REPORTS, .SEC_FLOOR, .HST_LINK, .HST_BAR2BASE, .HST_DMACTL,
   .HST_DMAFAULT, .HST_EVSTAT, .HST_EVEN, .HST_ERR, .HST_CTL,
   .HST_HWINW0, .HST_HWINW1, .MSIX_ADDR, .MSIX_DATA, .MSIX_PBA, .PWR_COOL,
   .TLH_RNDCTL, .TLH_RNDSEED, .TLH_NUMSAT, .TLH_NUMNAN]

/-- Every register name, for the search by address. -/
def regNames : List RegName :=
  regNames0 ++ regNames1 ++ regNames2 ++ regNames3 ++ regNames4 ++ regNames5

/-- Units that hold a register of a region, numbered as Reg.unit numbers them. -/
def Region.units : Region → Nat
  | .bay | .obsBay => 72
  | .engine => 104
  | .cdie | .obsDie => 8
  | .anyDie => 12
  | .pdie | .tlh | .ring => 4
  | .memP0 | .tlhP0 => 1
  | .chan => 32
  | .chk => 8
  | .felPort => 16
  | .obs => 84
  | .glob _ => 1

def cdieBase (d : Nat) : Nat := d * 0x1000000
def pdieBase (p : Nat) : Nat := 0x8000000 + p * 0x1000000
/-- Physical bay 9d + b lies at 0x10_0000 + b × 0x10_0000 of its die's window. -/
def bayBase (p : Nat) : Nat := cdieBase (p / 9) + 0x100000 + (p % 9) * 0x100000

/-- The BAR0 base of a region's block for one unit (R10, R155, R184, R216, R217, R260, R370, R392). -/
def Region.base (r : Region) (u : Nat) : Nat :=
  match r with
  | .bay => bayBase u
  | .engine => if u < 72 then bayBase u + 0x4000
               else cdieBase ((u - 72) / 4) + 0x20100 + 0x40 * ((u - 72) % 4)
  | .cdie => cdieBase u
  | .anyDie => if u < 8 then cdieBase u else pdieBase (u - 8)
  | .pdie => pdieBase u
  | .memP0 => pdieBase 0
  | .chan => pdieBase (u / 8) + 0x10000 + 0x2000 * (u % 8)
  | .chk => pdieBase (u / 2) + 0x50000 + 0x100 * (u % 2)
  | .felPort => pdieBase (u / 4) + 0x30000 + 0x4000 * (u % 4)
  | .tlh => pdieBase u + 0x40000
  | .tlhP0 => pdieBase 0 + 0x40000
  | .obs => if u < 80 then cdieBase (u / 10) + 0x40000 + 0x100 * (u % 10)
            else pdieBase (u - 80) + 0x70000
  | .obsDie => cdieBase u + 0x40900
  | .obsBay => cdieBase (u / 9) + 0x40000 + 0x100 * (u % 9)
  | .ring => 0xC060000 + 0x40 * u
  | .glob b => 0xC000000 + b

/-- Index i of CUE_AGDIM is dimension i mod 5 of generator i div 5, at 0x40 × g + 8 × j (R106). -/
def RegName.idxOff (n : RegName) (i : Nat) : Nat :=
  match n with
  | .CUE_AGBASE => 0x40 * i
  | .CUE_AGDIM => 0x40 * (i / 5) + 8 * (i % 5)
  | _ => n.spec.stride * i

/-- The BAR0 offset of a register (R10). -/
def Reg.offset (r : Reg) : Nat :=
  r.name.spec.region.base r.unit + r.name.spec.off + r.name.idxOff r.idx

/-- The register exists: its unit and index lie in the ranges of its table. -/
def Reg.valid (r : Reg) : Bool :=
  r.unit < r.name.spec.region.units && r.idx < r.name.spec.count


/-- The register of one name whose bytes hold BAR0 offset `off`, searched over its units and indices. -/
def RegName.at? (n : RegName) (off : Nat) : Option Reg :=
  let sp := n.spec
  (List.range sp.region.units).findSome? fun u =>
    let b := sp.region.base u + sp.off
    if off < b then none
    else if off ≥ b + n.idxOff (sp.count - 1) + sp.width / 8 then none
    else (List.range sp.count).findSome? fun i =>
      let o := b + n.idxOff i
      if o ≤ off ∧ off < o + sp.width / 8 then some ⟨n, u, i⟩ else none

/-- The register that holds the byte at a BAR0 offset, if any (R10, R447). -/
def regAt (off : Nat) : Option Reg := regNames.findSome? fun n => n.at? off

/-- A register's reset value: its fields' reset values in place, reserved bits zero. -/
def RegName.reset (n : RegName) : BitVec 64 :=
  n.spec.fields.foldl (fun v f => v ||| (BitVec.ofNat 64 f.rst <<< f.lo)) 0

end Sys2Proof.Machine
end

