-- ==== Sys2Proof/Machine/State.lean ====
section
/-! DEFINITION. The state of the module: every register (Regs.lean), every memory, queue, buffer and
mode the manual gives it, and the queue of waiting commands. Plain data throughout. A table keyed by a
number (`Tab`) lists only what differs from its default, in ascending key order, so that the state after
reset lists nothing. -/

namespace Sys2Proof.Machine

open Sys2Proof

/-- A sparse table: ascending keys, no entry equal to the table's default. -/
abbrev Tab (α : Type) := List (Nat × α)

/-- Byte storage (device memory, wings, green room): an unlisted address reads as 0. -/
abbrev Memory := List Host.Cell

/-- The error a stored word or granule holds (R135, R139, R192, R193): correctable, or uncorrectable (poisoned). -/
inductive ErrMark where
  | corr | uncorr
  deriving DecidableEq, Repr

/-! ## A bay (R47 to R156, R218 to R238) -/

/-- The format and 2:4 flag recorded for a tile (R115). -/
structure TileRec where
  fmt : Nat
  sp  : Bool
  deriving DecidableEq, Repr

/-- One weight register of a cell (R51, R52): the element (two under MXFP4), its block scale and, in 2:4
form, the index of the unit in its group. -/
structure WCell where
  e0    : W16 := 0
  e1    : W16 := 0
  scale : Byte := 0
  idx   : Nat := 0
  deriving DecidableEq, Repr

/-- A resolved wings operand (R109): a wings offset, or a place in a revolve's slot given by its issue
index and issue cursor (R146), with its FIN. -/
inductive Opnd where
  | wings (off : Nat)
  | ring (rv : Nat) (idx : Nat) (cur : Nat) (fin : Bool)
  deriving DecidableEq, Repr

/-- A FEED in an array's FEED queue (R114). -/
structure FeedOp where
  fmt   : Nat
  wfmt  : Nat
  sp    : Bool
  swap  : Bool
  acc   : Bool
  share : Bool
  col   : Bool
  m     : Nat
  a0    : Nat
  src   : Opnd
  pc    : Nat
  ord   : Nat
  /-- its marker or first row has entered (R55, R57) -/
  started : Bool := false
  /-- its reads have been presented to the crossbar (R146: not before its slot holds data) -/
  asked : Bool := false
  /-- rows that have been added into their accumulator rows (R60) -/
  added : Nat := 0
  deriving DecidableEq, Repr

/-- What a FEED queue holds: a FEED, or a WALK (R126), the envelope's own or a sheet's. -/
inductive FqEntry where
  | feed (f : FeedOp)
  | walk (dur : Nat) (duty : Nat) (pc : Nat) (ord : Nat)
  deriving DecidableEq, Repr

/-- A LOADW in an array's LOADW queue (R113), or the LOADW part of a shared FEED (R63). -/
structure LoadOp where
  share : Bool := false
  fmt   : Nat
  sp    : Bool
  dense : Bool := false
  ovf   : Bool := false
  col   : Bool := false
  kt    : Nat
  nt    : Nat
  src   : Opnd
  side  : Nat := 0
  pc    : Nat
  ord   : Nat
  /-- it writes the shadow registers (R54) -/
  started : Bool := false
  /-- its reads have been presented to the crossbar -/
  asked : Bool := false
  deriving DecidableEq, Repr

/-- A DRAIN in the drain queue (R116), with the rows it has read so far and its stage 6 factor. -/
structure DrainOp where
  arr  : Nat
  fmt  : Nat
  rnd  : Nat
  sat  : Bool
  act  : Nat
  dfn  : Nat
  bias : Bool
  ztap : Bool
  deriv : Bool
  sp24 : Bool
  add  : Bool
  clear : Bool
  lay  : Nat
  a0   : Nat
  rd   : Nat
  nd   : Nat
  dst  : Opnd
  bsrc : Nat
  zadr : Nat
  dsc  : Nat
  scale : W32 := 0
  pc   : Nat
  ord  : Nat
  row  : Nat := 0
  deriving DecidableEq, Repr

/-- A drained row on its way to the wings (R68): the bytes it stores, relative to the destination, the
BF16 bytes of its z tap at their own offset, the numeric events of what it writes (R45, R469), its element,
scale and metadata store accesses and whether they have been presented, whether it is the DRAIN's last row,
and whether a stop cut its DRAIN behind it (R148). -/
structure DRow where
  dst   : Opnd
  bytes : List (Nat × Byte)
  zbytes : List (Nat × Byte)
  add   : Bool
  last  : Bool
  len   : Nat
  row   : Nat
  pc    : Nat
  ord   : Nat
  sat   : Nat := 0
  inf   : Nat := 0
  nan   : Nat := 0
  stores : List (Nat × Nat × Bool) := []
  asked : Bool := false
  cut   : Bool := false
  deriving DecidableEq, Repr

/-- One end of a revolve (R119, R145, R146). Cursors are in bytes; CURSOR of RNG_STAT shows 256 B units. -/
structure RingEnd where
  opened   : Bool := false
  consumer : Bool := false
  peer     : Nat := 0
  prv      : Nat := 0
  nsl      : Nat := 0
  slsz     : Nat := 0
  base     : Nat := 0
  stall    : Nat := 0
  index    : Nat := 0
  count    : Nat := 0
  cursor   : Nat := 0
  icursor  : Nat := 0
  iindex   : Nat := 0
  /-- order numbers of the cues issued through this end and not yet performed, oldest first -/
  waiting  : List Nat := []
  /-- the FILLs and FREEs among them (R146) -/
  fills    : List Nat := []
  deriving DecidableEq, Repr

/-- A POST on its way (R91 to R93): target bay and semaphore, amount, and what its fence waits for: the
DRAINs (by order number) and MOVEs (by identifier) of the posting bay that were outstanding. -/
structure PostMsg where
  bay    : Nat
  sem    : Nat
  n      : Nat
  drains : List Nat
  moves  : List Nat
  pc     : Nat
  deriving DecidableEq, Repr

/-- A MOVE its bay presents to a stream engine, in issue stall until accepted (R117, R118). -/
structure MoveReq where
  /-- order of issue among the MOVEs of the module -/
  seq   : Nat
  eng   : Nat
  desc  : Nat
  srcAg : Option Nat
  dstAg : Option Nat
  done  : Option Nat
  pc    : Nat
  /-- the generators that advance when it issues, which is when an engine accepts it (R85, R89) -/
  steps : List Nat := []
  deriving DecidableEq, Repr

/-- A MATCH in the matcher queue (R125). -/
structure MatchOp where
  bitmap : Bool
  iof  : Bool
  la   : Nat
  lb   : Nat
  opn  : Nat
  srca : Opnd
  srcb : Opnd
  dst  : Opnd
  pc   : Nat
  ord  : Nat
  /-- its reads have been presented to the crossbar -/
  asked : Bool := false
  deriving DecidableEq, Repr

/-- A range of a part's range table (R77): RESIDENT or LIVE, offset and length in 256 B units. -/
structure PRange where
  resident : Bool
  ofs : Nat
  len : Nat
  deriving DecidableEq, Repr

/-- The requesters of the bay crossbar in the priority order of R137 (1 the highest). -/
structure XReq where
  prio   : Nat
  who    : Nat
  ord    : Nat
  /-- the accesses still to be granted, in order: first line, slot + 1 of a column access or 0 of a row
  access, store or read -/
  lines  : List (Nat × Nat × Bool)
  waited : Nat := 0
  aged   : Bool := false
  /-- its requester comes back for it: its grant is kept in `Bay.xdone` -/
  note   : Bool := false
  deriving DecidableEq, Repr

/-- The stop a bay has received (R96, R98). -/
inductive StopKind where
  | none | pointers | live
  deriving DecidableEq, Repr

/-- What the loader keeps of a resident part (R76, R77, R80): its tables, staging use, token and EXIT_GAP. -/
structure ResPart where
  ranges  : List PRange := []
  sems    : List (Nat × Nat) := []
  stage   : Nat := 0
  token   : W64 := 0
  exitGap : Nat := 0
  deriving DecidableEq, Repr

/-- The state a LIVE stop saves (R98); the live bytes go to device memory. -/
structure Stash where
  valid  : Bool := false
  sheet  : Nat
  hdrcrc : Nat
  pc     : Nat
  ldepth : Nat
  loops  : List Nat
  bodies : List Nat
  agbase : List Nat
  agdim  : List Nat
  sems   : List Nat
  live   : Nat
  rings  : List (Nat × RingEnd)
  /-- SELECTs of the command so far (R235) -/
  ord    : Nat := 0
  deriving DecidableEq, Repr

/-- A photocall that is copying (R383): `data` holds the lines read so far. -/
structure PhotoCopy where
  entry : Nat
  tag   : Nat
  src   : Nat
  lines : Nat
  step  : Nat
  odo   : Nat
  time  : Nat
  pc    : Nat
  sheet : Nat
  torn  : Bool := false
  data  : Bytes := []
  deriving DecidableEq, Repr

/-- One array of a bay: accumulators (key row × 128 + column), active and shadow weight registers (key
k × 128 + n), the words with ECC errors (key: accumulator, or 131,072 + weight register), skew registers,
tile records, pending tile and the two unit queues. -/
structure Arr where
  acc    : Tab W32 := []
  wact   : Tab WCell := []
  wshd   : Tab WCell := []
  errs   : Tab ErrMark := []
  skew   : Tab W16 := []
  recS   : Option TileRec := none
  recA   : Option TileRec := none
  pend   : Bool := false
  fq     : List FqEntry := []
  lq     : List LoadOp := []
  deriving DecidableEq, Repr

/-- A cue sample on its way to ring 2 (R379, R380): the odometer and the CK_A half cycles at its attempt, and the CK_A
cycles since the command's first. -/
structure Sample where
  lbay : Nat
  phys : Nat
  pc   : Nat
  odo  : Nat
  ca   : Nat
  rel  : Nat
  opcode : Nat
  sheet : Nat
  deriving DecidableEq, Repr

/-- What one physical bay holds beyond its registers. -/
structure Bay where
  wings    : Memory := []
  wingsErr : Tab ErrMark := []
  /-- the last correction of each word (word, elapsed time), and the banks and rows that await repair (R352) -/
  corrOnce : List (Nat × Nat) := []
  bankFix  : List Nat := []
  rowFix   : List Nat := []
  /-- elapsed times of corrected array errors (R355) -/
  corrTimes : List Nat := []
  cueMem   : Tab W64 := []
  arrs     : Tab Arr := []
  dq       : List DrainOp := []
  drows    : List DRow := []
  bias     : List W32 := []
  lfsr     : Tab W64 := []
  /-- the seed of the last seed point, while the bay's generators have yet to reload (R37) -/
  reseed   : Option W64 := none
  loopBody : Tab Nat := []
  rings    : Tab RingEnd := []
  credits  : List (Nat × Bool) := []
  posts    : List PostMsg := []
  moves    : List Nat := []
  present  : Option MoveReq := none
  matchQ   : List MatchOp := []
  held     : List (Nat × Nat) := []
  stall    : Option Nat := none
  /-- what holds the cue at the PC and the CK_A half cycles at which that began; those it was held before, by cause (R380) -/
  wait     : Option (Nat × Nat) := none
  waited   : Tab Nat := []
  halted   : Bool := false
  /-- the stop requested of the bay and not yet received, and the stop received -/
  stopReq  : StopKind := .none
  stop     : StopKind := .none
  saving   : Bool := false
  cid      : Option Nat := none
  /-- the resident-sheet entry the bay runs -/
  entry    : Option Nat := none
  /-- the part in force and its HDR_CRC -/
  part     : ResPart := {}
  sheetCrc : Nat := 0
  xreqs    : List XReq := []
  /-- granted accesses whose requesters have yet to use them: requester, order number -/
  xdone    : List (Nat × Nat) := []
  photo    : Option PhotoCopy := none
  check    : Bool := false
  sampCnt  : Nat := 0
  /-- CK_A half cycles at the start of its command -/
  startCa  : Nat := 0
  samples  : List Sample := []
  /-- entries of the resident-sheet table, least recently started first (R80), and what each part holds -/
  resOrder : List Nat := []
  resParts : Tab ResPart := []
  ord      : Nat := 0
  deriving DecidableEq, Repr

/-! ## Stream engines (R157 to R180) -/

/-- A decoded stream descriptor (R159). -/
structure Desc where
  write : Bool
  esz   : Nat
  nkind : Nat
  perm  : List Nat
  pad   : Nat
  watch : Bool
  spol  : Nat
  guarded : Bool
  fin   : Bool
  rv    : Nat
  fill  : W32
  floc  : Bool
  far   : Nat
  near  : Nat
  glo   : Nat
  ghi   : Nat
  ext   : List Nat
  stride : List Int
  bnd   : List Nat
  org   : List Int
  padlo : List Nat
  padhi : List Nat
  deriving DecidableEq, Repr

/-- A granule that a request of a MOVE fetched: its number, its bytes, whether it is in a stale-watch
ledger, stale watch's verdict, a refetch that is out, whether no window permitted it (`bad`, not fetched), and
whether an element of it has been taken, which settles its bytes (R177). -/
structure Fetched where
  granule : Nat
  bytes   : Bytes := []
  watched : Bool := false
  stale   : Bool := false
  refetch : Bool := false
  bad     : Bool := false
  taken   : Bool := false
  deriving DecidableEq, Repr

/-- A request in flight (R174): the elements it serves, in near order, and its granules. -/
structure Req where
  m0 : Nat
  m1 : Nat
  gs : List Fetched
  deriving DecidableEq, Repr

/-- One plane of a column move (R231): memory address of neuron 0, bytes between neurons, wings
destination, element size in half bytes, elements per neuron, placement by slot or by element, and fill. -/
structure ColPlane where
  base   : Nat
  stride : Nat
  dst    : Nat
  h      : Nat
  per    : Nat
  bySlot : Bool
  fill   : Nat
  deriving DecidableEq, Repr

/-- The column move of a SELECT (R231, R232): its planes, the neuron of each slot, direction, semaphore. -/
structure ColMove where
  scatter : Bool
  slots   : List (Option Nat)
  planes  : List ColPlane
  fsem    : Nat
  deriving DecidableEq, Repr

/-- How an overlapping copy is carried out (R179). -/
inductive Copying where
  | plain | moveLike | staged
  deriving DecidableEq, Repr

/-- Where bytes lie: a device address, or an offset in a bay's own wings (no window is checked, R171). -/
inductive Loc where
  | dev (a : Nat)
  | own (p : Nat) (o : Nat)
  deriving DecidableEq, Repr

/-- Half bytes gathered for one granule that a MOVE writes: where it begins, the values by half-byte offset (16: not
written), and the source granules they come from. -/
structure Piece where
  loc  : Loc
  nibs : Tab Nat := []
  srcs : List Nat := []
  deriving DecidableEq, Repr

/-- A MOVE an engine holds (R118, R173, R174): its place in the order of acceptance, `m` elements delivered,
requests issued for the elements below `ra`, `kept` the granules that later elements read again, `wbuf` the granules
being gathered, and whether an overlapping copy has read its source. -/
structure MoveOp where
  id    : Nat
  lbay  : Nat
  phys  : Nat
  cid   : Option Nat
  pc    : Nat
  descNo : Nat
  desc  : Option Desc
  col   : Option ColMove := none
  done  : Option Nat
  ring  : Option Opnd := none
  ord   : Nat := 0
  m     : Nat := 0
  ra    : Nat := 0
  acc   : Nat := 0
  reqs  : List Req := []
  kept  : List Fetched := []
  wbuf  : List Piece := []
  copying : Copying := .plain
  snap  : Bool := false
  deriving DecidableEq, Repr

/-- A stream engine: its queue of MOVEs, the transferring one first. -/
structure Engine where
  q : List MoveOp := []
  deriving DecidableEq, Repr

/-! ## Compute dies (R138 to R141, R228 to R236) -/

/-- A pending audit (R234): the command of its SELECT, the SELECT's ordinal in it, and the audit slots used. -/
structure Audit where
  cid   : Option Nat
  ord   : Nat
  slots : List Nat
  deriving DecidableEq, Repr

/-- A bay's context in its die's prompter: the header's words, the INT32 sums (key row × 64Q + column),
the pending audits, and the SELECTs of the command so far. -/
structure PCtx where
  header : List W64 := []
  valid  : Bool := false
  sums   : Tab W32 := []
  audits : List Audit := []
  ord    : Nat := 0
  deriving DecidableEq, Repr

/-- A PROMPT in a prompter (R124). -/
structure PromptOp where
  lbay  : Nat
  stg   : Nat
  sel   : Bool
  ntile : Nat
  pred  : Nat
  kval  : Nat
  src   : Nat
  dst   : Opnd
  pc    : Nat
  ord   : Nat
  /-- it executes; the list a SELECT with LIST_IN read when it started (R232) -/
  started : Bool := false
  list  : List Nat := []
  deriving DecidableEq, Repr

/-- A makeup entry (R235): logical bay, MSHEET, ordinal of its SELECT. -/
structure Makeup where
  lbay  : Nat
  sheet : Nat
  ord   : Nat
  deriving DecidableEq, Repr

/-- A bay swap under way on a die (R358): the logical bay and whether its frame F0 has begun. -/
structure Swap where
  lbay   : Nat
  checked : Bool := false
  inF0   : Bool := false
  copied : Bool := false
  f0     : Nat := 0
  deriving DecidableEq, Repr

/-- What one compute die holds beyond its registers and bays. -/
structure Die where
  green    : Memory := []
  greenErr : Tab ErrMark := []
  prompts  : List PromptOp := []
  ctx      : Tab PCtx := []
  /-- a column move the prompter holds while its queue is full (R231), and the queue's engine number -/
  colMove  : Option (Nat × MoveOp) := none
  makeup   : List Makeup := []
  /-- the command that holds the staging region (R141) -/
  stageCid : Option Nat := none
  swap     : Option Swap := none
  /-- the last correction of each green-room word: word, elapsed time (R352) -/
  corrOnce : List (Nat × Nat) := []
  deriving DecidableEq, Repr

/-! ## Port dies: depot, gather, check values, tollhouse (R186 to R297) -/

/-- The depot (R201): the lines held (line number, dirty), most recently used first, and its 8 B words that hold errors
(R203; key: address / 8). -/
structure Depot where
  lines  : List (Nat × Bool) := []
  errs   : Tab ErrMark := []
  disabling : Bool := false
  deriving DecidableEq, Repr

/-- A gather job that runs (R205): the command that started it, its code so far and unique count. -/
structure GatherJob where
  cid    : Nat
  recAddr : Nat
  notify : Option (Nat × Nat)
  code   : Nat
  ucount : Nat
  /-- it is a REDUCE (R251) -/
  reduce : Bool := false
  deriving DecidableEq, Repr

/-- A level-0 bundle at one role (R281, R284): contributors accepted, count, sums and flags. -/
structure Bundle0 where
  shard  : Nat
  bundle : Nat
  backup : Bool
  from_  : List Nat := []
  count  : Nat := 0
  sums   : List Int := []
  sat    : Nat := 0
  small  : Nat := 0xFFFFFFFF
  closed : Bool := false
  deriving DecidableEq, Repr

/-- A copy of a bundle arriving at level 1 or 2 (R285): its milepost, its source (troupe or circuit), the
sending role, the parts so far, and whether it was taken. -/
structure SumCopy where
  k      : Nat
  level  : Nat
  shard  : Nat
  bundle : Nat
  source : Nat
  backup : Bool
  part0  : Option (List Int) := none
  part1  : Option (List Int) := none
  ncontr : Nat := 0
  sat    : Nat := 0
  small  : Nat := 0
  taken  : Bool := false
  deriving DecidableEq, Repr

/-- A bundle closed at level 1 or 2 for the current milepost. -/
structure ClosedBundle where
  level  : Nat
  shard  : Nat
  bundle : Nat
  deriving DecidableEq, Repr

/-- A carry slot in use (R283). -/
structure Carry where
  shard  : Nat
  bundle : Nat
  backup : Bool
  sender : Nat
  data   : Bytes
  exps   : Bytes
  milepost : Nat
  deriving DecidableEq, Repr

/-- A snapshot that streams (R256 to R259): its request, the next record to stream and the address its
stream takes, the manifest entries so far and the code that ended it. -/
structure Snap where
  cid  : Nat
  dest1 : Bool
  peer : Nat
  manifest : Bool
  milepost : Nat
  daddr : Nat
  first : Nat
  nshard : Nat
  maddr : Nat
  next : Nat
  addr : Nat
  entries : Bytes := []
  code : Option Nat := none
  deriving DecidableEq, Repr

/-- A host scan that runs (R212): the range and algorithm it started with. -/
structure Scan where
  start : Nat
  len   : Nat
  alg   : Nat
  deriving DecidableEq, Repr

/-- What one port die holds beyond its registers. -/
structure Port where
  /-- the scans of its two check-value engines -/
  scans  : Tab (Option Scan) := []
  depot  : Depot := {}
  gather : Option GatherJob := none
  lfsr   : Tab W64 := []
  snap   : Option Snap := none
  deriving DecidableEq, Repr

/-! ## The fabric (R260 to R294) -/

/-- Link state of a Felsyn port: TROUPE sequence numbers, frames sent and not acknowledged, frames a full replay buffer
holds back (R270), the port number its peer reported (R264), once the right peer's HELLO has come (R262). -/
structure FPort where
  txSeq   : Nat := 0
  rxSeq   : Nat := 0
  unacked : List Frame := []
  waiting : List Frame := []
  peerPort : Option Nat := none
  deriving DecidableEq, Repr

/-- What a port's link partner offers (R261): the two interfaces that a port supports, at 200 Gb/s on each of four lanes
behind RS(544,514), or anything else. -/
inductive LinkOffer where
  | gaui4 | cr4 | other
  deriving DecidableEq, Repr

/-- A SWITCH flow to and from one device (R271): next SEQ, unacknowledged frames with the retransmissions made,
frames a full window holds back, and what has been received. -/
structure Flow where
  txSeq   : Nat := 0
  unacked : List (Frame × Nat) := []
  waiting : List Frame := []
  rxCum   : Nat := 0
  rxMap   : List Nat := []
  deriving DecidableEq, Repr

/-- An exchange entry (R276). -/
structure XEnt where
  count : Nat
  wfmt : Nat
  single : Bool
  tlh : Nat
  owner : Nat
  record : Nat
  sums : Nat
  wcb : Nat
  wcf : Nat
  wcs : Nat
  pstride : Nat
  scales : Nat
  work : Nat
  deriving DecidableEq, Repr

/-- What an opened milepost still does with the gradient sums (R244, R280): a bundle's sums are read and sent, or zeroed; a
record of a tollhouse is updated from the device's own sums or its gather job, or those sums are zeroed. -/
inductive SumStep where
  | send (sh b : Nat)
  | zero (sh b : Nat)
  | own (p i : Nat)
  | zeroOwn (p i : Nat)
  deriving DecidableEq, Repr

/-- The milepost in hand (R279 to R292). -/
structure Milepost where
  cid    : Option Nat := none
  k      : Nat := 0
  tk     : Nat := 0
  /-- T_k was reached and no check refused the command: the device takes part in milepost k -/
  opened : Bool := false
  /-- the exchange entries as they were checked at T_k, and the work on the sums that is still to be done -/
  xt     : List XEnt := []
  todo   : List SumStep := []
  /-- open time of the previous milepost command -/
  prev   : Option Nat := none
  b0     : List Bundle0 := []
  copies : List SumCopy := []
  closed : List ClosedBundle := []
  /-- owned bundles updated for k -/
  updated : List (Nat × Nat) := []
  /-- parameter parts written for k: (shard, bundle, part) -/
  parts : List (Nat × Nat × Nat) := []
  /-- bundles for which a RESYNC has had its PREQ -/
  preqs : List (Nat × Nat) := []
  carries : Tab Carry := []
  /-- the last milepost applied to a record, plus 1; key port die × 4,096 + record -/
  applied : Tab Nat := []
  /-- addresses of the gather job records that completed in this interval, in order (R251) -/
  jobs   : List Nat := []
  /-- bytes of a peer's snapshot stream received: ranges (address, length), values, the chunks already checked, and the
  frames' bytes (address, bytes) of which it is not known yet whether they are data or check values -/
  snapHave : List (Nat × Nat) := []
  snapRx : Memory := []
  snapChecked : List Nat := []
  snapWait : List (Nat × Bytes) := []
  deriving DecidableEq, Repr

/-- Fabric state outside the registers, and the frames sent, oldest first. -/
structure Fabric where
  ports  : Tab FPort := []
  flows  : Tab Flow := []
  tx     : List Frame := []
  mp     : Milepost := {}
  /-- FAB_DEVNO and FAB_TOPO have been written (R269) -/
  devSet  : Bool := false
  topoSet : Bool := false
  lastExchange : Nat := 0
  /-- a time set that waits for its PPS edge: its value and the elapsed time of its write (R275) -/
  timeSet : Option (Nat × Nat) := none
  lastPps : Option Nat := none
  deriving DecidableEq, Repr

/-! ## The running order (R298 to R324) -/

/-- A slot entry (R301). -/
structure SlotEntry where
  kind : Nat := 0
  be   : Bool := false
  ovr  : Nat := 0
  curt : Bool := false
  units : Nat := 0
  op   : Nat := 0
  sheet : Nat := 0
  slack : Nat := 0
  lanemask : W64 := 0
  budget : Nat := 0
  arg  : Nat := 0
  deriving DecidableEq, Repr

/-- A running-order image in force (R298). -/
structure ROImage where
  tf : Nat
  live : Bool
  reh : Bool
  catbase : Nat
  catn : Nat
  stashbase : Nat
  stashsz : Nat
  nact : Nat
  slots : Tab SlotEntry
  deriving DecidableEq, Repr

/-- Where a command came from: a call board and its command index, a TABLE slot (act × 64 + slot), or
the makeup queue of a die. -/
inductive Src where
  | board (e : Nat) (i : Nat)
  | table (slot : Nat)
  | makeup (d : Nat) (m : Makeup)
  deriving DecidableEq, Repr

/-- The phases of a command the running order has created. -/
inductive Phase where
  | starting | loading | running | stopping | parked | aborting
  deriving DecidableEq, Repr

/-- A row of a sheet's part table (R76), and whether the part is resident (R80). -/
structure PartRow where
  bay    : Nat
  stage  : Nat
  nrange : Nat
  nsem   : Nat
  base   : Nat
  lenm1  : Nat
  ofs    : Nat
  crc    : Nat
  resident : Bool := false
  deriving DecidableEq, Repr

/-- What the loader has read of a sheet's header and part table (R76, R81). -/
structure SheetPlan where
  image   : Nat
  level   : Nat
  token   : W64
  exitGap : Nat
  hdrcrc  : Nat
  rows    : List PartRow
  deriving DecidableEq, Repr

/-- A started command: its operation (R308), the units it holds, and what the slot that started it gave. -/
structure Cmd where
  id    : Nat
  src   : Src
  op    : Nat
  sheet : Nat := 0
  mask  : W64 := 0
  port  : Nat := 0
  arg   : Nat := 0
  k     : Nat := 0
  tk    : Nat := 0
  be    : Bool
  phase : Phase := .starting
  slack : Nat
  ovr   : Nat
  curt  : Bool
  budget : Nat
  act   : Nat
  slot  : Nat
  /-- elapsed time of the boundary that created or resumed it, and of its start -/
  born  : Nat := 0
  start : Nat
  overbud : Bool := false
  /-- its start has been noted: STATE RUNNING, START and the COMMAND record (R311, R377) -/
  noted : Bool := false
  fcode : Option Nat := none
  scodes : List Nat := []
  flags : Nat := 0
  liveStop : Bool := false
  curtAfter : Bool := false
  /-- its HDR_CRC and the sheet's plan while it loads, the verdict of check 6, whether it resumes -/
  hdrcrc : Nat := 0
  plan  : Option SheetPlan := none
  staged : Option Bool := none
  resume : Bool := false
  deriving DecidableEq, Repr

/-- A call board (R305): its 32 words as BAR4 shows them, the module's copy, and the entry's progress. -/
structure Board where
  words : Tab W64 := []
  copy  : Tab W64 := []
  cmd   : Nat := 0
  eligible : Bool := false
  since : Nat := 0
  fcode : Option (Nat × Nat) := none
  scodes : List (Nat × Nat) := []
  flags : Nat := 0
  latched : Bool := false
  parked : Option Nat := none
  missed : Bool := false
  deriving DecidableEq, Repr

/-- The running-order engine outside its registers. -/
structure RunOrder where
  image : Option ROImage := none
  next  : Option ROImage := none
  /-- system time at which the next image takes effect, and the elapsed time before which a first image does not (R304) -/
  nextAt : Nat := 0
  nextEl : Nat := 0
  stopping : Bool := false
  /-- elapsed time of the last slot boundary, and the system time before which no boundary acts (R300) -/
  lastEl : Nat := 0
  noneBefore : Nat := 0
  cmds  : List Cmd := []
  nextId : Nat := 0
  seedPending : Bool := false
  /-- the seed formed for each logical bay at the last seed point (R37, R38) -/
  seeds : Tab W64 := []
  /-- the next logical bay of the margin checks' rotation, and the elapsed time of each bay's last check, plus 1 (R350) -/
  checkRot : Nat := 0
  lastCheck : Tab Nat := []
  /-- the frame in force; it began at its first slot; it is lost or excluded (R363 to R365); when the last one ended -/
  frame : Nat := 0
  frameWhole : Bool := false
  frameLost : Bool := false
  frameExcl : Bool := false
  lastFrameEnd : Nat := 0
  deriving DecidableEq, Repr

/-! ## Curtain, windows, envelope, observation, tableau, boot, trust, host -/

/-- A curtain's masks (R149, R150). -/
structure Curt where
  bays : W64
  grm  : Byte
  keep : Bool
  deriving DecidableEq, Repr

/-- A memory window in force (R171): first and last granule, permissions. -/
structure Window where
  base  : Nat := 1
  limit : Nat := 0
  rd    : Bool := false
  w     : Bool := false
  deriving DecidableEq, Repr

/-- A draw schedule entry (R326). -/
structure SchedEntry where
  start : Nat
  pmax  : Nat
  pmin  : Nat
  holdroom : Bool
  rup   : Nat
  rdn   : Nat
  deriving DecidableEq, Repr

/-- A draw schedule (R325): its serial, entries and the digest of its bytes 0 to 1,087. -/
structure Schedule where
  serial  : Nat
  entries : List SchedEntry
  digest  : Bytes
  deriving DecidableEq, Repr

/-- What the current minute's record has gathered (R342). -/
structure MinuteAcc where
  ramphold : Nat := 0
  caplimit : Nat := 0
  short    : Nat := 0
  thermticks : Nat := 0
  sheds    : Nat := 0
  sags     : Nat := 0
  drops    : Nat := 0
  surges   : Nat := 0
  shedNs   : Nat := 0
  holdover : Bool := false
  clockstep : Bool := false
  change   : Bool := false
  tableau  : Bool := false
  serial   : Nat := 0
  index    : Nat := 0
  w0       : W64 := 0x0DAC0000
  w1       : W64 := 0
  digest   : Bytes := []
  /-- the metering for the power-fail record: energy in pJ, time covered in ns, highest tick mean in W, highest and
  lowest mean of 100 ms in W -/
  energy   : Nat := 0
  cover    : Nat := 0
  ppeak    : Nat := 0
  pmax     : Nat := 0
  pmin     : Option Nat := none
  deriving DecidableEq, Repr

/-- Where a schedule that is being verified came from (R327, R465). -/
inductive SchedSrc where
  | host (addr : Nat)
  | mgmt (image : Bytes)
  deriving DecidableEq, Repr

/-- The envelope outside its registers (R325 to R344). -/
structure Envelope where
  /-- the schedule in force, and one accepted that waits for a tick (R328) -/
  cur     : Option Schedule := none
  accepted : Option Schedule := none
  /-- the serial that check 5 compares with (R329) -/
  serialCmp : Nat := 0
  /-- the entry in force; none: the default entry -/
  entry   : Option SchedEntry := none
  load    : Option SchedSrc := none
  /-- R in nW; R is to be the measured P of the next tick (R331) -/
  r       : Nat := 0
  rFresh  : Bool := true
  /-- elapsed times at which the shed and the sag in force began -/
  shedStart : Nat := 0
  /-- elapsed time at which the last shed lifted: no command starts before a slot boundary after it (R319) -/
  shedOver : Nat := 0
  sagStart : Nat := 0
  /-- elapsed time up to which SHEDMS of the minute has been taken (R342) -/
  shedMark : Nat := 0
  /-- pJ below a whole mJ of ENV_ENERGY; the 100 ms of system time that a mean is taken over, its pJ and ns so far -/
  energySub : Nat := 0
  meanAt  : Nat := 0
  meanPj  : Nat := 0
  meanNs  : Nat := 0
  acc     : MinuteAcc := {}
  /-- regulator phases lost of each rail (R354) -/
  phases  : Tab Nat := []
  deriving DecidableEq, Repr

/-- The central reader outside its registers. -/
structure Obs where
  dumpSeq  : Nat := 0
  missed   : Nat := 0
  gap      : Bool := false
  bwCount  : Tab Nat := []
  pinArmed : List Nat := []
  /-- EVT_IO pulses given, and PHOTO_DROP occurrences (R123, R385) -/
  strobe   : Nat := 0
  /-- elapsed time at which the last pulse ends -/
  strobeEnd : Nat := 0
  photoDrop : Nat := 0
  /-- trigger of the tableau in force: the pin, or the register (R387) -/
  tabPin : Bool := false
  deriving DecidableEq, Repr

/-- The flash (R421, R425, R432): the bytes of each slot, `none` while it holds what was delivered, and the active
slot of each image. -/
structure Flash where
  slots  : Tab (Option Bytes) := []
  active : Tab Nat := []
  deriving DecidableEq, Repr

/-- The module's power (R339, R340, R414): off, on, dark (AON, MGT and self-refresh run from the bulk), or stopped by
THERMTRIP_N. -/
inductive Power where
  | off | on | dark | tripped
  deriving DecidableEq, Repr

/-- Boot state outside its registers (R408 to R427). -/
structure Boot where
  power   : Power := .on
  /-- boot has halted at its stage -/
  halted  : Bool := false
  /-- the boot under way takes the warm path: DDR kept its content in self-refresh (R413, R417) -/
  keepDdr : Bool := false
  /-- the population has been found good, memory is trained, the self-test is done, DDR is zeroed -/
  trained : Bool := false
  selftest : Bool := false
  zeroed  : Bool := false
  /-- MEM_CFG.RATEMAX at the last training (R417), and the data rates that every module supports, the highest first (R188),
  by their codes -/
  trainedRate : Nat := 0
  rates : List Nat := []
  /-- the reserve of channel retirement is enabled, and the sockets hold MR144 modules (R186, R197) -/
  reserve : Bool := false
  mr144   : Bool := false
  /-- end of the last frame before a reset, and whether the time since is lost rather than excluded (R364, R365) -/
  gapFrom : Option (Nat × Bool) := none
  /-- elapsed time at which the boot began, and at which PWR_OK fell -/
  start   : Nat := 0
  pwrLowAt : Nat := 0
  measures : Tab Bytes := []
  deriving DecidableEq, Repr

/-- What non-volatile storage keeps beside the flash and the RWS fields. -/
structure NV where
  facKey : Bytes := []
  opKey  : Bytes := []
  meters : Tab Bytes := []
  prevDigest : Bytes := []
  powerFail : Option Bytes := none
  spareRows : Tab Nat := []
  spareBanks : Tab Nat := []
  greenRows : Tab Nat := []
  greenBanks : Tab Nat := []
  wires  : Tab Nat := []
  deriving DecidableEq, Repr

/-- A trust message or its response (R435). -/
structure Msg where
  port  : Bool
  bytes : Bytes
  deriving DecidableEq, Repr

/-- An update in progress (R439). -/
structure Update where
  target : Nat
  slot   : Nat
  total  : Nat
  data   : Memory := []
  got    : List (Nat × Nat) := []
  deriving DecidableEq, Repr

/-- The trust functions (R435 to R441). -/
structure Trust where
  queue   : List Msg := []
  doePart : Bytes := []
  doeOut  : Bytes := []
  /-- the DOE object in hand was discarded: its sender is to repeat it (R362, R452) -/
  doeError : Bool := false
  mgmtPart : Bytes := []
  mgmtOut : Bytes := []
  update  : Option Update := none
  deriving DecidableEq, Repr

/-- The management port (R465): the pending result, its command byte, and the schedule buffer. -/
structure Mgmt where
  result : Option Bytes := none
  ibi    : List Nat := []
  lastRead : Bytes := []
  buf    : Memory := []
  /-- ranges of the buffer that SCHED_DATA has written: offset and length -/
  have_  : List (Nat × Nat) := []
  deriving DecidableEq, Repr

/-- One write the module sends to host memory. -/
structure HostWrite where
  addr : Nat
  data : Bytes
  noSnoop : Bool
  deriving DecidableEq, Repr

/-- A BAR2 access at a device address that a memory scrub holds (R196, R449). -/
inductive HostAccess where
  | read (a len : Nat)
  | write (a : Nat) (data : Bytes)
  deriving DecidableEq, Repr

/-- A completion the endpoint sent for a read: its data, the EP bit, and Unsupported Request (R447, R449, R455). -/
structure Completion where
  data     : Bytes := []
  poisoned : Bool := false
  ur       : Bool := false
  deriving DecidableEq, Repr

/-- The host port outside its registers: BAR2's size as a power of two, function power, Bus Master
Enable, held halves (R447), messages, writes and completions sent, oldest first. -/
structure HostPort where
  bar2log : Nat := 34
  /-- Max_Payload_Size of the configuration space -/
  mps     : Nat := 128
  d3      : Bool := false
  bme     : Bool := true
  fmask   : Bool := false
  /-- lower halves written and held, by BAR0 offset -/
  heldLow : Tab (Option Nat) := []
  msix    : List Nat := []
  /-- vectors that wait for the return to D0 (R444) -/
  owed    : List Nat := []
  writes  : List HostWrite := []
  comps   : List Completion := []
  /-- the link has been up since the last reset: a training is a retraining (R455, R456) -/
  linked  : Bool := false
  /-- BAR2 accesses held by a scrub, oldest first -/
  waiting : List HostAccess := []
  deriving DecidableEq, Repr

/-- The pins (R459, R461); active-low pins by their level. -/
structure Pins where
  pwrEn    : Bool := true
  pwrOk    : Bool := true
  shedN    : Bool := true
  tableauN : Bool := true
  alertN   : Bool := true
  thermtripN : Bool := true
  perstN   : Bool := true
  ppsOut   : Nat := 0
  deriving DecidableEq, Repr

/-- Time: system time and elapsed time in ns, the sub-nanosecond rest in 1/47 ns, the common odometer
of all blocks in CK_C cycles, and what a time set has established. -/
structure Clock where
  sys   : Nat := 0
  el    : Nat := 0
  sub   : Nat := 0
  /-- slewing (R273): the phase still to be corrected and what has been corrected below 1 ns, in 1/(47 × 10^9) ns, and the
  correction of the rate in parts per 10^9 -/
  slew  : Int := 0
  rate  : Int := 0
  slewSub : Int := 0
  odo   : Nat := 0
  /-- half CK_A cycles that have passed (R333, R380) -/
  ca    : Nat := 0
  timeKnown : Bool := false
  deriving DecidableEq, Repr

/-- The channel retirement in hand (R198): a request waits in `granule` counts of MEM_MIGPOS. -/
structure Retire where
  chan  : Option Nat := none
  deriving DecidableEq, Repr

/-- One granule in a stale-watch ledger (R176). -/
structure LedgerEntry where
  granule : Nat
  move    : Nat
  eng     : Nat
  deriving DecidableEq, Repr

/-- The faults of a step. -/
inductive Fault where
  /-- Raised by a command that names a unit the module does not have (a logical bay above 63, a stream
  engine above 103, a port die above 3): nothing exists there. Safe: the model stops. -/
  | noSuchUnit (unit : Nat)
  deriving DecidableEq, Repr

/-- The refusals of a step. -/
inductive Refusal where
  /-- A command whose meaning is not written. Safe: the model stops. -/
  | notModelled (mnemonic : String)
  deriving DecidableEq, Repr

/-- The module. -/
structure State where
  /-- commands that wait, first in first out -/
  pending : List Instr := []
  clk     : Clock := {}
  /-- registers that differ from their reset values -/
  regs    : List (Reg × W64) := []
  mem     : Memory := []
  memErr  : Tab ErrMark := []
  /-- how many tries of the next DRAM access to a granule meet a link error (R192) -/
  busErr  : Tab Nat := []
  /-- what the link partners of the Felsyn ports offer (R261, log entry 103); 800GAUI-4 where none is listed -/
  partners : Tab LinkOffer := []
  bays    : Tab Bay := []
  engines : Tab Engine := []
  dies    : Tab Die := []
  ports   : Tab Port := []
  windows : Tab Window := []
  winPend : Option (Tab Window) := none
  ledger  : List LedgerEntry := []
  nextMove : Nat := 0
  /-- MOVEs accepted so far, by every engine (R170) -/
  accepted : Nat := 0
  boards  : Tab Board := []
  ro      : RunOrder := {}
  curt    : Option Curt := none
  curtQ   : Option Curt := none
  env     : Envelope := {}
  fab     : Fabric := {}
  obs     : Obs := {}
  /-- system time and elapsed time of the freeze, and its source, while a tableau holds -/
  frozen  : Option (Nat × Nat × Nat) := none
  retire  : Retire := {}
  flash   : Flash := {}
  boot    : Boot := {}
  nv      : NV := {}
  trust   : Trust := {}
  mgmt    : Mgmt := {}
  host    : HostPort := {}
  pins    : Pins := {}
  stashes : Tab Stash := []
  /-- index of the next free value (a model's own field, log entry 10) -/
  free    : Nat := 0
  deriving DecidableEq, Repr

/-- The module right after a power-on reset: every register at its reset value, every store empty, no
command waiting; AON powered, boot about to begin. -/
def State.reset : State := {}

end Sys2Proof.Machine
end

