-- ==== Sys2Proof/Machine/Tab.lean ====
section
/-! DEFINITION. Sparse tables and byte storage: reading, writing and the canonical form. -/

namespace Sys2Proof.Machine

/-- The entry of key `i`, or the table's default `d`. -/
def Tab.get {α : Type} (d : α) : Tab α → Nat → α
  | [], _ => d
  | (k, v) :: t, i => if k = i then v else Tab.get d t i

/-- The table without key `i`. -/
def Tab.erase {α : Type} : Tab α → Nat → Tab α
  | [], _ => []
  | (k, v) :: t, i => if k = i then Tab.erase t i else (k, v) :: Tab.erase t i

/-- Key `i` put before the first greater key. -/
def Tab.insert {α : Type} : Tab α → Nat → α → Tab α
  | [], i, v => [(i, v)]
  | (k, w) :: t, i, v => if i < k then (i, v) :: (k, w) :: t else (k, w) :: Tab.insert t i v

/-- The table with entry `v` for key `i`; an entry equal to the default is not listed. -/
def Tab.set {α : Type} [DecidableEq α] (d : α) (t : Tab α) (i : Nat) (v : α) : Tab α :=
  if v = d then Tab.erase t i else Tab.insert (Tab.erase t i) i v

/-- The table with the entry of key `i` changed by `f`. -/
def Tab.mod {α : Type} [DecidableEq α] (d : α) (t : Tab α) (i : Nat) (f : α → α) : Tab α :=
  Tab.set d t i (f (Tab.get d t i))

/-- Every entry changed by `f`; an entry that becomes the default is not listed. -/
def Tab.mapVals {α : Type} [DecidableEq α] (d : α) (f : α → α) (t : Tab α) : Tab α :=
  (List.map (fun x => (x.1, f x.2)) t).filter fun x => decide (x.2 ≠ d)

/-- Every key of the table is greater than `lo`, keys rise, and no entry equals the default. -/
def Tab.wfFrom {α : Type} [DecidableEq α] (d : α) : Tab α → Nat → Bool
  | [], _ => true
  | (k, v) :: t, lo => decide (lo ≤ k) && !decide (v = d) && Tab.wfFrom d t (k + 1)

/-- The canonical form: keys strictly rise and no entry equals the default. -/
def Tab.wf {α : Type} [DecidableEq α] (d : α) (t : Tab α) : Bool := Tab.wfFrom d t 0

/-! ## Bytes -/

/-- Canonical byte storage: addresses strictly rise, no listed byte is 0 (what an unlisted address reads as). -/
def Memory.wf (m : Memory) : Bool := Tab.wf (0 : Byte) m

/-- One byte. -/
def Memory.read (m : Memory) (a : Nat) : Byte := Tab.get (0 : Byte) m a
/-- One byte written. -/
def Memory.write (m : Memory) (a : Nat) (b : Byte) : Memory := Tab.set (0 : Byte) m a b

/-- `n` bytes from `a` upward. -/
def Memory.readN (m : Memory) (a : Nat) : Nat → Bytes
  | 0 => []
  | n + 1 => m.read a :: Memory.readN m (a + 1) n

/-- The bytes of `bs` from `a` upward. -/
def Memory.writeN (m : Memory) (a : Nat) : Bytes → Memory
  | [] => m
  | b :: bs => Memory.writeN (m.write a b) (a + 1) bs

/-- Bytes written at their addresses, one after the other. -/
def Memory.put (m : Memory) (bs : List (Nat × Byte)) : Memory := bs.foldl (fun m x => m.write x.1 x.2) m

/-- Every byte in `[a, a + n)` reads as zero afterwards. -/
def Memory.zero (m : Memory) (a n : Nat) : Memory :=
  m.filter fun c => !(decide (a ≤ c.1) && decide (c.1 < a + n))

/-- A little-endian number (R8: byte order of the module is little-endian). -/
def leVal : Bytes → Nat
  | [] => 0
  | b :: bs => b.toNat + 256 * leVal bs

/-- `n` bytes of a number, least significant first. -/
def leBytes : Nat → Nat → Bytes
  | 0, _ => []
  | n + 1, v => BitVec.ofNat 8 v :: leBytes n (v / 256)

/-- `n` bytes of a number, most significant first. -/
def beBytes (n v : Nat) : Bytes := (leBytes n v).reverse
/-- A big-endian number. -/
def beVal (bs : Bytes) : Nat := leVal bs.reverse

/-- The little-endian number of `n` bytes at `a`. -/
def Memory.num (m : Memory) (a n : Nat) : Nat := leVal (m.readN a n)

/-- Bits `lo` to `lo + w - 1` of a number. -/
def bits (v lo w : Nat) : Nat := v / 2 ^ lo % 2 ^ w

/-- Bit `i` of a number. -/
def bit (v i : Nat) : Bool := v.testBit i

/-- A number of `w` bits read as two's complement. -/
def signed (w v : Nat) : Int := if v < 2 ^ (w - 1) then (v : Int) else (v : Int) - 2 ^ w

/-- An integer as `w` bits of two's complement. -/
def unsigned (w : Nat) (i : Int) : Nat := (i % 2 ^ w).toNat

end Sys2Proof.Machine
end

