-- ==== Sys2Proof/Machine/Crc.lean ====
section
/-! DEFINITION. Check values (R210) and the hash of FIPS 202 that the trust functions name (SHA3-512). -/

namespace Sys2Proof.Machine

/-- Eight steps of a bit-reflected CRC register with the reflected polynomial `poly`. -/
def crcBits (poly : Nat) : Nat → Nat → Nat
  | 0, c => c
  | n + 1, c => crcBits poly n (if c % 2 = 1 then c / 2 ^^^ poly else c / 2)

/-- The register after some bytes (R210). -/
def crcRun (poly : Nat) : Nat → Bytes → Nat
  | run, [] => run
  | run, b :: bs => crcRun poly (crcBits poly 8 (run ^^^ b.toNat)) bs

/-- The reflected polynomials of ALG 0 (CRC-32C) and ALG 1 (CRC-64). -/
def crcPoly (alg : Nat) : Nat := if alg = 0 then 0x82F63B78 else 0xC96C5795D7870F42
/-- Initial register and output mask of each algorithm. -/
def crcOnes (alg : Nat) : Nat := if alg = 0 then 0xFFFFFFFF else 0xFFFFFFFFFFFFFFFF

/-- CRC-32C of a byte string. -/
def crc32c (bs : Bytes) : Nat := crcRun (crcPoly 0) (crcOnes 0) bs ^^^ crcOnes 0
/-- CRC-64 of a byte string. -/
def crc64 (bs : Bytes) : Nat := crcRun (crcPoly 1) (crcOnes 1) bs ^^^ crcOnes 1

/-- The Ethernet frame check sequence (R264): the CRC-32 of IEEE 802.3. -/
def crcEther (bs : Bytes) : Nat := crcRun 0xEDB88320 0xFFFFFFFF bs ^^^ 0xFFFFFFFF

/-! ## SHA3-512 (FIPS 202) -/

/-- A 64-bit lane rotated left. -/
def rol64 (v n : Nat) : Nat := (v * 2 ^ n % 2 ^ 64) ||| (v / 2 ^ (64 - n))

/-- The lane permutation with its rotations: for t = 0 … 23, where lane (x, y) goes and by how much. -/
def keccakPath : Nat → Nat → Nat × Nat → List (Nat × Nat × Nat)
  | 0, _, _ => []
  | n + 1, t, (x, y) =>
    let r := (t + 1) * (t + 2) / 2 % 64
    let y' := (2 * x + 3 * y) % 5
    (x + 5 * y, y + 5 * y', r) :: keccakPath n (t + 1) (y, y')

/-- The output of the register of ι (FIPS 202: x^8 + x^6 + x^5 + x^4 + 1), step after step. -/
def iotaBits : Nat → Nat → List Nat
  | 0, _ => []
  | n + 1, r => r % 2 :: iotaBits n (if r < 128 then 2 * r else 2 * r ^^^ 0x171)

/-- The lane that ι adds in a round: seven output bits, bit j at place 2^j − 1. -/
def iotaLane : Nat → List Nat → Nat
  | _, [] => 0
  | j, b :: bs => b * 2 ^ (2 ^ j - 1) + iotaLane (j + 1) bs

/-- The constants of `n` rounds from the register's output. -/
def iotaLanes : Nat → List Nat → List Nat
  | 0, _ => []
  | n + 1, bs => iotaLane 0 (bs.take 7) :: iotaLanes n (bs.drop 7)

/-- The constants of the 24 rounds. -/
def keccakRC : List Nat := iotaLanes 24 (iotaBits 168 1)

/-- One round on 25 lanes (lane x + 5y). -/
def keccakRound (a : List Nat) (rc : Nat) : List Nat :=
  let at_ (l : List Nat) (i : Nat) := l.getD i 0
  let c := (List.range 5).map fun x => (List.range 5).foldl (fun v y => v ^^^ at_ a (x + 5 * y)) 0
  let d := (List.range 5).map fun x => at_ c ((x + 4) % 5) ^^^ rol64 (at_ c ((x + 1) % 5)) 1
  let a := (List.range 25).map fun i => at_ a i ^^^ at_ d (i % 5)
  let b := (keccakPath 24 0 (1, 0)).foldl (fun b m => b.set m.2.1 (rol64 (at_ a m.1) m.2.2)) a
  let e := (List.range 25).map fun i =>
    at_ b i ^^^ ((2 ^ 64 - 1 - at_ b ((i + 1) % 5 + i / 5 * 5)) &&& at_ b ((i + 2) % 5 + i / 5 * 5))
  e.set 0 (at_ e 0 ^^^ rc)

/-- Blocks of 72 B absorbed one after another. -/
def sha3Absorb : Nat → List Nat → Bytes → List Nat
  | 0, a, _ => a
  | n + 1, a, bs =>
    let blk := bs.take 72
    let a := (List.range 25).map fun i => a.getD i 0 ^^^ leVal ((blk.drop (8 * i)).take 8)
    sha3Absorb n (keccakRC.foldl keccakRound a) (bs.drop 72)

/-- SHA3-512 of a byte string: 64 B. -/
def sha3 (bs : Bytes) : Bytes :=
  let fill := 72 - bs.length % 72
  let tail : Bytes := if fill = 1 then [0x86] else 0x06 :: (List.replicate (fill - 2) 0 ++ [0x80])
  let a := sha3Absorb ((bs.length + fill) / 72) (List.replicate 25 0) (bs ++ tail)
  ((a.take 8).flatMap (leBytes 8))

end Sys2Proof.Machine
end

