-- ==== Sys2Proof/Config.lean ====
section
/-! DEFINITION. What the manual leaves open: free values (opaque constants with no body, so that no
proof can see a value of them) and the functions of the standards the manual names without restating
them (signatures of FIPS 204). A claim holds whatever these are. Log entries 10 to 19 name each. -/

namespace Sys2Proof.Config

/-- The n-th free 64-bit value: used where the manual states no value and the machine goes on. -/
opaque freeValue : Nat → BitVec 64

/-- R67: which of the FP32 values within 4 units in the last place an activation function or a
derivative delivers, for a function code and an input. -/
opaque actValue : (deriv : Bool) → (code : Nat) → BitVec 32 → BitVec 32

/-- R249: β^t is within 2 units in the last place: which of those values the tollhouse uses. -/
opaque powValue : (beta : BitVec 32) → (t : Nat) → BitVec 32

/-- R273: the correction of a device's rate, in parts per 10^9, that an exchange of the given offset makes of the rate
before, the given time (ns) after the exchange before it. -/
opaque slewRate : (offset : Int) → (since : Nat) → (rate : Int) → BitVec 18

/-- FIPS 204 (ML-DSA-87): does `sig` verify for the SHA3-512 digest `dig` under the public key `key`? -/
opaque mldsaVerify : (key dig sig : List (BitVec 8)) → Bool

/-- FIPS 204: the signature of the device identity key over a SHA3-512 digest (4,627 B). -/
opaque identitySign : (dig : List (BitVec 8)) → List (BitVec 8)

/-- The module's identity public key (R431): 2,592 B generated at manufacture from fuse entropy. -/
opaque identityKey : List (BitVec 8)

/-- Nirarn's root public key, and its SHA3-512, set in fuses at manufacture (R430). -/
opaque rootKey : List (BitVec 8)
opaque rootHash : List (BitVec 8)

/-- The device certificate in flash (R430, R432), 7,328 B issued by Nirarn. -/
opaque deviceCert : List (BitVec 8)

/-- The marks of the shipped hardware stepping (R423: they read in RST_IMG5; the manual lists no values). -/
opaque steppingMarks : List (BitVec 32)

/-- VERSION and marks of the boot ROM (R421), set by the stepping; the manual gives no value. -/
opaque romVersion : BitVec 32
opaque romMarks : List (BitVec 32)

/-- The content of each flash slot as delivered (R421, R425, R432): the manual prints no image. -/
opaque deliveredFlash : (slot : Nat) → List (BitVec 8)

/-- The content of the 64 KiB of die-level state and of the sequencer and port state pages of the
tableau (R389): the manual gives their place and size, not their layout. -/
opaque tableauState : (page : Nat) → (off : Nat) → BitVec 8

end Sys2Proof.Config
end

