-- ==== Sys2Proof/Machine/Float.lean ====
section
/-! DEFINITION. Numbers and rounding (spec/02_numbers.md): the floating-point layouts of R19 with exact
values, IEEE arithmetic in FP32 (R21, R30, R31), the rounding modes of R34 and R35, the conversions of
R23 to R25, the microscaling blocks of R26 to R29 and the random generators of R36 to R40. -/

namespace Sys2Proof.Machine

/-! ## Exact values -/

/-- The value of a floating-point code: NaN, an infinity, or (−1)^neg × m × 2^e exactly. -/
inductive FVal where
  | nan
  | inf (neg : Bool)
  | fin (neg : Bool) (m : Nat) (e : Int)
  deriving DecidableEq, Repr

/-- A binary floating-point layout of R19: mantissa bits, exponent bits, bias, the largest finite
magnitude code, whether the exponent of all ones holds infinity and NaN, the NaN the module produces. -/
structure FFmt where
  mb   : Nat
  eb   : Nat
  bias : Nat
  maxc : Nat
  ieee : Bool
  nanc : Option Nat
  deriving DecidableEq, Repr

def fp32 : FFmt := ⟨23, 8, 127, 0x7F7FFFFF, true, some 0x7FC00000⟩
def bf16 : FFmt := ⟨7, 8, 127, 0x7F7F, true, some 0x7FC0⟩
def fp16 : FFmt := ⟨10, 5, 15, 0x7BFF, true, some 0x7E00⟩
def e4m3 : FFmt := ⟨3, 4, 7, 0x7E, false, some 0x7F⟩
def e5m2 : FFmt := ⟨2, 5, 15, 0x7B, true, some 0x7E⟩
def e2m1 : FFmt := ⟨1, 2, 1, 0x7, false, none⟩

/-- The sign bit's position. -/
def FFmt.sbit (f : FFmt) : Nat := f.mb + f.eb
/-- The magnitude code of infinity. -/
def FFmt.infc (f : FFmt) : Nat := (2 ^ f.eb - 1) * 2 ^ f.mb
/-- The exponent of the subnormals' spacing: 1 − bias − mantissa bits (R19, R20). -/
def FFmt.emin (f : FFmt) : Int := 1 - (f.bias : Int) - f.mb

/-- The value of a code (R19; a signalling NaN is treated as quiet, R21). -/
def FFmt.val (f : FFmt) (c : Nat) : FVal :=
  let neg := c.testBit f.sbit
  let mag := c % 2 ^ f.sbit
  let ex := mag / 2 ^ f.mb
  let ma := mag % 2 ^ f.mb
  if mag > f.maxc then (if f.ieee && ma == 0 then .inf neg else .nan)
  else if ex = 0 then .fin neg ma f.emin
  else .fin neg (2 ^ f.mb + ma) (f.emin + ex - 1)

/-- The three rounding modes of R34; SR carries its draw r (R35). -/
inductive Round where
  | rne | rtz | sr (r : Nat)
  deriving DecidableEq, Repr

/-- Does the magnitude round away from zero? `q` is the kept part, `rem` the discarded `s` bits. -/
def Round.up (rd : Round) (q rem s : Nat) : Bool :=
  match rd with
  | .rne => decide (2 ^ s < 2 * rem) || (decide (2 * rem = 2 ^ s) && q % 2 == 1)
  | .rtz => false
  | .sr r => decide (65536 ≤ rem * 65536 / 2 ^ s + r)

/-- The magnitude code of m × 2^e rounded to the target spacing, before the overflow rules. -/
def FFmt.mag (f : FFmt) (rd : Round) (m : Nat) (e : Int) : Nat :=
  if m = 0 then 0 else
  let bin := e + Nat.log2 m - f.mb
  let u := if bin < f.emin then f.emin else bin
  if u ≤ e then (u - f.emin).toNat * 2 ^ f.mb + m * 2 ^ (e - u).toNat
  else
    let s := (u - e).toNat
    let q := m / 2 ^ s
    (u - f.emin).toNat * 2 ^ f.mb + q + (if rd.up q (m % 2 ^ s) s then 1 else 0)

/-- What a conversion delivers: the code, and what R469 counts of it. -/
structure Conv where
  code : Nat
  sat  : Bool := false
  inf  : Bool := false
  nan  : Bool := false
  deriving DecidableEq, Repr

/-- A magnitude code with its sign. -/
def FFmt.signed (f : FFmt) (neg : Bool) (c : Nat) : Nat := if neg then c + 2 ^ f.sbit else c

/-- Conversion into a format (R21, R23, R24): `sat` is the saturate option; E4M3, E5M2 and E2M1 always
saturate. A NaN becomes the canonical NaN, or 0 in E2M1. -/
def FFmt.conv (f : FFmt) (rd : Round) (sat : Bool) (v : FVal) : Conv :=
  let satur := sat || !f.ieee || f.mb == 2
  match v with
  | .nan => match f.nanc with
    | some n => { code := n, nan := true }
    | none => { code := 0, nan := true }
  | .inf neg =>
    if satur then { code := f.signed neg f.maxc, sat := true }
    else { code := f.signed neg f.infc, inf := true }
  | .fin neg m e =>
    let c := f.mag rd m e
    if c ≤ f.maxc then { code := f.signed neg c }
    else if satur || rd == .rtz then { code := f.signed neg f.maxc, sat := true }
    else { code := f.signed neg f.infc, inf := true }

/-! ## FP32 arithmetic under RNE -/

/-- FP32 of an exact value under RNE; NaN is the canonical NaN. -/
def f32 (v : FVal) : W32 := BitVec.ofNat 32 (fp32.conv .rne false v).code
/-- The value of an FP32 code. -/
def fval (w : W32) : FVal := fp32.val w.toNat
/-- The canonical NaN of FP32. -/
def f32nan : W32 := 0x7FC00000

/-- Exact product (R21: zero times infinity is NaN). -/
def FVal.mul : FVal → FVal → FVal
  | .nan, _ => .nan
  | _, .nan => .nan
  | .inf a, .inf b => .inf (a != b)
  | .inf a, .fin b m _ => if m = 0 then .nan else .inf (a != b)
  | .fin a m _, .inf b => if m = 0 then .nan else .inf (a != b)
  | .fin a m e, .fin b n g => .fin (a != b) (m * n) (e + g)

/-- Exact sum (R21); an exact zero from operands of unlike sign is +0, as IEEE 754 has it under RNE. -/
def FVal.add : FVal → FVal → FVal
  | .nan, _ => .nan
  | _, .nan => .nan
  | .inf a, .inf b => if a = b then .inf a else .nan
  | .inf a, .fin _ _ _ => .inf a
  | .fin _ _ _, .inf b => .inf b
  | .fin a m e, .fin b n g =>
    let lo := if e ≤ g then e else g
    let x : Int := (if a then -1 else 1) * ((m * 2 ^ (e - lo).toNat : Nat) : Int)
    let y : Int := (if b then -1 else 1) * ((n * 2 ^ (g - lo).toNat : Nat) : Int)
    if x + y = 0 then .fin (a && b) 0 lo else .fin (decide (x + y < 0)) (x + y).natAbs lo

/-- The value with its sign changed. -/
def FVal.neg : FVal → FVal
  | .nan => .nan
  | .inf a => .inf (!a)
  | .fin a m e => .fin (!a) m e

/-- A power-of-two multiple. -/
def FVal.scale (v : FVal) (k : Int) : FVal :=
  match v with
  | .fin a m e => .fin a m (e + k)
  | w => w

/-- A quotient to 64 bits below its leading bit with a sticky last bit, which RNE rounds as the exact
quotient. IEEE 754: 0/0 and inf/inf are NaN, a finite non-zero value over zero is an infinity. -/
def FVal.div : FVal → FVal → FVal
  | .nan, _ => .nan
  | _, .nan => .nan
  | .inf _, .inf _ => .nan
  | .inf a, .fin b _ _ => .inf (a != b)
  | .fin a _ _, .inf b => .fin (a != b) 0 0
  | .fin a m e, .fin b n g =>
    if n = 0 then (if m = 0 then .nan else .inf (a != b))
    else
      let k := Nat.log2 n + 64
      let q := m * 2 ^ k / n
      .fin (a != b) (2 * q + (if q * n = m * 2 ^ k then 0 else 1)) (e - g - k - 1)

/-- Newton's iteration for the integer square root, `fuel` steps from an estimate at or above it. -/
def isqrtGo (n : Nat) : Nat → Nat → Nat
  | 0, x => x
  | fuel + 1, x =>
    let y := (x + n / x) / 2
    if y < x then isqrtGo n fuel y else x

/-- The integer square root. -/
def isqrt (n : Nat) : Nat := if n = 0 then 0 else isqrtGo n (Nat.log2 n + 8) (2 ^ (Nat.log2 n / 2 + 1))

/-- A square root with a sticky last bit; of a negative value it is NaN, of −0 it is −0 (IEEE 754). -/
def FVal.sqrt : FVal → FVal
  | .nan => .nan
  | .inf a => if a then .nan else .inf false
  | .fin a m e =>
    if m = 0 then .fin a 0 e
    else if a then .nan
    else
      let (m', e') := if e % 2 = 0 then (m, e) else (2 * m, e - 1)
      let n := m' * 2 ^ 128
      let q := isqrt n
      .fin false (2 * q + (if q * q = n then 0 else 1)) (e' / 2 - 65)

def fadd (a b : W32) : W32 := f32 ((fval a).add (fval b))
def fsub (a b : W32) : W32 := f32 ((fval a).add (fval b).neg)
def fmul (a b : W32) : W32 := f32 ((fval a).mul (fval b))
def fdiv (a b : W32) : W32 := f32 ((fval a).div (fval b))
def fsqrt (a : W32) : W32 := f32 (fval a).sqrt

/-- An integer as an exact value. -/
def FVal.ofInt (i : Int) : FVal := .fin (decide (i < 0)) i.natAbs 0

/-- Is the value below, equal or above? `none` when either is NaN. -/
def FVal.cmp (a b : FVal) : Option Ordering :=
  match a, b with
  | .nan, _ => none
  | _, .nan => none
  | .inf x, .inf y => some (if x = y then .eq else if x then .lt else .gt)
  | .inf x, .fin _ _ _ => some (if x then .lt else .gt)
  | .fin _ _ _, .inf y => some (if y then .gt else .lt)
  | x, y => match x.add y.neg with
    | .fin neg m _ => some (if m = 0 then .eq else if neg then .lt else .gt)
    | _ => none

/-! ## Format codes (R17) -/

/-- The layout of a format code's element; FP32 for codes without a floating-point element. -/
def fmtOf : Nat → FFmt
  | 0 => fp32
  | 1 => bf16
  | 2 => fp16
  | 3 => e4m3
  | 4 => e5m2
  | 5 => e4m3
  | 6 => e5m2
  | 7 => e2m1
  | _ => fp32

/-- MXFP8 or MXFP4 (R26). -/
def isMx (c : Nat) : Bool := c == 5 || c == 6 || c == 7

/-- Half bytes per element (R17). -/
def fmtHalves : Nat → Nat
  | 0 => 8
  | 1 => 4
  | 2 => 4
  | 7 => 1
  | 9 => 8
  | _ => 2

/-- The exponent of the largest binade, e_elem of R28. -/
def eElem : Nat → Int
  | 5 => 8
  | 6 => 15
  | _ => 2

/-- The value of an element under its block scale (R26; scale code 0xFF makes it NaN, R29). -/
def mxVal (fmt : Nat) (scale : Nat) (c : Nat) : FVal :=
  if isMx fmt then (if scale = 0xFF then .nan else ((fmtOf fmt).val c).scale ((scale : Int) - 127))
  else (fmtOf fmt).val c

/-! ## Random generators (R36) -/

/-- One step of the Fibonacci LFSR: the new bit is s[63] xor s[62] xor s[60] xor s[59]. -/
def lfsrStep (s : W64) : W64 :=
  (s <<< 1) ||| (BitVec.ofBool (xor (xor (s.getLsbD 63) (s.getLsbD 62)) (xor (s.getLsbD 60) (s.getLsbD 59)))).setWidth 64

/-- n steps. -/
def lfsrSteps : Nat → W64 → W64
  | 0, s => s
  | n + 1, s => lfsrSteps n (lfsrStep s)

/-- One draw: 16 steps; r is the low 16 bits after them. -/
def lfsrDraw (s : W64) : Nat × W64 :=
  let s' := lfsrSteps 16 s
  (s'.toNat % 65536, s')

/-- The seed of a unit at a seed point (R38): T, device number, source number. -/
def unitSeed (t : W64) (device source : Nat) : W64 :=
  t ^^^ (BitVec.ofNat 64 (device % 4096) <<< 52) ^^^ (BitVec.ofNat 64 (source % 256) <<< 44)

/-- The value generator `i` of a unit loads from its seed (R38). -/
def lfsrLoad (seed : W64) (i : Nat) : W64 :=
  let v := seed ^^^ (BitVec.ofNat 64 i * 0x9E3779B97F4A7C15)
  if v = 0 then 1 else v

/-- The value generator `i` of a unit loads (R38): T, device number, source number. -/
def lfsrSeed (t : W64) (device source i : Nat) : W64 := lfsrLoad (unitSeed t device source) i

/-! ## Blocks (R28, R29) -/

/-- The rounding a conversion uses: the mode of R34 with the draw where it is SR. -/
def roundOf (mode r : Nat) : Round :=
  match mode with
  | 0 => .rne
  | 1 => .rtz
  | _ => .sr r

/-- floor(log₂ |v|) of a finite non-zero value. -/
def FVal.ilog : FVal → Option Int
  | .fin _ m e => if m = 0 then none else some (e + Nat.log2 m)
  | _ => none

/-- The larger of two optional exponents. -/
def maxLog : Option Int → Option Int → Option Int
  | none, b => b
  | a, none => a
  | some a, some b => some (if a ≤ b then b else a)

/-- The scale code of a block (R28, R29). -/
def mxScale (fmt : Nat) (vs : List FVal) : Nat :=
  if vs.any (fun v => match v with | .fin _ _ _ => false | _ => true) then 0xFF
  else match vs.foldl (fun a v => maxLog a v.ilog) none with
    | none => 0
    | some l =>
      let x := l - eElem fmt
      ((if x < -127 then -127 else if x > 127 then 127 else x) + 127).toNat

/-- One element of a block under its scale code: what is written and what R469 counts. -/
def mxElem (fmt : Nat) (scale : Nat) (rd : Round) (v : FVal) : Conv :=
  if scale = 0xFF then
    match v with
    | .nan => { code := 0, nan := true }
    | .inf _ => { code := 0, inf := true }
    | .fin _ _ _ => { code := 0 }
  else (fmtOf fmt).conv rd true (v.scale (127 - (scale : Int)))

/-- A block's scale code and elements, one rounding per element in ascending order (R28, R29). -/
def mxBlock (fmt : Nat) (rds : List Round) (vs : List FVal) : Nat × List Conv :=
  let sc := mxScale fmt vs
  if vs.all (fun v => match v with | .fin _ m _ => m == 0 | _ => false)
  then (0, vs.map fun _ => { code := 0 })
  else (sc, List.zipWith (mxElem fmt sc) rds vs)

/-- A rounded integer magnitude: |v| to the nearest integer under a mode. -/
def roundInt (rd : Round) (m : Nat) (e : Int) : Nat :=
  if 0 ≤ e then m * 2 ^ e.toNat
  else
    let s := (-e).toNat
    let q := m / 2 ^ s
    q + (if rd.up q (m % 2 ^ s) s then 1 else 0)

/-- Conversion to INT8 with the clamp to −127…127 (R25, R43): the value, and what counts. -/
def convInt8 (rd : Round) (v : FVal) : Int × Conv :=
  match v with
  | .nan => (0, { code := 0, nan := true })
  | .inf neg => (if neg then -127 else 127, { code := 0, sat := true })
  | .fin neg m e =>
    let q := roundInt rd m e
    if q > 127 then (if neg then -127 else 127, { code := 0, sat := true })
    else (if neg then -(q : Int) else q, { code := 0 })

end Sys2Proof.Machine
end

