-- ==== Sys2Proof/Machine/Act.lean ====
section
/-! DEFINITION. The activation functions and derivatives of R66 and R67. Identity and ReLU are exact and
the limits are the table's. The manual fixes every other result only to within 4 units in the last place:
the delivered value is the free function `Config.actValue` where that lies within the bound of a
128-bit evaluation of the definition, else that evaluation rounded (log entry 11). -/

namespace Sys2Proof.Machine

/-! ## Dyadic numbers cut to 192 bits -/

/-- m × 2^e. -/
structure Dy where
  m : Int
  e : Int
  deriving DecidableEq, Repr

/-- The number cut to 192 leading bits. -/
def Dy.cut (a : Dy) : Dy :=
  let l := Nat.log2 a.m.natAbs
  if l < 192 then a else ⟨a.m / 2 ^ (l - 191), a.e + (l - 191 : Nat)⟩

def Dy.ofInt (i : Int) : Dy := ⟨i, 0⟩
def Dy.mul (a b : Dy) : Dy := Dy.cut ⟨a.m * b.m, a.e + b.e⟩
def Dy.neg (a : Dy) : Dy := ⟨-a.m, a.e⟩

/-- A sum; an addend more than 400 binary places below the other's leading bit does not enter. -/
def Dy.add (a b : Dy) : Dy :=
  if a.m = 0 then b else if b.m = 0 then a else
  let ta := a.e + Nat.log2 a.m.natAbs
  let tb := b.e + Nat.log2 b.m.natAbs
  if ta + 400 < tb then b else if tb + 400 < ta then a else
  let lo := if a.e ≤ b.e then a.e else b.e
  Dy.cut ⟨a.m * 2 ^ (a.e - lo).toNat + b.m * 2 ^ (b.e - lo).toNat, lo⟩

/-- A quotient to 192 bits; over zero it is zero. -/
def Dy.div (a b : Dy) : Dy :=
  let k := 200 + Nat.log2 b.m.natAbs
  Dy.cut ⟨a.m * 2 ^ k / b.m, a.e - b.e - k⟩

/-- floor(a × 2^192) of a number below 2^16 in magnitude. -/
def Dy.fix (a : Dy) : Int :=
  let s := a.e + 192
  if 0 ≤ s then a.m * 2 ^ s.toNat else a.m / 2 ^ (-s).toNat

/-- ln 2 × 2^192. -/
def ln2Fix : Int := 0xB17217F7D1CF79ABC9E3B39803F2F6AF40F343267298B62D

/-- The terms of e^r from term n on, in units of 2^−192. -/
def expTerms (r : Int) : Nat → Nat → Int → Int
  | 0, _, _ => 0
  | fuel + 1, n, t => t + expTerms r fuel (n + 1) (t * r / 2 ^ 192 / (n + 1))

/-- e^x for |x| < 2^15: e^x = 2^k × e^(x − k ln 2). -/
def Dy.exp (x : Dy) : Dy :=
  let f := x.fix
  let k := f / ln2Fix
  Dy.cut ⟨expTerms (f - k * ln2Fix) 60 0 (2 ^ 192), k - 192⟩

def Dy.one : Dy := ⟨1, 0⟩
/-- 1 ÷ (1 + e^(−x)), with x held within ±2,000, beyond which no FP32 result changes. -/
def Dy.sigma (x : Dy) : Dy :=
  let y := if Nat.log2 x.m.natAbs + x.e > 10 then ⟨if x.m < 0 then -2000 else 2000, 0⟩ else x
  Dy.one.div (Dy.one.add y.neg.exp)

/-- √(2/π) × 2^192 and the coefficients of u (R66). -/
def sqrt2piFix : Dy := ⟨0xCC42299EA1B284687E59E2805D5C717FA7053E60A24E0DB1, -192⟩
def c044715 : Dy := Dy.div ⟨44715, 0⟩ ⟨1000000, 0⟩
def c134145 : Dy := Dy.div ⟨134145, 0⟩ ⟨1000000, 0⟩
def half : Dy := ⟨1, -1⟩

/-- u = √(2/π) × (z + 0.044715 z³). -/
def geluU (z : Dy) : Dy := sqrt2piFix.mul (z.add (c044715.mul (z.mul (z.mul z))))

/-- 1 − tanh² u = 4 σ(2u) σ(−2u). -/
def sech2 (u : Dy) : Dy :=
  let t := (⟨2, 0⟩ : Dy).mul u
  (⟨4, 0⟩ : Dy).mul ((Dy.sigma t).mul (Dy.sigma t.neg))

/-- tanh v = 2v ÷ … formed as (1 − e^(−2v)) σ(2v), by its odd series where |v| < 2^−20. -/
def tanhDy (v : Dy) : Dy :=
  if Nat.log2 v.m.natAbs + v.e < -20 then
    let q := v.mul v
    v.mul (Dy.one.add (q.mul ((Dy.div ⟨-1, 0⟩ ⟨3, 0⟩).add (q.mul (Dy.div ⟨2, 0⟩ ⟨15, 0⟩)))))
  else (Dy.sigma ((⟨2, 0⟩ : Dy).mul v)).add (Dy.sigma ((⟨-2, 0⟩ : Dy).mul v)).neg

/-- f(v) and f′(v) of R66 for the inexact functions, at a finite v. -/
def actDy (deriv : Bool) (code : Nat) (v : Dy) : Dy :=
  match code, deriv with
  | 2, false => v.mul (Dy.sigma ((⟨2, 0⟩ : Dy).mul (geluU v)))
  | 2, true =>
    let u := geluU v
    (Dy.sigma ((⟨2, 0⟩ : Dy).mul u)).add
      (half.mul (v.mul ((sech2 u).mul (sqrt2piFix.mul (Dy.one.add (c134145.mul (v.mul v)))))))
  | 3, false => v.mul (Dy.sigma v)
  | 3, true => (Dy.sigma v).mul (Dy.one.add (v.mul (Dy.sigma v.neg)))
  | 4, false => Dy.sigma v
  | 4, true => (Dy.sigma v).mul (Dy.sigma v.neg)
  | 5, false => tanhDy v
  | 5, true => sech2 v
  | _, _ => (if Nat.log2 v.m.natAbs + v.e > 10 then
      ⟨if v.m < 0 then -2000 else 2000, 0⟩ else v : Dy).exp

/-- The exact value of a dyadic number. -/
def Dy.toF (a : Dy) : FVal := .fin (decide (a.m < 0)) a.m.natAbs a.e

/-- Does FP32 value `c` lie within 4 units in the last place of `x` (R67: 4 × 2^−149 where subnormal)? -/
def within4 (c : W32) (x : Dy) : Bool :=
  match fval c with
  | .fin neg m e =>
    let d := (Dy.add ⟨if neg then -(m : Int) else m, e⟩ x.neg)
    let l := Nat.log2 x.m.natAbs + x.e - 23
    let u : Int := if x.m = 0 ∨ l < -149 then -149 else l
    (FVal.cmp (.fin false d.m.natAbs d.e) (.fin false 4 u)) != some .gt
  | _ => false

/-- The limits R67's table fixes: NaN and the infinities. -/
def actLimit (deriv : Bool) (code : Nat) (v : FVal) : Option W32 :=
  let one : W32 := 0x3F800000
  let pinf : W32 := 0x7F800000
  match v with
  | .nan => some f32nan
  | .inf neg =>
    if deriv then
      match code with
      | 0 => some one
      | 1 => some (if neg then 0 else one)
      | 2 => some (if neg then 0 else one)
      | 3 => some (if neg then 0 else one)
      | 6 => some (if neg then 0 else pinf)
      | _ => some 0
    else
      match code with
      | 0 => some (if neg then 0xFF800000 else pinf)
      | 2 => some (if neg then 0x80000000 else pinf)
      | 3 => some (if neg then 0x80000000 else pinf)
      | 4 => some (if neg then 0 else one)
      | 5 => some (if neg then 0xBF800000 else one)
      | _ => some (if neg then 0 else pinf)
  | .fin _ _ _ => none

/-- Function `code` of R66 (or its derivative) of an FP32 value. -/
def actFn (deriv : Bool) (code : Nat) (w : W32) : W32 :=
  let v := fval w
  match actLimit deriv code v, v with
  | some r, _ => r
  | none, .fin neg m e =>
    let pos := !neg && decide (0 < m)
    if code = 0 then (if deriv then 0x3F800000 else w)
    else if code = 1 then
      (if deriv then (if pos then 0x3F800000 else 0) else if pos then w else 0)
    else if code = 6 ∧ v.cmp (fval 0x42B17218) = some .gt then 0x7F800000
    else
      let x := actDy deriv code ⟨if neg then -(m : Int) else m, e⟩
      let c := Config.actValue deriv code w
      let d := f32 x.toF
      if within4 c x then c else if d = 0x7F800000 then 0x7F7FFFFF else d
  | none, _ => f32nan

end Sys2Proof.Machine
end

