-- ==== Sys2Proof/Machine/CueCode.lean ====
section
/-! DEFINITION. Cue words (R107 to R126): the cues, their decoding from word 1 and word 0, and the used
bits of each layout (R108). The loader's checks stand in CueCheck.lean. -/

namespace Sys2Proof.Machine

/-- The cues, with the fields of R112 to R126 as the words hold them; operands stay 20-bit (R109) or
12-bit (R111) codes. -/
inductive Cue where
  | set (kind ag dim extm1 base stride : Nat)
  | loadw (arr fmt : Nat) (sp dense ovf col : Bool) (ktm1 ntm1 src side : Nat)
  | feed (arr fmt wfmt : Nat) (sp swap acc share col : Bool) (mm1 a0 src : Nat)
  | drain (arr fmt rnd : Nat) (sat : Bool) (act : Nat) (bias ztap deriv sp24 add clear : Bool)
      (dsc lay a0 rdm1 ndm1 dfn dst bsrc zadr : Nat)
  | move (eng : Nat) (sen sstep : Bool) (sag : Nat) (den dstep : Bool) (dag : Nat) (done : Bool) (dsem desc : Nat)
  | ring (rop rv : Nat) (role : Bool) (peer prv nslm1 slszm1 base : Nat)
  | wait (sem n : Nat)
  | post (nofence : Bool) (bay sem n : Nat)
  | loop (nm1 : Nat)
  | endl
  | mark (latch photo strobe : Bool) (lenm1 tag src : Nat)
  | exit (mask : Nat)
  | prompt (stg : Nat) (sel : Bool) (ntile pred kval src dst : Nat)
  | matcher (mode : Nat) (iof : Bool) (lam1 lbm1 opn srca srcb dst : Nat)
  | walk (arrm duty durm1 : Nat)
  | halt
  deriving DecidableEq, Repr

/-- Bits `hi` down to `lo` of a word, as the layout tables write them. -/
def fld (w hi lo : Nat) : Nat := bits w lo (hi + 1 - lo)

/-- The opcode (R107). -/
def cueOp (w1 : Nat) : Nat := fld w1 63 59

/-- The cue of two words; none for a reserved opcode (R107). -/
def cueDecode (w1 w0 : Nat) : Option Cue :=
  match cueOp w1 with
  | 0x01 => some (.set (fld w1 58 56) (fld w1 50 48) (fld w1 47 45) (fld w1 15 0) (fld w0 47 0) (fld w0 31 0))
  | 0x02 => some (.loadw (fld w1 58 57) (fld w1 56 53) (bit w1 52) (bit w1 51) (bit w1 50) (bit w1 49)
      (fld w1 48 40) (fld w1 39 33) (fld w1 19 0) (fld w0 19 0))
  | 0x03 => some (.feed (fld w1 58 57) (fld w1 56 53) (fld w1 52 49) (bit w1 48) (bit w1 47) (bit w1 46)
      (bit w1 45) (bit w1 44) (fld w1 43 34) (fld w1 31 20) (fld w1 19 0))
  | 0x04 => some (.drain (fld w1 58 57) (fld w1 56 53) (fld w1 52 51) (bit w1 50) (fld w1 49 46) (bit w1 45)
      (bit w1 44) (bit w1 43) (bit w1 42) (bit w1 41) (bit w1 40) (fld w1 39 38) (fld w1 37 35) (fld w1 31 20)
      (fld w1 19 10) (fld w1 9 3) (fld w0 63 60) (fld w0 59 40) (fld w0 39 20) (fld w0 19 0))
  | 0x05 => some (.move (fld w1 58 56) (bit w1 55) (bit w1 54) (fld w1 53 51) (bit w1 50) (bit w1 49)
      (fld w1 48 46) (bit w1 45) (fld w1 44 39) (fld w1 18 0))
  | 0x06 => some (.ring (fld w1 58 56) (fld w1 55 51) (bit w1 50) (fld w1 49 44) (fld w1 43 39) (fld w1 31 28)
      (fld w1 27 16) (fld w0 16 0))
  | 0x07 => some (.wait (fld w1 13 8) (fld w1 7 0))
  | 0x08 => some (.post (bit w1 58) (fld w1 21 16) (fld w1 13 8) (fld w1 7 0))
  | 0x09 => some (.loop (fld w1 15 0))
  | 0x0A => some .endl
  | 0x0B => some (.mark (bit w1 58) (bit w1 57) (bit w1 56) (fld w1 48 32) (fld w1 31 0) (fld w0 19 0))
  | 0x0C => some (.exit (fld w1 15 0))
  | 0x0D => some (.prompt (fld w1 58 57) (bit w1 56) (fld w1 55 51) (fld w1 50 37) (fld w1 31 16)
      (fld w0 39 20) (fld w0 19 0))
  | 0x0E => some (.matcher (fld w1 58 57) (bit w1 56) (fld w1 55 48) (fld w1 47 37) (fld w1 31 16)
      (fld w0 59 40) (fld w0 39 20) (fld w0 19 0))
  | 0x0F => some (.walk (fld w1 58 56) (fld w1 55 52) (fld w1 43 32))
  | 0x10 => some .halt
  | _ => none

/-- A flag as a bit of a word. -/
def b1 (b : Bool) : Nat := if b then 1 else 0

/-- The words 1 and 0 of a cue, written from the layouts of R112 to R126; reserved bits are 0 (R108). -/
def cueEncode : Cue → Nat × Nat
  | .set kind ag dim ext base stride =>
    (0x01 * 2 ^ 59 + kind * 2 ^ 56 + ag * 2 ^ 48 + dim * 2 ^ 45 + ext, if kind = 0 then base else stride)
  | .loadw arr fmt sp dense ovf col ktm1 ntm1 src side =>
    (0x02 * 2 ^ 59 + arr * 2 ^ 57 + fmt * 2 ^ 53 + b1 sp * 2 ^ 52 + b1 dense * 2 ^ 51 + b1 ovf * 2 ^ 50 + b1 col * 2 ^ 49
      + ktm1 * 2 ^ 40 + ntm1 * 2 ^ 33 + src, side)
  | .feed arr fmt wfmt sp swap acc share col mm1 a0 src =>
    (0x03 * 2 ^ 59 + arr * 2 ^ 57 + fmt * 2 ^ 53 + wfmt * 2 ^ 49 + b1 sp * 2 ^ 48 + b1 swap * 2 ^ 47 + b1 acc * 2 ^ 46
      + b1 share * 2 ^ 45 + b1 col * 2 ^ 44 + mm1 * 2 ^ 34 + a0 * 2 ^ 20 + src, 0)
  | .drain arr fmt rnd sat act bias ztap deriv sp24 add clear dsc lay a0 rdm1 ndm1 dfn dst bsrc zadr =>
    (0x04 * 2 ^ 59 + arr * 2 ^ 57 + fmt * 2 ^ 53 + rnd * 2 ^ 51 + b1 sat * 2 ^ 50 + act * 2 ^ 46 + b1 bias * 2 ^ 45
      + b1 ztap * 2 ^ 44 + b1 deriv * 2 ^ 43 + b1 sp24 * 2 ^ 42 + b1 add * 2 ^ 41 + b1 clear * 2 ^ 40 + dsc * 2 ^ 38
      + lay * 2 ^ 35 + a0 * 2 ^ 20 + rdm1 * 2 ^ 10 + ndm1 * 2 ^ 3,
     dfn * 2 ^ 60 + dst * 2 ^ 40 + bsrc * 2 ^ 20 + zadr)
  | .move eng sen sstep sag den dstep dag done dsem desc =>
    (0x05 * 2 ^ 59 + eng * 2 ^ 56 + b1 sen * 2 ^ 55 + b1 sstep * 2 ^ 54 + sag * 2 ^ 51 + b1 den * 2 ^ 50 + b1 dstep * 2 ^ 49
      + dag * 2 ^ 46 + b1 done * 2 ^ 45 + dsem * 2 ^ 39 + desc, 0)
  | .ring rop rv role peer prv nslm1 slszm1 base =>
    (0x06 * 2 ^ 59 + rop * 2 ^ 56 + rv * 2 ^ 51 + b1 role * 2 ^ 50 + peer * 2 ^ 44 + prv * 2 ^ 39 + nslm1 * 2 ^ 28
      + slszm1 * 2 ^ 16, base)
  | .wait sem n => (0x07 * 2 ^ 59 + sem * 2 ^ 8 + n, 0)
  | .post nofence bay sem n => (0x08 * 2 ^ 59 + b1 nofence * 2 ^ 58 + bay * 2 ^ 16 + sem * 2 ^ 8 + n, 0)
  | .loop nm1 => (0x09 * 2 ^ 59 + nm1, 0)
  | .endl => (0x0A * 2 ^ 59, 0)
  | .mark latch photo strobe lenm1 tag src =>
    (0x0B * 2 ^ 59 + b1 latch * 2 ^ 58 + b1 photo * 2 ^ 57 + b1 strobe * 2 ^ 56 + lenm1 * 2 ^ 32 + tag, src)
  | .exit mask => (0x0C * 2 ^ 59 + mask, 0)
  | .prompt stg sel ntile pred kval src dst =>
    (0x0D * 2 ^ 59 + stg * 2 ^ 57 + b1 sel * 2 ^ 56 + ntile * 2 ^ 51 + pred * 2 ^ 37 + kval * 2 ^ 16, src * 2 ^ 20 + dst)
  | .matcher mode iof lam1 lbm1 opn srca srcb dst =>
    (0x0E * 2 ^ 59 + mode * 2 ^ 57 + b1 iof * 2 ^ 56 + lam1 * 2 ^ 48 + lbm1 * 2 ^ 37 + opn * 2 ^ 16,
     srca * 2 ^ 40 + srcb * 2 ^ 20 + dst)
  | .walk arrm duty durm1 => (0x0F * 2 ^ 59 + arrm * 2 ^ 56 + duty * 2 ^ 52 + durm1 * 2 ^ 32, 0)
  | .halt => (0x10 * 2 ^ 59, 0)

/-- Every field of a cue fits its place in the layout (R112 to R126). A SET holds its word 0 both as BASE and
as STRIDE, as the decoder reads it, and a SET of BASE has no extent. -/
def Cue.fits : Cue → Bool
  | .set kind ag dim ext base stride =>
    decide (kind < 8) && decide (ag < 8) && decide (dim < 8) && decide (ext < 2 ^ 16) && decide (base < 2 ^ 48)
    && decide (stride = base % 2 ^ 32) && (if kind = 0 then true else decide (base < 2 ^ 32)) && (decide (kind = 1) || decide (ext = 0))
  | .loadw arr fmt _ _ _ _ ktm1 ntm1 src side =>
    decide (arr < 4) && decide (fmt < 16) && decide (ktm1 < 512) && decide (ntm1 < 128) && decide (src < 2 ^ 20) && decide (side < 2 ^ 20)
  | .feed arr fmt wfmt _ _ _ _ _ mm1 a0 src =>
    decide (arr < 4) && decide (fmt < 16) && decide (wfmt < 16) && decide (mm1 < 1024) && decide (a0 < 2 ^ 12) && decide (src < 2 ^ 20)
  | .drain arr fmt rnd _ act _ _ _ _ _ _ dsc lay a0 rdm1 ndm1 dfn dst bsrc zadr =>
    decide (arr < 4) && decide (fmt < 16) && decide (rnd < 4) && decide (act < 16) && decide (dsc < 4) && decide (lay < 8)
    && decide (a0 < 2 ^ 12) && decide (rdm1 < 1024) && decide (ndm1 < 128) && decide (dfn < 16)
    && decide (dst < 2 ^ 20) && decide (bsrc < 2 ^ 20) && decide (zadr < 2 ^ 20)
  | .move eng _ _ sag _ _ dag _ dsem desc =>
    decide (eng < 8) && decide (sag < 8) && decide (dag < 8) && decide (dsem < 64) && decide (desc < 2 ^ 19)
  | .ring rop rv _ peer prv nslm1 slszm1 base =>
    decide (rop < 8) && decide (rv < 32) && decide (peer < 64) && decide (prv < 32) && decide (nslm1 < 16)
    && decide (slszm1 < 2 ^ 12) && decide (base < 2 ^ 17)
  | .wait sem n => decide (sem < 64) && decide (n < 256)
  | .post _ bay sem n => decide (bay < 64) && decide (sem < 64) && decide (n < 256)
  | .loop nm1 => decide (nm1 < 2 ^ 16)
  | .endl => true
  | .mark _ _ _ lenm1 tag src => decide (lenm1 < 2 ^ 17) && decide (tag < 2 ^ 32) && decide (src < 2 ^ 20)
  | .exit mask => decide (mask < 2 ^ 16)
  | .prompt stg _ ntile pred kval src dst =>
    decide (stg < 4) && decide (ntile < 32) && decide (pred < 2 ^ 14) && decide (kval < 2 ^ 16) && decide (src < 2 ^ 20) && decide (dst < 2 ^ 20)
  | .matcher mode _ lam1 lbm1 opn srca srcb dst =>
    decide (mode < 4) && decide (lam1 < 256) && decide (lbm1 < 2 ^ 11) && decide (opn < 2 ^ 16) && decide (srca < 2 ^ 20)
    && decide (srcb < 2 ^ 20) && decide (dst < 2 ^ 20)
  | .walk arrm duty durm1 => decide (arrm < 8) && decide (duty < 16) && decide (durm1 < 2 ^ 12)
  | .halt => true

/-- A run of one-bits from `lo` to `hi`. -/
def ones (hi lo : Nat) : Nat := 2 ^ (hi + 1) - 2 ^ lo

/-- The bits of word 1 that a cue's layout uses, its opcode included (R107, R112). -/
def cueMask1 (w1 : Nat) : Nat :=
  ones 63 59 ||| match cueOp w1 with
  | 0x01 => ones 58 56 ||| ones 50 45 ||| (if fld w1 58 56 = 1 then ones 15 0 else 0)
  | 0x02 => ones 58 33 ||| ones 19 0
  | 0x03 => ones 58 34 ||| ones 31 0
  | 0x04 => ones 58 35 ||| ones 31 3
  | 0x05 => ones 58 39 ||| ones 18 0
  | 0x06 => ones 58 39 ||| ones 31 16
  | 0x07 => ones 13 0
  | 0x08 => ones 58 58 ||| ones 21 16 ||| ones 13 0
  | 0x09 => ones 15 0
  | 0x0B => ones 58 56 ||| ones 48 0
  | 0x0C => ones 15 0
  | 0x0D => ones 58 37 ||| ones 31 16
  | 0x0E => ones 58 37 ||| ones 31 16
  | 0x0F => ones 58 52 ||| ones 43 32
  | _ => 0

/-- The bits of word 0 that a cue's layout uses. -/
def cueMask0 (w1 : Nat) : Nat :=
  match cueOp w1 with
  | 0x01 => if fld w1 58 56 = 0 then ones 47 0 else ones 31 0
  | 0x02 => ones 19 0
  | 0x04 => ones 63 0
  | 0x06 => ones 16 0
  | 0x0B => ones 19 0
  | 0x0D => ones 39 0
  | 0x0E => ones 59 0
  | _ => 0

/-- Every field shown as reserved is zero (R9, R108). -/
def cueReservedOk (w1 w0 : Nat) : Bool :=
  (w1 &&& cueMask1 w1) == w1 && (w0 &&& cueMask0 w1) == w0

/-! ## Wings operands (R109) and accumulator-row operands (R111) -/

/-- A 20-bit wings operand. -/
inductive WOp where
  | imm (ofs : Nat)
  | gen (step : Bool) (ag : Nat)
  | ring (fin : Bool) (rv : Nat)
  | bad
  deriving DecidableEq, Repr

/-- The operand a code spells; `bad` for kind 0b11, a reserved bit or an offset above 98,303 (R109). -/
def wOp (v : Nat) : WOp :=
  match fld v 19 18 with
  | 0 => if bit v 17 || decide (98303 < fld v 16 0) then .bad else .imm (256 * fld v 16 0)
  | 1 => if fld v 16 3 = 0 then .gen (bit v 17) (fld v 2 0) else .bad
  | 2 => if fld v 17 6 = 0 then .ring (bit v 5) (fld v 4 0) else .bad
  | _ => .bad

/-- A 12-bit accumulator-row operand. -/
inductive AOp where
  | row (r : Nat)
  | gen (step : Bool) (ag : Nat)
  | bad
  deriving DecidableEq, Repr

/-- The operand a code spells (R111). -/
def aOp (v : Nat) : AOp :=
  if bit v 11 then (if fld v 9 3 = 0 then .gen (bit v 10) (fld v 2 0) else .bad)
  else if bit v 10 then .bad else .row (fld v 9 0)

/-! ## Extents (R90, R133, R134, R181, R182, R223, R471) -/

def ceilDiv (a b : Nat) : Nat := (a + b - 1) / b
/-- The next multiple of 256 B. -/
def up256 (n : Nat) : Nat := 256 * ceilDiv n 256
/-- Bytes that hold `n` elements of half-byte size `h`. -/
def halfBytes (n h : Nat) : Nat := ceilDiv (n * h) 2

/-- Size in bytes of the wings (R131). -/
def wingsSize : Nat := 0x1800000

/-- Elements of K in one streamed row (FEED timing table, R55). -/
def feedK (fmt wfmt : Nat) (sp : Bool) : Nat :=
  (if fmt == 7 && wfmt == 7 then 256 else 128) * (if sp then 2 else 1)

/-- Rows that one group of column lines serves: 128 for 2 B, 256 for 1 B elements (R133). -/
def colQ (fmt : Nat) : Nat := if fmtHalves fmt = 4 then 128 else 256

/-- Byte extent of a FEED's operand (R471, R133). -/
def feedExtent (fmt wfmt : Nat) (sp col : Bool) (m : Nat) : Nat :=
  let k := feedK fmt wfmt sp
  let rb := halfBytes k (fmtHalves fmt)
  if col then 256 * (128 * ((m - 1) / colQ fmt) + k)
  else if isMx fmt then up256 (m * rb) + m * (k / 32)
  else up256 rb * (m - 1) + rb

/-- Rows of stored elements of a tile: K_t, or K_t ÷ 2 in stored 2:4 form (R219). -/
def tileRows (sp dense : Bool) (kt : Nat) : Nat := if sp && !dense then kt / 2 else kt

/-- Byte extent of a LOADW's element plane (R471, R133). -/
def loadwExtent (fmt : Nat) (sp dense col : Bool) (kt nt : Nat) : Nat :=
  let r := tileRows sp dense kt
  let rb := halfBytes nt (fmtHalves fmt)
  if col then 256 * (128 * ((r - 1) / colQ fmt) + 128)
  else if isMx fmt then halfBytes (r * nt) (fmtHalves fmt)
  else up256 rb * (r - 1) + rb

/-- Bytes of a tile's scale plane (R219, R471). -/
def loadwScales (fmt kt nt : Nat) : Nat := if isMx fmt then kt / 32 * nt else 0

/-- Bytes of metadata per column, mlen of R219. -/
def metaLen (fmt kt : Nat) : Nat := ceilDiv kt (if fmt = 7 then 16 else 8)

/-- Byte extent of a LOADW's side data (R219): scales, then metadata at the next 256 B boundary. -/
def sideExtent (fmt : Nat) (sp dense : Bool) (kt nt : Nat) : Nat :=
  let sc := loadwScales fmt kt nt
  if sp && !dense then up256 sc + metaLen fmt kt * nt else sc

/-- Stored values per drained row, N′ of R181. -/
def drainN (sp24 : Bool) (nd : Nat) : Nat := if sp24 then nd / 2 else nd

/-- Byte extent of a DRAIN's element plane (R181, R182). -/
def drainElems (fmt lay : Nat) (sp24 : Bool) (rd nd : Nat) : Nat :=
  let h := fmtHalves fmt
  let n := drainN sp24 nd
  match lay with
  | 1 => halfBytes (n * rd) h
  | 2 => 256 * (128 * ((rd - 1) / colQ fmt) + nd)
  | 3 => up256 (halfBytes (nd / 2) h) * rd * 2
  | 4 => up256 (halfBytes (nd / 4) h) * rd * 4
  | 5 => up256 (halfBytes (nd / 8) h) * rd * 8
  | _ => up256 (halfBytes n h) * rd

/-- Offset of the scale plane (R182). -/
def drainScaleOfs (fmt lay : Nat) (sp24 : Bool) (rd nd : Nat) : Nat := up256 (drainElems fmt lay sp24 rd nd)
/-- End of the scale plane, or of the element plane without one. -/
def drainScaleEnd (fmt lay : Nat) (sp24 : Bool) (rd nd : Nat) : Nat :=
  if isMx fmt then drainScaleOfs fmt lay sp24 rd nd + nd / 32 * rd else drainElems fmt lay sp24 rd nd
/-- Offset of the metadata plane (R223). -/
def drainMetaOfs (fmt lay : Nat) (sp24 : Bool) (rd nd : Nat) : Nat := up256 (drainScaleEnd fmt lay sp24 rd nd)
/-- Metadata bytes of one drained row (R223). -/
def drainMetaRow (fmt nd : Nat) : Nat := ceilDiv nd (if fmt = 7 then 16 else 8)
/-- Bytes a DRAIN's store takes, all planes together (R182, R223). -/
def drainExtent (fmt lay : Nat) (sp24 : Bool) (rd nd : Nat) : Nat :=
  if sp24 then drainMetaOfs fmt lay sp24 rd nd + drainMetaRow fmt nd * rd
  else drainScaleEnd fmt lay sp24 rd nd

/-- Every group of 128 lines a column access touches lies in one block of the wings (R134). -/
def colGroupsOk (ofs : Nat) : Nat → Bool
  | 0 => true
  | g + 1 => decide (ofs / 0x800000 = (ofs + 0x7FFF) / 0x800000) && decide (ofs + 0x8000 ≤ wingsSize)
      && colGroupsOk (ofs + 0x8000) g

/-- Groups of 128 lines of a column operand. -/
def feedGroups (fmt wfmt : Nat) (sp : Bool) (m : Nat) : Nat :=
  (m - 1) / colQ fmt + ceilDiv (feedK fmt wfmt sp) 128
def loadwGroups (fmt : Nat) (sp dense : Bool) (kt : Nat) : Nat := (tileRows sp dense kt - 1) / colQ fmt + 1
def drainGroups (fmt rd : Nat) : Nat := (rd - 1) / colQ fmt + 1

/-- Bytes of the lists a MATCH reads and writes (R224 to R226). -/
def matchLenA (lam1 : Nat) : Nat := 2 * (lam1 + 1)
def matchLenB (mode lam1 lbm1 : Nat) : Nat := if mode = 0 then 2 * (lbm1 + 1) else 2 * (lam1 + 1)
def matchLenD (mode lam1 lbm1 : Nat) : Nat := if mode = 0 then up256 (4 * (lbm1 + 1)) else up256 (32 * (lam1 + 1))

/-- Bytes of a PROMPT's input for rank 64 × Q (R229), and of a SELECT's list (R224, R230). -/
def promptSrcLen (ntile q : Nat) : Nat := 8192 * ceilDiv ntile q
def promptDstLen (ntile q : Nat) : Nat := up256 (2 * (ntile / q * 64))

end Sys2Proof.Machine
end

