-- ==== Sys2Proof/Machine/CueCheck.lean ====
section
/-! DEFINITION. The loader's checks on a part's body: checks 7 to 10 of R81 (R77, R86, R87, R108 to
R126, R134), each refusal with its code. -/

namespace Sys2Proof.Machine

/-- The codes of R130 by name. -/
abbrev cOK : Nat := 0x00
abbrev cCUE_LEVEL : Nat := 0x01
abbrev cCUE_ILLEGAL : Nat := 0x02
abbrev cLOOP_DEPTH : Nat := 0x03
abbrev cSEM_RANGE : Nat := 0x04
abbrev cSHEET_BAD : Nat := 0x05
abbrev cLANE_MISMATCH : Nat := 0x06
abbrev cAG_RANGE : Nat := 0x07
abbrev cEXIT_LATE : Nat := 0x08
abbrev cFMT_MISMATCH : Nat := 0x09
abbrev cREVOLVE_BAD : Nat := 0x0A
abbrev cMISALIGN : Nat := 0x20
abbrev cOVERLAP : Nat := 0x21
abbrev cWINDOW : Nat := 0x23
abbrev cSTALE : Nat := 0x24
abbrev cDESC_BAD : Nat := 0x26
abbrev cSPARSE_OVERFULL : Nat := 0x40
abbrev cIDX_OOB : Nat := 0x42
abbrev cPROMPT_MAKEUP : Nat := 0x44
abbrev cECC_CORR : Nat := 0x60
abbrev cECC_UNCORR : Nat := 0x61
abbrev cCHAN_RETIRED : Nat := 0x62
abbrev cCHK_MISMATCH : Nat := 0x63
abbrev cMEM_TRAIN : Nat := 0x64
abbrev cMEM_POPULATION : Nat := 0x65
abbrev cLINK_DEGRADE : Nat := 0x83
abbrev cMILEPOST_MISS : Nat := 0x84
abbrev cLINK_DOWN : Nat := 0x85
abbrev cSCHED_OVERRUN : Nat := 0xA0
abbrev cSLOT_MISS : Nat := 0xA1
abbrev cRESOURCE_HELD : Nat := 0xA2
abbrev cPIN_CONFLICT : Nat := 0xA3
abbrev cCALL_BAD : Nat := 0xA4
abbrev cABORTED : Nat := 0xA5
abbrev cSHED : Nat := 0xC0
abbrev cVIN_SAG : Nat := 0xC3
abbrev cPOWER_FAIL : Nat := 0xC4
abbrev cTHERM_LIMIT : Nat := 0xC5
abbrev cSIG_BAD : Nat := 0xE0
abbrev cPLAYBILL_MISS : Nat := 0xE1
abbrev cUNDERSTUDY_IN : Nat := 0xE2
abbrev cNOT_READY : Nat := 0xE4
abbrev cSTATE_DENIED : Nat := 0xE5
abbrev cREHEARSAL : Nat := 0xE6
abbrev cKEY_ABSENT : Nat := 0xE7

/-- What a part's cues are checked against. -/
structure PartCtx where
  bay    : Nat
  lane   : Nat
  stage  : Nat
  ranges : List PRange
  /-- every OPEN of the sheet's parts: the bay whose part holds it, and its fields -/
  opens  : List (Nat × Cue)
  deriving DecidableEq, Repr

/-- A wings operand is of an allowed kind and, where immediate, lies in the wings over its extent (R109). -/
def wOpOk (ringOk : Bool) (ext : Nat) (v : Nat) : Bool :=
  match wOp v with
  | .imm o => decide (o + ext ≤ wingsSize)
  | .gen _ _ => true
  | .ring _ _ => ringOk
  | .bad => false

/-- As wOpOk, for a column operand whose immediate form keeps the one-block rule (R134). -/
def wColOk (ringOk : Bool) (ext groups : Nat) (v : Nat) : Bool :=
  wOpOk ringOk ext v && match wOp v with
  | .imm o => colGroupsOk o groups
  | _ => true

def aOpOk (v : Nat) : Bool := aOp v != .bad

/-- The legal operand pairs of the arrays (R18). -/
def pairOk (arr a b : Nat) : Bool :=
  if arr = 0 then
    ((a == 3 || a == 4) && (b == 3 || b == 4)) || (isMx a && isMx b) || (a == 1 && b == 1)
  else (arr == 1 || arr == 2) && a == b && (a == 1 || a == 2)

/-- A format legal as the loaded tile of an array (R18, R113). -/
def tileOk (arr fmt : Nat) : Bool :=
  if arr = 0 then fmt == 1 || (decide (3 ≤ fmt) && decide (fmt ≤ 7))
  else (arr == 1 || arr == 2) && (fmt == 1 || fmt == 2)

/-- 2:4 form is legal on an array with a format (R56, R113). -/
def sparseOk (arr fmt : Nat) : Bool := arr != 2 && !(arr == 0 && fmt == 1)

def loadwOk (arr fmt : Nat) (sp dense ovf col : Bool) (ktm1 ntm1 src side : Nat) : Bool :=
  let kt := ktm1 + 1
  let nt := ntm1 + 1
  let mx := isMx fmt
  let kmax := (if fmt = 7 then 256 else 128) * (if sp then 2 else 1)
  tileOk arr fmt && (!sp || sparseOk arr fmt) && (!dense || sp) && (!ovf || dense) && !(col && mx)
  && decide (kt ≤ kmax) && (!sp || kt % 4 == 0) && (!mx || kt % 32 == 0)
  && (if col then wColOk true (loadwExtent fmt sp dense col kt nt) (loadwGroups fmt sp dense kt) src
      else wOpOk true (loadwExtent fmt sp dense col kt nt) src)
  && (if mx || (sp && !dense) then wOpOk false (sideExtent fmt sp dense kt nt) side else side == 0)

def feedOk (arr fmt wfmt : Nat) (sp share col : Bool) (mm1 a0 src : Nat) : Bool :=
  let m := mm1 + 1
  pairOk arr fmt wfmt && (!sp || sparseOk arr fmt) && !(arr == 0 && fmt == 1 && decide (1023 < m))
  && (!share || (arr == 1 && decide (m ≤ 128) && !sp)) && !(col && isMx fmt) && aOpOk a0
  && (if col then wColOk true (feedExtent fmt wfmt sp col m) (feedGroups fmt wfmt sp m) src
      else wOpOk true (feedExtent fmt wfmt sp col m) src)

def drainOk (arr fmt rnd : Nat) (sat : Bool) (act : Nat) (bias ztap deriv sp24 add : Bool)
    (lay a0 rdm1 ndm1 dfn dst bsrc zadr : Nat) : Bool :=
  let rd := rdm1 + 1
  let nd := ndm1 + 1
  let mx := isMx fmt
  let ext := drainExtent fmt lay sp24 rd nd
  arr != 3 && decide (fmt ≤ 7) && rnd != 3 && (fmt != 0 || rnd == 0) && (!sat || fmt == 1 || fmt == 2)
  && decide (act ≤ 6) && decide (dfn ≤ 6) && (deriv || dfn == 0) && !(ztap && deriv)
  && !(deriv && act != 0) && (!add || fmt == 0) && (!mx || nd % 32 == 0)
  && (!sp24 || (nd % 4 == 0 && fmt != 0))
  && (lay != 2 || (!mx && fmt != 0 && !sp24))
  && (lay != 3 || (nd % 2 == 0 && !mx && !sp24)) && (lay != 4 || (nd % 4 == 0 && !mx && !sp24))
  && (lay != 5 || (nd % 8 == 0 && !mx && !sp24)) && aOpOk a0
  && (if lay = 2 then wColOk (!add) ext (drainGroups fmt rd) dst else wOpOk (!add) ext dst)
  && (if bias then wOpOk false (4 * nd) bsrc else bsrc == 0)
  && (if ztap || deriv then wOpOk false (256 * rd) zadr else zadr == 0)

/-- OPEN's rules (R119): geometry, PEER in the lane, and a matching OPEN in PEER's part. -/
def openOk (c : PartCtx) (rv : Nat) (role : Bool) (peer prv nslm1 slszm1 base : Nat) : Bool :=
  decide (2 ≤ nslm1) && decide (base + (nslm1 + 1) * (slszm1 + 1) ≤ 98304) && c.lane.testBit peer
  && c.opens.any fun o => o.1 == peer && match o.2 with
    | .ring 0 rv' role' peer' prv' n' z' b' =>
      rv' == prv && role' == !role && peer' == c.bay && prv' == rv && n' == nslm1 && z' == slszm1 && b' == base
    | _ => false

/-- A mask names only LIVE ranges of the part (R97). -/
def exitOk (ranges : List PRange) (mask : Nat) : Bool :=
  (List.range 16).all fun i => !mask.testBit i || match ranges[i]? with
    | some r => !r.resident
    | none => false

/-- Check 8 of R81 for one decoded cue whose reserved fields are zero. Q is not known at load: a PROMPT's immediate operands
are held to their extent at Q = 4 (log entry 82, DESIGN CHOICE). -/
def cueOk (c : PartCtx) : Cue → Bool
  | .set kind _ dim extm1 _ _ =>
    if kind = 0 then dim == 0 && extm1 == 0 else kind == 1 && decide (dim ≤ 4)
  | .loadw arr fmt sp dense ovf col k n src side => loadwOk arr fmt sp dense ovf col k n src side
  | .feed arr fmt wfmt sp _ _ share col m a0 src => feedOk arr fmt wfmt sp share col m a0 src
  | .drain arr fmt rnd sat act bias ztap deriv sp24 add _ _ lay a0 rd nd dfn dst bsrc zadr =>
    drainOk arr fmt rnd sat act bias ztap deriv sp24 add lay a0 rd nd dfn dst bsrc zadr
  | .move eng sen sstep sag den dstep dag done dsem desc =>
    (eng == 0 || decide (4 ≤ eng)) && decide (desc ≤ 393215) && (sen || (!sstep && sag == 0))
    && (den || (!dstep && dag == 0)) && (done || dsem == 0)
  | .ring rop rv role peer prv n z b =>
    if rop = 0 then openOk c rv role peer prv n z b
    else decide (rop ≤ 5) && !role && peer == 0 && prv == 0 && n == 0 && z == 0 && b == 0
  | .wait _ n => n != 0
  | .post _ _ _ n => n != 0
  | .loop _ => true
  | .endl => true
  | .mark latch photo _ lenm1 tag src =>
    (if photo then c.stage == 3 && wOpOk false (256 * (lenm1 + 1)) src else lenm1 == 0 && src == 0)
    && (latch || photo || tag == 0)
  | .exit mask => exitOk c.ranges mask
  | .prompt stg sel ntile pred kval src dst =>
    stg != 3 && ntile != 0 && (stg != 0 || pred != 0)
    && (if stg = 2 then src == 0 && (sel || kval != 0) && wOpOk true (promptDstLen ntile 4) dst
        else !sel && kval == 0 && dst == 0 && wOpOk false (promptSrcLen ntile 4) src)
  | .matcher mode _ la lb _ sa sb d =>
    decide (mode ≤ 1) && (mode == 0 || lb == 0) && wOpOk true (matchLenA la) sa
    && wOpOk true (matchLenB mode la lb) sb && wOpOk true (matchLenD mode la lb) d
  | .walk arrm _ durm1 => arrm != 0 && decide (durm1 ≤ 4095)
  | .halt => true

/-- The loops open before a cue: whether the body of each holds a cue yet, innermost first (R87). -/
abbrev Loops := List Bool

/-- The first refusal of checks 8, 9 and 10 in cue order (R81), `cOK` when none; `last` marks the part's last cue. -/
def cueRefusal (c : PartCtx) (open_ : Loops) (last : Bool) (w1 w0 : Nat) : Nat × Loops :=
  match cueDecode w1 w0 with
  | none => (cCUE_ILLEGAL, open_)
  | some q =>
    if !cueReservedOk w1 w0 || !cueOk c q then (cCUE_ILLEGAL, open_)
    else if last != (q == .halt) then (cCUE_ILLEGAL, open_)
    else match q with
      | .halt => (if open_.isEmpty then cOK else cCUE_ILLEGAL, open_)
      | .loop _ =>
        (if open_.length < 4 then cOK else cLOOP_DEPTH, false :: (open_.map fun _ => true))
      | .endl => match open_ with
        | true :: rest => (cOK, rest)
        | _ => (cCUE_ILLEGAL, open_)
      | .post _ bay _ _ =>
        (if c.lane.testBit bay then cOK else cSEM_RANGE, open_.map fun _ => true)
      | _ => (cOK, open_.map fun _ => true)

/-- The first refusal among a part's cues, given as pairs (word 0, word 1). -/
def cuesRefusal (c : PartCtx) (open_ : Loops) : List (Nat × Nat) → Nat
  | [] => cOK
  | (w0, w1) :: rest =>
    match cueRefusal c open_ rest.isEmpty w1 w0 with
    | (0, o) => cuesRefusal c o rest
    | (code, _) => code

/-- A range entry (R77). -/
def rangeOf (v : Nat) : PRange := { resident := bit v 63, ofs := fld v 33 17, len := fld v 16 0 }

/-- Two ranges share a line. -/
def PRange.overlaps (a b : PRange) : Bool := decide (a.ofs < b.ofs + b.len) && decide (b.ofs < a.ofs + a.len)

/-- No two ranges overlap. -/
def disjoint : List PRange → Bool
  | [] => true
  | r :: rs => (rs.all fun q => !r.overlaps q) && disjoint rs

/-- The range table is valid (R77): its 8 B entries. -/
def rangesOk (token : Nat) (es : List Nat) : Bool :=
  let rs := es.map rangeOf
  (es.all fun v => fld v 62 34 == 0)
  && (rs.all fun r => r.len != 0 && decide (r.len ≤ 98304) && decide (r.ofs ≤ 98303)
      && decide (r.ofs + r.len ≤ 98304) && (!r.resident || token != 0))
  && disjoint rs

/-- The semaphore table is valid (R77): its 4 B entries. -/
def semsOk (es : List Nat) : Bool :=
  (es.all fun v => fld v 15 6 == 0) && (es.map fun v => fld v 5 0).Nodup

end Sys2Proof.Machine
end

