-- ==== Sys2Proof/Machine/Ops.lean ====
section
/-! DEFINITION. The shared operations on the state: registers and their fields, units, logical and
physical bays, time, events and messages to the host. -/

namespace Sys2Proof.Machine

/-- The outcome of a command. -/
abbrev Out := Host.Outcome State Fault Refusal

/-! ## Registers (R7, R8) -/

/-- A register's 64-bit content. -/
def State.raw (s : State) (r : Reg) : W64 :=
  match s.regs.find? (fun p => p.1 = r) with
  | some p => p.2
  | none => r.name.reset

/-- A register written whole; one at its reset value is not listed. -/
def State.setRaw (s : State) (r : Reg) (v : W64) : State :=
  let rest := s.regs.filter (fun p => p.1 ≠ r)
  { s with regs := if v = r.name.reset then rest else (r, v) :: rest }

/-- A field of unit `u`'s register (index `i` of an array). -/
def State.get (s : State) (f : Fld) (u : Nat := 0) (i : Nat := 0) : Nat :=
  bits (s.raw ⟨f.reg, u, i⟩).toNat f.lo f.w

/-- A word with `w` bits from `lo` replaced. -/
def putBits (v lo w x : Nat) : Nat := v - bits v lo w * 2 ^ lo + x % 2 ^ w * 2 ^ lo

/-- A field written; the value is cut to the field's width. -/
def State.put (s : State) (f : Fld) (x : Nat) (u : Nat := 0) (i : Nat := 0) : State :=
  s.setRaw ⟨f.reg, u, i⟩ (BitVec.ofNat 64 (putBits (s.raw ⟨f.reg, u, i⟩).toNat f.lo f.w x))

/-- A counter raised by `n`; it stops at its largest value. -/
def State.bump (s : State) (f : Fld) (n : Nat := 1) (u : Nat := 0) (i : Nat := 0) : State :=
  if n = 0 then s else
  let t := s.get f u i + n
  s.put f (if t < 2 ^ f.w then t else 2 ^ f.w - 1) u i

/-- A counter raised by `n` modulo its width. -/
def State.bumpWrap (s : State) (f : Fld) (n : Nat := 1) (u : Nat := 0) (i : Nat := 0) : State :=
  s.put f (s.get f u i + n) u i

/-- A register back to its reset value. -/
def State.clear (s : State) (n : RegName) (u : Nat := 0) (i : Nat := 0) : State :=
  s.setRaw ⟨n, u, i⟩ n.reset

/-- Several registers of one name and unit back to their reset values. -/
def State.clearAll (s : State) (n : RegName) (u : Nat) : State :=
  { s with regs := s.regs.filter fun p => !(p.1.name == n && p.1.unit == u) }

/-- A flag as a number. -/
def b2n (b : Bool) : Nat := if b then 1 else 0

/-- A one-bit field. -/
def State.flag (s : State) (f : Fld) (u : Nat := 0) (i : Nat := 0) : Bool := s.get f u i == 1

/-! ## Units -/

def State.bay (s : State) (p : Nat) : Bay := Tab.get {} s.bays p
def State.setBay (s : State) (p : Nat) (b : Bay) : State := { s with bays := Tab.set {} s.bays p b }
def State.modBay (s : State) (p : Nat) (f : Bay → Bay) : State := s.setBay p (f (s.bay p))

def State.eng (s : State) (e : Nat) : Engine := Tab.get {} s.engines e
def State.setEng (s : State) (e : Nat) (x : Engine) : State := { s with engines := Tab.set {} s.engines e x }

def State.die (s : State) (d : Nat) : Die := Tab.get {} s.dies d
def State.setDie (s : State) (d : Nat) (x : Die) : State := { s with dies := Tab.set {} s.dies d x }
def State.modDie (s : State) (d : Nat) (f : Die → Die) : State := s.setDie d (f (s.die d))

def State.port (s : State) (p : Nat) : Port := Tab.get {} s.ports p
def State.setPort (s : State) (p : Nat) (x : Port) : State := { s with ports := Tab.set {} s.ports p x }
def State.modPort (s : State) (p : Nat) (f : Port → Port) : State := s.setPort p (f (s.port p))

def Bay.arr (b : Bay) (a : Nat) : Arr := Tab.get {} b.arrs a
def Bay.setArr (b : Bay) (a : Nat) (x : Arr) : Bay := { b with arrs := Tab.set {} b.arrs a x }
def Bay.modArr (b : Bay) (a : Nat) (f : Arr → Arr) : Bay := b.setArr a (f (b.arr a))
def Bay.ring (b : Bay) (r : Nat) : RingEnd := Tab.get {} b.rings r
def Bay.setRing (b : Bay) (r : Nat) (x : RingEnd) : Bay := { b with rings := Tab.set {} b.rings r x }

/-- An idle bay's walk-on of the envelope ends (R334). -/
def Bay.walkOff (b : Bay) : Bay := [0, 1, 2].foldl (fun b a => b.modArr a fun x => { x with fq := [] }) b

/-- Every revolve end of a bay closes (R148); the stall counts stay. Drained rows that still wait for a slot are
dropped with it. -/
def Bay.closeRings (b : Bay) : Bay :=
  { b with
    rings := Tab.mapVals {} (fun r => { stall := r.stall }) b.rings
    drows := b.drows.filter fun r => match r.dst with | .wings _ => true | .ring _ _ _ _ => false }

/-- The physical bay of a logical bay: die d = lb div 8, nibble lb mod 8 of its UST_MAP (R12, R348). -/
def State.phys (s : State) (lb : Nat) : Nat := 9 * (lb / 8) + bits (s.get UST_MAP_PHYS 0 (lb / 8)) (4 * (lb % 8)) 4

/-- The logical bay a physical bay serves, if any. -/
def State.logical (s : State) (p : Nat) : Option Nat :=
  (List.range 8).findSome? fun l => if s.phys (8 * (p / 9) + l) = p then some (8 * (p / 9) + l) else none

/-- A bay's power domain is on (R345, R83). -/
def State.bayOn (s : State) (p : Nat) : Bool := (s.get PWR_DOMSTAT_ON (p / 9)).testBit (p % 9)

/-- The lane mask's logical bays, ascending. -/
def laneBays (mask : W64) : List Nat := (List.range 64).filter fun lb => mask.getLsbD lb

/-! ## Conditions that stop whole parts of the module -/

/-- The compute clocks run: powered, not in warm reset, no tableau holds them (R387). -/
def State.clocked (s : State) : Bool := s.boot.power == .on && s.pins.perstN && s.frozen.isNone
/-- Power is on. -/
def State.powered (s : State) : Bool := s.boot.power == .on
/-- Boot has completed (R416). -/
def State.ready (s : State) : Bool := s.flag RST_BOOTSTAT_READY
/-- A shed is in force (R336). -/
def State.shed (s : State) : Bool := s.flag ENV_STAT_SHED

/-- The running order may start a command: no shed holds it, and a slot boundary has passed since the last one (R319). -/
def State.mayStart (s : State) : Bool := !s.shed && decide (s.env.shedOver ≤ s.ro.lastEl)

/-- A shed holds the PROMPT, MATCH or WALK that executes for a bay (R320); under a POINTERS stop it ends, for a requested
stop completes in a shed (R319). -/
def State.shedHolds (s : State) (p : Nat) : Bool := s.shed && s.get CUE_SEQSTAT_STATE p != 5

/-- A command on a unit numbered below `n`; there is none above it. -/
def onUnit (u n : Nat) (s : State) (f : State → State) : Out :=
  if u < n then .next (f s) else .fault (.noSuchUnit u)

/-- An event of logic on the compute and control clocks: it acts only while they run. -/
def onClock (s : State) (f : State → State) : Out := .next (if s.clocked then f s else s)
/-- An event of logic that runs whenever the module is powered, a tableau included (R388). -/
def onPower (s : State) (f : State → State) : Out := .next (if s.powered then f s else s)
/-- An event of a unit below `n` on the compute and control clocks. -/
def onUnitClock (u n : Nat) (s : State) (f : State → State) : Out := onUnit u n s fun s => if s.clocked then f s else s

/-- A command on a logical bay's sequencer or units: it acts only while the compute clocks run. -/
def onBay (lb : Nat) (s : State) (f : Nat → State) : Out :=
  if lb < 64 then .next (if s.clocked then f (s.phys lb) else s) else .fault (.noSuchUnit lb)

/-! ## Free values -/

/-- The next free value, and the state with the index advanced. -/
def State.fresh (s : State) : Nat × State := ((Config.freeValue s.free).toNat, { s with free := s.free + 1 })

/-! ## Messages to the host and module events (R450, R453) -/

/-- A vector's mask bit, in its table entry, or the function mask. -/
def State.vecMasked (s : State) (v : Nat) : Bool :=
  s.host.fmask || s.flag MSIX_DATA_MASK 0 v

/-- Vector `v` is sent: masked, its pending bit is set; with Bus Master Enable clear nothing is sent (R450);
in D3hot it waits for D0 (R444). -/
def State.sendVec (s : State) (v : Nat) : State :=
  if s.host.d3 then { s with host := { s.host with owed := s.host.owed ++ [v] } }
  else if !s.host.bme then s
  else if s.vecMasked v then
    s.setRaw ⟨.MSIX_PBA, 0, v / 64⟩ (s.raw ⟨.MSIX_PBA, 0, v / 64⟩ ||| (1#64 <<< (v % 64)))
  else { s with host := { s.host with msix := s.host.msix ++ [v] } }

/-- Module event `n` (R450): its HST_EVSTAT bit is set; going from 0 to 1 with HST_EVEN set sends vector n. -/
def State.event (s : State) (n : Nat) : State :=
  if (s.get HST_EVSTAT_EVENTS).testBit n then s
  else
    let t := s.put HST_EVSTAT_EVENTS (s.get HST_EVSTAT_EVENTS + 2 ^ n)
    if (s.get HST_EVEN_EN).testBit n then t.sendVec n else t

/-- An entry of the envelope's event log (R344), and event ENVLOG. -/
def State.evlog (s : State) (kind code detail : Nat) : State :=
  let i := s.get ENV_EVHEAD_NEXT
  let s := (s.put ENV_EVLOG_LO_KIND kind 0 i).put ENV_EVLOG_LO_CODE code 0 i
  let s := (s.put ENV_EVLOG_LO_DETAIL (if detail < 2 ^ 32 then detail else 2 ^ 32 - 1) 0 i).put ENV_EVLOG_HI_TIME s.clk.sys 0 i
  (s.bumpWrap ENV_EVHEAD_NEXT).event 1

/-- A source of ALERT_N holds: service due or a candidate waits (R355, R357, R366), a channel awaits retirement
by the host (R361), the coolant is out of its limits (R466), or boot halted for want of its clock (R403). -/
def State.alertSource (s : State) : Bool :=
  s.flag UST_STAT_SERVICE || s.flag UST_STAT_CAND || s.flag UST_STAT_CHANV
  || s.flag PWR_COOL_LOWFLOW || s.flag PWR_COOL_HOTIN || (s.boot.halted && s.get RST_BOOTSTAT_STAGE == 1)

/-- ALERT_N is low while a source holds (R400, R459); falling, it is event ALERT (R450). -/
def State.alert (s : State) : State :=
  let low := s.alertSource
  let t := { s with pins := { s.pins with alertN := !low } }
  if low && s.pins.alertN then t.event 0 else t

/-! ## Power domains, frames and bay swaps (R345, R355 to R358, R363 to R365) -/

/-- A power domain of a die switched (R345). -/
def State.setDomain (s : State) (die b : Nat) (on : Bool) : State := s.put ⟨.PWR_DOMSTAT, b, 1⟩ (b2n on) die

/-- The frame in force is lost (R364). -/
def State.markLost (s : State) : State := { s with ro := { s.ro with frameLost := true } }
/-- The frame in force is excluded (R365). -/
def State.markExcl (s : State) : State := { s with ro := { s.ro with frameExcl := true } }

/-- A service condition: UST_STAT.SERVICE and ALERT_N (R353, R354, R357, R362, R366). -/
def State.service (s : State) : State := (s.put UST_STAT_SERVICE 1).alert

/-- The time since the end of the last frame is lost or excluded (R364, R365). -/
def State.gap (s : State) (lost : Bool) : State :=
  if s.boot.gapFrom.isNone && s.flag RUN_STAT_ACTIVE && !s.flag RUN_STAT_REH then { s with boot := { s.boot with gapFrom := some (s.ro.lastFrameEnd, lost) } } else s

/-- A pool of spares is used up (R349, R366): a die without its understudy, a wings block or green room without spare
banks, a causeway group or a regulator rail past its spares, or no standby core. -/
def State.poolsOut (s : State) : Bool :=
  s.get UST_STAT_SPARE != 0xFF || (s.nv.spareBanks.any fun x => decide (8 ≤ x.2)) || (s.nv.greenBanks.any fun x => decide (32 ≤ x.2))
  || s.flag UST_CWY_HALF || s.flag UST_VRM_LIMIT || s.flag UST_COLVEL_NOSTBY

/-- SERVICE is set while a pool of spares is used up (R366). -/
def State.poolCheck (s : State) : State := if s.poolsOut then s.service else s

/-- The understudy of a die that is left, by its bay number (R349, R366). -/
def State.understudyOf (s : State) (d : Nat) : Option Nat :=
  if (s.get UST_STAT_SPARE).testBit d then (List.range 9).find? fun b => bits (s.get UST_BAYST_STATE 0 d) (2 * b) 2 == 1 else none

/-- A swap of logical bay `lb` is requested: refused, or the understudy's domain is powered for its check
(R355, R356, R358). -/
def State.requestSwap (s : State) (lb : Nat) : State :=
  match s.understudyOf (lb / 8), (s.die (lb / 8)).swap with
  | some b, none =>
    let s := (s.modDie (lb / 8) fun x => { x with swap := some { lbay := lb } }).setDomain (lb / 8) b true
    let s := s.put UST_SWAP_STATE 1
    if s.flag UST_STAT_CAND && s.get UST_STAT_CBAY == lb then (s.put UST_STAT_CAND 0).alert else s
  | _, _ => (s.put UST_SWAP_STATE 5).event 5

/-- The candidate is recorded for the host (R355). -/
def State.recordCandidate (s : State) (lb : Nat) : State := ((s.put UST_STAT_CAND 1).put UST_STAT_CBAY lb).alert

/-- A trigger makes logical bay `lb` a swap candidate (R355, R357, R360): with AUTO its swap starts, unless one is under
way on the die; else it is recorded for the host. One on a die without an understudy asks for service besides. -/
def State.swapCandidate (s : State) (lb : Nat) : State :=
  let busy := (s.die (lb / 8)).swap.isSome
  let s := if s.flag UST_CFG_AUTO then s.requestSwap lb else s
  if !busy && (s.die (lb / 8)).swap.isSome then s
  else
    let s := if !busy && s.flag UST_CFG_AUTO then s else s.recordCandidate lb
    if (s.understudyOf (lb / 8)).isNone then s.service else s

/-- A trigger on a physical bay; one that no logical bay names is none. -/
def State.bayTrigger (s : State) (p : Nat) : State :=
  match s.logical p with
  | some lb => s.swapCandidate lb
  | none => s

/-! ## The throttle level (R333) -/

/-- The CK_A divider of a level: 0 ÷6, 1 ÷8, 2 ÷12, 3 ÷24 (R333, R428). -/
def levelDiv (l : Nat) : Nat := if l < 5 then 0 else if l < 10 then 1 else if l < 15 then 2 else 3

/-- CK_A in MHz at a divider (R333). -/
def divMHz (d : Nat) : Nat := match d with | 0 => 940 | 1 => 705 | 2 => 470 | _ => 235

/-- CK_A runs at a divider. -/
def State.setDiv (s : State) (d : Nat) : State := (s.put CLK_STAT_ADIV d).put CLK_FREQ_CKA (divMHz d)

/-- The throttle level is set, and outside a shed, which holds CK_A at ÷24, the divider with it (R333, R336). -/
def State.setLevel (s : State) (l : Nat) : State :=
  let s := s.put ENV_STAT_LEVEL l
  if s.shed then s else s.setDiv (levelDiv l)

/-- 24 hours in ns (R352, R355). -/
def dayNs : Nat := 86400 * 10 ^ 9

/-! ## Commands of the running order -/

/-- A started command by its number. -/
def State.cmd (s : State) (id : Nat) : Option Cmd := s.ro.cmds.find? fun c => c.id == id
def State.modCmd (s : State) (id : Nat) (f : Cmd → Cmd) : State :=
  { s with ro := { s.ro with cmds := s.ro.cmds.map fun c => if c.id = id then f c else c } }

/-- A status code a command reports (R128, R129). -/
def Cmd.addS (c : Cmd) (code : Nat) : Cmd := if c.scodes.contains code then c else { c with scodes := c.scodes ++ [code] }
/-- The command's fault code; the first stays (R129). -/
def Cmd.setF (c : Cmd) (code : Nat) : Cmd := match c.fcode with | some _ => c | none => { c with fcode := some code }
/-- FLAGS bits of a call-board entry (R305). -/
abbrev flNUM : Nat := 0
abbrev flECC : Nat := 1
abbrev flBOUND : Nat := 2
abbrev flSPARSE : Nat := 3
abbrev flFABRIC : Nat := 4
abbrev flPROMPT : Nat := 5

/-- A bit of the entry's FLAGS (R312). -/
def Cmd.setFlag (c : Cmd) (b : Nat) : Cmd := if c.flags.testBit b then c else { c with flags := c.flags + 2 ^ b }

/-- A status code for the command that holds physical bay `p`. -/
def State.bayStatus (s : State) (p code : Nat) : State :=
  match (s.bay p).cid with
  | some id => s.modCmd id (·.addS code)
  | none => s
/-- A FLAGS bit for the command that holds physical bay `p`. -/
def State.bayFlag (s : State) (p b : Nat) : State :=
  match (s.bay p).cid with
  | some id => s.modCmd id (·.setFlag b)
  | none => s

/-! ## Time -/

/-- Over one CK_C cycle system time passes by the `dn` ns of elapsed time and what slewing adds (R273): the corrected
rate, and the phase at 10 µs per second while some is left to correct, as R275 bounds the root (log entry 88, DESIGN
CHOICE). -/
def Clock.slewBy (c : Clock) (dn : Nat) : Clock :=
  let d := max (-1000000) (min 1000000 c.slew)
  let a := c.slewSub + 100 * c.rate + d
  { c with sys := ((c.sys : Int) + dn + a / 47000000000).toNat, slew := c.slew - d, slewSub := a % 47000000000 }

/-- Half CK_A cycles in a CK_C cycle of 470 MHz at a divider (R333). -/
def caRate (div : Nat) : Nat := match div with | 0 => 4 | 1 => 3 | 2 => 2 | _ => 1

/-- One CK_C cycle of 100/47 ns: elapsed time and, powered, system time advance, and every odometer counts it unless a
tableau has stopped the clocks (R367, R387, R388); CK_A runs at its divider while the compute clocks run. -/
def State.tick (s : State) : State :=
  let u := s.clk.sub + 100
  let dn := u / 47
  let c := if s.powered then s.clk.slewBy dn else s.clk
  { s with clk := { c with
      sub := u % 47
      el := s.clk.el + dn
      odo := if s.powered && s.frozen.isNone then s.clk.odo + 1 else s.clk.odo
      ca := if s.clocked then s.clk.ca + caRate (s.get CLK_STAT_ADIV) else s.clk.ca } }

end Sys2Proof.Machine
end

