-- ==== Sys2Proof/Machine/Memory.lean ====
section
/-! DEFINITION. Event counters (R367 to R369, R378) and the module's storage: wings and green room with
their word ECC (R131 to R139), DDR with granule ECC and poison (R189 to R203), device addresses (R142,
R189) and memory windows (R171). -/

namespace Sys2Proof.Machine

/-! ## Counters of an observed block (R368, R369) -/

def bayBlk (p : Nat) : Nat := 10 * (p / 9) + p % 9
def dieBlk (d : Nat) : Nat := 10 * d + 9
def portBlk (p : Nat) : Nat := 80 + p

/-- A derived bandwidth unit's block: DIE 0–7 with BAY (9 the die block), DIE 8–11 a port die (R378). -/
def bwBlk (die bay : Nat) : Nat := if die < 8 then 10 * die + (if bay < 9 then bay else 9) else 80 + (die - 8)

/-- `n` occurrences of an event in a block: every enabled counter that selects it counts them, and so does
every derived unit that names it. -/
def State.count (s : State) (blk ev unit n : Nat) : State :=
  if n = 0 then s else
  let s := (List.range 8).foldl (fun s k =>
    if s.flag OBS_SEL_EN blk k && s.get OBS_SEL_EVENT blk k == ev && s.get OBS_SEL_UNIT blk k == unit
    then s.bump OBS_CNT_COUNT n blk k else s) s
  (List.range 8).foldl (fun s k =>
    if s.flag OBS_BWSEL_EN 0 k && s.get OBS_BWSEL_EVENT 0 k == ev && s.get OBS_BWSEL_UNIT 0 k == unit
        && bwBlk (s.get OBS_BWSEL_DIE 0 k) (s.get OBS_BWSEL_BAY 0 k) == blk
    then { s with obs := { s.obs with bwCount := Tab.mod 0 s.obs.bwCount k (· + n) } } else s) s

/-- Bytes in units of 64 B, rounded up (R369). -/
def units64 (n : Nat) : Nat := ceilDiv n 64

/-! ## Wings (R135) -/

def markOf (t : Tab ErrMark) (k : Nat) : Option ErrMark := (t.find? fun p => p.1 == k).map (·.2)

/-- The byte a read delivers: 0xFF of an uncorrectable word (R135). -/
def Bay.byte (b : Bay) (o : Nat) : Byte :=
  if markOf b.wingsErr (o / 2) = some .uncorr then 0xFF else b.wings.read o
/-- `n` bytes as a read delivers them. -/
def Bay.bytes (b : Bay) (o : Nat) : Nat → Bytes
  | 0 => []
  | n + 1 => b.byte o :: Bay.bytes b (o + 1) n

/-- The bank of a wings word within its bay: block × 128 + bank of R132. -/
def wingsBank (w : Nat) : Nat := bits (2 * w) 23 2 * 128 + (bits (2 * w) 8 7 + bits (2 * w) 1 7) % 128
/-- A row of a wings bank: the manual states no row size; a row is one word position (log entry 51). -/
def wingsRow (w : Nat) : Nat := wingsBank w * 32768 + bits (2 * w) 8 15

/-- A wings bank needs repair; when its block has no spare bank left the bay is a swap candidate (R352, R355). -/
def State.needBank (s : State) (p k : Nat) : State :=
  if (s.bay p).bankFix.contains k then s
  else
    let s := s.modBay p fun b => { b with bankFix := b.bankFix ++ [k] }
    if 8 ≤ Tab.get 0 s.nv.spareBanks (3 * p + k / 128) then s.bayTrigger p else s

/-- A wings row needs repair: the ninth of a bank makes it a bank repair (R352). -/
def State.needRow (s : State) (p r : Nat) : State :=
  let k := r / 32768
  let b := s.bay p
  if b.rowFix.contains r then s
  else if 8 ≤ Tab.get 0 s.nv.spareRows (384 * p + k) + (b.rowFix.filter fun x => x / 32768 == k).length then s.needBank p k
  else s.modBay p fun b => { b with rowFix := b.rowFix ++ [r] }

/-- A wings word is corrected; the second time within 24 hours its row needs repair (R352). -/
def State.wordCorrected (s : State) (p w : Nat) : State :=
  let again := (s.bay p).corrOnce.any fun x => x.1 == w && decide (s.clk.el ≤ x.2 + dayNs)
  let s := s.modBay p fun b => { b with
    wingsErr := Tab.erase b.wingsErr w
    corrOnce := (w, s.clk.el) :: b.corrOnce.filter fun x => x.1 != w }
  if again then s.needRow p (wingsRow w) else s

/-- What a read of granules met: a corrected error, an uncorrectable one. -/
structure EccSeen where
  corr : Bool := false
  unc  : Bool := false
  deriving DecidableEq, Repr

/-- Both verdicts of two reads. -/
def EccSeen.or (a b : EccSeen) : EccSeen := { corr := a.corr || b.corr, unc := a.unc || b.unc }

/-- What accesses for a command met is charged to it (R192, R193, R305). -/
def State.cmdEcc (s : State) (who : Option Nat) (e : EccSeen) : State :=
  match who with
  | none => s
  | some id =>
    let s := if e.corr then s.modCmd id fun c => c.setFlag flECC else s
    if e.unc then s.modCmd id fun c => c.addS cECC_UNCORR else s

/-- What an access saw is charged to the command that holds a bay: ECC_CORR in FLAGS, ECC_UNCORR as a status. -/
def State.bayEcc (s : State) (p : Nat) (e : EccSeen) : State :=
  let s := if e.corr then s.bayFlag p 1 else s
  if e.unc then s.bayStatus p cECC_UNCORR else s

/-- The words of an access that hold errors are read: corrected words are written back and counted,
uncorrectable words count (R135) and need a bank repair (R352). -/
def State.wingsSeen (s : State) (p : Nat) (words : List Nat) : State × EccSeen :=
  words.foldl (fun (x : State × EccSeen) w =>
    match markOf (x.1.bay p).wingsErr w with
    | none => x
    | some .corr => ((x.1.wordCorrected p w).bump WNG_ECC_CORR 1 p, { x.2 with corr := true })
    | some .uncorr => ((x.1.needBank p (wingsBank w)).bump WNG_ECC_UNCORR 1 p, { x.2 with unc := true })) (s, {})

/-- A bay reads words of its own wings. -/
def State.wingsRead (s : State) (p : Nat) (words : List Nat) : State := let x := s.wingsSeen p words; x.1.bayEcc p x.2

/-- Words of the `n` bytes at `o`. -/
def wordsAt (o n : Nat) : List Nat := if n = 0 then [] else (List.range ((o + n - 1) / 2 + 1 - o / 2)).map (· + o / 2)

/-- Bytes stored in the wings: a whole word replaces its error; part of an uncorrectable word is
discarded; part of a correctable word corrects and counts it (R135). -/
def State.wingsPut (s : State) (p : Nat) (bs : List (Nat × Byte)) : State × EccSeen :=
  bs.foldl (fun (y : State × EccSeen) x =>
    let put (s : State) := s.modBay p fun b => { b with wings := b.wings.write x.1 x.2 }
    match markOf (y.1.bay p).wingsErr (x.1 / 2) with
    | none => (put y.1, y.2)
    | some m =>
      let whole := bs.any fun z => z.1 == (if x.1 % 2 = 0 then x.1 + 1 else x.1 - 1)
      let clear (s : State) := s.modBay p fun b => { b with wingsErr := Tab.erase b.wingsErr (x.1 / 2) }
      if whole then (if x.1 % 2 = 0 then put y.1 else put (clear y.1), y.2)
      else match m with
        | .corr => (put ((y.1.wordCorrected p (x.1 / 2)).bump WNG_ECC_CORR 1 p), { y.2 with corr := true })
        | .uncorr => (y.1, { y.2 with unc := true })) (s, {})

/-- Bay `src` stores bytes in the wings of bay `p`: what the store saw is charged to the storing command. -/
def State.wingsStore (s : State) (src p : Nat) (bs : List (Nat × Byte)) : State := let x := s.wingsPut p bs; x.1.bayEcc src x.2

/-- A bay stores bytes in its own wings. -/
def State.wingsWrite (s : State) (p : Nat) (bs : List (Nat × Byte)) : State := s.wingsStore p p bs

/-- A run of bytes at a wings offset. -/
def runAt (o : Nat) : Bytes → List (Nat × Byte)
  | [] => []
  | b :: bs => (o, b) :: runAt (o + 1) bs

/-! ## Green room (R138 to R140) -/

def greenSize : Nat := 0x4000000
def stagingBase : Nat := 0x3C00000

/-- Bytes of a green room as a read delivers them: all ones of an uncorrectable 8 B word (R139); beyond its
end there is no storage and the manual states no value: free bytes. -/
def State.greenByte (s : State) (d o : Nat) : Byte :=
  if o < greenSize then
    (if markOf (s.die d).greenErr (o / 8) = some .uncorr then 0xFF else (s.die d).green.read o)
  else BitVec.ofNat 8 (Config.freeValue o).toNat
def State.greenBytes (s : State) (d o : Nat) : Nat → Bytes
  | 0 => []
  | n + 1 => s.greenByte d o :: State.greenBytes s d (o + 1) n

/-- Bank and row of an 8 B word of a green room (R138). -/
def greenBank (k : Nat) : Nat := bits (8 * k) 10 9
def greenRow (k : Nat) : Nat := bits (8 * k) 19 7

/-- Words of a green room are copied into a spare: uncorrectable ones as all ones, and none keeps an error (R352). -/
def Die.repairGreen (x : Die) (sel : Nat → Bool) : Die :=
  { x with
    green := (x.greenErr.filter fun e => sel e.1 && e.2 == .uncorr).foldl
      (fun (m : Memory) e => m.writeN (8 * e.1) (List.replicate 8 0xFF)) x.green
    greenErr := x.greenErr.filter fun e => !sel e.1 }

/-- A green-room bank is repaired at once, uncorrectable words as all ones; with no spare bank left it stays in
service and SERVICE is set (R349, R352). -/
def State.repairGreenBank (s : State) (d bank : Nat) : State :=
  if 32 ≤ Tab.get 0 s.nv.greenBanks d then s.service
  else
    let s := s.modDie d fun x => x.repairGreen fun k => greenBank k == bank
    { s.bump UST_SRAM_GBANK with nv := { s.nv with
        greenBanks := Tab.mod 0 s.nv.greenBanks d (· + 1), greenRows := Tab.set 0 s.nv.greenRows (512 * d + bank) 0 } }.poolCheck

/-- A green-room row is repaired at once, its uncorrectable words as all ones: the ninth of a bank repairs the
bank (R352). -/
def State.repairGreenRow (s : State) (d bank row : Nat) : State :=
  if 8 ≤ Tab.get 0 s.nv.greenRows (512 * d + bank) then s.repairGreenBank d bank
  else
    let s := s.modDie d fun x => x.repairGreen fun k => greenBank k == bank && greenRow k == row
    { s.bump UST_SRAM_ROWS with nv := { s.nv with greenRows := Tab.mod 0 s.nv.greenRows (512 * d + bank) (· + 1) } }

/-- A green-room word is corrected; the second time within 24 hours its row is repaired (R352). -/
def State.greenCorrected (s : State) (d k : Nat) : State :=
  let again := (s.die d).corrOnce.any fun x => x.1 == k && decide (s.clk.el ≤ x.2 + dayNs)
  let s := s.modDie d fun x => { x with
    greenErr := Tab.erase x.greenErr k
    corrOnce := (k, s.clk.el) :: x.corrOnce.filter fun y => y.1 != k }
  if again then s.repairGreenRow d (greenBank k) (greenRow k) else s

/-- The 8 B words of an access that hold errors are read and counted (R139), then their repairs are made (R352): an
uncorrectable word has its bank repaired, a corrected one may have its row. Answers whether one was uncorrectable. -/
def State.greenRead (s : State) (d o n : Nat) : State × Bool :=
  let words := (List.range ((o + n + 7) / 8 - o / 8)).map (· + o / 8)
  let bad := words.filter fun k => decide (markOf (s.die d).greenErr k = some .uncorr)
  let corr := words.filter fun k => decide (markOf (s.die d).greenErr k = some .corr)
  let s := (s.bump GRM_ECC_CORR corr.length d).bump GRM_ECC_UNCORR bad.length d
  let s := corr.foldl (fun s k => s.greenCorrected d k) s
  ((bad.map greenBank).dedup.foldl (fun s k => s.repairGreenBank d k) s, !bad.isEmpty)

/-- Bytes written to a green room: the access writes every granule it touches whole (R138), so every word of them has
fresh check bits afterwards and no error (R139). Bytes of the granules that the write does not give keep what a
read delivers of them: all ones in an uncorrectable word (log entry 72). -/
def State.greenPut (s : State) (d : Nat) (bs : List (Nat × Byte)) : State :=
  let touched (k : Nat) : Bool := bs.any fun x => x.1 / 64 == k / 8
  s.modDie d fun x => let y := x.repairGreen touched; { y with green := y.green.put bs }

/-- Consecutive bytes written to a green room. -/
def State.greenWrite (s : State) (d o : Nat) (bs : Bytes) : State := s.greenPut d (runAt o bs)

/-! ## DDR (R189 to R203) -/

def gib : Nat := 0x40000000
/-- Installed DDR: 2,304 or 4,608 GiB (R189). -/
def State.ddrSize (s : State) : Nat := if s.boot.mr144 then 4608 * gib else 2304 * gib
/-- The first address of the retirement reserve, which is the top 144 or 72 GiB (R189). -/
def State.reserveBase (s : State) : Nat := if s.boot.mr144 then 4464 * gib else 2232 * gib

/-- The channel hash of R191. -/
def chanHash (a : Nat) : Nat := bits a 11 5 ^^^ bits a 16 5 ^^^ bits a 21 5
/-- The channel-local granule of 2 KiB (R191). -/
def localGranule (a : Nat) : Nat := a / 65536 % 2 ^ 32

/-- The k-th channel in ascending order with `x` skipped (R197). -/
def survivor (x k : Nat) : Nat := if k < x then k else k + 1

/-- The channel and the channel-local granule that hold an address: the hash's, or the target of R197 once the granule is
remapped. -/
def State.homeOf (s : State) (a : Nat) : Nat × Nat :=
  let c := chanHash a
  let g := localGranule a
  let moved := (s.flag MEM_INFO_RETIRED && s.get MEM_INFO_RCHAN == c)
    || (s.retire.chan == some c && decide (g < s.get MEM_MIGPOS_GRANULES))
  if moved then (survivor c (g % 31), s.reserveBase / 65536 + g / 31) else (c, g)

/-- The channel that serves an address. -/
def State.chanOf (s : State) (a : Nat) : Nat := (s.homeOf a).1

/-- The depot set of a line: the model's own choice of index bits (log entry 21). -/
def depotSet (line : Nat) : Nat := line % 32768

/-- The line a full set of `ways` lines gives up for another: its least recently used one (R201). -/
def Depot.victim (d : Depot) (ways : Nat) (line : Nat) : Option (Nat × Bool) :=
  let same := d.lines.filter fun l => l.1 != line && depotSet l.1 == depotSet line
  if ways ≤ same.length then same.getLast? else none

/-- A line is accessed: it becomes the most recently used of its set, and the victim leaves (R201). -/
def Depot.touch (d : Depot) (ways : Nat) (line : Nat) (dirty : Bool) : Depot :=
  let was := d.lines.any fun l => l.1 == line && l.2
  let rest := d.lines.filter fun l => l.1 != line
  let kept := match d.victim ways line with
    | some v => rest.filter fun l => l.1 != v.1
    | none => rest
  { d with lines := (line, dirty || was) :: kept }

/-- DEP_STAT.DIRTY shows the dirty lines (R215). -/
def State.depotShow (s : State) (p : Nat) : State :=
  s.put DEP_STAT_DIRTY (((s.port p).depot.lines.filter (·.2)).length) p

/-- Granules become poisoned (R193). -/
def State.poison (s : State) (gs : List Nat) : State :=
  { s with memErr := gs.foldl (fun t g => Tab.insert (Tab.erase t g) g .uncorr) s.memErr }

/-- The dirty lines among those a condition selects are written back and stay clean: what they hold is counted, and an
uncorrectable line is written back as poisoned granules (R202, R203, R369). -/
def State.depotBack (s : State) (p : Nat) (sel : Nat → Bool) : State :=
  let d := (s.port p).depot
  let ls := (d.lines.filter fun l => sel l.1 && l.2).map (·.1)
  let errs := d.errs.filter fun e => ls.contains (e.1 / 32)
  let bad := ((errs.filter fun e => e.2 == .uncorr).map (·.1 / 32)).dedup
  let s := (s.bump DEP_ECC_CORR (errs.filter fun e => e.2 == .corr).length p).bump DEP_ECC_UNCORR bad.length p
  let s := s.poison (bad.flatMap fun l => (List.range 4).map (4 * l + ·))
  let s := s.modPort p fun x => { x with depot := { x.depot with
    lines := d.lines.map fun l => (l.1, l.2 && !sel l.1), errs := d.errs.filter fun e => !ls.contains (e.1 / 32) } }
  (s.depotShow p).count (portBlk p) 0x45 0 ls.length

/-- The lines a condition selects are written back and invalidated (R202). -/
def State.depotDrop (s : State) (p : Nat) (sel : Nat → Bool) : State :=
  (s.depotBack p sel).modPort p fun x => { x with depot := { x.depot with
    lines := x.depot.lines.filter fun l => !sel l.1, errs := x.depot.errs.filter fun e => !sel (e.1 / 32) } }

/-- An access meets the errors of the granule's words in its depot (R203): a whole granule written replaces them; else
corrected words count and are stored corrected, and an uncorrectable line leaves the depot, a clean one to be read again
from DRAM, a dirty one written back as poison. -/
def State.depotErrs (s : State) (p a : Nat) (whole : Bool) : State :=
  let es := (s.port p).depot.errs.filter fun e => e.1 / 8 == a / 64
  if es.isEmpty then s
  else if !whole && es.any fun e => e.2 == .uncorr then s.depotDrop p fun l => l == a / 256
  else (if whole then s else s.bump DEP_ECC_CORR es.length p).modPort p fun x =>
    { x with depot := { x.depot with errs := x.depot.errs.filter fun e => e.1 / 8 != a / 64 } }

/-- The depot of an address holds its line. -/
def State.depotHit (s : State) (a : Nat) : Bool := (s.port (s.chanOf a / 8)).depot.lines.any fun l => l.1 == a / 256

/-- One access of a granule passes the depot of its port die until ENABLE is cleared and its lines are
written back (R201, R202). A dirty line that a full set gives up is written back (R369). -/
def State.depotAccess (s : State) (a : Nat) (write whole : Bool) : State :=
  let p := s.chanOf a / 8
  if s.flag DEP_CTL_ENABLE p || (s.port p).depot.disabling then
    let s := s.depotErrs p a whole
    let hit := s.depotHit a
    let ways := if s.flag DEP_STAT_GTHWAYS p then 14 else 16
    let s := match (s.port p).depot.victim ways (a / 256) with
      | some v => if hit then s else s.depotDrop p fun l => l == v.1
      | none => s
    let s := s.modPort p fun x => { x with depot := x.depot.touch ways (a / 256) write }
    (s.depotShow p).count (portBlk p) (if hit then 0x43 else 0x44) 0 1
  else s

/-- MEM_ERRADDR of a channel records a granule's error; an uncorrectable one is event MEMORY (R192, R450). -/
def State.errAddr (s : State) (a : Nat) (unc : Bool) : State :=
  let c := s.chanOf a
  let s := ((s.put MEM_ERRADDR_VALID 1 c).put MEM_ERRADDR_UNC (b2n unc) c).put MEM_ERRADDR_ADDR (a / 64 * 64) c
  if unc then s.event 6 else s

/-- An access that the depot does not serve goes over the DDR5 bus (R192): each retry counts, four at most. Answers whether
the last retry failed too, after which the access is handled as uncorrectable: its granule is poisoned (log entry 92). -/
def State.busAccess (s : State) (a : Nat) (hit : Bool) : State × Bool :=
  let n := Tab.get 0 s.busErr (a / 64)
  if hit || n == 0 then (s, false)
  else
    let s := { s with busErr := Tab.erase s.busErr (a / 64) }.bump MEM_ECC_BUS (if n < 4 then n else 4) (s.chanOf a)
    if n ≤ 4 then (s, false) else (s.poison [a / 64], true)

/-- One granule is read: its class of R192 is counted; demand reads never write back (R194). -/
def State.granuleRead (s : State) (a : Nat) (e : EccSeen) : State × EccSeen :=
  let c := s.chanOf a
  let hit := s.depotHit a
  let s := (((s.depotAccess a false false).busAccess a hit).1).count (portBlk (c / 8)) 0x40 (c % 8) 1
  match markOf s.memErr (a / 64) with
  | none => (s, e)
  | some .corr => ((s.bump MEM_ECC_CORR 1 c).errAddr a false, { e with corr := true })
  | some .uncorr => ((s.bump MEM_ECC_UNCORR 1 c).errAddr a true, { e with unc := true })

/-- The granules of `n` bytes at `a`, by their first addresses. -/
def granulesAt (a n : Nat) : List Nat := if n = 0 then [] else (List.range ((n - 1 + a) / 64 + 1 - a / 64)).map fun i => (a / 64 + i) * 64

/-- The byte a DDR read delivers: 0xFF of an uncorrectable granule (R192). -/
def State.ddrByte (s : State) (a : Nat) : Byte :=
  if markOf s.memErr (a / 64) = some .uncorr then 0xFF else s.mem.read a
def State.ddrBytes (s : State) (a : Nat) : Nat → Bytes
  | 0 => []
  | n + 1 => s.ddrByte a :: State.ddrBytes s (a + 1) n

/-- `n` bytes of DDR read by a demand access. -/
def State.ddrRead (s : State) (a n : Nat) : State × Bytes × EccSeen :=
  let (t, e) := (granulesAt a n).foldl (fun (s, e) g => s.granuleRead g e) (s, {})
  (t, s.ddrBytes a n, e)

/-- A fetched granule that a write reaches turns stale (R176). -/
def Fetched.mark (g : Nat) (f : Fetched) : Fetched := if f.granule = g ∧ f.watched then { f with stale := true } else f
def MoveOp.markStale (m : MoveOp) (g : Nat) : MoveOp :=
  { m with reqs := m.reqs.map (fun r => { r with gs := r.gs.map (Fetched.mark g) }), kept := m.kept.map (Fetched.mark g) }
/-- Every granule that a MOVE's requests hold or that it keeps. -/
def MoveOp.holding (m : MoveOp) : List Fetched := m.reqs.flatMap (fun r => r.gs) ++ m.kept

/-- A write reaches a granule: watched copies of it in a ledger turn stale and are counted (R176, R177); one that is
stale already and has not been refetched counts no second time (log entry 73). -/
def State.markStale (s : State) (g : Nat) : State :=
  s.ledger.foldl (fun s l =>
    if l.granule = g / 64 then
      let hits := ((s.eng l.eng).q.any fun m => m.id == l.move
        && m.holding.any fun f => f.granule == g / 64 && f.watched && !f.stale)
      if hits then
        let q := (s.eng l.eng).q.map fun m => if m.id = l.move then m.markStale (g / 64) else m
        ((s.setEng l.eng { q := q }).bump STR_STALE_MARKED 1 l.eng).count (portBlk (s.chanOf g / 8)) 0x4C 0 1
      else s
    else s) s

/-- Bytes of the granule at `g`, each once, are written (R193): a whole granule replaces poison, part
of a poisoned granule is discarded (`unc`), part of one with a correctable error corrects it (`corr`). -/
def State.granulePut (s : State) (g : Nat) (bs : List (Nat × Byte)) : State × EccSeen :=
  let c := s.chanOf g
  let whole := bs.length == 64
  let hit := s.depotHit g
  let x := (s.depotAccess g true whole).busAccess g hit
  let s := (x.1.count (portBlk (c / 8)) 0x41 (c % 8) 1).markStale g
  if x.2 then ((s.bump MEM_ECC_UNCORR 1 c).errAddr g true, { unc := true }) else
  match markOf s.memErr (g / 64), whole with
  | some .uncorr, false => (s, { unc := true })
  | some .corr, false =>
    (({ s with mem := s.mem.put bs, memErr := Tab.erase s.memErr (g / 64) }.bump MEM_ECC_CORR 1 c).errAddr g false, { corr := true })
  | some _, true => ({ s with mem := s.mem.put bs, memErr := Tab.erase s.memErr (g / 64) }, {})
  | none, _ => ({ s with mem := s.mem.put bs }, {})

/-- Consecutive bytes `bs` at `a`, all inside one granule, are written. -/
def State.granuleWrite (s : State) (a : Nat) (bs : Bytes) : State × EccSeen :=
  if bs.isEmpty then (s, {}) else s.granulePut (a / 64 * 64) (runAt a bs)

/-- Bytes written from `a` on, granule by granule; `fuel` bounds the granules. -/
def State.ddrWriteGo : Nat → State → Nat → Bytes → State × EccSeen
  | 0, s, _, _ => (s, {})
  | fuel + 1, s, a, bs =>
    if bs.isEmpty then (s, {}) else
    let n := 64 - a % 64
    let (t, d) := s.granuleWrite a (bs.take n)
    let (u, e) := State.ddrWriteGo fuel t (a + n) (bs.drop n)
    (u, d.or e)

def State.ddrWrite (s : State) (a : Nat) (bs : Bytes) : State × EccSeen := State.ddrWriteGo (bs.length + 1) s a bs

/-- A MOVE or the host writes `n` bytes at `a` while a milepost is open: where they meet the work area of a bundle or a carry
slot, the sums of the bundle are undefined from then on, free values (R13, R276, R283). -/
def State.foul (s : State) (a n : Nat) : State :=
  let m := s.fab.mp
  let meets (lo len : Nat) : Bool := decide (lo < a + n) && decide (a < lo + len)
  let hit (sh b : Nat) : Bool := match m.xt[sh]? with
    | some x => meets (x.work + 32768 * b) 32768 || meets (x.work + 32768 * ceilDiv x.count 8192 + 64 * b) 64
    | none => false
  let slot (i : Nat) : Bool := meets (s.get FAB_CARRYBASE_ADDR + 8256 * i) 8256
  if !s.flag FAB_MPSTAT_OPEN || !((m.b0.any fun q => hit q.shard q.bundle) || (m.copies.any fun c => hit c.shard c.bundle) || m.carries.any fun c => slot c.1)
  then s
  else
    let free (k i : Nat) : Nat := (Config.freeValue (s.free + 8192 * k + i)).toNat
    let ints (k : Nat) : List Int := (List.range 8192).map fun i => signed 32 (free k i % 2 ^ 32)
    let n0 := m.b0.length
    let n1 := n0 + m.copies.length
    { s with
      free := s.free + 8192 * (n1 + m.carries.length)
      fab := { s.fab with mp := { m with
        b0 := m.b0.zipIdx.map fun q => if hit q.1.shard q.1.bundle then { q.1 with sums := ints q.2 } else q.1
        copies := m.copies.zipIdx.map fun c => if hit c.1.shard c.1.bundle then
            { c.1 with part0 := c.1.part0.map fun _ => (ints (n0 + c.2)).take 4096, part1 := c.1.part1.map fun _ => (ints (n0 + c.2)).drop 4096 }
          else c.1
        carries := m.carries.zipIdx.map fun c => if slot c.1.1 then
            (c.1.1, { c.1.2 with data := (List.range 8192).map fun i => BitVec.ofNat 8 (free (n1 + c.2) i) })
          else c.1 } } }

/-- Little-endian number of `n` bytes of DDR, as a read delivers them. -/
def State.ddrNum (s : State) (a n : Nat) : Nat := leVal (s.ddrBytes a n)

/-! ## Causeways (R11) -/

/-- A die: a compute die, or a port die. -/
inductive DieId where
  | c (d : Nat)
  | p (q : Nat)
  deriving DecidableEq, Repr

/-- What a causeway port of a compute die joins: 0 its port die, 1 and 2 the row's ring west and east, 3 the column
partner (R11). -/
def cwyJoin (d cwy : Nat) : DieId :=
  match cwy with
  | 0 => .p (d / 2)
  | 1 => .c (d / 4 * 4 + (d + 3) % 4)
  | 2 => .c (d / 4 * 4 + (d + 1) % 4)
  | _ => .c ((d + 4) % 8)

/-- The port by which a compute die sends on what is bound for another die (R11). Of several ways the model takes the row's
ring before the column and east before west (log entry 89, DESIGN CHOICE). -/
def cwyToward (d : Nat) : DieId → Nat
  | .p q =>
    if d / 2 = q then 0
    else if d / 4 ≠ q / 2 then 3
    else if (2 * q + 4 - d % 4) % 4 = 1 ∨ (2 * q + 4 - d % 4) % 4 = 2 then 2 else 1
  | .c t =>
    if (t + 4 - d % 4) % 4 = 0 then 3
    else if (t + 4 - d % 4) % 4 = 3 then 1 else 2

/-- The causeways that what goes from a compute die to another die passes, each by the sending die and its port (R11). -/
def cwyPath : Nat → Nat → DieId → List (Nat × Nat)
  | 0, _, _ => []
  | fuel + 1, d, t =>
    if t = .c d then []
    else
      let k := cwyToward d t
      (d, k) :: (match cwyJoin d k with
        | .c d' => cwyPath fuel d' t
        | .p _ => [])

/-- The port by which the die at the far end of a causeway is joined to it: a compute die's own number of it. -/
def cwyBack (d k : Nat) : Option (Nat × Nat) :=
  match cwyJoin d k with
  | .p _ => none
  | .c d' => some (d', if k = 1 then 2 else if k = 2 then 1 else 3)

/-- `n` bytes pass from a compute die to another die, or (`back`) the other way: every compute die on the way counts what it
sends and receives (R11, R369). -/
def State.cross (s : State) (d : Nat) (t : DieId) (n : Nat) (back : Bool) : State :=
  (cwyPath 6 d t).foldl (fun s x =>
    let s := s.count (dieBlk x.1) (if back then 0x23 else 0x22) x.2 (units64 n)
    match cwyBack x.1 x.2 with
    | some y => s.count (dieBlk y.1) (if back then 0x22 else 0x23) y.2 (units64 n)
    | none => s) s

/-! ## Device addresses (R142, R189) and windows (R171) -/

/-- Where a device address lies. -/
inductive Place where
  | ddr
  | wings (p off : Nat)
  | green (d off : Nat)
  | none
  deriving DecidableEq, Repr

/-- The storage at a device address. The staging regions, the retirement reserve when enabled and every
address that holds no storage are `none`: no window permits them (R140, R142, R171). -/
def State.place (s : State) (a : Nat) : Place :=
  if a < s.ddrSize then (if s.boot.reserve && decide (s.reserveBase ≤ a) then .none else .ddr)
  else if a < 0xF00000000000 then .none
  else
    let d := (a - 0xF00000000000) / 0x100000000
    let o := a % 0x100000000
    if 8 ≤ d then .none
    else if o < stagingBase then .green d o
    else if o < 0x80000000 then .none
    else
      let b := (o - 0x80000000) / 0x2000000
      let w := o % 0x2000000
      if b < 9 ∧ w < wingsSize then .wings (9 * d + b) w else .none

/-- A granule is permitted for a read or write: some window in force contains it with that permission. -/
def State.permits (s : State) (a : Nat) (write : Bool) : Bool :=
  s.place a != .none && s.windows.any fun w =>
    decide (w.2.base ≤ a / 64) && decide (a / 64 ≤ w.2.limit) && (if write then w.2.w else w.2.rd)

/-- The first byte of a range whose granule is not permitted. -/
def State.unpermitted (s : State) (a n : Nat) (write : Bool) : Option Nat :=
  (granulesAt a n).find? fun g => !s.permits g write

/-- STR_WINFAULT records a WINDOW fault (R173, R185). -/
def State.winFault (s : State) (a : Nat) (write : Bool) : State :=
  (s.put STR_WINFAULT_ADDR a).put STR_WINFAULT_WR (b2n write)

/-- A byte at a device address, as a demand read delivers it. -/
def State.devByte (s : State) (a : Nat) : Byte :=
  match s.place a with
  | .ddr => s.ddrByte a
  | .wings p o => (s.bay p).byte o
  | .green d o => s.greenByte d o
  | .none => 0
def State.devBytes (s : State) (a : Nat) : Nat → Bytes
  | 0 => []
  | n + 1 => s.devByte a :: State.devBytes s (a + 1) n

/-- A demand read of `n` bytes that do not cross from one kind of storage into another. -/
def State.devRead (s : State) (a n : Nat) : State × Bytes × EccSeen :=
  match s.place a with
  | .ddr => s.ddrRead a n
  | .wings p o => let (t, e) := s.wingsSeen p (wordsAt o n); (t, (s.bay p).bytes o n, e)
  | .green d o => let (t, bad) := s.greenRead d o n; (t, s.greenBytes d o n, { unc := bad })
  | .none => (s, List.replicate n 0, {})

/-- A demand read of `n` bytes, granule by granule. -/
def State.devReadAll (s : State) (a n : Nat) : State × Bytes × EccSeen :=
  let (t, e) := (granulesAt a n).foldl (fun (x : State × EccSeen) g =>
    let (t, _, e) := x.1.devRead g 64
    (t, x.2.or e)) (s, {})
  (t, s.devBytes a n, e)

/-- A write of bytes that do not cross from one kind of storage into another. -/
def State.devWrite (s : State) (a : Nat) (bs : Bytes) : State × EccSeen :=
  match s.place a with
  | .ddr => s.ddrWrite a bs
  | .wings p o => s.wingsPut p (runAt o bs)
  | .green d o => (s.greenWrite d o bs, {})
  | .none => (s, {})

end Sys2Proof.Machine
end

