-- ==== Sys2Proof/Machine/Predictor.lean ====
section
/-! DEFINITION. A bay's context in the prompter: the predictor header and its checks (R228), the planes of a column
move (R231), and the evaluation of audits (R234, R235). -/

namespace Sys2Proof.Machine

/-! ## The predictor header (R228) -/

/-- Fields of a header word. -/
def PCtx.f (c : PCtx) (i hi lo : Nat) : Nat := fld ((c.header.getD i 0).toNat) hi lo

def PCtx.pol (c : PCtx) : Nat := c.f 0 63 62
def PCtx.audk (c : PCtx) : Nat := c.f 0 61 58
def PCtx.mthr (c : PCtx) : Nat := c.f 0 57 50
def PCtx.q (c : PCtx) : Nat := c.f 0 49 48 + 1
def PCtx.shift (c : PCtx) : Nat := c.f 0 47 43
def PCtx.tshift (c : PCtx) : Nat := c.f 0 42 38
def PCtx.listIn (c : PCtx) : Bool := c.f 0 37 37 == 1
def PCtx.fop (c : PCtx) : Nat := c.f 0 36 35
def PCtx.fq (c : PCtx) : Nat := c.f 0 34 33
def PCtx.sp (c : PCtx) : Bool := c.f 0 32 32 == 1
def PCtx.fmt (c : PCtx) : Nat := c.f 0 31 28
def PCtx.fsem (c : PCtx) : Nat := c.f 0 27 22
def PCtx.nout (c : PCtx) : Nat := c.f 0 15 0 + 1
def PCtx.kd (c : PCtx) : Nat := c.f 1 63 48 + 1
def PCtx.fcols (c : PCtx) : Nat := c.f 1 47 38 + 1
def PCtx.faud (c : PCtx) : Nat := c.f 1 31 22
def PCtx.msheet (c : PCtx) : Nat := c.f 1 21 10
def PCtx.afmt (c : PCtx) : Nat := c.f 8 63 60
def PCtx.apitch (c : PCtx) : Nat := c.f 8 59 52 + 1
def PCtx.audout (c : PCtx) : Nat := c.f 8 16 0
/-- Base, stride and wings destination of plane n (0 value, 1 scale, 2 metadata). -/
def PCtx.base (c : PCtx) (n : Nat) : Nat := c.f (2 + 2 * n) 47 0
def PCtx.stride (c : PCtx) (n : Nat) : Nat := c.f (3 + 2 * n) 63 32
def PCtx.dst (c : PCtx) (n : Nat) : Nat := c.f (3 + 2 * n) 16 0
/-- Slots that the list fills. -/
def PCtx.cap (c : PCtx) : Nat := c.fcols - c.faud

/-- Plane n is in use. -/
def PCtx.uses (c : PCtx) (n : Nat) : Bool := c.fop != 0 && (n == 0 || (n == 1 && isMx c.fmt) || (n == 2 && c.sp))

/-- The planes of a column move (R231). -/
def PCtx.planes (c : PCtx) : List ColPlane :=
  let pl (n h per : Nat) (bySlot : Bool) (fill : Nat) : ColPlane :=
    { base := c.base n, stride := c.stride n, dst := 256 * c.dst n, h := h, per := per, bySlot := bySlot, fill := fill }
  [pl 0 (fmtHalves c.fmt) (if c.sp then c.kd / 2 else c.kd) false 0]
  ++ (if c.uses 1 then [pl 1 2 (c.kd / 32) false 0] else [])
  ++ (if c.uses 2 then [pl 2 2 (metaLen c.fmt c.kd) true 0x44] else [])

/-- DESC_BAD of R228. -/
def PCtx.bad (c : PCtx) : Bool :=
  c.f 0 21 16 != 0 || c.f 1 37 32 != 0 || c.f 1 9 0 != 0
  || ([2, 4, 6].any fun i => c.f i 63 48 != 0) || ([3, 5, 7].any fun i => c.f i 31 17 != 0)
  || c.f 8 51 32 != 0 || c.f 8 31 17 != 0 || ((List.range 7).any fun i => c.f (9 + i) 63 0 != 0)
  || c.pol == 3 || decide (c.audk < 2) || decide (10 < c.audk)
  || (if c.pol = 1 then c.mthr == 0 else c.mthr != 0) || c.fop == 3
  || !(tileOk 0 c.fmt || tileOk 1 c.fmt) || decide (7 < c.afmt) || decide (65535 < c.nout)
  || (isMx c.fmt && c.kd % 32 != 0) || (c.sp && c.kd % (if c.fmt = 7 then 8 else 4) != 0)
  || decide (c.fcols ≤ c.faud)
  || ([0, 1, 2].any fun n => !c.uses n && (c.base n != 0 || c.stride n != 0 || c.dst n != 0))
  || (c.fop != 0 && c.planes.any fun pl => decide (wingsSize < pl.dst + halfBytes (pl.per * c.fcols) pl.h))

/-- MISALIGN of R228. -/
def PCtx.misaligned (c : PCtx) : Bool := [0, 1, 2].any fun n => c.uses n && (c.base n % 64 != 0 || c.stride n % 64 != 0)

def State.ctx (s : State) (lb : Nat) : PCtx := Tab.get {} (s.die (lb / 8)).ctx (lb % 8)
def State.setCtx (s : State) (lb : Nat) (c : PCtx) : State := s.modDie (lb / 8) fun d => { d with ctx := Tab.set {} d.ctx (lb % 8) c }

/-! ## Audits (R234, R235) -/

/-- The element's number in bytes that hold it: 4 bits of one byte, or 1, 2 or 4 bytes. -/
def elemVal (h : Nat) (hi : Bool) (bs : Bytes) : Nat :=
  let v := leVal bs
  if h = 1 then (if hi then v / 16 else v % 16) else v

/-- Where element (r, i) of the audited output lies, in half bytes (R234). -/
def PCtx.auditAt (c : PCtx) (r i : Nat) : Nat := 512 * c.audout + 512 * c.apitch * r + i * fmtHalves c.afmt

/-- An audited neuron has a non-zero element in some row: some bit other than its sign (R234). -/
def Bay.auditHit (b : Bay) (c : PCtx) (i : Nat) : Bool :=
  let h := fmtHalves c.afmt
  (List.range 128).any fun r =>
    let o := c.auditAt r i
    elemVal h (h == 1 && o % 2 == 1) (b.bytes (o / 2) (ceilDiv h 2)) % 2 ^ (4 * h - 1) != 0

/-- The wings words that an audit reads. -/
def PCtx.auditWords (c : PCtx) (slots : List Nat) : List Nat :=
  ((List.range 128).flatMap fun r => slots.flatMap fun i => wordsAt (c.auditAt r i / 2) (ceilDiv (fmtHalves c.afmt) 2)).dedup

/-- One pending audit of a logical bay is evaluated (R234, R235): its misses are counted and reported by the command of
its SELECT, and may ask for a makeup. -/
def State.audit1 (s : State) (lb : Nat) (c : PCtx) (a : Audit) : State :=
  let p := s.phys lb
  let d := lb / 8
  let told (s : State) (f : Cmd → Cmd) : State := match a.cid with | some id => s.modCmd id f | none => s
  let m := (a.slots.filter fun i => (s.bay p).auditHit c i).length
  let (s, e) := s.wingsSeen p (c.auditWords a.slots)
  let s := told s fun x => (if e.corr then x.setFlag flECC else x)
  let s := told s fun x => (if e.unc then x.addS cECC_UNCORR else x)
  let s := (s.bump PRM_AUD_AUDITED a.slots.length d (lb % 8)).bump PRM_AUD_MISSED m d (lb % 8)
  let s := if m = 0 then s else told s fun x => x.setFlag flPROMPT
  if c.pol = 1 ∧ c.mthr ≤ m then
    if 16 ≤ (s.die d).makeup.length then s.bump PRM_DROP_MKDROP 1 d
    else told (s.modDie d fun x => { x with makeup := x.makeup ++ [{ lbay := lb, sheet := c.msheet, ord := a.ord % 2048 }] }) fun x => x.addS cPROMPT_MAKEUP
  else s

/-- The pending audits of a logical bay that `sel` picks are evaluated (R234). -/
def State.auditIf (s : State) (lb : Nat) (sel : Audit → Bool) : State :=
  let c := s.ctx lb
  let s := (c.audits.filter sel).foldl (fun s a => s.audit1 lb c a) s
  s.setCtx lb { (s.ctx lb) with audits := c.audits.filter fun a => !sel a }

/-- Every pending audit of a logical bay: its next FIRST has come (R234). -/
def State.audit (s : State) (lb : Nat) : State := s.auditIf lb fun _ => true

/-- A command has ended: the audits of its SELECTs that are still pending (R234). -/
def State.auditCmd (s : State) (id : Nat) (mask : W64) : State :=
  (laneBays mask).foldl (fun s lb => if (s.ctx lb).audits.any fun a => a.cid == some id then s.auditIf lb fun a => a.cid == some id else s) s

end Sys2Proof.Machine
end

