-- ==== Sys2Proof/Machine/Records.lean ====
section
/-! DEFINITION. The rings of the central reader (R373, R374) and the DUMP, COMMAND and SAMPLE records
(R375 to R380). -/

namespace Sys2Proof.Machine

/-- Little-endian bytes of 64-bit words. -/
def wordsBytes : List Nat → Bytes
  | [] => []
  | w :: ws => leBytes 8 (w % 2 ^ 64) ++ wordsBytes ws

/-- Word 0 of a record (R374): TYPE, LEN in 64 B, the type's own bits. -/
def recWord0 (typ len low : Nat) : Nat := typ * 2 ^ 56 + len % 2 ^ 24 * 2 ^ 32 + low % 2 ^ 32

/-- Moves RD forward past whole records until `need` bytes and 64 B more are free, at most `fuel` records
(R373); a record whose LEN reads 0 or past WR empties the ring. -/
def ringFree (size wr need : Nat) (len : Nat → Nat) : Nat → Nat → Nat
  | 0, _ => wr
  | fuel + 1, rd =>
    let used := (wr + size - rd) % size
    if need + 64 ≤ size - used then rd
    else
      let l := 64 * len rd
      if l = 0 ∨ used < l then wr else ringFree size wr need len fuel ((rd + l) % size)

/-- LOST of a ring rises (R373), event OBSRING. -/
def State.ringLost (s : State) (n : Nat) : State := (s.bump OBS_RINGSTAT_LOST 1 n).event 9

/-- A write that no window permits clears EN and leaves CODE = WINDOW (R373), event OBSRING. -/
def State.ringWindow (s : State) (n : Nat) : State :=
  ((s.put OBS_RINGCTL_EN 0 n).put OBS_RINGSTAT_CODE cWINDOW n).event 9

/-- A record of a multiple of 64 B is written into ring `n` (R373). -/
def State.ringWrite (s : State) (n : Nat) (rec : Bytes) : State :=
  if !s.flag OBS_RINGCTL_EN n then s else
  let base := s.get OBS_RINGBASE_BASE n * 4096
  let size := s.get OBS_RINGCTL_SIZE n * 4096
  let wr := s.get OBS_RINGWR_WR n
  let rd := s.get OBS_RINGRD_RD n
  let pad := if size < wr + rec.length then size - wr else 0
  let need := rec.length + pad
  if size = 0 ∨ size < wr ∨ size < need + 64 then s.ringLost n else
  let used := (wr + size - rd % size) % size
  let fits := decide (need + 64 ≤ size - used)
  if !fits && s.flag OBS_RINGCTL_STOP n then s.ringLost n
  else
    let rd' := if fits then rd else ringFree size wr need (fun o => bits (s.ddrNum (base + o) 8) 32 24) (size / 64 + 1) (rd % size)
    let s := s.put OBS_RINGRD_RD rd' n
    let at_ := if pad = 0 then wr else 0
    let bad := (if pad = 0 then none else s.unpermitted (base + wr) 64 true)
    match bad, s.unpermitted (base + at_) rec.length true with
    | none, none =>
      let s := if pad = 0 then s else (s.devWrite (base + wr) (wordsBytes [recWord0 0xF (pad / 64) 0, 0, 0, 0, 0, 0, 0, 0])).1
      ((s.devWrite (base + at_) rec).1).put OBS_RINGWR_WR ((at_ + rec.length) % size) n
    | some a, _ => (s.winFault a true).ringWindow n
    | none, some a => (s.winFault a true).ringWindow n

/-- The sum of counter `k` over blocks, modulo 2^64 (R377). -/
def State.cntSum (s : State) (blks : List Nat) (k : Nat) : Nat :=
  (blks.foldl (fun a b => a + s.get OBS_CNT_COUNT b k) 0) % 2 ^ 64

/-- The observed blocks a command uses (R377). -/
def State.cmdBlocks (s : State) (c : Cmd) : List Nat :=
  if c.op = 1 then (laneBays c.mask).map fun lb => bayBlk (s.phys lb)
  else if c.op = 3 then [80, 81, 82, 83]
  else [portBlk c.port]

/-- A COMMAND record (R377), at the start or the end of a command. -/
def State.commandRecord (s : State) (c : Cmd) (end_ : Bool) (code : Nat) : State :=
  let (src, entry, idx) := match c.src with
    | .board e i => (0, e, i)
    | .table _ => (1, 0, 0)
    | .makeup _ _ => (2, 0, 0)
  let low := b2n end_ * 2 ^ 31 + src * 2 ^ 29 + entry * 2 ^ 23 + idx * 2 ^ 20 + c.op * 2 ^ 16 + (if end_ then code * 2 ^ 8 else 0)
  s.ringWrite 1 (wordsBytes ([recWord0 2 2 low, s.clk.sys, s.clk.odo, c.mask.toNat,
    c.act * 2 ^ 22 + c.slot * 2 ^ 16 + c.sheet] ++ (List.range 8).map (s.cntSum (s.cmdBlocks c)) ++ [0, 0, 0]))

/-- A SAMPLE record (R380) with LAT, CAUSE and the CAUSE cycles, in CK_A cycles. -/
def State.sampleRecord (s : State) (x : Sample) (lat cause cyc : Nat) : State :=
  s.ringWrite 2 (wordsBytes [recWord0 3 1 (x.lbay * 2 ^ 26 + x.phys % 9 * 2 ^ 22 + x.pc), x.odo,
    x.rel % 2 ^ 32 * 2 ^ 32 + x.sheet, lat % 2 ^ 32 * 2 ^ 32 + x.opcode * 2 ^ 27 + cause * 2 ^ 24 + cyc % 2 ^ 24, 0, 0, 0, 0])

/-- One entry of a DUMP record (R376). -/
def State.dumpEntry (s : State) (blk : Nat) : List Nat :=
  let head :=
    if blk < 80 then
      let d := blk / 10
      let b := blk % 10
      if b < 9 then
        let on := s.bayOn (9 * d + b)
        (d * 2 ^ 58 + b * 2 ^ 54 + b2n on * 2 ^ 53 + (s.logical (9 * d + b)).getD 0 * 2 ^ 42, on)
      else (1 * 2 ^ 62 + d * 2 ^ 58 + 2 ^ 53, true)
    else (2 * 2 ^ 62 + (blk - 80) * 2 ^ 58 + 2 ^ 53, true)
  head.1 :: s.clk.odo :: (List.range 8).map fun k => if head.2 then s.get OBS_CNT_COUNT blk k else 0

/-- A DUMP record (R375, R376). -/
def State.dumpRecord (s : State) : State :=
  let o := s.obs
  let rec_ := wordsBytes ([recWord0 1 106 o.dumpSeq, s.clk.sys, s.clk.odo, b2n o.gap * 2 ^ 31 + o.missed % 2 ^ 16, 0, 0, 0, 0]
    ++ (List.range 84).flatMap s.dumpEntry)
  { s with obs := { o with dumpSeq := (o.dumpSeq + 1) % 2 ^ 32, missed := 0, gap := false } }.ringWrite 0 rec_

end Sys2Proof.Machine
end

