-- ==== Sys2Proof/Machine/Command.lean ====
section
/-! DEFINITION. The life of a command of the running order: call-board words (R305, R311), completion
(R129, R308, R310, R312), requeueing (R317, R318), and requests for curtains (R150). -/

namespace Sys2Proof.Machine

/-! ## Call boards (R305) -/

def State.board (s : State) (e : Nat) : Board := Tab.get {} s.boards e
def State.setBoard (s : State) (e : Nat) (b : Board) : State := { s with boards := Tab.set {} s.boards e b }
def State.modBoard (s : State) (e : Nat) (f : Board → Board) : State := s.setBoard e (f (s.board e))

def Board.word (b : Board) (i : Nat) : Nat := (Tab.get 0 b.words i).toNat
def Board.setWord (b : Board) (i v : Nat) : Board := { b with words := Tab.set 0 b.words i (BitVec.ofNat 64 v) }
/-- A word of the module's own copy. -/
def Board.own (b : Board) (i : Nat) : Nat := (Tab.get 0 b.copy i).toNat

abbrev stFREE : Nat := 0
abbrev stQUEUED : Nat := 1
abbrev stRUNNING : Nat := 2
abbrev stPARKED : Nat := 3
abbrev stDONE : Nat := 4

/-- STATE of word 28. -/
def Board.state (b : Board) : Nat := bits (b.word 28) 29 3
/-- Word 28 with another STATE. -/
def Board.setState (b : Board) (st : Nat) : Board := b.setWord 28 (putBits (b.word 28) 29 3 st)
/-- NCMD of the copy. -/
def Board.ncmd (b : Board) : Nat := bits (b.own 0) 0 4

/-- The lowest S code, with the least index among the commands that reported it (R129). -/
def lowestS : List (Nat × Nat) → Option (Nat × Nat)
  | [] => none
  | (i, c) :: rest => match lowestS rest with
    | none => some (i, c)
    | some (j, d) => if c < d ∨ (c = d ∧ i ≤ j) then some (i, c) else some (j, d)

/-- The entry's status and the index of the command that set it (R129, R305). -/
def Board.status (b : Board) : Nat × Nat :=
  match b.fcode, lowestS b.scodes with
  | some (i, c), _ => (c, i)
  | none, some (i, c) => (c, i)
  | none, none => (cOK, b.ncmd - 1)

/-- The entry completes (R311): CODE, CMDIDX and FLAGS, then END, then DONE with GEN; then its message. -/
def State.entryDone (s : State) (e : Nat) : State :=
  let b := s.board e
  let (code, idx) := b.status
  let gen := bits (b.own 0) 32 32
  let w28 := gen * 2 ^ 32 + stDONE * 2 ^ 29 + code * 2 ^ 16 + idx * 2 ^ 13 + b.flags % 256
  let b := { (b.setWord 30 s.clk.odo).setWord 28 w28 with eligible := false, parked := none }
  let s := s.setBoard e b
  if bit (b.own 0) 30 then s.sendVec (bits (b.own 0) 16 8) else s

/-- Byte i of CODES (word 31). -/
def Board.setCode (b : Board) (i code : Nat) : Board := b.setWord 31 (putBits (b.word 31) (8 * i) 8 code)

/-- The code of one command (R129): its F code, else its lowest S code, else OK. -/
def Cmd.code (c : Cmd) : Nat :=
  match c.fcode with
  | some f => f
  | none => match lowestS (c.scodes.map fun x => (0, x)) with
    | some (_, x) => x
    | none => cOK

/-- RUN_TABLE records a TABLE or makeup command's code (R310, R312), and event RUNORD (R450). -/
def State.tableCode (s : State) (act slot code : Nat) : State :=
  (((s.put RUN_TABLE_CODE code).put RUN_TABLE_ACT act).put RUN_TABLE_SLOT slot).event 3

/-! ## Curtain requests (R150) -/

/-- A curtain is requested; one that waits takes the masks in, and KEEP only if every request set it. -/
def State.requestCurtain (s : State) (c : Curt) : State :=
  let q := match s.curtQ with
    | none => c
    | some w => { bays := w.bays ||| c.bays, grm := w.grm ||| c.grm, keep := w.keep && c.keep }
  { s with curtQ := some q }.put RST_CURTSTAT_QUEUED 1

/-! ## The end of a command -/

/-- Releases the staging regions (GRM_STAGE) that a command holds (R141). -/
def State.releaseStaging (s : State) (id : Nat) : State :=
  (List.range 8).foldl (fun s d =>
    if (s.die d).stageCid = some id then (s.clear .GRM_STAGE d).modDie d fun x => { x with stageCid := none } else s) s

/-- A bay leaves its command (R75, R84, R148): IDLE, every revolve of the part closed, nothing pending
for it; arrays, wings and cue memory keep their contents (R62, R144). -/
def State.releaseBay (s : State) (p : Nat) : State :=
  let s := (s.put CUE_SEQSTAT_STATE 1 p).put CUE_SHEETNO_ACTIVE 0 p
  s.modBay p fun b => { b.closeRings with
    cid := none, entry := none, stall := none, halted := false, stopReq := .none, stop := .none,
    saving := false, credits := [], present := none }

/-- The bays of a lane that hold command `id` leave it. -/
def State.releaseLane (s : State) (mask : W64) (id : Nat) : State :=
  (laneBays mask).foldl (fun s lb => if (s.bay (s.phys lb)).cid = some id then s.releaseBay (s.phys lb) else s) s

/-- Bays of a discarded parked command that still show PARK go to IDLE, and its stashes are discarded (R84, R304, R316). -/
def State.unpark (s : State) (mask : W64) : State :=
  (laneBays mask).foldl (fun s lb =>
    let s := { s with stashes := Tab.erase s.stashes lb }
    if s.get CUE_SEQSTAT_STATE (s.phys lb) = 6 ∧ (s.bay (s.phys lb)).cid = none
    then s.put CUE_SEQSTAT_STATE 1 (s.phys lb) else s) s

/-- Drops a command from the running order's list. -/
def State.dropCmd (s : State) (id : Nat) : State :=
  { s with ro := { s.ro with cmds := s.ro.cmds.filter fun c => c.id != id } }

/-- The command with the S codes its entry kept from an earlier run of it (R99, R129). -/
def State.withKept (s : State) (c : Cmd) : Cmd :=
  match c.src with
  | .board e i => { c with scodes := c.scodes ++ ((s.board e).scodes.filter fun x => x.1 == i).map (fun x : Nat × Nat => x.2) }
  | _ => c

/-- A board's command ends: its CODES byte, the entry's codes and flags; an F code or the last command
completes the entry, else the next command waits for the next boundary (R308). -/
def State.boardCmdEnd (s : State) (e i : Nat) (c : Cmd) : State :=
  let b := s.board e
  let b := { b.setCode i (s.withKept c).code with
    fcode := (match b.fcode, c.fcode with | none, some f => some (i, f) | x, _ => x)
    scodes := b.scodes ++ (c.scodes.map fun x => (i, x))
    flags := b.flags ||| c.flags
    parked := none }
  if c.fcode.isSome ∨ b.ncmd ≤ i + 1 then (s.setBoard e b).entryDone e
  else s.setBoard e { b.setState stQUEUED with cmd := i + 1, eligible := false, missed := false }

/-- A command ends with the codes it holds: its pending audits are evaluated (R234), its bays and staging regions are released, its source takes
the outcome, and a curtain that was to follow is requested (R75, R308, R310, R312, R315, R316). -/
def State.endCmd (s : State) (id : Nat) : State :=
  let s := s.auditCmd id ((s.cmd id).elim 0 fun c => c.mask)
  match s.cmd id with
  | none => s
  | some c =>
    let s := if c.noted || c.resume then s.commandRecord c true (s.withKept c).code else s
    let s := if (s.withKept c).code = cECC_UNCORR then s.markLost else s
    let s := ((s.dropCmd id).releaseStaging id)
    let s := s.releaseLane c.mask id
    let s := if c.phase = .parked ∨ (c.resume = true ∧ c.phase = .starting) then s.unpark c.mask else s
    let s := match c.src with
      | .board e i => s.boardCmdEnd e i c
      | .table _ => s.tableCode c.act c.slot c.code
      | .makeup _ _ => s.tableCode c.act c.slot c.code
    if c.curtAfter then s.requestCurtain { bays := c.mask, grm := 0, keep := false } else s

/-- A stopped best-effort command gives its units back (R310, R312, R317): a board entry returns to
QUEUED keeping its codes so far, a makeup command returns to the head of its queue, a TABLE command is dropped. -/
def State.requeueCmd (s : State) (id : Nat) : State :=
  match s.cmd id with
  | none => s
  | some c =>
    let s := (((s.dropCmd id).releaseStaging id).releaseLane c.mask id).bump RUN_PREEMPT_PTR
    match c.src with
    | .board e i => s.modBoard e fun b => { b.setState stQUEUED with
        eligible := true, scodes := b.scodes ++ (c.scodes.map fun x => (i, x)), flags := b.flags ||| c.flags, parked := none }
    | .table _ => s
    | .makeup d m => s.modDie d fun x => { x with makeup := m :: x.makeup }

/-- A command that was about to resume stays parked (R151, R317). -/
def State.repark (s : State) (id : Nat) : State :=
  match s.cmd id with
  | none => s
  | some c =>
    let s := s.modCmd id fun x => { x with phase := .parked }
    match c.src with
    | .board e _ => s.modBoard e fun b => { b.setState stPARKED with parked := some id, eligible := true }
    | _ => s

/-- Requests a stop of a kind on every bay of a lane that is not idle (R104, R315, R316, R317). -/
def State.stopLane (s : State) (mask : W64) (k : StopKind) : State :=
  (laneBays mask).foldl (fun s lb => s.modBay (s.phys lb) fun b =>
    let st := s.get CUE_SEQSTAT_STATE (s.phys lb)
    if b.cid.isNone || b.stop == .pointers || !(st == 2 || st == 3 || st == 4 || st == 6) then b
    else { b with stopReq := k }) s

/-- Every bay of the lane has come to rest: in IDLE, DONE, FAULT or PARK (R83). -/
def State.laneAtRest (s : State) (mask : W64) : Bool :=
  (laneBays mask).all fun lb => let st := s.get CUE_SEQSTAT_STATE (s.phys lb)
    (st == 1 || st == 7 || st == 8 || (st == 6 && (s.bay (s.phys lb)).stop != .pointers)) && (s.bay (s.phys lb)).stopReq == .none
      && !(s.bay (s.phys lb)).saving

/-- After a bay has come to rest: a command being stopped or aborted ends, is requeued or parked once
every bay of its lane rests (R96, R98, R311, R317). -/
def State.settleLane (s : State) (id : Nat) : State :=
  match s.cmd id with
  | none => s
  | some c =>
    if !s.laneAtRest c.mask then s
    else match c.phase with
      | .aborting => s.endCmd id
      | .stopping =>
        let parked := c.liveStop && (laneBays c.mask).all fun lb => s.get CUE_SEQSTAT_STATE (s.phys lb) == 6
        if parked && (laneBays c.mask).any (fun lb => !(s.bay (s.phys lb)).credits.isEmpty) then s
        else if parked then
          let s := (s.modCmd id fun c => { c with phase := .parked }).bump RUN_PREEMPT_LIVE
          let s := (laneBays c.mask).foldl (fun s lb => (s.put CUE_SHEETNO_ACTIVE 0 (s.phys lb)).modBay (s.phys lb)
            fun b => { b with cid := none, stop := .none }) s
          match c.src with
          | .board e _ => s.modBoard e fun b => { b.setState stPARKED with parked := some id, eligible := true }
          | _ => s
        else s.requeueCmd id
      | _ => s

end Sys2Proof.Machine
end

