-- ==== Sys2Proof/Machine/Operands.lean ====
section
/-! DEFINITION. Operands at issue: address generators (R88, R89), wings operands and their range checks
(R90, R109, R110, R134), accumulator rows (R111) and revolve operands (R120, R146, R148). -/

namespace Sys2Proof.Machine

/-! ## Address generators -/

/-- Σ index_j × stride_j over the five dimensions (R88). -/
def State.agSum (s : State) (p g : Nat) : Int :=
  (List.range 5).foldl (fun a j =>
    a + (s.get CUE_AGDIM_INDEX p (5 * g + j) : Int) * signed 32 (s.get CUE_AGDIM_STRIDE p (5 * g + j))) 0

/-- A generator's address, modulo 2^48 (R88). -/
def State.agAddr (s : State) (p g : Nat) : Nat := unsigned 48 ((s.get CUE_AGBASE_BASE p g : Int) + s.agSum p g)

/-- One step of a generator (R89): dimension j up to 4 counts, carrying where an index reaches its extent. -/
def State.agStepFrom (s : State) (p g : Nat) : Nat → Nat → State
  | 0, _ => s
  | fuel + 1, j =>
    let i := s.get CUE_AGDIM_INDEX p (5 * g + j)
    if i + 1 < s.get CUE_AGDIM_EXTM1 p (5 * g + j) + 1 then s.put CUE_AGDIM_INDEX (i + 1) p (5 * g + j)
    else State.agStepFrom (s.put CUE_AGDIM_INDEX 0 p (5 * g + j)) p g fuel (j + 1)

def State.agStep (s : State) (p g : Nat) : State := s.agStepFrom p g 5 0

/-- A SET of a generator zeroes its five indices (R88). -/
def State.agZero (s : State) (p g : Nat) : State :=
  (List.range 5).foldl (fun s j => s.put CUE_AGDIM_INDEX 0 p (5 * g + j)) s

/-! ## Resolution at issue -/

/-- What issuing a cue has gathered: the state with its revolve issues made and the generators that advance. -/
structure Issue where
  s     : State
  steps : List Nat := []
  deriving DecidableEq, Repr

/-- The generators named with STEP advance once each (R89). -/
def Issue.done (i : Issue) (p : Nat) : State := i.steps.dedup.foldl (fun s g => s.agStep p g) i.s

/-- Takes a ring end's issue cursor past `len` bytes (R146); FIN returns it to 0 and advances the issue index. -/
def RingEnd.issue (r : RingEnd) (len ord : Nat) (fin : Bool) : RingEnd :=
  let r := { r with waiting := r.waiting ++ [ord], icursor := r.icursor + len }
  if fin then { r with icursor := 0, iindex := (r.iindex + 1) % r.nsl } else r

/-- A wings operand of `ext` bytes at issue (R90, R109, R110, R120, R134, R148), `groups` column groups where
it is read or stored by columns; `store` tells a store from a read. The error is the fault code. The one-block rule of R134
is not applied to an operand by revolve (log entry 83, DESIGN CHOICE). -/
def Issue.wop (i : Issue) (p v ext groups : Nat) (store : Bool) (ord : Nat) : Except Nat (Issue × Opnd) :=
  match wOp v with
  | .imm o => .ok (i, .wings o)
  | .gen step g =>
    let a := i.s.agAddr p g
    if a % 256 = 0 ∧ a + ext ≤ wingsSize ∧ (groups = 0 ∨ colGroupsOk a groups = true)
    then .ok ({ i with steps := if step then g :: i.steps else i.steps }, .wings a)
    else .error cAG_RANGE
  | .ring fin rv =>
    let r := (i.s.bay p).ring rv
    if !r.opened || r.consumer == store || decide (r.slsz < r.icursor + ext) then .error cREVOLVE_BAD
    else .ok ({ i with s := i.s.modBay p fun b => b.setRing rv (r.issue ext ord fin) },
      .ring rv r.iindex r.icursor fin)
  | .bad => .error cCUE_ILLEGAL

/-- A wings operand that is a plain offset (immediate or generator). -/
def Opnd.ofs : Opnd → Nat
  | .wings o => o
  | .ring _ _ _ _ => 0

/-- An accumulator-row operand at issue (R90, R111). -/
def Issue.aop (i : Issue) (p v : Nat) : Except Nat (Issue × Nat) :=
  match aOp v with
  | .row r => .ok (i, r)
  | .gen step g =>
    let a := i.s.agAddr p g
    if a < 1024 then .ok ({ i with steps := if step then g :: i.steps else i.steps }, a) else .error cAG_RANGE
  | .bad => .error cCUE_ILLEGAL

/-! ## Revolves in use (R146 to R148) -/

/-- The wings offset of an operand: a place in the slot of its issue index, in the consumer's wings. -/
def Bay.opOfs (b : Bay) : Opnd → Nat
  | .wings o => o
  | .ring rv idx cur _ => let r := b.ring rv; 256 * r.base + idx * r.slsz + cur

/-- How a read or store through an operand stands: it may be performed, it waits for its slot or for
earlier ones through the same end, or its end has closed since it issued. -/
inductive RingTurn where
  | go | stall | closed
  deriving DecidableEq, Repr

def Bay.turn (b : Bay) (op : Opnd) (ord : Nat) : RingTurn :=
  match op with
  | .wings _ => .go
  | .ring rv _ _ _ =>
    let r := b.ring rv
    if !r.opened || !r.waiting.contains ord then .closed
    else if r.waiting.head? == some ord && decide (1 ≤ r.count) then .go else .stall

/-- A credit is sent to the other end of a revolve (R145, R146, R147): full from a producer, empty from a consumer. -/
def State.sendCredit (s : State) (r : RingEnd) (full : Bool) : State :=
  s.modBay (s.phys r.peer) fun b => { b with credits := b.credits ++ [(r.prv, full)] }

/-- FILL or FREE (R146): one slot fewer, the next index, cursor 0, and a credit to the other end. -/
def State.ringAdvance (s : State) (p rv : Nat) : State :=
  let r := (s.bay p).ring rv
  let s := s.modBay p fun b => b.setRing rv { r with
    count := r.count - 1, index := if r.nsl = 0 then 0 else (r.index + 1) % r.nsl, cursor := 0 }
  s.sendCredit r (!r.consumer)

/-- FILLs and FREEs whose turn has come are performed (R146). -/
def State.ringFills (s : State) (p rv : Nat) : Nat → State
  | 0 => s
  | fuel + 1 =>
    let r := (s.bay p).ring rv
    match r.waiting with
    | o :: rest =>
      if r.fills.contains o then
        let s := s.modBay p fun b => b.setRing rv { r with waiting := rest, fills := r.fills.erase o }
        State.ringFills (s.ringAdvance p rv) p rv fuel
      else s
    | [] => s

/-- A read or store through an operand has moved its first `n` bytes: the cursor follows (R146). -/
def State.ringMove (s : State) (p : Nat) (op : Opnd) (n : Nat) : State :=
  match op with
  | .wings _ => s
  | .ring rv _ cur _ => s.modBay p fun b => b.setRing rv { b.ring rv with cursor := cur + n }

/-- `n` more bytes have moved through an operand: the cursor advances (R146). -/
def State.ringAdd (s : State) (p : Nat) (op : Opnd) (n : Nat) : State :=
  match op with
  | .wings _ => s
  | .ring rv _ _ _ => s.modBay p fun b => let r := b.ring rv; b.setRing rv { r with cursor := r.cursor + n }

/-- A read or store of `len` bytes through an operand has been performed: the cursor advances, the next
through the end may go, and FIN performs its FILL or FREE (R146). -/
def State.ringDone (s : State) (p : Nat) (op : Opnd) (len ord : Nat) : State :=
  match op with
  | .wings _ => s
  | .ring rv _ cur fin =>
    let s := s.modBay p fun b =>
      let r := b.ring rv
      b.setRing rv { r with cursor := cur + len, waiting := r.waiting.erase ord }
    let s := if fin then s.ringAdvance p rv else s
    s.ringFills p rv ((s.bay p).ring rv).waiting.length

/-- A read or store cut short leaves its end without FILL or FREE (R146, R148). -/
def Bay.ringDrop (b : Bay) (op : Opnd) (ord : Nat) : Bay :=
  match op with
  | .wings _ => b
  | .ring rv _ _ _ => let r := b.ring rv; b.setRing rv { r with waiting := r.waiting.erase ord }

/-- The physical bay whose wings hold an operand: the consumer's for a revolve, read or stored (R145, R146). -/
def State.storeBay (s : State) (p : Nat) (op : Opnd) : Nat :=
  match op with
  | .wings _ => p
  | .ring rv _ _ _ => let r := (s.bay p).ring rv; if r.consumer then p else s.phys r.peer

end Sys2Proof.Machine
end

