-- ==== Sys2Proof/Machine/Arrays.lean ====
section
/-! DEFINITION. The arrays' data (spec/03_bays_and_arrays.md): weight tiles and their 2:4 forms (R47 to
R54, R218 to R222, R471), streamed rows (R55 to R59), the shared tile (R63), array ECC (R70), and the start
of the units' work (R54, R57, R63). -/

namespace Sys2Proof.Machine

/-- Keys of Arr.errs: accumulator words, active weight registers, shadow weight registers. -/
def accKey (row col : Nat) : Nat := row * 128 + col
def wKey (k n : Nat) : Nat := k * 128 + n
def errAct (key : Nat) : Nat := 131072 + key
def errShd (key : Nat) : Nat := 147456 + key

/-! ## Elements in the wings (R27, R133, R471) -/

/-- The code of element `idx` of a packed plane at `base`, `h` half bytes each, as reads deliver it (R27, R135). -/
def Bay.elem (b : Bay) (base h idx : Nat) : Nat :=
  if h = 1 then (b.byte (base + idx / 2)).toNat / (if idx % 2 = 0 then 1 else 16) % 16
  else if h = 2 then (b.byte (base + idx)).toNat
  else leVal (b.bytes (base + idx * (h / 2)) (h / 2))

/-- Byte offset of element k of stored column i in COL mode (R133). -/
def colOfs (fmt i k : Nat) : Nat :=
  256 * (128 * (i / colQ fmt) + k) + (fmtHalves fmt / 2) * (i % colQ fmt)

/-- The code of tile element (r, n): stored row r, column n (R133, R471). -/
def Bay.tileElem (b : Bay) (base fmt : Nat) (col : Bool) (nt r n : Nat) : Nat :=
  let h := fmtHalves fmt
  if col then b.elem (base + colOfs fmt r n) h 0
  else if isMx fmt then b.elem base h (r * nt + n)
  else b.elem (base + up256 (halfBytes nt h) * r) h n

/-- The code of element k of streamed row i (R133, R471). -/
def Bay.rowElem (b : Bay) (base fmt kk : Nat) (col : Bool) (i k : Nat) : Nat :=
  let h := fmtHalves fmt
  if col then b.elem (base + colOfs fmt i k) h 0
  else if isMx fmt then b.elem base h (i * kk + k)
  else b.elem (base + up256 (halfBytes kk h) * i) h k

/-- A streamed row as exact values: MX scales follow the element plane of all `m` rows (R471). -/
def Bay.rowVals (b : Bay) (base fmt kk : Nat) (col : Bool) (m i : Nat) : List FVal :=
  let sb := base + up256 (m * halfBytes kk (fmtHalves fmt))
  (List.range kk).map fun k =>
    mxVal fmt (if isMx fmt then (b.byte (sb + kk / 32 * i + k / 32)).toNat else 0) (b.rowElem base fmt kk col i k)

/-! ## Weight tiles -/

/-- The values of a unit: one element, or two under MXFP4 (R218). -/
def WCell.vals (fmt : Nat) (c : WCell) : List FVal :=
  if fmt = 7 then [mxVal 7 c.scale.toNat c.e0.toNat, mxVal 7 c.scale.toNat c.e1.toNat]
  else [mxVal fmt c.scale.toNat c.e0.toNat]

def FVal.isZero : FVal → Bool
  | .fin _ m _ => m == 0
  | _ => false

/-- |a| > |b|, NaN above every number (R221). -/
def FVal.magGt (a b : FVal) : Bool :=
  let abs (v : FVal) : FVal := match v with | .fin _ m e => .fin false m e | .inf _ => .inf false | .nan => .nan
  match a, b with
  | _, .nan => false
  | .nan, _ => true
  | _, _ => (abs a).cmp (abs b) == some .gt

/-- A unit's magnitude: the larger of its elements' (R221). -/
def unitMag (vs : List FVal) : FVal := vs.foldl (fun a v => if v.magGt a then v else a) (.fin false 0 0)

/-- The index of the largest magnitude, ties to the lower index, leaving out `skip` (R221). -/
def argMax (ms : List FVal) (skip : Option Nat) : Nat :=
  ((List.range ms.length).foldl (fun (best : Option (Nat × FVal)) i =>
    if some i = skip then best else
    match best, ms[i]? with
    | none, some v => some (i, v)
    | some (j, w), some v => if v.magGt w then some (i, v) else some (j, w)
    | x, none => x) none).elim 0 (·.1)

/-- The two units a group of four keeps, in ascending order, and whether the group is over-full (R221). -/
def keepTwo (units : List (List FVal)) : Nat × Nat × Bool :=
  let ms := units.map unitMag
  let a := argMax ms none
  let b := argMax ms (some a)
  let nz := (units.filter fun u => u.any fun v => !v.isZero).length
  (if a < b then a else b, if a < b then b else a, decide (2 < nz))

/-- The cell of dense unit u of column n (R51, R52): its elements and the scale of its K block. -/
def Bay.denseUnit (b : Bay) (base side : Nat) (l : LoadOp) (u n : Nat) : WCell :=
  let per := if l.fmt = 7 then 2 else 1
  let el (i : Nat) : W16 := BitVec.ofNat 16 (b.tileElem base l.fmt l.col l.nt (per * u + i) n)
  { e0 := el 0, e1 := if per = 2 then el 1 else 0
    scale := if isMx l.fmt then b.byte (side + per * u / 32 * l.nt + n) else 0 }

/-- The metadata entry of group g of column n (R219). -/
def Bay.metaNib (b : Bay) (mbase mlen n g : Nat) : Nat :=
  (b.byte (mbase + mlen * n + g / 2)).toNat / (if g % 2 = 0 then 1 else 16) % 16

/-- What loading one column gives: its cells for rows 0 to 127, groups with a repeated index, and the over-full
groups, ascending. -/
structure ColLoad where
  cells : List WCell
  dup   : Nat := 0
  overs : List Nat := []
  deriving DecidableEq, Repr

/-- Column n of a LOADW's tile (R51, R219 to R221); every cell outside the tile is zero. -/
def Bay.loadCol (b : Bay) (base side : Nat) (l : LoadOp) (n : Nat) : ColLoad :=
  let per := if l.fmt = 7 then 2 else 1
  if l.nt ≤ n then { cells := List.replicate 128 {} }
  else if !l.sp then
    { cells := (List.range 128).map fun k => if per * k < l.kt then b.denseUnit base side l k n else {} }
  else if l.dense then
    let gs := (List.range (l.kt / (4 * per))).map fun g =>
      let us := (List.range 4).map fun i => b.denseUnit base side l (4 * g + i) n
      let (i0, i1, ovfl) := keepTwo (us.map (WCell.vals l.fmt))
      ([{ us.getD i0 {} with idx := i0 }, { us.getD i1 {} with idx := i1 }], ovfl)
    { cells := (gs.flatMap (·.1)) ++ List.replicate (128 - 2 * gs.length) {}
      overs := (List.range gs.length).filter fun g => (gs.getD g ([], false)).2 }
  else
    let mbase := side + up256 (loadwScales l.fmt l.kt l.nt)
    let gs := (List.range (l.kt / (4 * per))).map fun g =>
      let nib := b.metaNib mbase (metaLen l.fmt l.kt) n g
      let i0 := nib % 4
      let i1 := nib / 4
      let st (j idx : Nat) : WCell :=
        let el (i : Nat) : W16 := BitVec.ofNat 16 (b.tileElem base l.fmt l.col l.nt (per * (2 * g + j) + i) n)
        { e0 := el 0, e1 := if per = 2 then el 1 else 0, idx := idx
          scale := if isMx l.fmt then b.byte (side + per * (4 * g + idx) / 32 * l.nt + n) else 0 }
      ([st 0 i0, if i0 = i1 then { idx := i1 } else st 1 i1], i0 == i1)
    { cells := (gs.flatMap (·.1)) ++ List.replicate (128 - 2 * gs.length) {}
      dup := (gs.filter (·.2)).length }

/-- Column cells written into the shadow registers where `reach k n` holds; a written register has fresh check bits. -/
def Arr.writeShadow (a : Arr) (cols : List (List WCell)) (reach : Nat → Nat → Bool) : Arr :=
  (List.range 128).foldl (fun a n =>
    (List.range 128).foldl (fun a k =>
      if reach k n then
        { a with wshd := Tab.set {} a.wshd (wKey k n) ((cols.getD n []).getD k {}), errs := Tab.erase a.errs (errShd (wKey k n)) }
      else a) a) a

/-- The swap (R53): every active register takes its shadow register, error marks with it. -/
def Arr.swap (a : Arr) : Arr :=
  { a with
    wact := a.wshd
    pend := false
    errs := (a.errs.filter fun e => decide (e.1 < 131072))
      ++ ((a.errs.filter fun e => decide (147456 ≤ e.1)).map fun e => (e.1 - 16384, e.2))
      ++ (a.errs.filter fun e => decide (147456 ≤ e.1)) }

/-! ## Streamed rows -/

/-- The exact product sum of one cell (R30, R470, R219): a pair of products under an MXFP4 tile. -/
def cellProd (wfmt : Nat) (sp : Bool) (xs : List FVal) (k : Nat) (c : WCell) : FVal :=
  let u := if sp then 4 * (k / 2) + c.idx else k
  let prod (x : Option FVal) (w : FVal) : FVal := match x with | some v => v.mul w | none => .fin false 0 0
  match WCell.vals wfmt c with
  | [w0, w1] => (prod xs[2 * u]? w0).add (prod xs[2 * u + 1]? w1)
  | w0 :: _ => prod xs[u]? w0
  | [] => .fin false 0 0

/-- The column sum of a row (R31): the products of the 128 cells in ascending K order, each further one added
to those before it, from the product of cell 0 (log entry 24). -/
def colSum (wfmt : Nat) (sp : Bool) (xs : List FVal) (col : List WCell) : W32 :=
  let prod (k : Nat) : W32 := f32 (cellProd wfmt sp xs k (col.getD k {}))
  (List.range 127).foldl (fun acc k => fadd acc (prod (k + 1))) (prod 0)

/-- Row `row` of an array's accumulators takes the sums of one streamed row (R59, R31, R70). -/
def Arr.addRow (a : Arr) (acc : Bool) (row : Nat) (sums : List W32) : Arr :=
  (List.range 128).foldl (fun a n =>
    let key := accKey row n
    let v := sums.getD n 0
    let old := if markOf a.errs key = some .uncorr then f32nan else Tab.get 0 a.acc key
    { a with acc := Tab.set 0 a.acc key (if acc then fadd old v else v), errs := Tab.erase a.errs key }) a

/-- CUE_ARRECC.CORR has risen by `n`: ECCDAY or more within 24 hours make the bay a swap candidate (R355). -/
def State.corrRise (s : State) (p n : Nat) : State :=
  let ts := ((s.bay p).corrTimes.filter fun t => decide (s.clk.el ≤ t + dayNs)) ++ List.replicate n s.clk.el
  if s.get UST_CFG_ECCDAY ≤ ts.length then (s.modBay p fun b => { b with corrTimes := [] }).bayTrigger p
  else s.modBay p fun b => { b with corrTimes := ts }

/-- Errors that a FEED's reads of the active weights and of the accumulators it adds to meet: corrected ones
are counted and gone, uncorrectable ones counted (R70). -/
def State.arrayEcc (s : State) (p arr : Nat) (keys : Nat → Bool) : State :=
  let es := ((s.bay p).arr arr).errs.filter fun e => keys e.1
  let corr := (es.filter fun e => e.2 == .corr).length
  let unc := (es.filter fun e => e.2 == .uncorr).length
  let s := (s.bump CUE_ARRECC_CORR corr p).bump CUE_ARRECC_UNCORR unc p
  let s := s.modBay p fun b => b.modArr arr fun a => { a with errs := a.errs.filter fun e => !(keys e.1 && e.2 == .corr) }
  let s := if corr = 0 then s else (s.bayFlag p 1).corrRise p corr
  if unc = 0 then s else (s.bayStatus p cECC_UNCORR).bayTrigger p

/-- What streamed rows leave in the west skew registers (R48, R62): under key k, element k of the last row. -/
def Arr.skewRow (a : Arr) (codes : List Nat) : Arr :=
  { a with skew := codes.zipIdx.foldl (fun (t : Tab W16) x => Tab.set 0 t x.2 (BitVec.ofNat 16 x.1)) a.skew }

/-- The rows of a FEED after those already added, up to row `m`, are added, row by row (R47, R59, R60); a column
that an uncorrectable weight feeds is the canonical NaN (R70). -/
def State.feedRows (s : State) (p arr : Nat) (f : FeedOp) (m : Nat) : State :=
  if m ≤ f.added then s else
  let b := s.bay p
  let a := b.arr arr
  let kk := feedK f.fmt f.wfmt f.sp
  let base := b.opOfs f.src
  let s := s.arrayEcc p arr fun k =>
    (f.added == 0 && decide (131072 ≤ k) && decide (k < 147456))
      || (f.acc && decide (k < 131072) && decide (f.added ≤ (k / 128 + 1024 - f.a0) % 1024)
          && decide ((k / 128 + 1024 - f.a0) % 1024 < m))
  let cols := (List.range 128).map fun n => (List.range 128).map fun k => Tab.get {} a.wact (wKey k n)
  let dead := fun n => a.errs.any fun e => decide (131072 ≤ e.1) && decide (e.1 < 147456) && (e.1 - 131072) % 128 == n && e.2 == .uncorr
  let s := (List.range (m - f.added)).foldl (fun s j =>
    let i := f.added + j
    let xs := b.rowVals base f.fmt kk f.col f.m i
    let sums := (List.range 128).map fun n => if dead n then f32nan else colSum f.wfmt f.sp xs (cols.getD n [])
    s.modBay p fun b => b.modArr arr fun a => a.addRow f.acc ((f.a0 + i) % 1024) sums) s
  s.modBay p fun b' => b'.modArr arr fun a => a.skewRow ((List.range kk).map (b.rowElem base f.fmt kk f.col (m - 1)))

/-- The LOADW part of a shared FEED (R63): streamed row i goes to row i of BW's shadow registers, rows M
to 127 are zero; `reach` bounds the cells written when a stop cuts it short. -/
def State.shareRows (s : State) (p : Nat) (f : FeedOp) (reach : Nat → Nat → Bool) : State :=
  let b := s.bay p
  let base := b.opOfs f.src
  let cols := (List.range 128).map fun n => (List.range 128).map fun k =>
    if k < f.m then ({ e0 := BitVec.ofNat 16 (b.rowElem base f.fmt 128 f.col k n) } : WCell) else {}
  s.modBay p fun b => b.modArr 2 fun a => a.writeShadow cols reach

/-- The columns of a LOADW's tile. -/
def Bay.loadCols (b : Bay) (l : LoadOp) : List ColLoad :=
  (List.range 128).map (b.loadCol (b.opOfs l.src) l.side l)

/-! ## The accesses of the arrays' operands (R133, R136) -/

/-- The items of a list, each once, in the order of their first occurrence. -/
def firsts {α : Type} [DecidableEq α] (l : List α) : List α := l.reverse.dedup.reverse

/-- The lines that `n` bytes at a wings offset touch. -/
def lineReads (o n : Nat) : List (Nat × Nat × Bool) :=
  if n = 0 then [] else (List.range ((n - 1 + o) / 256 + 1 - o / 256)).map fun i => (o / 256 + i, 0, false)

/-- The accesses of streamed row i (R133, R471): row lines, for MX its scales' lines too, or column slots over
groups of 128 lines. -/
def Bay.feedRowLines (b : Bay) (f : FeedOp) (i : Nat) : List (Nat × Nat × Bool) :=
  let base := b.opOfs f.src
  let kk := feedK f.fmt f.wfmt f.sp
  let h := fmtHalves f.fmt
  let w := halfBytes kk h
  if f.col then
    (List.range (ceilDiv kk 128)).map fun g => (base / 256 + 128 * (i / colQ f.fmt) + 128 * g, (h / 2) * (i % colQ f.fmt) / 2 + 1, false)
  else if isMx f.fmt then lineReads (base + w * i) w ++ lineReads (base + up256 (f.m * w) + kk / 32 * i) (kk / 32)
  else lineReads (base + up256 w * i) w

/-- The accesses of a FEED's operand, row by row. -/
def Bay.feedLines (b : Bay) (f : FeedOp) : List (Nat × Nat × Bool) :=
  firsts ((List.range f.m).flatMap (b.feedRowLines f))

/-- The accesses of tile row k of a LOADW (R133). -/
def Bay.loadRowLines (b : Bay) (l : LoadOp) (k : Nat) : List (Nat × Nat × Bool) :=
  let base := b.opOfs l.src
  let w := halfBytes l.nt (fmtHalves l.fmt)
  if l.col then [(base / 256 + 128 * (k / colQ l.fmt), (fmtHalves l.fmt / 2) * (k % colQ l.fmt) / 2 + 1, false)]
  else if isMx l.fmt then lineReads (base + w * k) w
  else lineReads (base + up256 w * k) w

/-- The accesses of a LOADW's operands: its tile's rows, then its side data. -/
def Bay.loadLines (b : Bay) (l : LoadOp) : List (Nat × Nat × Bool) :=
  firsts ((List.range (tileRows l.sp l.dense l.kt)).flatMap (b.loadRowLines l))
    ++ lineReads l.side (sideExtent l.fmt l.sp l.dense l.kt l.nt)

/-- Crossbar requesters by number, with their priority (R137). -/
def whoFeed (arr : Nat) : Nat × Nat := (if arr = 0 then 4 else if arr = 1 then 2 else 3, 1 + arr)
def whoLoad (arr : Nat) : Nat × Nat := (5, 4 + arr)

/-- A request for accesses joins the crossbar's list (R136). -/
def Bay.ask (b : Bay) (who : Nat × Nat) (ord : Nat) (lines : List (Nat × Nat × Bool)) : Bay :=
  if lines.isEmpty then b else { b with xreqs := b.xreqs ++ [{ prio := who.1, who := who.2, ord := ord, lines := lines }] }

/-- The accesses of a unit's cue have all been granted. -/
def Bay.granted (b : Bay) (who ord : Nat) : Bool := !b.xreqs.any fun x => x.who == who && x.ord == ord

/-- The accesses of a unit's cue that are still to be granted. -/
def Bay.owing (b : Bay) (who ord : Nat) : List (Nat × Nat × Bool) :=
  (b.xreqs.filter fun x => x.who == who && x.ord == ord).flatMap fun x => x.lines

/-- Rows of a started FEED, from row 0 on, whose reads have been granted. -/
def Bay.feedReady (b : Bay) (arr : Nat) (f : FeedOp) : Nat :=
  if !f.asked then 0 else
  let owed := b.owing (whoFeed arr).2 f.ord
  ((List.range f.m).takeWhile fun i => (b.feedRowLines f i).all fun l => !owed.contains l).length

/-- Tile rows of a started LOADW, from row 0 on, whose reads have been granted. -/
def Bay.loadReady (b : Bay) (arr : Nat) (l : LoadOp) : Nat :=
  if !l.asked then 0 else
  let owed := b.owing (whoLoad arr).2 l.ord
  if owed.isEmpty then 128
  else ((List.range 128).takeWhile fun k => (b.loadRowLines l k).all fun x => !owed.contains x).length

/-! ## The start of a unit's work (R54, R57, R60, R63) -/

/-- A LOADW writes an array's shadow registers now (R54): its queue's head has started. The LOADW part of a shared
FEED starts with its BX FEED (R63). -/
def Arr.loading (a : Arr) : Bool := match a.lq with | l :: _ => l.started | [] => false

/-- A FEED's rows include accumulator row `a`. -/
def FeedOp.hits (f : FeedOp) (a : Nat) : Bool := decide ((a + 1024 - f.a0) % 1024 < f.m)

/-- An earlier-issued DRAIN of the array has yet to read a row that the FEED adds to (R60). -/
def Bay.drainHolds (b : Bay) (arr : Nat) (f : FeedOp) : Bool :=
  b.dq.any fun d => d.arr == arr && decide (d.ord < f.ord)
    && (List.range (d.rd - d.row)).any fun i => f.hits ((d.a0 + d.row + i) % 1024)

/-- The FEED at the head of an array's queue may enter its marker or first row (R54, R57, R60, R63). A DRAIN holds it
until its last shared row has been read; R60 lets its first cycle come up to 259 cycles earlier (log entry 70). -/
def Bay.feedMayStart (b : Bay) (arr : Nat) (f : FeedOp) : Bool :=
  !f.started && (!f.swap || !(b.arr arr).loading) && !b.drainHolds arr f
  && (!f.share || (!(b.arr 2).pend && match (b.arr 2).lq with
      | l :: _ => l.share && l.ord == f.ord
      | [] => false))

/-- The LOADW part of a shared FEED starts with its first row (R63). -/
def Arr.startShare (a : Arr) : Arr := match a.lq with | l :: rest => { a with lq := { l with started := true } :: rest } | [] => a

/-- The head FEED of an array enters its marker or first row when it may (R53, R57), and the swap is made. -/
def Bay.enterFeed (b : Bay) (arr : Nat) : Bay :=
  match (b.arr arr).fq with
  | .feed f :: rest =>
    if b.feedMayStart arr f then
      let b := b.modArr arr fun a =>
        let a := { a with fq := .feed { f with started := true } :: rest }
        if f.swap then a.swap else a
      if f.share then b.modArr 2 Arr.startShare else b
    else b
  | _ => b

/-- A FEED that has entered presents its reads once its operand's turn has come (R146). -/
def Bay.askFeed (b : Bay) (arr : Nat) : Bay :=
  match (b.arr arr).fq with
  | .feed f :: rest =>
    if f.started && !f.asked && b.turn f.src f.ord == .go then
      (b.modArr arr fun a => { a with fq := .feed { f with asked := true } :: rest }).ask (whoFeed arr) f.ord (b.feedLines f)
    else b
  | _ => b

/-- The head FEED of an array starts when it may, and presents its reads. -/
def Bay.kickFeed (b : Bay) (arr : Nat) : Bay := (b.enterFeed arr).askFeed arr

/-- The head LOADW of an array starts when no tile is pending (R54), and presents its reads once its operand's turn
has come (R146). The LOADW part of a shared FEED starts with that FEED and has no reads of its own. -/
def Bay.kickLoad (b : Bay) (arr : Nat) : Bay :=
  let a := b.arr arr
  match a.lq with
  | l :: rest =>
    if l.share || l.asked || (!l.started && a.pend) then b
    else
      let go := b.turn l.src l.ord == .go
      let b := b.setArr arr { a with lq := { l with started := true, asked := go } :: rest }
      if go then b.ask (whoLoad arr) l.ord (b.loadLines l) else b
  | [] => b

/-- Every unit of a bay starts what it may; a shed holds the entry of new work (R320). -/
def State.kick (s : State) (p : Nat) : State :=
  if s.shed then s else
  s.modBay p fun b =>
    let b := [0, 1, 2].foldl Bay.kickLoad b
    let b := [0, 2, 1].foldl Bay.kickFeed b
    [0, 1, 2].foldl Bay.kickLoad b

/-! ## Accesses that are served at once or come back (R136, R137) -/

/-- x goes before y: raised requesters first, the longest waiting first among them; else by priority (R137). -/
def XReq.before (x y : XReq) : Bool :=
  if x.aged != y.aged then x.aged
  else if x.aged then decide (y.waited < x.waited) || (x.waited == y.waited && decide (x.prio < y.prio))
  else decide (x.prio < y.prio) || (x.prio == y.prio && decide (x.who < y.who))

/-- The block of an access (R131). -/
def accessBlock (a : Nat × Nat × Bool) : Nat := a.1 / 32768

/-- The requests that may be granted: the first of each requester (R136). -/
def firstReqs : List XReq → List XReq
  | [] => []
  | x :: xs => x :: (firstReqs xs).filter fun y => y.who != x.who

/-- The best of some requests. -/
def bestReq : List XReq → Option XReq
  | [] => none
  | x :: xs => match bestReq xs with
    | none => some x
    | some y => some (if y.before x then y else x)

/-- One CK_D cycle: at most two accesses, in different blocks; requesters of the same line or column slot
are served by one access (R136). -/
def grantsOf (xs : List XReq) : List (Nat × Nat × Bool) :=
  let heads := firstReqs xs
  match bestReq heads with
  | none => []
  | some x => match x.lines with
    | [] => []
    | a :: _ =>
      let others := heads.filter fun y => match y.lines with | c :: _ => accessBlock c != accessBlock a | [] => false
      match (bestReq others).bind fun y => y.lines.head? with
      | some c => [a, c]
      | none => [a]

def Bay.grants (b : Bay) : List (Nat × Nat × Bool) := grantsOf b.xreqs

/-- Two accesses are one: the same line, or the same column slot over the same lines (R136). -/
def sameAccess (a c : Nat × Nat × Bool) : Bool := a.1 == c.1 && a.2.1 == c.2.1

/-- Accesses that would each be granted in the first CK_D cycle they are presented in (R136, R137). -/
def Bay.passes (b : Bay) (who : Nat × Nat) (ord : Nat) (lines : List (Nat × Nat × Bool)) : Bool :=
  b.xreqs.isEmpty || lines.all fun l =>
    (grantsOf (b.xreqs ++ [{ prio := who.1, who := who.2, ord := ord, lines := [l] }])).any (sameAccess l)

/-- A requester's accesses at the crossbar of bay `p`: served at once where they would be granted in the first cycle,
else presented, to be used once CROSSBAR_GRANT has granted them (log entry 71). Answers whether they are served. -/
def State.wingsPort (s : State) (p : Nat) (who : Nat × Nat) (ord : Nat) (lines : List (Nat × Nat × Bool)) : State × Bool :=
  let b := s.bay p
  if b.xdone.contains (who.2, ord) then (s.setBay p { b with xdone := b.xdone.erase (who.2, ord) }, true)
  else if !b.granted who.2 ord then (s, false)
  else if b.passes who ord lines then (s, true)
  else (s.setBay p { b with xreqs := b.xreqs ++ [{ prio := who.1, who := who.2, ord := ord, lines := lines, note := true }] }, false)

/-- Crossbar requesters at priorities 6 to 9 (R137): prompter, matcher, photocall, the matcher's and the prompter's
stores (no priority is stated, log entry 71), inbound stores, the bay and die stream engines, LIVE save and restore. -/
def whoPrompt : Nat × Nat := (6, 7)
def whoMatch : Nat × Nat := (6, 8)
def whoPhoto : Nat × Nat := (6, 9)
def whoMatchOut : Nat × Nat := (6, 10)
def whoPromptOut : Nat × Nat := (6, 11)
def whoInbound : Nat × Nat := (7, 12)
/-- A stream engine: a bay engine goes before the engines of its die. -/
def whoEngine (e : Nat) : Nat × Nat := (8, 20 + e)
def whoLive : Nat × Nat := (9, 130)

/-- The accesses that store some bytes. -/
def lineStores (bs : List (Nat × Byte)) : List (Nat × Nat × Bool) := (firsts (bs.map fun x => x.1 / 256)).map fun l => (l, 0, true)

end Sys2Proof.Machine
end

