-- ==== Sys2Proof/Machine/Flags.lean ====
section
/-! DEFINITION. What stops a bay's work: POINTERS stops of its units (R96), run-time faults (R104), and the
statuses and numeric flags they and the units report (R128, R305, R469). -/

namespace Sys2Proof.Machine

/-- Numeric events of what a bay's drain writes (R45, R469), with FLAGS bit 0. -/
def State.numCount (s : State) (p sat inf nan : Nat) : State :=
  let s := ((s.bump CUE_NUMSAT_COUNT sat p).bump CUE_NUMNAN_INF inf p).bump CUE_NUMNAN_NAN nan p
  if sat + inf + nan = 0 then s else s.bayFlag p flNUM

/-- A counter of the sparsity block that FLAGS bit 3 reports (R237, R305). -/
def State.sparseCount (s : State) (p : Nat) (f : Fld) (n : Nat) : State :=
  if n = 0 then s else (s.bump f n p).bayFlag p flSPARSE

/-- One array at a POINTERS stop (R96): the executing FEED and LOADW end at a row boundary that the manual
does not fix (free values), no further than the rows whose reads have been granted (R146); the cues behind them are
discarded, no tile is left pending by a cut LOADW. -/
def State.haltArray (s : State) (p arr : Nat) : State :=
  let b := s.bay p
  let a := b.arr arr
  let (r1, s) := s.fresh
  let (r2, s) := s.fresh
  let s := match a.fq with
    | .feed f :: _ =>
      if f.started then
        let k := f.added + r1 % (b.feedReady arr f - f.added + 1)
        let s := (s.feedRows p arr f k).ringMove p f.src (feedExtent f.fmt f.wfmt f.sp f.col k)
        if f.share then s.shareRows p f (fun row _ => decide (row < k)) else s
      else s
    | _ => s
  let s := match a.lq with
    | l :: _ =>
      if l.started && !l.share then
        let cols := (s.bay p).loadCols l
        let k := b.loadReady arr l
        s.modBay p fun b => b.modArr arr fun x => x.writeShadow (cols.map ColLoad.cells) (fun i n => decide (i < k) && decide (i + n < r2 % 256))
      else s
    | [] => s
  s.modBay p fun b =>
    let b := a.fq.foldl (fun (b : Bay) (q : FqEntry) => match q with | .feed f => b.ringDrop f.src f.ord | .walk _ _ _ _ => b) b
    let b := a.lq.foldl (fun (b : Bay) (l : LoadOp) => if l.share then b else b.ringDrop l.src l.ord) b
    b.modArr arr fun x => { x with
      fq := match a.fq with | .walk d u c o :: _ => [.walk d u c o] | _ => []
      lq := [] }

/-- A photocall of a bay is abandoned and writes no record (R384). -/
def State.photoAbandon (s : State) (p : Nat) : State :=
  match (s.bay p).photo with
  | none => s
  | some _ =>
    let blk := p / 9
    ((s.modBay p fun b => { b with photo := none }).bump OBS_PHOTOSTAT_ABANDON 1 blk).put OBS_PHOTOSTAT_BUSY 0 blk

/-- A DRAIN that a stop cuts (R96, R148): its last row already read is its last store, and it performs no FILL; one
that has read none leaves its end at once. -/
def Bay.cutDrain (b : Bay) (d : DrainOp) : Bay :=
  if b.drows.any fun r => r.ord == d.ord then
    { b with drows := b.drows.map fun r => if r.ord = d.ord ∧ r.row + 1 = d.row then { r with cut := true } else r }
  else b.ringDrop d.dst d.ord

/-- A bay's units stop as under a POINTERS stop (R96): arrays and drain at their next row boundary with
the cues behind discarded, an executing PROMPT, MATCH or WALK left to end, undelivered POSTs discarded;
MOVEs already accepted complete, and rows already read are stored. -/
def State.haltUnits (s : State) (p : Nat) : State :=
  let s := [0, 1, 2].foldl (fun s a => s.haltArray p a) s
  let s := s.photoAbandon p
  let lb := s.logical p
  let s := s.modBay p fun b =>
    let b := b.dq.foldl Bay.cutDrain b
    let b := (b.matchQ.drop 1).foldl (fun (b : Bay) (m : MatchOp) => ((b.ringDrop m.srca m.ord).ringDrop m.srcb m.ord).ringDrop m.dst m.ord) b
    { b with
      dq := []
      matchQ := b.matchQ.take 1
      posts := []
      present := none
      stall := none
      halted := false
      xreqs := b.xreqs.filter fun x => x.who == 0 || decide (7 ≤ x.who) }
  s.modDie (p / 9) fun d => { d with
    prompts := match d.prompts with
      | q :: rest => q :: rest.filter fun r => some r.lbay != lb
      | [] => [] }

/-- A run-time fault of the cue at `pc` on physical bay `p` (R104): the bay goes to FAULT with the code and
PC in CUE_FAULT, its units stop, every other bay of the lane receives a POINTERS stop and the command takes
the code. On a bay already stopping nothing but CUE_FAULT changes. -/
def State.fault (s : State) (p code pc : Nat) : State :=
  let st := s.get CUE_SEQSTAT_STATE p
  let s := (s.put CUE_FAULT_CODE code p).put CUE_FAULT_PC pc p
  if (st != 3 && st != 4) || (s.bay p).stop == .pointers then s
  else
    let s := (s.haltUnits p).put CUE_SEQSTAT_STATE 8 p
    match (s.bay p).cid with
    | none => s
    | some id =>
      let s := s.modBay p fun b => { b with stopReq := .none }
      let s := s.modCmd id fun c => { c.setF code with phase := .aborting }
      match s.cmd id with
      | none => s
      | some c => (s.stopLane c.mask .pointers).settleLane id

end Sys2Proof.Machine
end

