-- ==== Sys2Proof/Machine/Issue.lean ====
section
/-! DEFINITION. The sequencer's issue of cues (R85): which cue a bay presents, issue stalls, retirement,
cue samples (R379), and when a bay's earlier work has completed. -/

namespace Sys2Proof.Machine

/-- The two words of cue i of a bay's cue memory: word 1, word 0 (R107). -/
def Bay.cueWords (b : Bay) (i : Nat) : Nat × Nat := ((Tab.get 0 b.cueMem (2 * i + 1)).toNat, (Tab.get 0 b.cueMem (2 * i)).toNat)

/-- The cue at the PC. -/
def State.cueAt (s : State) (p : Nat) : Option Cue :=
  let (w1, w0) := (s.bay p).cueWords (s.get CUE_SEQSTAT_PC p)
  cueDecode w1 w0

/-- The sequencer issues (R83, R85): STATE is RUN, no cue waits in an issue stall, no HALT waits, no shed
gates issue (R320). -/
def State.mayIssue (s : State) (p : Nat) : Bool :=
  s.get CUE_SEQSTAT_STATE p == 3 && (s.bay p).stall.isNone && !(s.bay p).halted && !(s.bay p).saving && !s.shed

/-- An issue attempt (R379): every (NM1 + 1)-th of a sampled bay is taken; a bay whose 16 places are full discards it. -/
def State.attempt (s : State) (p : Nat) : State :=
  match s.logical p with
  | none => s
  | some lb =>
    if !(s.flag OBS_SAMPCTL_EN && (s.get OBS_SAMPBAYS_BAYS).testBit lb) then s
    else
      let b := s.bay p
      if b.sampCnt < s.get OBS_SAMPCTL_NM1 then s.setBay p { b with sampCnt := b.sampCnt + 1 }
      else
        let s := s.setBay p { b with sampCnt := 0 }
        if 16 ≤ b.samples.length then s.bump OBS_SAMPDROP_COUNT
        else
          let x : Sample :=
            { lbay := lb, phys := p, pc := s.get CUE_SEQSTAT_PC p, odo := s.clk.odo, ca := s.clk.ca
              rel := (s.clk.ca - b.startCa) / 2, opcode := cueOp (b.cueWords (s.get CUE_SEQSTAT_PC p)).1
              sheet := s.get CUE_SHEETNO_SHEET p }
          (s.modBay p fun b => { b with samples := b.samples ++ [x] }).count (bayBlk p) 0x0F 0 1

/-- The cycles of the stall in hand go to its cause, and no stall is in hand (R380). -/
def Bay.waitEnd (b : Bay) (now : Nat) : Bay :=
  match b.wait with
  | some (c, t) => { b with wait := none, waited := Tab.mod 0 b.waited c (· + (now - t)) }
  | none => b

/-- From now on `c` holds the cue at the PC (R380). -/
def Bay.waitFor (b : Bay) (now c : Nat) : Bay :=
  match b.wait with
  | some (c0, _) => if c0 = c then b else { b.waitEnd now with wait := some (c, now) }
  | none => { b with wait := some (c, now) }

/-- A stall of the cue at the PC has a cause (R380). -/
def State.cause (s : State) (p c : Nat) : State := s.modBay p fun b => b.waitFor s.clk.ca c

/-- The cause that held the most cycles, ties going to the lower code, and its half cycles; 0 when none held any (R380). -/
def topCause (w : Tab Nat) : Nat × Nat := w.foldl (fun m x => if m.2 < x.2 then x else m) (0, 0)

/-- The cue at the PC retires: its sample, if any, is written (R380), and the next PC is `pc`. -/
def State.retireTo (s : State) (p pc : Nat) : State :=
  let here := s.get CUE_SEQSTAT_PC p
  let mine := (s.bay p).samples.filter fun x => x.pc == here
  let top := topCause ((s.bay p).waitEnd s.clk.ca).waited
  let s := s.modBay p fun b => { b with
    stall := none, wait := none, waited := [], samples := b.samples.filter fun x => x.pc != here, ord := b.ord + 1 }
  let s := mine.foldl (fun s x => s.sampleRecord x ((s.clk.ca - x.ca) / 2 + 1) top.1 (top.2 / 2)) s
  (s.put CUE_SEQSTAT_PC pc p).count (bayBlk p) 0x02 0 1

/-- The cue at the PC retires and the next follows. -/
def State.retireCue (s : State) (p : Nat) : State := s.retireTo p (s.get CUE_SEQSTAT_PC p + 1)

/-- The cue waits in an issue stall. -/
def State.stallCue (s : State) (p c : Nat) : State :=
  (s.cause p c).modBay p fun b => { b with stall := some c }

/-- A command that presents the cue at the PC: it acts where the sequencer issues and the cue is the
command's own; otherwise nothing happens (log entry 4). -/
def issueCue (lb : Nat) (s : State) (act : State → Nat → Cue → Option State) : Out :=
  onBay lb s fun p =>
    if s.mayIssue p then
      match s.cueAt p with
      | some q => (act (s.attempt p) p q).getD s
      | none => s
    else s

/-- Every earlier cue of the bay has completed: arrays, drain and its stores, matcher, prompter, POST
deliveries, MOVE transfers and a photocall (R85, R384). -/
def State.quiet (s : State) (p : Nat) : Bool :=
  let b := s.bay p
  ([0, 1, 2].all fun a => (b.arr a).fq.isEmpty && (b.arr a).lq.isEmpty)
  && b.dq.isEmpty && b.drows.isEmpty && b.matchQ.isEmpty && b.posts.isEmpty && b.moves.isEmpty
  && b.present.isNone && b.photo.isNone
  && (s.die (p / 9)).prompts.all fun q => some q.lbay != s.logical p

/-- A LIVE stop takes effect (R98): the bay is in PARK while it waits for its earlier work and saves. -/
def State.liveEffect (s : State) (p : Nat) : State :=
  (s.put CUE_SEQSTAT_STATE 6 p).modBay p fun b => { b with saving := true, stop := .live }

end Sys2Proof.Machine
end

