-- ==== Sys2Proof/Machine/Sequencer.lean ====
section
/-! DEFINITION. The cues that address the sequencer, the arrays, the drain, the stream engines, revolves
and semaphores: SET, LOADW, FEED, DRAIN, MOVE, RING, WAIT, POST, LOOP, ENDL, EXIT, WALK, HALT, and CUE_ACCEPT. -/

namespace Sys2Proof.Machine

/-! ## SET (R88, R112) -/

def setCue (s : State) (p : Nat) (q : Cue) : Option State :=
  match q with
  | .set kind ag dim extm1 base stride =>
    let s := if kind = 0 then s.put CUE_AGBASE_BASE base p ag
      else (s.put CUE_AGDIM_EXTM1 extm1 p (5 * ag + dim)).put CUE_AGDIM_STRIDE stride p (5 * ag + dim)
    some ((s.agZero p ag).retireCue p)
  | _ => none

/-- SET (R112). -/
def execSet (lb : Nat) (s : State) : Out := issueCue lb s setCue

/-! ## LOADW (R51, R85, R113, R115) -/

def loadwCue (s : State) (p : Nat) (q : Cue) : Option State :=
  match q with
  | .loadw arr fmt sp dense ovf col ktm1 ntm1 src side =>
    let pc := s.get CUE_SEQSTAT_PC p
    if 2 ≤ ((s.bay p).arr arr).lq.length then some (s.stallCue p 1)
    else
      let ord := (s.bay p).ord
      let kt := ktm1 + 1
      let nt := ntm1 + 1
      let groups := if col then loadwGroups fmt sp dense kt else 0
      let r : Except Nat State := do
        let (i, o) ← Issue.wop { s := s } p src (loadwExtent fmt sp dense col kt nt) groups false ord
        let (i, so) ← i.wop p side (sideExtent fmt sp dense kt nt) 0 false ord
        let l : LoadOp := { fmt := fmt, sp := sp, dense := dense, ovf := ovf, col := col, kt := kt, nt := nt, src := o, side := so.ofs, pc := pc, ord := ord }
        let t := (i.done p).modBay p fun b => b.modArr arr fun a => { a with recS := some { fmt := fmt, sp := sp }, lq := a.lq ++ [l] }
        return (t.retireCue p).kick p
      match r with
      | .ok t => some t
      | .error c => some (s.fault p c pc)
  | _ => none

/-- LOADW (R51): handed to the array's LOADW queue; a full queue is an issue stall (R49). -/
def execLoadw (lb : Nat) (s : State) : Out := issueCue lb s loadwCue

/-! ## FEED (R55, R63, R114, R115) -/

/-- The tile record a FEED is compared with: the shadow record under SWAP, else the active one (R115). -/
def Arr.record (a : Arr) (swap : Bool) : Option TileRec := if swap then a.recS else a.recA

def feedCue (s : State) (p : Nat) (q : Cue) : Option State :=
  match q with
  | .feed arr fmt wfmt sp swap acc share col mm1 a0 src =>
    let pc := s.get CUE_SEQSTAT_PC p
    let b := s.bay p
    if 2 ≤ (b.arr arr).fq.length ∨ (share = true ∧ 2 ≤ (b.arr 2).lq.length) then some (s.stallCue p 1)
    else
      let ord := b.ord
      let m := mm1 + 1
      let groups := if col then feedGroups fmt wfmt sp m else 0
      let rec_ : TileRec := { fmt := wfmt, sp := sp }
      let r : Except Nat State := do
        let (i, row) ← Issue.aop { s := s } p a0
        let src' := i.wop p src (feedExtent fmt wfmt sp col m) groups false ord
        if (b.arr arr).record swap ≠ some rec_ then  -- AG_RANGE goes before FMT_MISMATCH, that before REVOLVE_BAD (log entry 63)
          throw (match src' with | .error c => if c = cAG_RANGE then c else cFMT_MISMATCH | .ok _ => cFMT_MISMATCH)
        let (i, o) ← src'
        let f : FeedOp := { fmt := fmt, wfmt := wfmt, sp := sp, swap := swap, acc := acc, share := share, col := col, m := m, a0 := row, src := o, pc := pc, ord := ord }
        let t := (i.done p).modBay p fun b =>
          let b := b.modArr arr fun a => { a with recA := if swap then a.recS else a.recA, fq := a.fq ++ [.feed f] }
          if share then b.modArr 2 fun a => { a with
            recS := some { fmt := fmt, sp := false }
            lq := a.lq ++ [{ share := true, fmt := fmt, sp := false, kt := m, nt := 128, src := o, pc := pc, ord := ord }] }
          else b
        return (t.retireCue p).kick p
      match r with
      | .ok t => some t
      | .error c => some (s.fault p c pc)
  | _ => none

/-- FEED (R55): compared with the tile record (R115) and handed to the array's FEED queue. -/
def execFeed (lb : Nat) (s : State) : Out := issueCue lb s feedCue

/-! ## DRAIN (R64, R116) -/

def drainCue (s : State) (p : Nat) (q : Cue) : Option State :=
  match q with
  | .drain arr fmt rnd sat act bias ztap deriv sp24 add clear dsc lay a0 rdm1 ndm1 dfn dst bsrc zadr =>
    let pc := s.get CUE_SEQSTAT_PC p
    if 2 ≤ (s.bay p).dq.length then some (s.stallCue p 1)
    else
      let ord := (s.bay p).ord
      let rd := rdm1 + 1
      let nd := ndm1 + 1
      let r : Except Nat State := do
        let (i, row) ← Issue.aop { s := s } p a0
        let (i, d) ← i.wop p dst (drainExtent fmt lay sp24 rd nd) (if lay = 2 then drainGroups fmt rd else 0) true ord
        let (i, bo) ← i.wop p bsrc (if bias then 4 * nd else 0) 0 false ord
        let (i, zo) ← i.wop p zadr (if ztap || deriv then 256 * rd else 0) 0 false ord
        let x : DrainOp := { arr := arr, fmt := fmt, rnd := rnd, sat := sat, act := act, dfn := dfn, bias := bias, ztap := ztap, deriv := deriv, sp24 := sp24, add := add, clear := clear, lay := lay, a0 := row, rd := rd, nd := nd, dst := d, bsrc := bo.ofs, zadr := zo.ofs, dsc := dsc, pc := pc, ord := ord }
        let t := (i.done p).modBay p fun b => { b with dq := b.dq ++ [x] }
        return (t.retireCue p).kick p
      match r with
      | .ok t => some t
      | .error c => some (s.fault p c pc)
  | _ => none

/-- DRAIN (R64): handed to the drain queue. -/
def execDrain (lb : Nat) (s : State) : Out := issueCue lb s drainCue

/-! ## MOVE (R117, R118) -/

/-- The engine a MOVE's ENG field names: the bay's own, or a green-room queue of its die. -/
def moveEngine (p eng : Nat) : Nat := if eng = 0 then p else 72 + 4 * (p / 9) + (eng - 4)

def moveCue (s : State) (p : Nat) (q : Cue) : Option State :=
  match q with
  | .move eng sen sstep sag den dstep dag done dsem desc =>
    let m : MoveReq :=
      { seq := s.nextMove, eng := moveEngine p eng, desc := desc
        srcAg := if sen then some (s.agAddr p sag) else none
        dstAg := if den then some (s.agAddr p dag) else none
        done := if done then some dsem else none, pc := s.get CUE_SEQSTAT_PC p
        steps := (if sstep then [sag] else []) ++ (if dstep then [dag] else []) }
    some (({ s with nextMove := s.nextMove + 1 }.stallCue p 6).modBay p fun b => { b with present := some m })
  | _ => none

/-- MOVE (R117): presented to a stream engine, in issue stall until the engine accepts it (STREAM_ACCEPT); its
generators advance there, with its issue (R85, R89). -/
def execMove (lb : Nat) (s : State) : Out := issueCue lb s moveCue

/-! ## RING (R119 to R121, R145 to R148) -/

/-- A RING cue of operation `rop` acts on its end; the action answers a fault code or the next state. -/
def ringCue (rop : Nat) (act : State → Nat → Nat → RingEnd → Cue → Except Nat State) (s : State) (p : Nat) (q : Cue) : Option State :=
  match q with
  | .ring r rv _ _ _ _ _ _ =>
    if r = rop then
      match act s p rv ((s.bay p).ring rv) q with
      | .ok t => some t
      | .error c => some (s.fault p c (s.get CUE_SEQSTAT_PC p))
    else none
  | _ => none

/-- RING OPEN (R145): the end opens with the cue's geometry; a consumer end sends N empty credits. -/
def execRingOpen (lb : Nat) (s : State) : Out :=
  issueCue lb s (ringCue 0 fun s p rv r q =>
    match q with
    | .ring _ _ role peer prv nslm1 slszm1 base =>
      if r.opened then .error cREVOLVE_BAD
      else
        let r' : RingEnd := { opened := true, consumer := role, peer := peer, prv := prv, nsl := nslm1 + 1, slsz := 256 * (slszm1 + 1), base := base, stall := r.stall }
        let s := s.modBay p fun b => b.setRing rv r'
        let s := if role then (List.range (nslm1 + 1)).foldl (fun s _ => s.sendCredit r' false) s else s
        .ok (s.retireCue p)
    | _ => .error cREVOLVE_BAD)

/-- RING CLOSE (R148): the end closes, slot contents stay; accesses still waiting through it fault later. -/
def execRingClose (lb : Nat) (s : State) : Out :=
  issueCue lb s (ringCue 1 fun s p rv r _ =>
    if r.opened then .ok ((s.modBay p fun b => b.setRing rv { r with opened := false, waiting := [], fills := [] }).retireCue p)
    else .error cREVOLVE_BAD)

/-- A cue that stalled on a revolve end goes on: RNG_STAT.STALL counts its CK_A cycles there (R154). -/
def State.ringStalled (s : State) (p rv : Nat) : State :=
  let n := Tab.get 0 ((s.bay p).waitEnd s.clk.ca).waited 3 / 2
  if n = 0 then s
  else s.modBay p fun b => b.setRing rv { b.ring rv with stall := min ((b.ring rv).stall + n) (2 ^ 32 - 1) }

/-- ACQ and TAKE retire once their end's count is at least 1; until then a revolve stall (R121, R146). -/
def ringWait (consumer : Bool) (s : State) (p rv : Nat) (r : RingEnd) : Except Nat State :=
  if !r.opened || r.consumer != consumer then .error cREVOLVE_BAD
  else if 1 ≤ r.count then .ok ((s.ringStalled p rv).retireCue p) else .ok (s.stallCue p 3)

/-- FILL and FREE at issue (R120, R146, R148): the issue index advances; the operation is performed after
every earlier store or read through the end. -/
def ringGive (consumer : Bool) (s : State) (p rv : Nat) (r : RingEnd) : Except Nat State :=
  if !r.opened || r.consumer != consumer || r.count == 0 then .error cREVOLVE_BAD
  else
    let ord := (s.bay p).ord
    let s := s.modBay p fun b => b.setRing rv { r with
      icursor := 0, iindex := (r.iindex + 1) % r.nsl, waiting := r.waiting ++ [ord], fills := r.fills ++ [ord] }
    .ok (((s.ringFills p rv (r.waiting.length + 1)).retireCue p).kick p)

/-- RING ACQ (R146). -/
def execRingAcq (lb : Nat) (s : State) : Out := issueCue lb s (ringCue 2 fun s p rv r _ => ringWait false s p rv r)
/-- RING FILL (R146). -/
def execRingFill (lb : Nat) (s : State) : Out := issueCue lb s (ringCue 3 fun s p rv r _ => ringGive false s p rv r)
/-- RING TAKE (R146). -/
def execRingTake (lb : Nat) (s : State) : Out := issueCue lb s (ringCue 4 fun s p rv r _ => ringWait true s p rv r)
/-- RING FREE (R146). -/
def execRingFree (lb : Nat) (s : State) : Out := issueCue lb s (ringCue 5 fun s p rv r _ => ringGive true s p rv r)

/-! ## WAIT and POST (R91 to R93) -/

def waitCue (s : State) (p : Nat) (q : Cue) : Option State :=
  match q with
  | .wait sem n =>
    let v := s.get CUE_SEM_VALUE p sem
    if n ≤ v then some ((s.put CUE_SEM_VALUE (v - n) p sem).retireCue p)
    else if (s.bay p).stop = .live then some (s.liveEffect p)
    else some ((s.cause p 2).put CUE_SEQSTAT_STATE 4 p)
  | _ => none

/-- WAIT (R91): satisfied, it subtracts N and retires; otherwise the bay waits, or a pending LIVE stop takes effect (R98). -/
def execWait (lb : Nat) (s : State) : Out := issueCue lb s waitCue

def postCue (s : State) (p : Nat) (q : Cue) : Option State :=
  match q with
  | .post nofence bay sem n =>
    let b := s.bay p
    let m : PostMsg :=
      { bay := bay, sem := sem, n := n, pc := s.get CUE_SEQSTAT_PC p
        drains := if nofence then [] else (b.dq.map (·.ord)) ++ (b.drows.map (·.ord))
        moves := if nofence then [] else b.moves }
    some ((s.modBay p fun b => { b with posts := b.posts ++ [m] }).retireCue p)
  | _ => none

/-- POST (R91, R93): issued with its fence; POST_DELIVERY delivers it. -/
def execPost (lb : Nat) (s : State) : Out := issueCue lb s postCue

/-! ## Loops (R87) -/

def loopCue (s : State) (p : Nat) (q : Cue) : Option State :=
  match q with
  | .loop nm1 =>
    let d := s.get CUE_SEQSTAT_LDEPTH p
    if 4 ≤ d then some (s.fault p cLOOP_DEPTH (s.get CUE_SEQSTAT_PC p))
    else
      let s := s.put CUE_LOOP_REMAIN (nm1 + 1) p d
      let s := s.modBay p fun b => { b with loopBody := Tab.set 0 b.loopBody d (s.get CUE_SEQSTAT_PC p + 1) }
      some ((s.put CUE_SEQSTAT_LDEPTH (d + 1) p).retireCue p)
  | _ => none

/-- LOOP (R87). -/
def execLoop (lb : Nat) (s : State) : Out := issueCue lb s loopCue

def endlCue (s : State) (p : Nat) (q : Cue) : Option State :=
  match q with
  | .endl =>
    let d := s.get CUE_SEQSTAT_LDEPTH p
    if d = 0 then none
    else
      let n := s.get CUE_LOOP_REMAIN p (d - 1)
      if 1 < n then some ((s.put CUE_LOOP_REMAIN (n - 1) p (d - 1)).retireTo p (Tab.get 0 (s.bay p).loopBody (d - 1)))
      else some (((s.put CUE_LOOP_REMAIN 0 p (d - 1)).put CUE_SEQSTAT_LDEPTH (d - 1) p).retireCue p)
  | _ => none

/-- ENDL (R87): branches to the body while the count before decrementing exceeds 1, else closes the loop. -/
def execEndl (lb : Nat) (s : State) : Out := issueCue lb s endlCue

/-! ## EXIT, WALK, HALT (R97, R98, R126, R85) -/

def exitCue (s : State) (p : Nat) (q : Cue) : Option State :=
  match q with
  | .exit mask =>
    let t := (s.put CUE_LIVEMASK_MASK mask p).retireCue p
    some (if (s.bay p).stop = .live then t.liveEffect p else t)
  | _ => none

/-- EXIT (R97): its mask becomes the live set in force; a pending LIVE stop takes effect here (R98). -/
def execExit (lb : Nat) (s : State) : Out := issueCue lb s exitCue

/-- The arrays a WALK names (bit 0 F, 1 BX, 2 BW). -/
def walkArrays (arrm : Nat) : List Nat := [0, 1, 2].filter fun a => arrm.testBit a

def walkCue (s : State) (p : Nat) (q : Cue) : Option State :=
  match q with
  | .walk arrm duty durm1 =>
    let b := s.bay p
    if (walkArrays arrm).any fun a => decide (2 ≤ (b.arr a).fq.length) then some (s.stallCue p 1)
    else
      let e : FqEntry := .walk durm1 duty (s.get CUE_SEQSTAT_PC p) b.ord
      some (((s.modBay p fun b => (walkArrays arrm).foldl (fun b a => b.modArr a fun x => { x with fq := x.fq ++ [e] }) b).retireCue p).kick p)
  | _ => none

/-- WALK (R126): enters the FEED queue of every array named when all have room. -/
def execWalk (lb : Nat) (s : State) : Out := issueCue lb s walkCue

def haltCue (s : State) (p : Nat) (q : Cue) : Option State :=
  match q with
  | .halt => some (s.modBay p fun b => { b with halted := true })
  | _ => none

/-- HALT (R85): issued; HALT_RETIRE retires it once every earlier cue has completed. -/
def execHalt (lb : Nat) (s : State) : Out := issueCue lb s haltCue

end Sys2Proof.Machine
end

