-- ==== Sys2Proof/Machine/Units.lean ====
section
/-! DEFINITION. What the arrays, the drain and the crossbar of a bay do by themselves: the ends of LOADW,
FEED and WALK, the drain's rows (R60, R61, R64 to R68, R181, R182, R223), crossbar grants (R136, R137). -/

namespace Sys2Proof.Machine

/-! ## The arrays -/

/-- A FEED has yet to add into accumulator row `a` (R60). -/
def FeedOp.owes (f : FeedOp) (a : Nat) : Bool := f.hits a && decide (f.added ≤ (a + 1024 - f.a0) % 1024)

/-- An earlier-issued FEED of the array has yet to add into the DRAIN's next row (R60). -/
def Bay.feedHolds (b : Bay) (d : DrainOp) : Bool :=
  (b.arr d.arr).fq.any fun q => match q with
    | .feed f => decide (f.ord < d.ord) && f.owes ((d.a0 + d.row) % 1024)
    | .walk _ _ _ _ => false

/-- The FEED at the head of the DRAIN's array adds its rows up to the DRAIN's next row now, if their reads have been
granted: a DRAIN reads a row as soon as it is complete, while the FEED goes on (R60). -/
def State.feedForward (s : State) (p : Nat) (d : DrainOp) : State :=
  let b := s.bay p
  let row := (d.a0 + d.row) % 1024
  match (b.arr d.arr).fq with
  | .feed f :: rest =>
    let m := (row + 1024 - f.a0) % 1024 + 1
    if decide (f.ord < d.ord) && f.owes row && decide (m ≤ b.feedReady d.arr f) && b.turn f.src f.ord == .go then
      ((s.feedRows p d.arr f m).modBay p fun b =>
        b.modArr d.arr fun a => { a with fq := .feed { f with added := m } :: rest }).ringMove p f.src (feedExtent f.fmt f.wfmt f.sp f.col m)
    else s
  | _ => s

/-- The cycle of a LOADW in which its first over-full group is met (R52, R222): group g of column n reaches cell row
2g in cycle 2g + n, and the cells reached before it hold the new values. -/
def firstOver (cols : List ColLoad) : Nat :=
  (cols.zipIdx.flatMap fun c => c.1.overs.map fun g => 2 * g + c.2).foldl min 256

/-- An array's LOADW ends (R51, R54, R220 to R222). -/
def State.loadwEnd (s : State) (p arr : Nat) : State :=
  let b := s.bay p
  match (b.arr arr).lq with
  | [] => s
  | l :: rest =>
    if l.share || !l.started || s.shed || !b.granted (whoLoad arr).2 l.ord then s
    else match b.turn l.src l.ord with
      | .stall => s
      | .closed => s.fault p cREVOLVE_BAD l.pc
      | .go =>
        if !l.asked then s else
        let cols := b.loadCols l
        let dups := (cols.map ColLoad.dup).sum
        let overs := (cols.map fun c => c.overs.length).sum
        let s := s.sparseCount p SPR_METADUP_COUNT dups
        if l.ovf ∧ 0 < overs then
          let cut := firstOver cols
          let s := s.modBay p fun b => (b.modArr arr fun a =>
            { a.writeShadow (cols.map ColLoad.cells) (fun k n => decide (k + n < cut)) with lq := rest }).ringDrop l.src l.ord
          s.fault p cSPARSE_OVERFULL l.pc
        else
          let s := s.sparseCount p SPR_OVERFULL_COUNT overs
          let s := s.modBay p fun b => b.modArr arr fun a =>
            { a.writeShadow (cols.map ColLoad.cells) (fun _ _ => true) with lq := rest, pend := true }
          (s.ringDone p l.src (loadwExtent l.fmt l.sp l.dense l.col l.kt l.nt) l.ord).kick p

/-- LOADW_END (R54): the head LOADW of array `arr` finishes and the array has a pending tile. -/
def execLoadwEnd (lb arr : Nat) (s : State) : Out := onBay lb s fun p => s.loadwEnd p arr

/-- CK_A cycles of a FEED's input occupancy (R55). -/
def FeedOp.cycles (f : FeedOp) (arr : Nat) : Nat := b2n f.swap + (if arr = 0 ∧ f.fmt = 1 then 4 else 1) * f.m

/-- An array's FEED ends its input occupancy (R55, R57, R59, R63). -/
def State.feedEnd (s : State) (p arr : Nat) : State :=
  let b := s.bay p
  match (b.arr arr).fq with
  | .feed f :: rest =>
    if !f.started || s.shed || !b.granted (whoFeed arr).2 f.ord then s
    else match b.turn f.src f.ord with
      | .stall => s
      | .closed => s.fault p cREVOLVE_BAD f.pc
      | .go =>
        if !f.asked then s else
        let s := s.feedRows p arr f f.m
        let s := if f.share then
            (s.shareRows p f (fun _ _ => true)).modBay p fun b => b.modArr 2 fun a => { a with lq := a.lq.drop 1, pend := true }
          else s
        let s := s.modBay p fun b => b.modArr arr fun a => { a with fq := rest }
        let s := (s.count (bayBlk p) 0x06 arr (f.cycles arr)).count (bayBlk p) 0x07 arr (f.m * feedK f.fmt f.wfmt f.sp / 128)
        (s.ringDone p f.src (feedExtent f.fmt f.wfmt f.sp f.col f.m) f.ord).kick p
  | _ => s

/-- FEED_END (R57): the head FEED of array `arr` ends and the next may begin. -/
def execFeedEnd (lb arr : Nat) (s : State) : Out := onBay lb s fun p => s.feedEnd p arr

/-- The WALK at the head of an array's FEED queue, by its order number (R126): it runs on each array it names after
that array's own earlier FEEDs. -/
def Bay.walkAt (b : Bay) (a : Nat) : Option Nat := match (b.arr a).fq with | .walk _ _ _ o :: _ => some o | _ => none

/-- The oldest WALK that heads a FEED queue. -/
def Bay.walkDone (b : Bay) : Option Nat :=
  ([0, 1, 2].filterMap b.walkAt).foldl (fun a o => match a with | none => some o | some x => some (min x o)) none

/-- WALK_END (R126): the oldest WALK leaves the FEED queues it heads; on an array where earlier FEEDs still run it ends
at a later WALK_END. It wrote nothing. On a bay that no command holds the envelope's next WALK follows (R334). -/
def execWalkEnd (lb : Nat) (s : State) : Out :=
  onBay lb s fun p =>
    match (s.bay p).walkDone with
    | none => s
    | some o =>
      if s.shedHolds p || (s.bay p).cid.isNone then s else
      (s.modBay p fun b => [0, 1, 2].foldl (fun b a => b.modArr a fun x =>
        match x.fq with
        | .walk _ _ _ o' :: rest => if o' = o then { x with fq := rest } else x
        | _ => x) b).kick p

/-! ## The drain -/

/-- The row position a layout gives row i (R182). -/
def rowPos (lay rd i : Nat) : Nat :=
  if lay = 6 then i / 2 + i % 2 * ceilDiv rd 2 else if lay = 7 then rd - 1 - i else i

/-- Offset of output element (i, n) in half bytes (R181). -/
def drainOfs (fmt lay : Nat) (sp24 : Bool) (rd nd i n : Nat) : Nat :=
  let h := fmtHalves fmt
  let n' := drainN sp24 nd
  let lines (w : Nat) := ceilDiv (halfBytes w h) 256
  let split (k : Nat) := let w := nd / k; 512 * lines w * (rd * (n / w) + i) + h * (n % w)
  match lay with
  | 1 => h * (n' * i + n)
  | 2 => 2 * (256 * (128 * (i / colQ fmt) + n) + h / 2 * (i % colQ fmt))
  | 3 => split 2
  | 4 => split 4
  | 5 => split 8
  | _ => 512 * lines n' * rowPos lay rd i + h * n

/-- A row after its stages 1 to 7: what is stored per column, and the z-tap conversions. -/
structure DrainRow where
  scales : List Nat
  out    : List Conv
  taps   : List Conv
  lfsr   : Tab W64
  deriving DecidableEq, Repr

/-- One draw of each column's generator, for columns 0 to nd − 1 (R35, R36). -/
def drawAll (t : Tab W64) (nd : Nat) : List Nat × Tab W64 :=
  (List.range nd).foldl (fun (rs, t) n =>
    let (r, g) := lfsrDraw (Tab.get 0 t n)
    (rs ++ [r], Tab.set 0 t n g)) ([], t)

/-- Consecutive pieces of `k` elements, `fuel` at most. -/
def chunks {α : Type} (k : Nat) : Nat → List α → List (List α)
  | 0, _ => []
  | fuel + 1, l => if l.isEmpty then [] else l.take k :: chunks k fuel (l.drop k)

/-- Stage 7 for one row (R23 to R29, R33): a scale code per MX block, and a conversion per column. FP32 is
stored as it stands, its infinities and NaNs counted (R469). -/
def quantRow (d : DrainOp) (rds : List Round) (vs : List W32) : List Nat × List Conv :=
  if d.fmt = 0 then
    ([], vs.map fun v => match fval v with
      | .nan => { code := v.toNat, nan := true }
      | .inf _ => { code := v.toNat, inf := true }
      | .fin _ _ _ => { code := v.toNat })
  else if isMx d.fmt then
    let bs : List (Nat × List Conv) := List.zipWith (fun r v => mxBlock d.fmt r v) (chunks 32 4 rds) (chunks 32 4 (vs.map fval))
    (bs.map (fun x : Nat × List Conv => x.1), bs.flatMap (fun x : Nat × List Conv => x.2))
  else (([] : List Nat), List.zipWith (fun r v => (fmtOf d.fmt).conv r d.sat (fval v)) rds vs)

/-- Stages 1 to 7 of row i (R64). -/
def Bay.drainStages (b : Bay) (d : DrainOp) (i : Nat) (bias : List W32) (scale : W32) : DrainRow :=
  let a := b.arr d.arr
  let row := (d.a0 + i) % 1024
  let cols := List.range d.nd
  let v1 := cols.map fun n => if markOf a.errs (accKey row n) = some .uncorr then f32nan else Tab.get 0 a.acc (accKey row n)
  let v2 := if d.bias then List.zipWith fadd v1 bias else v1
  let taps := if d.ztap then v2.map fun v => bf16.conv .rne false (fval v) else []
  let v4 := v2.map (actFn false d.act)
  let v5 := if d.deriv then
      List.zipWith (fun v n => fmul v (actFn true d.dfn (f32 (bf16.val (leVal (b.bytes (d.zadr + 256 * i + 2 * n) 2)))))) v4 cols
    else v4
  let v6 := v5.map (fmul scale)
  let (rs, lf) := if d.rnd = 2 ∧ d.fmt ≠ 0 then drawAll b.lfsr d.nd else (cols.map fun _ => 0, b.lfsr)
  let (sc, out) := quantRow d (rs.map (roundOf d.rnd)) v6
  { scales := sc, out := out, taps := taps, lfsr := lf }

/-- Stage 8 (R221, R223): the kept conversions, the metadata nibble of each group, and over-full groups. -/
def compressRow (d : DrainOp) (scales : List Nat) (out : List Conv) : List Conv × List Nat × Nat :=
  let u := if d.fmt = 7 then 2 else 1
  let gs : List (List Conv × Nat × Bool) := (List.range (d.nd / (4 * u))).map fun g =>
    let units : List (List (Nat × Conv)) := (List.range 4).map fun j => (List.range u).map fun e =>
      let n := u * (4 * g + j) + e
      (n, out.getD n { code := 0 })
    let vals := units.map fun us => us.map fun x => mxVal d.fmt (scales.getD (x.1 / 32) 127) x.2.code
    let (i0, i1, ovfl) := keepTwo vals
    (((units.getD i0 []) ++ (units.getD i1 [])).map (·.2), i0 + 4 * i1, ovfl)
  (gs.flatMap (·.1), gs.map (·.2.1), (gs.filter (·.2.2)).length)

/-- Nibbles and bytes gathered into whole bytes at their offsets: (half-byte offset, half bytes, code). -/
def storeBytes (xs : List (Nat × Nat × Nat)) : List (Nat × Byte) :=
  xs.flatMap fun x =>
    if x.2.1 = 1 then
      (if x.1 % 2 = 1 then [] else
        let hi := (xs.find? fun y => y.1 == x.1 + 1).elim 0 (·.2.2)
        [(x.1 / 2, BitVec.ofNat 8 (x.2.2 + 16 * hi))])
    else runAt (x.1 / 2) (leBytes (x.2.1 / 2) x.2.2)

/-- The crossbar order number of a drained row's accesses. -/
def DRow.key (r : DRow) : Nat := r.ord * 1024 + r.row
/-- The same at another bay's crossbar: bay `p` stores there. -/
def DRow.farKey (r : DRow) (p : Nat) : Nat := r.key * 128 + p

/-- An access of the drain has waited past its cycle: the drain reads no further row (R68). -/
def Bay.drainLate (b : Bay) : Bool := b.xreqs.any fun x => x.who == 0 && decide (0 < x.waited)

/-- Rows of a DRAIN between their read and their store (R68): a row is stored in cycle 23 after its read, and FP32
rows are read every second cycle. -/
def DrainOp.inFlight (d : DrainOp) : Nat := if d.fmt = 0 then 12 else 24

/-- The first drained row presents its stores once its reads have been granted and its slot's turn has come (R68, R146):
the z tap and, into the own wings, the row itself at priority 1; a row for another bay's wings as an inbound store
there (R137). -/
def State.presentRow (s : State) (p : Nat) : State :=
  let b := s.bay p
  match b.drows with
  | [] => s
  | r :: rest =>
    if r.asked || !b.granted 0 r.key || b.turn r.dst r.ord != .go then s
    else
      let q := s.storeBay p r.dst
      let s := s.modBay p fun b => ({ b with drows := { r with asked := true } :: rest }).ask (1, 0) r.key
        (lineStores r.zbytes ++ if q = p then r.stores else [])
      if q = p then s else s.modBay q fun b => b.ask whoInbound (r.farKey p) r.stores

/-- The drain reads its next accumulator row (R60, R61, R64, R68): stages 1 to 8, and the row's reads are presented. -/
def State.drainRead (s : State) (p : Nat) : State :=
  match (s.bay p).dq with
  | [] => s
  | d :: rest =>
    if s.shed || (s.bay p).drainLate || decide (d.inFlight ≤ (s.bay p).drows.length) then s else
    let s := s.feedForward p d
    let b := s.bay p
    if b.feedHolds d then s
    else
      let i := d.row
      let row := (d.a0 + i) % 1024
      let s := s.arrayEcc p d.arr fun k => decide (128 * row ≤ k) && decide (k < 128 * row + d.nd)
      let bias := if i = 0 then (if d.bias then (List.range d.nd).map fun n => BitVec.ofNat 32 (leVal (b.bytes (d.bsrc + 4 * n) 4)) else []) else b.bias
      let scale : W32 := if i = 0 then BitVec.ofNat 32 (s.get CUE_DSCALE_VALUE p d.dsc) else d.scale
      let r := b.drainStages d i bias scale
      let base := b.opOfs d.dst
      let (kept, nibs, overs) := if d.sp24 then compressRow d r.scales r.out else (r.out, [], 0)
      let h := fmtHalves d.fmt
      let elems : List (Nat × Nat × Nat) := kept.zipIdx.map fun x => (drainOfs d.fmt d.lay d.sp24 d.rd d.nd i x.2, h, x.1.code)
      let sofs := drainScaleOfs d.fmt d.lay d.sp24 d.rd d.nd + d.nd / 32 * rowPos d.lay d.rd i
      let scs : List (Nat × Nat × Nat) := r.scales.zipIdx.map fun x => (2 * (sofs + x.2), 2, x.1)
      let mofs := drainMetaOfs d.fmt d.lay d.sp24 d.rd d.nd + drainMetaRow d.fmt d.nd * rowPos d.lay d.rd i
      let mts : List (Nat × Nat × Nat) := nibs.zipIdx.map fun x => (2 * mofs + x.2, 1, x.1)
      let bytes := storeBytes elems ++ storeBytes scs ++ storeBytes mts
      let zb := r.taps.zipIdx.flatMap fun x => runAt (d.zadr + 256 * i + 2 * x.2) (leBytes 2 x.1.code)
      let all := (if d.add then [] else kept) ++ r.taps
      let cnt (f : Conv → Bool) := (all.filter f).length
      let s := s.sparseCount p SPR_OVERFULL_COUNT overs
      let last := i + 1 == d.rd
      let at_ (bs : List (Nat × Byte)) := lineStores (bs.map fun x => (base + x.1, x.2))
      let stores := (if d.lay = 2 then [(base / 256 + 128 * (i / colQ d.fmt), h / 2 * (i % colQ d.fmt) / 2 + 1, true)]
          else at_ (storeBytes elems)) ++ at_ (storeBytes scs) ++ at_ (storeBytes mts)
      let out : DRow := { dst := d.dst, bytes := bytes, zbytes := zb, add := d.add, last := last, len := drainExtent d.fmt d.lay d.sp24 d.rd d.nd, row := i, pc := d.pc, ord := d.ord, sat := cnt Conv.sat, inf := cnt Conv.inf, nan := cnt Conv.nan, stores := stores }
      let asks := (if d.bias ∧ i = 0 then lineReads d.bsrc (4 * d.nd) else [])
        ++ (if d.deriv then [(d.zadr / 256 + i, 0, false)] else [])
        ++ (if d.add then (stores.map fun x => (x.1, x.2.1, false)) else [])
      ((s.modBay p fun b =>
        let b := b.modArr d.arr fun a => if d.clear then (List.range 128).foldl (fun a n => { a with acc := Tab.set 0 a.acc (accKey row n) 0, errs := Tab.erase a.errs (accKey row n) }) a else a
        ({ b with
          dq := if last then rest else { d with row := i + 1, scale := scale } :: rest
          drows := b.drows ++ [out]
          bias := bias
          lfsr := r.lfsr }).ask (1, 0) (d.ord * 1024 + i) asks).count (bayBlk p) 0x08 0 1).kick p

/-- DRAIN_ROW_READ (R60): the drain reads its next accumulator row once the row is final. -/
def execDrainRowRead (lb : Nat) (s : State) : Out := onBay lb s fun p => s.drainRead p

/-- A curtain that runs covers a physical bay: a logical bay it names, or, on a covered die, an understudy
that is powered and unmapped (R149, R151). -/
def State.covers (s : State) (p : Nat) : Bool :=
  match s.curt with
  | none => false
  | some c => match s.logical p with
    | some lb => c.bays.getLsbD lb
    | none => s.bayOn p && (List.range 8).any fun l => c.bays.getLsbD (8 * (p / 9) + l)

/-- A wings offset lies in a range that KEEP spares (R102, R151). -/
def State.spared (s : State) (p o : Nat) : Bool :=
  match s.curt with
  | some c => c.keep && s.flag CUE_RESSTAT_HELD p && (s.bay p).held.any fun r => decide (256 * r.1 ≤ o) && decide (o < 256 * (r.1 + r.2))
  | none => false

/-- A store is about to land in the range of the bay's photocall (R383): how many lines have been copied
by then is not fixed (a free value); those keep their bytes, and a store beyond them tears the record. -/
def State.tear (s : State) (p : Nat) (bs : List (Nat × Byte)) : State :=
  match (s.bay p).photo with
  | none => s
  | some x =>
    if (bs.any fun y => decide (x.src ≤ y.1) && decide (y.1 < x.src + 256 * x.lines)) then
      let (r, s) := s.fresh
      let have_ := x.data.length / 256
      let k := r % (x.lines - have_ + 1)
      let upto := x.src + 256 * (have_ + k)
      let x' := { x with
        data := x.data ++ (s.bay p).bytes (x.src + x.data.length) (256 * k)
        torn := x.torn || bs.any fun y => decide (upto ≤ y.1) && decide (y.1 < x.src + 256 * x.lines) }
      s.modBay p fun b => { b with photo := some x' }
    else s

/-- FP32 destination + v under RNE for each stored word of an ADD row (R64 stage 9). -/
def addBytes (b : Bay) (base : Nat) (bs : List (Nat × Byte)) : List (Nat × W32) :=
  (bs.filter fun x => x.1 % 4 == 0).map fun x =>
    let v := BitVec.ofNat 32 (leVal ((List.range 4).map fun j => (bs.find? fun y => y.1 == x.1 + j).elim 0 (·.2)))
    (x.1, fadd (BitVec.ofNat 32 (leVal (b.bytes (base + x.1) 4))) v)

/-- A running curtain holds a bay's stores of some bytes into another bay's wings (R151): it covers that bay, and some
byte lies outside the ranges that KEEP spares. -/
def State.holdsStore (s : State) (p q : Nat) (bs : List (Nat × Byte)) : Bool :=
  q != p && s.covers q && bs.any fun x => !s.spared q x.1

/-- The first drained row's stores are performed (R68, R146), and what they write counts (R45, R469). -/
def State.drainStore (s : State) (p : Nat) : State :=
  let s := s.presentRow p
  let b := s.bay p
  match b.drows with
  | [] => s
  | r :: rest =>
    match b.turn r.dst r.ord with
      | .stall => s
      | .closed =>
        let s := s.modBay p fun b => { b with drows := b.drows.filter fun x => x.ord != r.ord, dq := b.dq.filter fun d => d.ord != r.ord }
        s.fault p cREVOLVE_BAD r.pc
      | .go =>
        let q := s.storeBay p r.dst
        if !r.asked || !b.granted 0 r.key || (q != p && !(s.bay q).granted whoInbound.2 (r.farKey p)) then s else
        let base := b.opOfs r.dst
        let sums := if r.add then addBytes (s.bay q) base r.bytes else []
        let bytes := if r.add then sums.flatMap fun x => runAt (base + x.1) (leBytes 4 x.2.toNat)
          else r.bytes.map fun x => (base + x.1, x.2)
        if s.holdsStore p q bytes then s else
        let s := s.numCount p r.sat
          (r.inf + (sums.filter fun x => match fval x.2 with | .inf _ => true | _ => false).length)
          (r.nan + (sums.filter fun x => fval x.2 == .nan).length)
        let s := ((s.tear p (r.zbytes ++ if q = p then bytes else [])).wingsStore p q bytes).wingsWrite p r.zbytes
        let s := s.modBay p fun b => { b with drows := rest }
        if r.last then s.ringDone p r.dst r.len r.ord
        else if r.cut then s.modBay p fun b => b.ringDrop r.dst r.ord
        else s.ringAdd p r.dst bytes.length

/-- DRAIN_ROW_STORE (R68): a drained row becomes visible; its DRAIN's last row performs a FIN's FILL (R146). -/
def execDrainRowStore (lb : Nat) (s : State) : Out := onBay lb s fun p => s.drainStore p

/-! ## The crossbar (R136, R137) -/

/-- The words an access touches: a line's 128 words, or one slot of 128 lines. -/
def accessWords (a : Nat × Nat × Bool) : List Nat :=
  if a.2.1 = 0 then (List.range 128).map fun i => a.1 * 128 + i
  else (List.range 128).map fun i => (a.1 + i) * 128 + (a.2.1 - 1)

/-- The bytes a MATCH reads (A, B) and writes. -/
def MatchOp.lenA (m : MatchOp) : Nat := 2 * m.la
def MatchOp.lenB (m : MatchOp) : Nat := if m.bitmap then 2 * m.la else 2 * m.lb
def MatchOp.lenD (m : MatchOp) : Nat := if m.bitmap then up256 (32 * m.la) else up256 (4 * m.lb)

/-- The MATCH at the head of the matcher queue presents its reads once its operands' turns have come (R137, R146). -/
def Bay.askMatch (b : Bay) : Bay :=
  match b.matchQ with
  | m :: rest =>
    if m.asked || b.turn m.srca m.ord != .go || b.turn m.srcb m.ord != .go then b
    else { b with matchQ := { m with asked := true } :: rest }.ask whoMatch m.ord
      (lineReads (b.opOfs m.srca) m.lenA ++ lineReads (b.opOfs m.srcb) m.lenB)
  | [] => b

/-- The stores of a MATCH or a SELECT at the crossbar of the bay whose wings hold their place: the unit's own there, or
inbound stores from another bay (R137). -/
def State.storePort (s : State) (p q : Nat) (who : Nat × Nat) (ord : Nat) (bs : List (Nat × Byte)) : State × Bool :=
  s.wingsPort q (if q = p then who else (7, 200 + p)) ord (lineStores bs)

/-- A request after a cycle's grants: the first access served, or one more cycle waited. -/
def XReq.served (x : XReq) (isHead : Bool) (gs : List (Nat × Nat × Bool)) : XReq :=
  match x.lines with
  | a :: rest =>
    if isHead && gs.any (sameAccess a) then { x with lines := rest, waited := 0, aged := false }
    else { x with waited := x.waited + 1 }
  | [] => x

/-- A grant serves a read of some requester (R135, R136). -/
def Bay.readsAt (b : Bay) (g : Nat × Nat × Bool) : Bool :=
  (firstReqs b.xreqs).any fun x => x.lines.head?.any fun a => sameAccess a g && !a.2.2

/-- The bay's units present the accesses whose turn has come (R136, R146). -/
def State.present (s : State) (p : Nat) : State := ((s.kick p).modBay p Bay.askMatch).presentRow p

/-- CROSSBAR_GRANT (R137): a CK_D cycle of the bay's crossbar; the read words' errors are met here (R135). -/
def execCrossbarGrant (lb : Nat) (s : State) : Out :=
  onBay lb s fun p =>
    let s := s.present p
    let b := s.bay p
    let gs := b.grants
    let heads := (firstReqs b.xreqs).map fun x => (x.who, x.ord)
    let s := s.count (bayBlk p) 0x09 0 (((firstReqs b.xreqs).filter fun x => !(x.lines.head?.any fun a => gs.any (sameAccess a))).length)
    let s := gs.foldl (fun s g => if b.readsAt g then s.wingsRead p (accessWords g) else s) s
    s.modBay p fun b =>
      let xs := b.xreqs.map fun x => x.served (heads.contains (x.who, x.ord)) gs
      { b with
        xreqs := xs.filter fun x => !x.lines.isEmpty
        xdone := b.xdone ++ ((xs.filter fun x => x.note && x.lines.isEmpty).map fun x => (x.who, x.ord)) }

/-- CROSSBAR_AGE (R137): requesters that have waited 64 CK_D cycles go above priority 1 until granted. -/
def execCrossbarAge (lb : Nat) (s : State) : Out :=
  onBay lb s fun p => s.modBay p fun b => { b with
    xreqs := b.xreqs.map fun x => if 64 ≤ x.waited then { x with aged := true } else x }

end Sys2Proof.Machine
end

