-- ==== Sys2Proof/Machine/Streams.lean ====
section
/-! DEFINITION. The stream engines (R117, R118, R157 to R180): descriptors and their checks, the elements
of a MOVE, run-ahead and stale watch, delivery, overlapping copies, faults, and the memory windows' commands. -/

namespace Sys2Proof.Machine

/-! ## Descriptors (R159 to R162) -/

/-- The fields of a descriptor's sixteen words (R159). -/
def descOf (ws : List Nat) : Desc :=
  let w (i : Nat) := ws.getD i 0
  { write := bit (w 0) 63, esz := fld (w 0) 62 61, nkind := fld (w 0) 60 59
    perm := (List.range 5).map fun k => bits (w 0) (44 + 3 * k) 3
    pad := fld (w 0) 43 42, watch := bit (w 0) 41, spol := fld (w 0) 40 39, guarded := bit (w 0) 38
    fin := bit (w 0) 37, rv := fld (w 0) 36 32, fill := BitVec.ofNat 32 (fld (w 0) 31 0)
    floc := bit (w 1) 63, far := fld (w 1) 47 0, near := fld (w 2) 47 0, glo := fld (w 3) 47 0, ghi := fld (w 4) 47 0
    ext := (List.range 5).map fun j => fld (w (5 + 2 * j)) 15 0 + 1
    stride := (List.range 5).map fun j => signed 40 (fld (w (5 + 2 * j)) 55 16)
    bnd := (List.range 5).map fun j => fld (w (6 + 2 * j)) 48 32
    org := (List.range 5).map fun j => signed 16 (fld (w (6 + 2 * j)) 15 0)
    padlo := (List.range 5).map fun j => fld (w (6 + 2 * j)) 23 16
    padhi := (List.range 5).map fun j => fld (w (6 + 2 * j)) 31 24 }

/-- Half bytes per element (ESZ). -/
def Desc.h (d : Desc) : Nat := 2 ^ d.esz
/-- Elements of the MOVE. -/
def Desc.count (d : Desc) : Nat := d.ext.prod
/-- Bytes of the near side (R164). -/
def Desc.nearLen (d : Desc) : Nat := ceilDiv (d.count * d.h) 2

/-- The words hold a reserved field or code (R160). -/
def descReserved (ws : List Nat) : Bool :=
  let w (i : Nat) := ws.getD i 0
  fld (w 0) 60 59 == 3 || fld (w 0) 43 42 == 3 || fld (w 0) 40 39 == 3
  || fld (w 1) 62 48 != 0 || fld (w 2) 63 48 != 0 || fld (w 3) 63 48 != 0 || fld (w 4) 63 48 != 0 || w 15 != 0
  || (List.range 5).any fun j => fld (w (5 + 2 * j)) 63 56 != 0 || fld (w (6 + 2 * j)) 63 49 != 0

/-- The descriptor breaks a rule of R160; `sen` and `den` are the MOVE's. -/
def Desc.bad (d : Desc) (sen den : Bool) : Bool :=
  let at_ (l : List Nat) (j : Nat) := l.getD j 0
  !(d.perm.Nodup && d.perm.all fun k => decide (k < 5))
  || (List.range 5).any (fun j => decide (65536 < at_ d.bnd j) || decide (at_ d.bnd j < at_ d.padlo j + at_ d.padhi j))
  || (!d.write && (d.pad != 0 || d.guarded))
  || (d.guarded && d.pad == 0)
  || (if d.guarded then decide (d.ghi < d.glo) else d.glo != 0 || d.ghi != 0)
  || (d.watch && d.write) || (d.spol != 0 && !d.watch)
  || ((d.fin || d.rv != 0) && d.nkind != 2) || (d.near != 0 && d.nkind == 2)
  || (d.nkind == 1 && decide (wingsSize < d.near + d.nearLen))
  || (d.floc && decide (wingsSize ≤ d.far))
  || (d.nkind == 2 && (if d.write then sen else den))
  || decide (2 ^ 32 < d.count)
  || (d.esz == 0 && (at_ d.ext 0 % 2 == 1 || at_ d.ext (at_ d.perm 0) % 2 == 1 || d.org.getD 0 0 % 2 != 0
      || at_ d.bnd 0 % 2 == 1 || at_ d.padlo 0 % 2 == 1 || at_ d.padhi 0 % 2 == 1))

/-- The descriptor breaks an alignment rule (R161). -/
def Desc.misaligned (d : Desc) : Bool :=
  d.far % 64 != 0 || (d.nkind != 2 && d.near % 64 != 0)
  || ([1, 2, 3, 4].any fun j => d.stride.getD j 0 % 64 != 0)
  || d.stride.getD 0 0 != ((if d.esz = 0 then 1 else d.h / 2 : Nat) : Int)

/-! ## Elements (R163, R164, R167 to R169) -/

/-- The index tuple of near index m, as (dimension, index) pairs in near order (R164). -/
def Desc.tupleGo (d : Desc) : List Nat → Nat → List (Nat × Nat)
  | [], _ => []
  | k :: ks, m => let e := d.ext.getD k 1; (k, m % e) :: Desc.tupleGo d ks (m / e)

/-- The coordinates c_j of the element of near index m (R163). -/
def Desc.coords (d : Desc) (m : Nat) : List Int :=
  let t := d.tupleGo d.perm m
  (List.range 5).map fun j => ((t.find? fun x => x.1 == j).elim 0 (fun x => (x.2 : Int))) + d.org.getD j 0

/-- The classes of R163. -/
inductive ElemClass where
  | out | pad | valid
  deriving DecidableEq, Repr

def Desc.cls (d : Desc) (c : List Int) : ElemClass :=
  if (List.range 5).any fun j => decide (c.getD j 0 < 0) || decide ((d.bnd.getD j 0 : Int) ≤ c.getD j 0) then .out
  else if (List.range 5).any fun j => decide (c.getD j 0 < d.padlo.getD j 0)
      || decide ((d.bnd.getD j 0 : Int) - d.padhi.getD j 0 ≤ c.getD j 0) then .pad
  else .valid

/-- Σ c_j × STRIDE_j, c_0 div 2 for 4-bit elements (R163). -/
def Desc.offset (d : Desc) (c : List Int) : Int :=
  (List.range 5).foldl (fun a j =>
    a + (if j = 0 ∧ d.esz = 0 then c.getD 0 0 / 2 else c.getD j 0) * d.stride.getD j 0) 0

/-- The far byte address of an in-bounds element, and whether it is the high nibble (R163). -/
def Desc.farAt (d : Desc) (c : List Int) : Nat × Bool :=
  (unsigned 48 ((d.far : Int) + d.offset c), d.esz == 0 && c.getD 0 0 % 2 == 1)

/-- One element: its size, where it is read, the value that replaces what is read, where it is written, what counts. -/
structure Elem where
  h     : Nat
  src   : Option (Loc × Bool) := none
  fill  : Option Nat := none
  dst   : Option (Loc × Bool) := none
  bound : Bool := false
  padg  : Bool := false
  deriving DecidableEq, Repr

/-- The device address of a wings offset of physical bay p (R142). -/
def wingsDev (p o : Nat) : Nat := 0xF00000000000 + p / 9 * 0x100000000 + 0x80000000 + p % 9 * 0x2000000 + o

/-- A location as a device address. -/
def Loc.device : Loc → Nat
  | .dev a => a
  | .own p o => wingsDev p o

/-- The location of near byte offset o (R159, R146). -/
def State.nearLoc (s : State) (m : MoveOp) (d : Desc) (o : Nat) : Loc :=
  match d.nkind, m.ring with
  | 0, _ => .dev ((d.near + o) % 2 ^ 48)
  | 2, some op => .own (s.storeBay m.phys op) ((s.bay m.phys).opOfs op + o)
  | _, _ => .own m.phys (d.near + o)

def Desc.farLoc (d : Desc) (p : Nat) (a : Nat) : Loc := if d.floc then .own p a else .dev a

/-- Element `i` of a descriptor's MOVE (R163, R167 to R169). The near data of an element that is not written (out of
bounds under WRITE, a pad under PAD_SKIP, valid under PAD_FILL_ONLY) is not read and not checked against the windows
(log entry 77, DESIGN CHOICE). -/
def State.descElem (s : State) (m : MoveOp) (d : Desc) (i : Nat) : Elem :=
  let c := d.coords i
  let near := (s.nearLoc m d (i * d.h / 2), d.esz == 0 && i % 2 == 1)
  let (fa, fh) := d.farAt c
  let far := (d.farLoc m.phys fa, fh)
  let fill := d.fill.toNat % 2 ^ (4 * d.h)
  let guard := d.guarded && decide (d.glo ≤ far.1.device) && decide (far.1.device ≤ d.ghi)
  match d.cls c, d.write with
  | .out, false => { h := d.h, fill := some fill, dst := some near, bound := true }
  | _, false => { h := d.h, src := some far, dst := some near }
  | .out, true => { h := d.h, bound := true }
  | .valid, true => if d.pad = 2 then { h := d.h } else { h := d.h, src := some near, dst := some far }
  | .pad, true =>
    if d.pad = 0 then { h := d.h }
    else { h := d.h, src := some near, fill := if d.pad = 2 then some fill else none
           dst := if guard then none else some far, padg := guard }

/-- The plane and the index in it of element i of a column move. -/
def ColMove.planeAt (c : ColMove) : List ColPlane → Nat → Option (ColPlane × Nat)
  | [], _ => none
  | pl :: rest, i => if i < pl.per * c.slots.length then some (pl, i) else c.planeAt rest (i - pl.per * c.slots.length)

/-- Element `i` of a column move (R231, R232). -/
def ColMove.elem (c : ColMove) (p i : Nat) : Elem :=
  match c.planeAt c.planes i with
  | none => { h := 2 }
  | some (pl, n) =>
    let fc := c.slots.length
    let slot := if pl.bySlot then n / pl.per else n % fc
    let k := if pl.bySlot then n % pl.per else n / fc
    let near : Loc × Bool := (.own p (pl.dst + n * pl.h / 2), pl.h == 1 && n % 2 == 1)
    match c.slots.getD slot none, c.scatter with
    | some j, false => { h := pl.h, src := some (.dev ((pl.base + j * pl.stride + k * pl.h / 2) % 2 ^ 48), pl.h == 1 && k % 2 == 1), dst := some near }
    | some j, true => { h := pl.h, src := some near, dst := some (.dev ((pl.base + j * pl.stride + k * pl.h / 2) % 2 ^ 48), pl.h == 1 && k % 2 == 1) }
    | none, false => { h := pl.h, fill := some pl.fill, dst := some near }
    | none, true => { h := pl.h }

def MoveOp.count (m : MoveOp) : Nat :=
  match m.desc, m.col with
  | some d, _ => d.count
  | none, some c => (c.planes.map fun pl => pl.per * c.slots.length).sum
  | none, none => 0

def State.elemAt (s : State) (m : MoveOp) (i : Nat) : Elem :=
  match m.desc, m.col with
  | some d, _ => s.descElem m d i
  | none, some c => c.elem m.phys i
  | none, none => { h := 2 }

/-! ## Accounts of a MOVE -/

/-- The bay still holds the command that issued the MOVE. -/
def State.moveLive (s : State) (m : MoveOp) : Bool := (s.bay m.phys).cid == m.cid && m.cid.isSome

def State.moveStatus (s : State) (m : MoveOp) (code : Nat) : State := if s.moveLive m then s.bayStatus m.phys code else s
def State.moveFlag (s : State) (m : MoveOp) (b : Nat) : State := if s.moveLive m then s.bayFlag m.phys b else s

/-- The class of a read is reported to the MOVE's command (R192, R135, R139). -/
def State.moveEcc (s : State) (m : MoveOp) (e : EccSeen) : State :=
  let s := if e.corr then s.moveFlag m flECC else s
  if e.unc then s.moveStatus m cECC_UNCORR else s

/-- A POST or a DONE adds to a semaphore (R92, R118): above 65,535 the count stays there and the posting
cue faults SEM_RANGE. On a bay in PARK only CUE_SEM counts it: the saved state of the parked command stays as it was
saved and is restored over the count (log entry 76, DESIGN CHOICE). -/
def State.semAdd (s : State) (p sem n poster pc : Nat) : State :=
  let v := s.get CUE_SEM_VALUE p sem + n
  if v ≤ 65535 then s.put CUE_SEM_VALUE v p sem
  else (s.put CUE_SEM_VALUE 65535 p sem).fault poster cSEM_RANGE pc

/-- A curtain holds accesses to a place (R151): a covered bay's wings but for spared ranges, or a covered green room. -/
def State.coveredLoc (s : State) : Loc → Bool
  | .own p o => s.covers p && !s.spared p o
  | .dev a => match s.place a with
    | .wings p o => s.covers p && !s.spared p o
    | .green d _ => s.curt.any fun c => c.grm.getLsbD d
    | _ => false

/-! ## Acceptance (R118, R158 to R162, R165, R179) -/

/-- Lowest and highest of Σ c_j × STRIDE_j over boxes of coordinates (lowest, highest per dimension). -/
def Desc.boxSpan (d : Desc) (box : List (Int × Int)) : Option (Int × Int) :=
  if box.any fun b => decide (b.2 < b.1) then none
  else
    let corner (top : Bool) := d.offset ((List.range 5).map fun j =>
      let b := box.getD j (0, 0)
      if (d.stride.getD j 0 < 0) = (top = true) then b.1 else b.2)
    some (corner false, corner true)

/-- The coordinates in bounds in every dimension. -/
def Desc.bounds (d : Desc) : List (Int × Int) :=
  (List.range 5).map fun j =>
    let o := d.org.getD j 0
    (max 0 o, min (d.bnd.getD j 0 : Int) (o + d.ext.getD j 1) - 1)
/-- The valid coordinates. -/
def Desc.inner (d : Desc) : List (Int × Int) :=
  (List.range 5).map fun j =>
    let b := d.bounds.getD j (0, -1)
    (max b.1 (d.padlo.getD j 0), min b.2 ((d.bnd.getD j 0 : Int) - d.padhi.getD j 0 - 1))
/-- Boxes that together hold the pad elements. -/
def Desc.padBoxes (d : Desc) : List (List (Int × Int)) :=
  (List.range 5).flatMap fun j =>
    let b := d.bounds.getD j (0, -1)
    [d.bounds.set j (b.1, min b.2 ((d.padlo.getD j 0 : Int) - 1)),
     d.bounds.set j (max b.1 ((d.bnd.getD j 0 : Int) - d.padhi.getD j 0), b.2)]

/-- Bytes of one element, rounded up. -/
def Desc.eBytes (d : Desc) : Nat := ceilDiv d.h 2

/-- The far extent of R179, as offsets from FAR: lowest and highest byte of the elements the MOVE accesses. -/
def Desc.farSpan (d : Desc) : Option (Int × Int) :=
  let boxes := if !d.write || d.pad == 1 then [d.bounds] else if d.pad = 0 then [d.inner] else d.padBoxes
  let spans := boxes.filterMap d.boxSpan
  match spans with
  | [] => none
  | x :: xs =>
    let (lo, hi) := xs.foldl (fun a b => (min a.1 b.1, max a.2 b.2)) x
    some (lo, hi + (d.eBytes : Int) - 1)

/-- Two byte extents share a byte. -/
def meets (a b : Nat × Nat) : Bool := decide (a.1 ≤ b.2) && decide (b.1 ≤ a.2)

/-- The far extent as device addresses; one that wraps at 2^48 is the whole space. -/
def Desc.farExtent (d : Desc) (p : Nat) : Option (Nat × Nat) :=
  d.farSpan.map fun (lo, hi) =>
    let base : Int := if d.floc then wingsDev p d.far else d.far
    let a := base + lo
    let b := base + hi
    if a / 2 ^ 48 = b / 2 ^ 48 then (unsigned 48 a, unsigned 48 b) else (0, 2 ^ 48 - 1)

/-- Every element is valid. -/
def Desc.allValid (d : Desc) : Bool := (List.range 5).all fun j =>
  let o := d.org.getD j 0
  decide ((d.padlo.getD j 0 : Int) ≤ o) && decide (o + d.ext.getD j 1 ≤ (d.bnd.getD j 0 : Int) - d.padhi.getD j 0)

/-- PERM is the identity and the far side is packed (R179). -/
def Desc.packed (d : Desc) : Bool :=
  d.perm == [0, 1, 2, 3, 4]
  && 2 * d.stride.getD 1 0 == ((d.ext.getD 0 1 * d.h : Nat) : Int)
  && [2, 3, 4].all fun j => d.stride.getD j 0 == (d.ext.getD (j - 1) 1 : Int) * d.stride.getD (j - 1) 0

/-- How R179 settles the copy: none is OVERLAP. -/
def State.copyingOf (s : State) (p : Nat) (d : Desc) (near : Loc) : Option Copying :=
  let n := near.device
  match d.farExtent p with
  | none => some .plain
  | some f =>
    if !meets f (n, n + d.nearLen - 1) then some .plain
    else if d.packed && d.allValid then some .moveLike
    else if d.nearLen ≤ 0x400000 ∧ (s.bay p).part.stage = 2 then some .staged
    else none

/-- MOVEs an engine's queue holds: 8 for a bay, 4 for a green-room queue (R118). -/
def engineDepth (e : Nat) : Nat := if e < 72 then 8 else 4

/-- A MOVE refused at acceptance: the engine's STR_FAULT, and the bay's fault (R118, R104). -/
def State.refuseMove (s : State) (e p : Nat) (r : MoveReq) (code : Nat) : State :=
  let s := ((s.put STR_FAULT_CODE code e).put STR_FAULT_DESC r.desc e).put STR_FAULT_ELEM 0 e
  (s.modBay p fun b => { b with present := none, stall := none }).fault p code r.pc

/-- The descriptor of a MOVE, read and checked at acceptance, with the bases of SEN and DEN (R158 to R162). -/
def State.acceptDesc (s : State) (p : Nat) (r : MoveReq) : State × Except Nat Desc :=
  if wingsSize < 64 * r.desc + 128 then (s, .error cDESC_BAD)
  else
    let ws := (List.range 16).map fun i => leVal ((s.bay p).bytes (64 * r.desc + 8 * i) 8)
    let s := s.wingsRead p (wordsAt (64 * r.desc) 128)
    let d := descOf ws
    let src := fun (d : Desc) a => if d.write then { d with near := a } else { d with far := a }
    let dst := fun (d : Desc) a => if d.write then { d with far := a } else { d with near := a }
    let d' := match r.srcAg with | some a => src d a | none => d
    let d' := match r.dstAg with | some a => dst d' a | none => d'
    if descReserved ws || d'.bad r.srcAg.isSome r.dstAg.isSome then (s, .error cDESC_BAD)
    else if d'.misaligned then (s, .error cMISALIGN)
    else (s, .ok d')

/-- An engine accepts the MOVE presented first (R118): its cue retires, or faults. -/
def State.acceptMove (s : State) (e p : Nat) (r : MoveReq) : State :=
  let (s, d?) := s.acceptDesc p r
  match d? with
  | .error c => s.refuseMove e p r c
  | .ok d =>
    let ord := (s.bay p).ord
    let ring := if d.nkind = 2 then
        (Issue.wop { s := s } p (0x80000 + b2n d.fin * 32 + d.rv) d.nearLen 0 (!d.write) ord).map fun x => (x.1.s, some x.2)
      else .ok (s, none)
    match ring with
    | .error c => s.refuseMove e p r c
    | .ok (t, op) =>
      let m : MoveOp := { id := r.seq, lbay := (s.logical p).getD 0, phys := p, cid := (s.bay p).cid, pc := r.pc, descNo := r.desc, desc := some d, done := r.done, ring := op, ord := ord, acc := s.accepted }
      match t.copyingOf p d (t.nearLoc m d 0) with
      | none => s.refuseMove e p r cOVERLAP
      | some c =>
        let t := { t.setEng e { q := (t.eng e).q ++ [{ m with copying := c }] } with accepted := s.accepted + 1 }
        let t := t.modBay p fun b => { b with present := none, stall := none, moves := b.moves ++ [r.seq] }
        let t := Issue.done { s := t, steps := r.steps } p
        (t.retireCue p).count (bayBlk p) 0x0E 0 1

/-- The MOVE presented to an engine earliest, with its bay. -/
def State.presented (s : State) (e : Nat) : Option (Nat × MoveReq) :=
  (List.range 72).foldl (fun a p => match (s.bay p).present with
    | some r => if r.eng = e ∧ (match a with | some (_, x) => decide (r.seq < x.seq) | none => true) = true then some (p, r) else a
    | none => a) none

/-- A column move that a prompter holds for this queue. -/
def State.heldMove (s : State) (e : Nat) : Option MoveOp :=
  if e < 72 then none else match (s.die ((e - 72) / 4)).colMove with
    | some (q, m) => if q = e then some m else none
    | none => none

/-- A column move enters its green-room queue (R231). -/
def State.enterCol (s : State) (e : Nat) (m : MoveOp) : State :=
  ({ s.setEng e { q := (s.eng e).q ++ [{ m with acc := s.accepted }] } with accepted := s.accepted + 1 }).count (bayBlk m.phys) 0x0E 0 1

/-! ## Fetching (R174 to R178) -/

/-- A channel's ledger has room (R178). -/
def State.ledgerRoom (s : State) (g : Nat) : Bool :=
  decide ((s.ledger.filter fun l => s.chanOf (64 * l.granule) == s.chanOf (64 * g)).length < 512)

/-- The MOVE watches a granule: WATCH, and the granule lies in DDR (R176). -/
def State.watches (s : State) (m : MoveOp) (g : Nat) : Bool := (m.desc.any fun d => d.watch) && s.place (64 * g) == .ddr

/-- The granule of a location, numbered by device addresses; wings offsets by those of their bay (R142). -/
def Loc.granule (l : Loc) : Nat := l.device / 64

/-- Some element from `i` on, of the next `fuel`, has its source (or its place) in a granule. -/
def State.later (s : State) (m : MoveOp) (side : Elem → Option (Loc × Bool)) (g : Nat) : Nat → Nat → Bool
  | 0, _ => false
  | fuel + 1, i => (match side (s.elemAt m i) with | some (l, _) => l.granule == g | none => false) || s.later m side g fuel (i + 1)

/-- A later element of the MOVE than the one it is at reads, or is written to, a granule. -/
def State.again (s : State) (m : MoveOp) (side : Elem → Option (Loc × Bool)) (g : Nat) : Bool :=
  s.later m side g (m.count - (m.m + 1)) (m.m + 1)

/-- The bay whose wings hold a location, and its line there. -/
def State.wingsLine (s : State) : Loc → Option (Nat × Nat)
  | .own p o => some (p, o / 256)
  | .dev a => match s.place a with | .wings p o => some (p, o / 256) | _ => none

/-- A MOVE's access of a wings line at the crossbar (R137): a store into another bay's wings by device address is an
inbound store, everything else is the stream engine's own. Elsewhere there is no crossbar. -/
def State.enginePort (s : State) (e : Nat) (m : MoveOp) (l : Loc) (key : Nat) (store : Bool) : State × Bool :=
  match s.wingsLine l with
  | none => (s, true)
  | some (p, line) => s.wingsPort p (if store && p != m.phys then 7 else 8, 20 + e) (Nat.pair m.id key) [(line, 0, store)]

/-- The die that holds a device address (R142, R189). -/
def State.homeDie (s : State) (a : Nat) : Option DieId :=
  match s.place a with
  | .ddr => some (.p (s.chanOf a / 8))
  | .wings p _ => some (.c (p / 9))
  | .green d _ => some (.c d)
  | .none => none

/-- A granule of a green room is accessed by a MOVE of one of its die's queues, through the queue's port (R139, R369);
what other units access there passes none of the four ports (log entry 62). -/
def State.greenPort (s : State) (m : MoveOp) (a : Nat) : State :=
  match s.place a, s.engines.find? fun x => x.2.q.any fun y => y.id == m.id with
  | .green d _, some x => if 72 ≤ x.1 ∧ (x.1 - 72) / 4 = d then s.count (dieBlk d) 0x20 ((x.1 - 72) % 4) 1 else s
  | _, _ => s

/-- A MOVE accesses a granule: its `n` bytes cross the causeways between its die and the die of the location (R11). -/
def State.crossMove (s : State) (m : MoveOp) (l : Loc) (n : Nat) (back : Bool) : State :=
  match l with
  | .own _ _ => s
  | .dev a => match s.homeDie a with
    | some t => (s.greenPort m a).cross (m.phys / 9) t n back
    | none => s

/-- A granule is read where it lies; a watched one enters its channel's ledger. -/
def State.fetch (s : State) (e : Nat) (m : MoveOp) (l : Loc) : State × Fetched :=
  let g := l.granule
  let s := s.crossMove m l 64 true
  let (s, bs, ecc) := match l with
    | .dev a => s.devRead (a / 64 * 64) 64
    | .own p o => let (t, e) := s.wingsSeen p (wordsAt (o / 64 * 64) 64); (t, (s.bay p).bytes (o / 64 * 64) 64, e)
  let s := s.moveEcc m ecc
  let watched := match l with | .dev _ => s.watches m g | .own _ _ => false
  (if watched then { s with ledger := s.ledger ++ [{ granule := g, move := m.id, eng := e }] } else s,
    { granule := g, bytes := bs, watched := watched })

/-- A granule that may be read: permitted by a window, or in the bay's own wings (R171). -/
def State.mayRead (s : State) : Loc → Bool
  | .dev a => s.permits a false
  | .own _ o => decide (o < wingsSize)

/-- Requests in flight at an engine. -/
def Engine.inflight (x : Engine) : Nat := (x.q.map fun m => m.reqs.length).sum

/-- The granule that the MOVE holds, from a request or kept. -/
def MoveOp.fetched (m : MoveOp) (g : Nat) : Option Fetched := m.holding.find? fun f => f.granule == g && !f.bad

/-- A granule put in place of the one the MOVE holds, or in a request of its own for the element demanded. -/
def MoveOp.putFetched (m : MoveOp) (f : Fetched) : MoveOp :=
  let sw (x : Fetched) : Fetched := if x.granule = f.granule ∧ x.bad = false then f else x
  if (m.fetched f.granule).isSome then { m with reqs := m.reqs.map (fun r => { r with gs := r.gs.map sw }), kept := m.kept.map sw }
  else { m with ra := max m.ra (m.m + 1), reqs := m.reqs ++ [{ m0 := m.m, m1 := m.m + 1, gs := [f] }] }

/-- The next element from `i` on that has a source; at most `fuel` elements are looked at. -/
def State.nextSrc (s : State) (m : MoveOp) : Nat → Nat → Nat
  | 0, i => i
  | fuel + 1, i => if m.count ≤ i then i else match (s.elemAt m i).src with
    | some _ => i
    | none => s.nextSrc m fuel (i + 1)

/-- The run of elements from `i` on whose sources lie in one aligned 256 B block: where it ends, and the granules that
hold them. A request covers no other granule of its block (log entry 74). -/
def State.runFrom (s : State) (m : MoveOp) (blk : Nat) : Nat → Nat → Nat × List Loc
  | 0, i => (i, [])
  | fuel + 1, i => if m.count ≤ i then (i, []) else match (s.elemAt m i).src with
    | some (l, _) => if l.device / 256 = blk then let (e, ls) := s.runFrom m blk fuel (i + 1); (e, l :: ls) else (i, [])
    | none => (i, [])

/-- The MOVE that run-ahead serves: the first whose requests have not all issued (R174). A column move's reads are
demand accesses (R231) and an overlapping copy reads its source whole, so run-ahead waits behind them. -/
def runMove (q : List MoveOp) : Option MoveOp :=
  (q.find? fun m => decide (m.ra < m.count)).filter fun m => m.desc.isSome && m.copying == .plain

/-- Granules of locations, each once, that the MOVE does not hold. -/
def MoveOp.missing (m : MoveOp) (ls : List Loc) : List Loc :=
  (ls.zipIdx.filter fun x => (m.fetched x.1.granule).isNone && !(ls.take x.2).any fun l => l.granule == x.1.granule).map fun x => x.1

/-- The granules of a request are fetched, each when it has its place in the ledger; what no window permits is dropped
(R174, R178). None while a ledger has no room. -/
def State.fetchAll (s : State) (e : Nat) (m : MoveOp) : List Loc → Option (State × List Fetched)
  | [] => some (s, [])
  | l :: ls =>
    let rest (s : State) (f : Fetched) : Option (State × List Fetched) := (s.fetchAll e m ls).map fun x => (x.1, f :: x.2)
    if !s.mayRead l then
      rest (match l with | .dev _ => s.bump STR_RADROP_COUNT 1 e | .own _ _ => s) { granule := l.granule, bad := true }
    else if s.watches m l.granule && !s.ledgerRoom l.granule then none
    else let (t, f) := s.fetch e m l; rest t f

/-- One run-ahead request (R174). A source that a curtain holds is not read (R151), nor a slot that is not there (R146). -/
def State.runahead (s : State) (e : Nat) : State :=
  match runMove (s.eng e).q with
  | none => s
  | some m =>
    if 64 ≤ (s.eng e).inflight then s else
    let setM (s : State) (m' : MoveOp) := s.setEng e { q := (s.eng e).q.map fun x => if x.id = m.id then m' else x }
    let i := s.nextSrc m (m.count - max m.m m.ra) (max m.m m.ra)
    match (s.elemAt m i).src, decide (m.count ≤ i) with
    | some (l, _), false =>
      let (j, ls) := s.runFrom m (l.device / 256) (512 / (s.elemAt m i).h) i
      let ls := m.missing ls
      let waits := match l with
        | .own _ _ => m.ring.any fun op => (s.bay m.phys).turn op m.ord != .go
        | .dev _ => false
      if ls.isEmpty then setM s { m with ra := j }
      else if waits || (ls.any s.coveredLoc && !s.covers m.phys) then s
      else
        let (s, served) := s.enginePort e m l (2 * i) false
        if !served then s
        else match s.fetchAll e m ls with
          | none => s
          | some (t, fs) => setM t { m with ra := j, reqs := m.reqs ++ [{ m0 := i, m1 := j, gs := fs }] }
    | _, _ => setM s { m with ra := i }

/-- RUNAHEAD_REQUEST (R174): one request ahead of demand; granules that no window permits are dropped. -/
def execRunaheadRequest (eng : Nat) (s : State) : Out :=
  onUnit eng 104 s fun s => if s.clocked then s.runahead eng else s

/-! ## Delivery (R173, R177, R180) -/

/-- What the demand of an element's source comes to. -/
inductive Got where
  | wait (s : State)
  | fault (s : State) (code addr : Nat)
  | val (s : State) (m : MoveOp) (v : Nat)

/-- A source that two agents use at once has no one value: a covered bay reading storage that its curtain
zeroes gets the bytes or zero (R151). -/
def State.racing (s : State) (m : MoveOp) (l : Loc) (v : Nat) : State × Nat :=
  if s.covers m.phys && s.coveredLoc l then
    let (r, s) := s.fresh
    (s, if r % 2 = 1 then 0 else v)
  else (s, v)

/-- Why a source of `n` bytes may not be read: the address of the WINDOW fault (R171, R173). -/
def State.srcFault (s : State) (n : Nat) : Loc → Option Nat
  | .dev a => if s.permits a false then none else some a
  | .own p o => if wingsSize < o + n then some (wingsDev p o) else none

/-- The demand of one element (R171, R173, R177). The first element taken from a granule settles whether its bytes as
fetched are delivered, so that no later write mixes into it. -/
def State.demand (s : State) (e : Nat) (m : MoveOp) (h : Nat) (l : Loc) (hi : Bool) : Got :=
  let n := ceilDiv h 2
  let setM (s : State) (m' : MoveOp) := s.setEng e { q := m' :: (s.eng e).q.drop 1 }
  if s.coveredLoc l && !s.covers m.phys then .wait s
  else match s.srcFault n l with
    | some a => .fault s cWINDOW a
    | none =>
      let take (s : State) (m : MoveOp) (f : Fetched) : Got :=
        let (s, v) := s.racing m l (elemVal h hi ((f.bytes.drop (l.device % 64)).take n))
        .val s (m.putFetched { f with taken := true }) v
      match m.fetched l.granule with
      | some f =>
        let spol := (m.desc.map Desc.spol).getD 0
        if f.refetch then .wait s
        else if f.stale && !f.taken && spol == 2 then .fault s cSTALE l.device
        else if f.stale && !f.taken && spol == 1 then .wait (setM s (m.putFetched { f with refetch := true }))
        else take s m f
      | none =>
        if s.watches m l.granule && !s.ledgerRoom l.granule then .wait s
        else
          let (s, served) := s.enginePort e m l (2 * m.m) false
          if !served then .wait s
          else
            let (s, f) := s.fetch e m l
            take s (m.putFetched f) f

/-- Half bytes of a value. -/
def nibbles : Nat → Nat → List Nat
  | 0, _ => []
  | n + 1, v => v % 16 :: nibbles n (v / 16)

/-- Bytes of half bytes, low half first; a missing last half is 0. -/
def joinNibbles : List Nat → Bytes
  | [] => []
  | [a] => [BitVec.ofNat 8 a]
  | a :: b :: r => BitVec.ofNat 8 (a + 16 * b) :: joinNibbles r

/-- The first location of a location's granule, and the location's offset in it. -/
def Loc.base : Loc → Loc
  | .dev a => .dev (a / 64 * 64)
  | .own p o => .own p (o / 64 * 64)
def Loc.inGranule : Loc → Nat
  | .dev a => a % 64
  | .own _ o => o % 64
/-- A location's own number: its device address or its wings offset. -/
def Loc.num : Loc → Nat
  | .dev a => a
  | .own _ o => o

/-- The byte stored `n` further on, as it stands. -/
def State.locByte (s : State) (l : Loc) (n : Nat) : Byte :=
  match l with
  | .dev a => match s.place (a + n) with
    | .ddr => s.mem.read (a + n)
    | .wings p o => (s.bay p).wings.read o
    | .green d o => (s.die d).green.read o
    | .none => 0
  | .own p o => (s.bay p).wings.read (o + n)

/-- The bytes a gathered granule stores, by their offset in it; the half of a byte that is not written stays. -/
def State.pieceBytes (s : State) (w : Piece) : List (Nat × Byte) :=
  (List.range 64).filterMap fun b =>
    let lo := Tab.get 16 w.nibs (2 * b)
    let hi := Tab.get 16 w.nibs (2 * b + 1)
    if lo = 16 ∧ hi = 16 then none
    else
      let old := (s.locByte w.loc b).toNat
      some (b, BitVec.ofNat 8 ((if lo = 16 then old % 16 else lo) + 16 * (if hi = 16 then old / 16 else hi)))

/-- A gathered granule is stored, all its bytes at once (R170); a store that part of a poisoned granule refuses marks
the command (R193), one of a covered bay for covered storage is discarded (R151). -/
def State.storePiece (s : State) (m : MoveOp) (w : Piece) : State :=
  if s.coveredLoc w.loc then s
  else
    let bs := s.pieceBytes w
    let s := s.crossMove m w.loc bs.length false
    let wings (p o : Nat) : State :=
      let xs := bs.map fun x => (o + x.1, x.2)
      let (t, e) := (s.tear p xs).wingsPut p xs
      t.moveEcc m e
    match w.loc with
    | .own p o => wings p o
    | .dev a => match s.place a with
      | .wings p o => wings p o
      | .ddr => let (t, e) := (s.foul a 64).granulePut a (bs.map fun x => (a + x.1, x.2)); t.moveEcc m e
      | .green d o => s.greenPut d (bs.map fun x => (o + x.1, x.2))
      | .none => s

/-- The same where an overlapping copy stores: its own writes leave the granules it watches as it read them (R179). -/
def State.storeOwn (s : State) (m : MoveOp) (w : Piece) : State :=
  if m.copying = .plain then s.storePiece m w
  else
    let own := s.ledger.filter fun l => l.move == m.id
    let t := { s with ledger := s.ledger.filter fun l => l.move != m.id }.storePiece m w
    { t with ledger := t.ledger ++ own }

/-- Every granule still gathered is stored. -/
def State.flushMove (s : State) (m : MoveOp) : State × MoveOp :=
  (m.wbuf.foldl (fun s w => s.storeOwn m w) s, { m with wbuf := [] })

/-- The half bytes of a value at their places in a piece. -/
def Piece.add (w : Piece) (pos : Nat) (vs : List Nat) (src : Option Nat) : Piece :=
  { w with
    nibs := vs.zipIdx.foldl (fun (t : Tab Nat) x => Tab.set 16 t (pos + x.2) x.1) w.nibs
    srcs := match src with | some g => if w.srcs.contains g then w.srcs else w.srcs ++ [g] | none => w.srcs }

/-- A value gathered for its place; its granule is stored once no later element of the MOVE is written to it, so that
writers of one granule never interleave in it (R170). -/
def State.gatherMove (s : State) (m : MoveOp) (el : Elem) (l : Loc) (hi : Bool) (v : Nat) (last : Bool) : State × MoveOp :=
  let w := ((m.wbuf.find? fun x => x.loc == l.base).getD { loc := l.base }).add (2 * l.inGranule + b2n hi) (nibbles el.h v)
    (el.src.map fun x => x.1.granule)
  let rest := m.wbuf.filter fun x => x.loc != l.base
  if last then (s.storeOwn m w, { m with wbuf := rest }) else (s, { m with wbuf := rest ++ [w] })

/-- The ledger forgets the granules of a MOVE whose bytes are visible: no later element takes any of them, and none
waits to be stored (R176). -/
def State.trimLedger (s : State) (m : MoveOp) : State :=
  if !(m.desc.any fun d => d.watch) then s else
  { s with ledger := s.ledger.filter fun l => l.move != m.id
      || s.later m Elem.src l.granule (m.count - m.m) m.m || m.wbuf.any fun w => w.srcs.contains l.granule }

/-- A MOVE leaves its engine: nothing more of it is outstanding. -/
def State.dropMove (s : State) (e : Nat) (m : MoveOp) : State :=
  let s := s.setEng e { q := (s.eng e).q.filter fun x => x.id != m.id }
  let s := { s with ledger := s.ledger.filter fun l => l.move != m.id }
  s.modBay m.phys fun b => { b with moves := b.moves.erase m.id }

/-- A fault stops the MOVE at its element (R180, R104). -/
def State.stopMove (s : State) (e : Nat) (m : MoveOp) (code : Nat) : State :=
  let (s, m) := s.flushMove m
  let s := ((s.put STR_FAULT_CODE code e).put STR_FAULT_DESC m.descNo e).put STR_FAULT_ELEM m.m e
  let s := s.dropMove e m
  let s := match m.ring with
    | some op => s.modBay m.phys fun b => b.ringDrop op m.ord
    | none => s
  if s.moveLive m then s.fault m.phys code m.pc else s

/-- The granules of an overlapping copy's source, in near order. -/
def State.snapLocs (s : State) (m : MoveOp) : List Loc :=
  m.missing ((List.range m.count).filterMap fun i => match (s.elemAt m i).src with
    | some (l, _) => if s.mayRead l then some l else none
    | none => none)

/-- Granules of an overlapping copy's source are read in order. A watched one waits while others fill its ledger; one
that finds it full of its own MOVE's granules is read unwatched (log entry 75). -/
def State.snapAll (s : State) (e : Nat) (m : MoveOp) : List Loc → State × MoveOp × Bool
  | [] => (s, m, true)
  | l :: ls =>
    let full := s.watches m l.granule && !s.ledgerRoom l.granule
    let others := s.ledger.any fun x => x.move != m.id && s.chanOf (64 * x.granule) == s.chanOf (64 * l.granule)
    if full && others then (s, m, false)
    else
      let (t, f) := s.fetch e m l
      let t := if full then { t with ledger := s.ledger } else t
      t.snapAll e { m with kept := m.kept ++ [if full then { f with watched := false } else f] } ls

/-- The source of an overlapping copy is read whole before its first write (R179); a staged one passes through the
die's staging region. Answers whether it has been read. -/
def State.takeSnap (s : State) (e : Nat) (m : MoveOp) : State × MoveOp × Bool :=
  if m.copying = .plain ∨ m.snap = true then (s, m, true) else
  let (s, m, all) := s.snapAll e m (s.snapLocs m)
  if !all then (s, m, false)
  else
    let val (i : Nat) : List Nat := let el := s.elemAt m i
      nibbles el.h (match el.src with
        | some (l, hi) => (m.fetched l.granule).elim 0 fun f => elemVal el.h hi ((f.bytes.drop (l.device % 64)).take (ceilDiv el.h 2))
        | none => 0)
    (if m.copying = .staged then s.greenWrite (m.phys / 9) stagingBase (joinNibbles ((List.range m.count).flatMap val)) else s,
      { m with snap := true, ra := m.count }, true)

/-- The value of an element's source. -/
def State.sourceOf (s : State) (e : Nat) (m : MoveOp) (el : Elem) : Got :=
  match el.src with
  | none => .val s m (el.fill.getD 0)
  | some (l, hi) => match s.demand e m el.h l hi with
    | .val s m v => .val s m (el.fill.getD v)
    | g => g

/-- Why an element's place cannot be written: the address that no window permits. -/
def State.dstFault (s : State) (h : Nat) : Loc → Option Nat
  | .dev a => if s.permits a true then none else some a
  | .own p o => if wingsSize < o + ceilDiv h 2 then some (wingsDev p o) else none

/-- The far side of the MOVE is written. -/
def MoveOp.writesFar (m : MoveOp) : Bool :=
  match m.desc, m.col with
  | some d, _ => d.write
  | none, some c => c.scatter
  | none, none => false

/-- The byte counts of R369: one for each 64 B of the near side. -/
def State.moveBytes (s : State) (e : Nat) (m : MoveOp) (h : Nat) : State :=
  let a := m.m * h / 128
  let b := ((m.m + 1) * h + (if m.count ≤ m.m + 1 then 127 else 0)) / 128
  if e < 72 then s.count (bayBlk e) (if m.writesFar then 0x0C else 0x0B) 0 (b - a)
  else s.count (dieBlk ((e - 72) / 4)) 0x26 ((e - 72) % 4 / 2) (b - a)

/-- The element has been delivered: counts, requests served, the revolve's cursor, and at the last its FIN (R146). -/
def State.passElem (s : State) (e : Nat) (m : MoveOp) (el : Elem) : State :=
  let s := if el.bound then (s.bump STR_BOUND_COUNT 1 e).moveFlag m flBOUND else s
  let s := if el.padg then s.bump STR_PADG_COUNT 1 e else s
  let s := s.moveBytes e m el.h
  let done := m.reqs.filter fun r => decide (r.m1 ≤ m.m + 1)
  let kept := (done.flatMap (fun r => r.gs) ++ m.kept).filter fun f => !f.bad && s.again m Elem.src f.granule
  let m := { m with
    m := m.m + 1, ra := max m.ra (m.m + 1), kept := kept
    reqs := m.reqs.filter fun r => decide (m.m + 1 < r.m1) }
  let s := (s.setEng e { q := m :: (s.eng e).q.drop 1 }).trimLedger m
  match m.ring, m.desc with
    | some op, some d =>
      if m.m < m.count then s.ringMove m.phys op (m.m * d.h / 2) else (s.ringDone m.phys op d.nearLen m.ord).kick m.phys
    | _, _ => s

/-- An earlier accepted MOVE of the same die stream engine, in its other queue, has yet to write where this one writes
(R117, R170): queues 0 and 1, and 2 and 3, of a die are one engine's. -/
def State.behind (s : State) (e : Nat) (m : MoveOp) : Bool :=
  let ext (x : MoveOp) : Option (Nat × Nat) := match x.desc with
    | some d => d.farExtent x.phys
    | none => some (0, 2 ^ 48 - 1)
  decide (72 ≤ e) && m.writesFar && (s.eng (if e % 2 = 0 then e + 1 else e - 1)).q.any fun x =>
    x.writesFar && decide (x.acc < m.acc) && match ext x, ext m with
      | some a, some b => meets a b
      | _, _ => false

/-- One element of the MOVE that transfers (R173). -/
def State.deliver (s : State) (e : Nat) : State :=
  match (s.eng e).q with
  | [] => s
  | m :: _ =>
    if m.count ≤ m.m || s.behind e m then s
    else match (match m.ring with | some op => (s.bay m.phys).turn op m.ord | none => RingTurn.go) with
      | .stall => s
      | .closed => s.stopMove e m cREVOLVE_BAD
      | .go =>
        let el := s.elemAt m m.m
        let held := el.dst.any fun x => s.coveredLoc x.1 && !s.covers m.phys
        if held then s else
        let setM (s : State) (m' : MoveOp) := s.setEng e { q := m' :: (s.eng e).q.drop 1 }
        match s.takeSnap e m with
        | (s, m, false) => setM s m
        | (s, m, true) =>
        match s.sourceOf e m el with
        | .wait t => t
        | .fault t c a => ((if c = cWINDOW then t.winFault a false else t).stopMove e m c)
        | .val t m v =>
          match el.dst with
          | none => t.passElem e m el
          | some (l, hi) =>
            match t.dstFault el.h l with
            | some a => (t.winFault a true).stopMove e m cWINDOW
            | none =>
              let last := !t.again m Elem.dst l.granule
              let (t, served) := if last then t.enginePort e m l (2 * m.m + 1) true else (t, true)
              if served then let (t, m) := t.gatherMove m el l hi v last; t.passElem e m el
              else setM t m

/-- STREAM_DELIVER (R173): the engine demands the next element, checks it and delivers or writes it. -/
def execStreamDeliver (eng : Nat) (s : State) : Out :=
  onUnit eng 104 s fun s => if s.clocked then s.deliver eng else s

/-- A refetch returns (R177): the granule's bytes are those of this read, whatever is written later. -/
def State.refetched (s : State) (e : Nat) : State :=
  match (s.eng e).q with
  | [] => s
  | m :: rest =>
    match m.holding.find? fun f => f.refetch with
    | none => s
    | some f =>
      let (s, bs, ecc) := s.devRead (64 * f.granule) 64
      let s := s.moveEcc m ecc
      let m := m.putFetched { f with bytes := bs, watched := false, stale := false, refetch := false }
      (s.setEng e { q := m :: rest }).bump STR_STALE_REFETCH 1 e

/-- STALE_REFETCH (R177). -/
def execStaleRefetch (eng : Nat) (s : State) : Out :=
  onUnit eng 104 s fun s => if s.clocked then s.refetched eng else s

/-- The MOVE at the head is complete: its DONE semaphore gains 1 (R117), FSEM for a column move (R231). -/
def State.moveDone (s : State) (e : Nat) : State :=
  match (s.eng e).q with
  | [] => s
  | m :: _ =>
    if m.m < m.count then s
    else
      let s := s.dropMove e m
      match m.done with
      | some sem => s.semAdd m.phys sem 1 m.phys m.pc
      | none => s

/-- MOVE_DONE (R117): a MOVE's last byte is visible. -/
def execMoveDone (eng : Nat) (s : State) : Out :=
  onUnit eng 104 s fun s => if s.clocked then s.moveDone eng else s

/-! ## Memory windows (R172, R185) -/

/-- The staged windows, as STR_WINn hold them. -/
def State.stagedWindows (s : State) : Tab Window :=
  (List.range 64).foldl (fun t n =>
    let w : Window := { base := s.get STR_WINW0_BASE 0 n, limit := s.get STR_WINW1_LIMIT 0 n, rd := s.flag STR_WINW0_RD 0 n, w := s.flag STR_WINW0_W 0 n }
    if w.rd || w.w then Tab.set {} t n w else t) []

/-- The windows marked for application take effect (R172). -/
def State.applyWindows (s : State) : State :=
  match s.winPend with
  | none => s
  | some t => { s with windows := t, winPend := none }.put STR_WINCTL_PEND 0

end Sys2Proof.Machine
end

