-- ==== Sys2Proof/Machine/Prompter.lean ====
section
/-! DEFINITION. The matcher (R125, R224 to R227) and the prompter (R124, R228 to R236). -/

namespace Sys2Proof.Machine

/-- 16-bit entries of a list (R224). -/
def Bay.entries (b : Bay) (o n : Nat) : List Nat := (List.range n).map fun i => leVal (b.bytes (o + 2 * i) 2)

/-- A list of `k`-byte entries as stored: `len` bytes, empty entries all ones (R224). -/
def listBytes (k len : Nat) (vs : List Nat) : Bytes :=
  vs.flatMap (leBytes k) ++ List.replicate (len - k * vs.length) 0xFF

/-! ## The matcher -/

/-- A MATCH of mode `want` is handed to the matcher queue of two entries (R125). -/
def matchCue (want : Nat) (s : State) (p : Nat) (q : Cue) : Option State :=
  match q with
  | .matcher mode iof lam1 lbm1 opn sa sb d =>
    if mode ≠ want then none
    else if 2 ≤ (s.bay p).matchQ.length then some (s.stallCue p 6)
    else
      let ord := (s.bay p).ord
      let pc := s.get CUE_SEQSTAT_PC p
      let r : Except Nat State := do
        let (i, oa) ← Issue.wop { s := s } p sa (matchLenA lam1) 0 false ord
        let (i, ob) ← i.wop p sb (matchLenB mode lam1 lbm1) 0 false ord
        let (i, od) ← i.wop p d (matchLenD mode lam1 lbm1) 0 true ord
        let m : MatchOp := { bitmap := mode == 1, iof := iof, la := lam1 + 1, lb := lbm1 + 1, opn := if opn = 0 then 65536 else opn, srca := oa, srcb := ob, dst := od, pc := pc, ord := ord }
        let t := (i.done p).modBay p fun b => { b with matchQ := b.matchQ ++ [m] }.askMatch
        return t.retireCue p
      match r with
      | .ok t => some t
      | .error c => some (s.fault p c pc)
  | _ => none

/-- MATCH_ASSOC (R225). -/
def execMatchAssoc (lb : Nat) (s : State) : Out := issueCue lb s (matchCue 0)
/-- MATCH_BITMAP (R226). -/
def execMatchBitmap (lb : Nat) (s : State) : Out := issueCue lb s (matchCue 1)

/-- What a MATCH comes to: its records or entries, or a fault at the first index out of bounds; and the
indices counted (R225 to R227). -/
structure Matched where
  out : List Nat
  oob : Nat
  bad : Bool
  deriving DecidableEq, Repr

/-- ASSOC (R225, R227): positions of stored A entries, then one lookup per B entry. -/
def matchAssoc (iof : Bool) (opn : Nat) (a b : List Nat) : Matched :=
  let oob (l : List Nat) := (l.filter fun v => v != 0xFFFF && decide (opn ≤ v)).length
  let n := oob a + oob b
  if iof && n != 0 then { out := [], oob := 1, bad := true }
  else
    let usable (v : Nat) := v != 0xFFFF && decide (v < opn)
    { out := b.zipIdx.filterMap fun x => if usable x.1 then (a.findIdx? (· == x.1)).map fun i => x.2 * 65536 + i else none
      oob := n, bad := false }

/-- BITMAP (R226, R227). -/
def matchBitmap (iof : Bool) (opn : Nat) (n : Nat) (a b : Nat) : Matched :=
  let oob := ((List.range n).map fun i => if opn ≤ i then b2n (a.testBit i) + b2n (b.testBit i) else 0).sum
  if iof && oob != 0 then { out := [], oob := 1, bad := true }
  else { out := (List.range n).filter fun i => decide (i < opn) && a.testBit i && b.testBit i, oob := oob, bad := false }

/-- The result of a MATCH on what its operands hold. -/
def Bay.matched (b : Bay) (m : MatchOp) : Matched :=
  if m.bitmap then matchBitmap m.iof m.opn (16 * m.la) (leVal (b.bytes (b.opOfs m.srca) m.lenA)) (leVal (b.bytes (b.opOfs m.srcb) m.lenB))
  else matchAssoc m.iof m.opn (b.entries (b.opOfs m.srca) m.la) (b.entries (b.opOfs m.srcb) m.lb)

/-- The head MATCH ends (R125, R224 to R227). -/
def State.matchEnd (s : State) (p : Nat) : State :=
  let b := s.bay p
  match b.matchQ with
  | [] => s
  | m :: rest =>
    if s.shedHolds p || !b.granted whoMatch.2 m.ord then s else
    let turns := [b.turn m.srca m.ord, b.turn m.srcb m.ord, b.turn m.dst m.ord]
    let pop (s : State) := s.modBay p fun b => ({ b with matchQ := rest }).askMatch
    let drop (s : State) := s.modBay p fun b => ((b.ringDrop m.srca m.ord).ringDrop m.srcb m.ord).ringDrop m.dst m.ord
    if turns.contains .closed then (drop (pop s)).fault p cREVOLVE_BAD m.pc
    else if turns.contains .stall || !m.asked then s
    else
      let r := b.matched m
      let count (s : State) := s.sparseCount p SPR_IDXOOB_COUNT r.oob
      if r.bad then (drop (pop (count s))).fault p cIDX_OOB m.pc
      else
        let q := s.storeBay p m.dst
        let bs := runAt (b.opOfs m.dst) (listBytes (if m.bitmap then 2 else 4) m.lenD r.out)
        if s.holdsStore p q bs then s else
        let (s, served) := s.storePort p q whoMatchOut m.ord bs
        if !served then s else
        let s := ((count s).tear p (if q = p then bs else [])).wingsStore p q bs
        let s := pop s
        (((s.ringDone p m.srca m.lenA m.ord).ringDone p m.srcb m.lenB m.ord).ringDone p m.dst m.lenD m.ord).kick p

/-- MATCH_END (R125): writes the output list and frees the queue's place. -/
def execMatchEnd (lb : Nat) (s : State) : Out := onBay lb s fun p => s.matchEnd p

/-! ## The prompter -/

/-- A PROMPT that faults leaves the prompter; the fault is charged to its PC (R228). -/
def State.promptFault (s : State) (p d : Nat) (q : PromptOp) (code : Nat) : State :=
  let s := (s.modDie d fun x => { x with prompts := x.prompts.drop 1 }).put PRM_STAT_BUSY 0 d
  let s := s.modBay p fun b => b.ringDrop q.dst q.ord
  s.fault p code q.pc

/-- A running curtain holds what an uncovered bay's PROMPT reads of its die's green room (R151). -/
def State.greenHeld (s : State) (p d : Nat) : Bool := !s.covers p && s.curt.any fun c => c.grm.getLsbD d

/-- Saturating INT32 addition (R32): the sum, and whether it saturated. -/
def sat32 (a : Int) : Int × Nat :=
  if a < -2147483648 then (-2147483648, 1) else if 2147483647 < a then (2147483647, 1) else (a, 0)

/-- An INT8 value of a byte. -/
def i8 (b : Byte) : Int := signed 8 b.toNat

/-- Adds the tiles' products into one sum, tile by tile (R229, R32): the sum, and 1 where it saturated. R32 leaves
open whether the sum is held to INT32 after each product, after each tile or at the end; the model holds it after each
tile's 64 products (log entry 78, DESIGN CHOICE). A sum that saturates counts once (R45). -/
def addProducts (acc : Int × Nat) (ps : List Int) : Int × Nat :=
  ps.foldl (fun a x => let r := sat32 (a.1 + x); (r.1, max a.2 r.2)) acc

/-- Element (k, j) of a P1 or P2 tile at a green-room offset. -/
def State.tileAt (s : State) (d o k j : Nat) : Int := i8 (s.greenByte d (o + 64 * k + j))

/-- FIRST's and NEXT's products into the bay's sums (R229): the new sums, row by row, and the saturations. -/
def State.promptSums (s : State) (p d : Nat) (q : PromptOp) (qn : Nat) (sums : Tab W32) : Tab W32 × Nat :=
  let b := s.bay p
  let w := 64 * qn
  let cells := (List.range 128).flatMap fun r => (List.range w).map fun c =>
    let tiles := (List.range q.ntile).filter fun t => t % qn == c / 64
    let ps := tiles.map fun t => ((List.range 64).map fun k =>
      i8 (b.byte (q.src + 8192 * (t / qn) + 64 * r + k)) * s.tileAt d (4096 * (q.pred + t)) k (c % 64)).sum
    (r * w + c, addProducts (signed 32 (Tab.get 0 sums (r * w + c)).toNat, 0) ps)
  (cells.filterMap fun x => if x.2.1 = 0 then none else some (x.1, BitVec.ofNat 32 (unsigned 32 x.2.1)), (cells.map fun x => x.2.2).sum)

/-- Green-room words that a PROMPT's tiles or header cover are read (R139). -/
def State.promptGreen (s : State) (p d o n : Nat) : State :=
  let (s, bad) := s.greenRead d o n
  if bad then s.bayStatus p cECC_UNCORR else s

/-- FIRST starts (R228, R229): pending audits, the header and its checks, then the sums. -/
def State.startFirst (s : State) (p d : Nat) (q : PromptOp) : State :=
  let s := s.audit q.lbay
  let o := 4096 * (q.pred - 1)
  let words : List W64 := (List.range 16).map fun i => BitVec.ofNat 64 (leVal (s.greenBytes d (o + 8 * i) 8))
  let c : PCtx := { (s.ctx q.lbay) with header := words, valid := true }
  let s := s.promptGreen p d o 128
  if c.bad then s.promptFault p d q cDESC_BAD
  else if c.misaligned then s.promptFault p d q cMISALIGN
  else if q.ntile % c.q ≠ 0 then s.promptFault p d q cDESC_BAD
  else
    let (sums, sat) := s.promptSums p d q c.q []
    let s := (s.promptGreen p d (4096 * q.pred) (4096 * q.ntile)).setCtx q.lbay { c with sums := sums }
    ((s.put PRM_CTX_NEXTN 0 d (q.lbay % 8)).put PRM_CTX_VALID 1 d (q.lbay % 8)).numCount p sat 0 0

/-- NEXT starts (R229). -/
def State.startNext (s : State) (p d : Nat) (q : PromptOp) : State :=
  let c := s.ctx q.lbay
  if !c.valid || q.ntile % c.q != 0 then s.promptFault p d q cDESC_BAD
  else
    let (sums, sat) := s.promptSums p d q c.q c.sums
    ((s.promptGreen p d (4096 * q.pred) (4096 * q.ntile)).setCtx q.lbay { c with sums := sums }).numCount p sat 0 0

/-- SELECT starts (R228, R232): with LIST_IN it reads its list now; a revolve end that has closed since it issued faults
it (R148). -/
def State.startSelect (s : State) (p d : Nat) (q : PromptOp) : State :=
  let c := s.ctx q.lbay
  if !c.valid || q.ntile % c.q != 0 then s.promptFault p d q cDESC_BAD
  else if c.listIn then
    if (s.bay p).turn q.dst q.ord = .closed then s.promptFault p d q cREVOLVE_BAD
    else
      let o := (s.bay p).opOfs q.dst
      let n := q.ntile / c.q * 64
      let l := (s.bay p).entries o n
      (s.wingsRead p (wordsAt o (2 * n))).modDie d fun x => { x with prompts := match x.prompts with | y :: r => { y with list := l } :: r | [] => [] }
  else s

/-- The list that a SELECT with LIST_IN reads at its start passes the crossbar (R137, R232). -/
def State.listPort (s : State) (p : Nat) (q : PromptOp) : State × Bool :=
  let c := s.ctx q.lbay
  if q.stg = 2 ∧ c.valid = true ∧ c.listIn = true ∧ (s.bay p).turn q.dst q.ord = .go
  then s.wingsPort p whoPrompt q.ord (lineReads ((s.bay p).opOfs q.dst) (2 * (q.ntile / c.q * 64))) else (s, true)

/-- The head PROMPT of a die starts executing if it may (R124); the prompter waits while it holds a column move
(R231), for the list's slot (R146) and while a curtain holds the green room (R151). -/
def State.promptBegin (s : State) (d : Nat) : State :=
  match (s.die d).prompts with
  | [] => s
  | q :: rest =>
    let p := s.phys q.lbay
    let c := s.ctx q.lbay
    let wait := (q.stg == 2 && c.listIn && (s.bay p).turn q.dst q.ord == .stall) || s.greenHeld p d
    if q.started || (s.die d).colMove.isSome || s.shed || wait then s
    else match s.listPort p q with
      | (s, false) => s
      | (s, true) =>
        let s := s.modDie d fun x => { x with prompts := { q with started := true } :: rest }
        let s := ((s.put PRM_STAT_BUSY 1 d).put PRM_STAT_BAY (q.lbay % 8) d).put PRM_STAT_STG q.stg d
        match q.stg with
        | 0 => s.startFirst p d q
        | 1 => s.startNext p d q
        | _ => s.startSelect p d q

/-- A head PROMPT that faults at its start lets the next one start; `fuel` bounds the PROMPTs. -/
def State.promptGo : Nat → State → Nat → State
  | 0, s, _ => s
  | fuel + 1, s, d =>
    let t := s.promptBegin d
    if (t.die d).prompts.length < (s.die d).prompts.length then State.promptGo fuel t d else t

/-- The prompter of a die starts what it may (R124). -/
def State.promptStart (s : State) (d : Nat) : State := State.promptGo (s.die d).prompts.length s d

/-- The rank blocks a PROMPT's operand lengths are counted with: the header's. -/
def State.promptQ (s : State) (p stg pred : Nat) : Nat :=
  if stg = 0 then bits (leVal (s.greenBytes (p / 9) (4096 * (pred - 1)) 8)) 48 2 + 1
  else match s.logical p with
    | some lb => (s.ctx lb).q
    | none => 1

/-- A PROMPT of stage `want` is handed to the die's prompter (R124). -/
def promptCue (want : Nat) (s : State) (p : Nat) (q : Cue) : Option State :=
  match q with
  | .prompt stg sel ntile pred kval src dst =>
    let lb := (s.logical p).getD 0
    let d := p / 9
    if stg ≠ want then none
    else if (s.die d).prompts.any fun x => x.lbay == lb then some (s.stallCue p 6)
    else
      let ord := (s.bay p).ord
      let pc := s.get CUE_SEQSTAT_PC p
      let qn := s.promptQ p stg pred
      let r : Except Nat State := do
        let (i, so) ← if stg = 2 then .ok ({ s := s }, Opnd.wings 0) else Issue.wop { s := s } p src (promptSrcLen ntile qn) 0 false ord
        let (i, od) ← if stg = 2 then i.wop p dst (promptDstLen ntile qn) 0 (!(s.ctx lb).listIn) ord else .ok (i, Opnd.wings 0)
        let x : PromptOp := { lbay := lb, stg := stg, sel := sel, ntile := ntile, pred := pred, kval := kval, src := so.ofs, dst := od, pc := pc, ord := ord }
        let t := (i.done p).modDie d fun y => { y with prompts := y.prompts ++ [x] }
        let t := t.modBay p fun b => b.ask whoPrompt ord (if stg = 2 then [] else lineReads so.ofs (promptSrcLen ntile qn))
        return (t.retireCue p).promptStart d
      match r with
      | .ok t => some t
      | .error c => some (s.fault p c pc)
  | _ => none

/-- PROMPT_FIRST (R228). -/
def execPromptFirst (lb : Nat) (s : State) : Out := issueCue lb s (promptCue 0)
/-- PROMPT_NEXT (R229). -/
def execPromptNext (lb : Nat) (s : State) : Out := issueCue lb s (promptCue 1)
/-- PROMPT_SELECT (R230). -/
def execPromptSelect (lb : Nat) (s : State) : Out := issueCue lb s (promptCue 2)

/-! ## The end of a PROMPT (R230 to R233) -/

/-- The INT8 inputs of the second product: each sum divided by 2^SHIFT, and the clamps counted (R230 step 1). -/
def PCtx.narrowed (c : PCtx) (r : Nat) : List (Int × Nat) :=
  (List.range (64 * c.q)).map fun j =>
    let v := signed 32 (Tab.get 0 c.sums (r * (64 * c.q) + j)).toNat
    let (x, k) := convInt8 .rne (.fin (decide (v < 0)) v.natAbs (-(c.shift : Int)))
    (x, b2n k.sat)

/-- The score of row r and neuron n of the span (R230 step 2), with the saturations. -/
def State.score (s : State) (d : Nat) (q : PromptOp) (c : PCtx) (row : List (Int × Nat)) (n : Nat) : Int × Nat :=
  let tiles := (List.range q.ntile).filter fun t => t / c.q == n / 64
  addProducts (0, 0) (tiles.map fun t => ((List.range 64).map fun k =>
    (row.getD (64 * (t % c.q) + k) (0, 0)).1 * s.tileAt d (4096 * (q.pred + t)) k (n % 64)).sum)

/-- The k indices of the highest scores, ties to the lower index (R230). -/
def topK (k : Nat) (xs : List (Nat × Int)) : List Nat :=
  (xs.filter fun x => decide ((xs.filter fun y => decide (x.2 < y.2) || (x.2 == y.2 && decide (y.1 < x.1))).length < k)).map (·.1)

/-- Draws of the audit generator for the unpredicted neurons (R233): those sampled, and the generator after. -/
def auditDraw (k : Nat) : List Nat → W64 → List Nat × W64
  | [], g => ([], g)
  | n :: ns, g =>
    let (r, g) := lfsrDraw g
    let (l, g) := auditDraw k ns g
    (if r < 2 ^ (16 - k) then n :: l else l, g)

/-- The slots of a column move: the listed neurons, then the audited ones at the tile's end (R231). -/
def PCtx.slots (c : PCtx) (list audit : List Nat) : List (Option Nat) :=
  (List.range c.fcols).map fun i =>
    if i < c.cap then (list[i]?).bind fun j => if j < c.nout then some j else none
    else audit[i - c.cap]?

/-- The column move of a SELECT is handed to its green-room queue, or held (R231). -/
def State.handMove (s : State) (p d : Nat) (q : PromptOp) (c : PCtx) (slots : List (Option Nat)) : State :=
  if c.fop = 0 then s else
  let e := 72 + 4 * d + c.fq
  let m : MoveOp :=
    { id := s.nextMove, lbay := q.lbay, phys := p, cid := (s.bay p).cid, pc := q.pc, descNo := 0, desc := none
      col := some { scatter := c.fop == 2, slots := slots, planes := c.planes, fsem := c.fsem }, done := some c.fsem }
  let s := { s with nextMove := s.nextMove + 1 }.modBay p fun b => { b with moves := b.moves ++ [m.id] }
  if (s.eng e).q.length < 4 then s.enterCol e m
  else (s.modDie d fun x => { x with colMove := some (e, m) }).put PRM_STAT_HOLD 1 d

/-- The selection of a SELECT without LIST_IN (R230): the neurons selected, in ascending order, the
saturations and clamps, and the eligible neurons. -/
def State.select (s : State) (d : Nat) (q : PromptOp) (c : PCtx) (next span : Nat) : List Nat × Nat × List Nat :=
  let elig := (List.range span).filter fun n => decide (next + n < c.nout)
  let rows := (List.range 128).map fun r =>
    let row := c.narrowed r
    let sc := (List.range span).map fun n => s.score d q c row n
    let cand := elig.map fun n => (n, (sc.getD n (0, 0)).1)
    let pick := if q.sel then (cand.filter fun x => decide (signed 16 q.kval ≤ x.2 / 2 ^ c.tshift)).map (·.1) else topK q.kval cand
    (pick, (row.map (·.2)).sum + (sc.map (·.2)).sum)
  (elig.filter (fun n => rows.any fun x => x.1.contains n) |>.map (· + next), (rows.map (·.2)).sum, elig.map (· + next))

/-- SELECT ends with its own selection (R230, R231, R233), once the list's store is served. -/
def State.endSelect (s : State) (p d : Nat) (q : PromptOp) (c : PCtx) : Except State State :=
  let span := q.ntile / c.q * 64
  let l := q.lbay % 8
  let next := s.get PRM_CTX_NEXTN d l
  let (sel, sat, elig) := s.select d q c next span
  let kept := sel.take c.cap
  let st := s.storeBay p q.dst
  let bs := runAt ((s.bay p).opOfs q.dst) (listBytes 2 (up256 (2 * span)) kept)
  if s.holdsStore p st bs then .error s else
  let (s, served) := s.storePort p st whoPromptOut q.ord bs
  if !served then .error s else
  let s := s.promptGreen p d (4096 * q.pred) (4096 * q.ntile)
  let s := s.numCount p sat 0 0
  let s := (s.put PRM_CTX_NEXTN (next + span) d l).put PRM_CTX_LASTCNT kept.length d l
  let s := s.bump PRM_DROP_CAP (sel.length - kept.length) d
  let s := ((s.tear p (if st = p then bs else [])).wingsStore p st bs).ringDone p q.dst (up256 (2 * span)) q.ord
  let unp := elig.filter fun n => !kept.contains n
  let c := s.ctx q.lbay
  if c.fop = 1 then
    let g := Tab.get 0 (s.bay p).lfsr 128
    let (samp, g) := if c.pol = 2 then (unp, g) else auditDraw c.audk unp g
    let aud := samp.take c.faud
    let s := (s.bump PRM_DROP_CAP (samp.length - aud.length) d).modBay p fun b => { b with lfsr := Tab.set 0 b.lfsr 128 g }
    let a : Audit := { cid := (s.bay p).cid, ord := c.ord, slots := (List.range aud.length).map (· + c.cap) }
    .ok ((s.setCtx q.lbay { c with audits := c.audits ++ [a], ord := c.ord + 1 }).handMove p d q c (c.slots kept aud))
  else .ok ((s.setCtx q.lbay { c with ord := c.ord + 1 }).handMove p d q c (c.slots kept []))

/-- SELECT with LIST_IN ends (R232): the listed columns move, entries at or above NOUT are counted. -/
def State.endListed (s : State) (p d : Nat) (q : PromptOp) (c : PCtx) : State :=
  let span := q.ntile / c.q * 64
  let l := q.lbay % 8
  let list := (q.list.filter (· != 0xFFFF)).take c.cap
  let s := (s.put PRM_CTX_NEXTN (s.get PRM_CTX_NEXTN d l + span) d l).put PRM_CTX_LASTCNT (q.list.filter (· != 0xFFFF)).length d l
  let s := s.ringDone p q.dst (up256 (2 * span)) q.ord
  let s := if c.fop = 0 then s else s.bump PRM_DROP_IDXOOB (list.filter fun j => decide (c.nout ≤ j)).length d
  (s.setCtx q.lbay { c with ord := c.ord + 1 }).handMove p d q c (c.slots list [])

/-- A SELECT's own end; the error is the state while its list cannot be stored yet (R146, R151, R137), or after its
fault (R148). -/
def State.promptFinish (s : State) (p d : Nat) (q : PromptOp) : Except State State :=
  if q.stg ≠ 2 then .ok s
  else
    let c := s.ctx q.lbay
    if c.listIn then .ok (s.endListed p d q c)
    else match (s.bay p).turn q.dst q.ord with
      | .stall => .error s
      | .closed => .error (s.promptFault p d q cREVOLVE_BAD)
      | .go => s.endSelect p d q c

/-- The head PROMPT of a die ends (R124). -/
def State.promptEnd (s : State) (d : Nat) : State :=
  let s := s.promptStart d
  match (s.die d).prompts with
  | [] => s
  | q :: rest =>
    let p := s.phys q.lbay
    if !q.started || s.shedHolds p || !(s.bay p).granted whoPrompt.2 q.ord || (q.stg == 2 && s.greenHeld p d) then s
    else match s.promptFinish p d q with
      | .error t => t.promptStart d
      | .ok t =>
        let t := ((t.modDie d fun x => { x with prompts := rest }).put PRM_STAT_BUSY 0 d).count (dieBlk d) 0x25 0 (2 + 128 * q.ntile)
        t.promptStart d

/-- A held column move enters its queue, and the prompter goes on (R231). -/
def State.acceptHeld (s : State) (e : Nat) (m : MoveOp) : State :=
  let d := (e - 72) / 4
  (((s.enterCol e m).modDie d fun x => { x with colMove := none }).put PRM_STAT_HOLD 0 d).promptStart d

/-- STREAM_ACCEPT (R118): the engine accepts the earliest MOVE presented to it, while its queue has room. A cue of the
sequencer issues here, which a shed holds (R320); a column move does not. -/
def execStreamAccept (eng : Nat) (s : State) : Out :=
  onUnit eng 104 s fun s =>
    if !s.clocked || decide (engineDepth eng ≤ (s.eng eng).q.length) then s
    else match (if s.shed then none else s.presented eng), s.heldMove eng with
      | some (p, r), some m => if m.id < r.seq then s.acceptHeld eng m else s.acceptMove eng p r
      | some (p, r), none => s.acceptMove eng p r
      | none, some m => s.acceptHeld eng m
      | none, none => s

/-- PROMPT_END (R124): the prompter is free for the next PROMPT; a SELECT writes its list and hands over
its column move. -/
def execPromptEnd (d : Nat) (s : State) : Out :=
  onUnit d 8 s fun s => if s.clocked then s.promptEnd d else s

end Sys2Proof.Machine
end

