-- ==== Sys2Proof/Machine/Start.lean ====
section
/-! DEFINITION. How a RUN command comes to run: seed points (R37 to R40), the catalogue (R303), the sheet
image and the loader's checks (R73 to R82), the staging regions (R141), the start and the resumption of a
lane (R75, R84, R88, R100 to R102). -/

namespace Sys2Proof.Machine

/-! ## Seed points (R37 to R40) -/

/-- The device number of R38: 0 when joined to no fabric (R39). -/
def State.deviceNo (s : State) : Nat := if s.flag FAB_TOPO_JOINED then s.get FAB_DEVNO_DEVICE else 0

/-- A bay's generators 0 to 127 and its audit generator 128 reload from a seed (R38, R233). -/
def State.reseedBay (s : State) (p : Nat) (seed : W64) : State :=
  s.modBay p fun b => { b with
    lfsr := (List.range 129).map fun i => (i, lfsrLoad seed i)
    reseed := none }

/-- A tollhouse's 64 generators reload. -/
def State.reseedPort (s : State) (p : Nat) (t : W64) : State :=
  let dev := s.deviceNo
  s.modPort p fun x => { x with lfsr := (List.range 64).map fun i => (i, lfsrSeed t dev (64 + p) i) }

/-- A seed point (R37, R38): every unit's seed is formed now; tollhouses and bays without a running sheet reload now,
the others at their next start. -/
def State.seedPoint (s : State) : State :=
  let now : W64 := BitVec.ofNat 64 s.clk.sys
  let s := (List.range 64).foldl (fun s lb =>
    let p := s.phys lb
    let t := if s.flag CUE_RNDCTL_FIXED p then BitVec.ofNat 64 (s.get CUE_RNDSEED_SEED p) else now
    let seed := unitSeed t s.deviceNo lb
    let s := { s with ro := { s.ro with seeds := Tab.set 0 s.ro.seeds lb seed } }
    if (s.bay p).cid.isNone then s.reseedBay p seed else s.modBay p fun b => { b with reseed := some seed }) s
  let s := (List.range 4).foldl (fun s p =>
    s.reseedPort p (if s.flag TLH_RNDCTL_FIXED p then BitVec.ofNat 64 (s.get TLH_RNDSEED_SEED p) else now)) s
  { s with ro := { s.ro with seedPending := false } }

/-! ## Sheets (R76 to R81, R303) -/

/-- The byte string's little-endian number of `n` bytes at `o`. -/
def numAt (bs : Bytes) (o n : Nat) : Nat := leVal ((bs.drop o).take n)

/-- The catalogue's image base and HDR_CRC of a sheet (R303), read for a command. -/
def State.catalogue (s : State) (who : Option Nat) (sheet : Nat) : State × Except Nat (Nat × Nat) :=
  match s.ro.image with
  | none => (s, .error cSHEET_BAD)
  | some im =>
    if im.catn ≤ sheet then (s, .error cSHEET_BAD)
    else
      let (s, bs, e) := s.devReadAll (im.catbase + 16 * sheet) 16
      let s := s.cmdEcc who e
      if bit (numAt bs 0 8) 63 then (s, .ok (fld (numAt bs 0 8) 47 0, fld (numAt bs 8 8) 31 0)) else (s, .error cSHEET_BAD)

/-- A length rounded up to 16 B. -/
def up16 (n : Nat) : Nat := 16 * ceilDiv n 16

/-- Bytes of a part's body (R77). -/
def PartRow.bodyLen (r : PartRow) : Nat := up16 (8 * r.nrange) + up16 (4 * r.nsem) + 16 * (r.lenm1 + 1)

/-- A row of the part table. -/
def partRow (w0 w1 : Nat) : PartRow :=
  { bay := fld w0 55 50, stage := fld w0 49 48, nrange := fld w0 47 43, nsem := fld w0 42 36
    base := fld w0 27 14, lenm1 := fld w0 13 0, ofs := fld w1 63 32, crc := fld w1 31 0 }

/-- LEVEL is accepted (R78). -/
def State.levelOk (s : State) (level : Nat) : Bool :=
  let own := s.get CUE_ID_LEVEL
  let major := level / 256
  (major == own / 256 && decide (level % 256 ≤ own % 256))
  || (decide (s.get CUE_ID_MINMAJOR ≤ major) && decide (major < own / 256))

/-- Checks 1 to 5 of R81 on the header and the part table. A row of more than 16 ranges or 64 semaphores, which R77 rules
out without naming a refusal, fails check 4 (log entry 81, DESIGN CHOICE). -/
def State.readPlan (s : State) (who : Option Nat) (sheet : Nat) (mask : W64) (image hdr : Nat) : State × Except Nat SheetPlan :=
  if image % 64 ≠ 0 then (s, .error cSHEET_BAD) else
  match s.unpermitted image 64 false with
  | some a => (s.winFault a false, .error cWINDOW)
  | none =>
    let (s, h, e) := s.devReadAll image 64
    let s := s.cmdEcc who e
    let w (i : Nat) := numAt h (8 * i) 8
    let n := fld (w 2) 39 32
    match (if n = 0 then none else s.unpermitted (image + 64) (16 * n) false) with
    | some a => (s.winFault a false, .error cWINDOW)
    | none =>
      let (s, t, e) := s.devReadAll (image + 64) (16 * n)
      let s := s.cmdEcc who e
      let crc := crc32c (h.take 24 ++ [0, 0, 0, 0] ++ h.drop 28 ++ t)
      let rows := (List.range n).map fun i => partRow (numAt t (16 * i) 8) (numAt t (16 * i + 8) 8)
      let rowRes := (List.range n).any fun i => fld (numAt t (16 * i) 8) 63 56 != 0 || fld (numAt t (16 * i) 8) 35 28 != 0
      let wordRes := fld (w 0) 15 12 != 0 || fld (w 2) 63 40 != 0 || ([4, 5, 6, 7].any fun i => w i != 0)
      let bays := rows.map fun r => r.bay
      let plan : SheetPlan := { image := image, level := fld (w 0) 31 16, token := BitVec.ofNat 64 (w 1), exitGap := fld (w 2) 31 0, hdrcrc := hdr, rows := rows }
      if fld (w 0) 63 32 ≠ 0x43554531 ∨ wordRes = true ∨ crc ≠ fld (w 3) 31 0 ∨ fld (w 3) 31 0 ≠ hdr then (s, .error cSHEET_BAD)
      else if !s.levelOk plan.level then (s, .error cCUE_LEVEL)
      else if fld (w 0) 11 0 ≠ sheet ∨ n = 0 ∨ 64 < n ∨ rowRes = true ∨ ¬ bays.Nodup
          ∨ (rows.any fun r => decide (16383 < r.base + r.lenm1) || decide (16 < r.nrange) || decide (64 < r.nsem)
              || decide (16 * fld (w 3) 63 32 < 16 * r.ofs + r.bodyLen)) = true then (s, .error cSHEET_BAD)
      else if (List.range 64).any fun lb => mask.getLsbD lb != bays.contains lb then (s, .error cLANE_MISMATCH)
      else (s, .ok plan)

/-- The resident-sheet entry of a bay that matches sheet and HDR_CRC (R80). -/
def State.residentEntry (s : State) (p sheet hdr : Nat) : Option Nat :=
  (List.range 32).find? fun e => s.flag CUE_RESTAB_LO_VALID p e && s.get CUE_RESTAB_LO_SHEET p e == sheet
    && s.get CUE_RESTAB_HI_HDRCRC p e == hdr

/-- What a start comes to: every part is resident, or the sheet's plan with its resident rows marked. -/
def State.sheetFor (s : State) (c : Cmd) : State × Except Nat (Nat × Option SheetPlan) :=
  match s.catalogue (some c.id) c.sheet with
  | (s, .error e) => (s, .error e)
  | (s, .ok (image, hdr)) =>
    let res (lb : Nat) := (s.residentEntry (s.phys lb) c.sheet hdr).isSome
    if (laneBays c.mask).all res then (s, .ok (hdr, none))
    else match s.readPlan (some c.id) c.sheet c.mask image hdr with
      | (s, .error e) => (s, .error e)
      | (s, .ok pl) => (s, .ok (hdr, some { pl with rows := pl.rows.map fun r => { r with resident := res r.bay } }))

/-! ## Staging regions (check 6 of R81, R141) -/

/-- The bay and STAGE of each part that uses a staging region. -/
def State.stageWants (s : State) (c : Cmd) : List (Nat × Nat) :=
  match (s.sheetFor c).2 with
  | .error _ => []
  | .ok (_, some pl) => (pl.rows.map fun r => (r.bay, r.stage)).filter fun x => x.2 != 0
  | .ok (hdr, none) => ((laneBays c.mask).map fun lb =>
      let p := s.phys lb
      (lb, ((s.residentEntry p c.sheet hdr).elim 0 fun e => (Tab.get {} (s.bay p).resParts e).stage))).filter fun x => x.2 != 0

/-- The request that wins a die's free region: the highest use, then the lowest logical bay (R141). -/
def stageWinner (d : Nat) (rs : List (Nat × Nat × Nat)) : Option (Nat × Nat × Nat) :=
  (rs.filter fun r => r.2.1 / 8 == d).foldl (fun a r => match a with
    | none => some r
    | some x => if r.2.2 < x.2.2 ∨ (r.2.2 = x.2.2 ∧ r.2.1 < x.2.1) then some r else some x) none

/-- The lane of a command is free for it: every bay is idle or parked under no command, not being checked
and not covered by a curtain (R84, R151, R317, R350). -/
def State.laneFree (s : State) (c : Cmd) : Bool :=
  (laneBays c.mask).all fun lb =>
    let p := s.phys lb
    (s.bay p).cid.isNone && !(s.bay p).check && !s.covers p && (s.get CUE_SEQSTAT_STATE p == 1 || s.get CUE_SEQSTAT_STATE p == 6)

/-- Check 6 for every command of one slot that is about to load, together (R141): the regions granted, and
each command's verdict; a command that lost a request gives its grants back. -/
def State.grantStaging (s : State) (c : Cmd) : State :=
  if c.staged.isSome then s else
  let cs := s.ro.cmds.filter fun x => x.phase == .starting && x.op == 1 && !x.resume && x.staged.isNone
    && x.born == c.born && s.laneFree x
  let rs := cs.flatMap fun x => (s.stageWants x).map fun w => (x.id, w)
  let wins := (List.range 8).filterMap fun d => if s.flag GRM_STAGE_HELD d then none else stageWinner d rs
  let ok (x : Cmd) := (rs.filter fun r => r.1 == x.id).all fun r => wins.contains r
  let s := wins.foldl (fun s r =>
    if (cs.any fun x => x.id == r.1 && ok x) then
      let d := r.2.1 / 8
      let s := ((s.put GRM_STAGE_HELD 1 d).put GRM_STAGE_USE r.2.2 d).put GRM_STAGE_BAY r.2.1 d
      let s := s.put GRM_STAGE_SHEET ((s.cmd r.1).elim 0 fun x => x.sheet) d
      s.modDie d fun x => { x with stageCid := some r.1 }
    else s) s
  cs.foldl (fun s x => s.modCmd x.id fun y => { y with staged := some (ok x) }) s

/-! ## Starting and resuming a bay -/

/-- A sheet start meets a KEPT held set: another token zeroes and releases it (R102). -/
def State.applyKept (s : State) (p : Nat) (token : W64) : State :=
  if !s.flag CUE_RESSTAT_KEPT p then s
  else
    let s := s.put CUE_RESSTAT_KEPT 0 p
    if BitVec.ofNat 64 (s.get CUE_TOKEN_TOKEN p) = token then s
    else
      let s := s.modBay p fun b => { b with
        wings := b.held.foldl (fun (m : Memory) r => m.zero (256 * r.1) (256 * r.2)) b.wings
        wingsErr := b.wingsErr.filter fun e => !(b.held.any fun r => decide (256 * r.1 ≤ 2 * e.1) && decide (2 * e.1 < 256 * (r.1 + r.2)))
        held := [] }
      (s.put CUE_RESSTAT_HELD 0 p).put CUE_TOKEN_TOKEN 0 p

/-- A sheet that declares RESIDENT ranges makes them the bay's held set (R101). -/
def State.applyHeld (s : State) (p : Nat) (part : ResPart) : State :=
  let rs := (part.ranges.filter fun r => r.resident).map fun r => (r.ofs, r.len)
  if rs.isEmpty then s
  else ((s.modBay p fun b => { b with held := rs }).put CUE_RESSTAT_HELD 1 p).put CUE_TOKEN_TOKEN part.token.toNat p

/-- A pending reload of the bay's generators takes place (R37). -/
def State.applySeed (s : State) (p : Nat) : State :=
  match (s.bay p).reseed with
  | some seed => s.reseedBay p seed
  | none => s

/-- What a bay forgets when a sheet starts or resumes on it. -/
def Bay.forStart (b : Bay) (id e : Nat) (hdr ca : Nat) : Bay :=
  { b.closeRings with
    cid := some id, entry := some e, part := Tab.get {} b.resParts e, sheetCrc := hdr, startCa := ca
    stall := none, wait := none, waited := [], halted := false, stopReq := .none, stop := .none, saving := false
    present := none
    resOrder := (b.resOrder.filter fun x => x != e) ++ [e], samples := []
    credits := [] }

/-- A bay issues its part's first cue next (R75, R77, R82, R88, R97, R101, R102, R106). -/
def State.startBay (s : State) (lb : Nat) (c : Cmd) : State :=
  let p := s.phys lb
  match s.residentEntry p c.sheet c.hdrcrc with
  | none => s
  | some e =>
    let part := Tab.get {} (s.bay p).resParts e
    let s := ((((s.clearAll .CUE_AGBASE p).clearAll .CUE_AGDIM p).clearAll .CUE_SEM p).clearAll .CUE_LOOP p)
    let s := part.sems.foldl (fun s x => s.put CUE_SEM_VALUE x.2 p x.1) s
    let s := ((s.clear .CUE_FAULT p).clear .CUE_LIVEMASK p).clear .CUE_SEQSTAT p
    let s := ((s.applyKept p part.token).applyHeld p part).applySeed p
    let s := s.modBay p fun b => b.forStart c.id e c.hdrcrc s.clk.ca
    let s := s.modDie (lb / 8) fun d => { d with ctx := Tab.mod {} d.ctx (lb % 8) fun x => { x with ord := 0 } }
    (s.put CUE_SEQSTAT_PC (s.get CUE_RESTAB_LO_BASE p e) p).put CUE_SEQSTAT_STATE 3 p

/-- The wings ranges of a live set: ranges i of the part's table with mask bit i (R97). -/
def liveRanges (ranges : List PRange) (mask : Nat) : List PRange :=
  (ranges.zipIdx.filter fun x => mask.testBit x.2).map fun x => x.1

/-- Bytes of a live set. -/
def liveLen (rs : List PRange) : Nat := (rs.map fun r => 256 * r.len).sum

/-- The frame period in ns. -/
def ROImage.period (im : ROImage) : Nat := im.tf * 1000

/-- When the loaded image takes effect on the time line as it stands (R300, R304): at the next frame start of the running
order in force that is no barred boundary, else at the first of its own frame starts 20 µs after it passed. -/
def State.setNextAt (s : State) : State :=
  match s.ro.next with
  | none => s
  | some im =>
    let at_ := match s.flag RUN_STAT_ACTIVE, s.ro.image with
      | true, some old => ceilDiv (max (s.clk.sys + 1) s.ro.noneBefore) old.period * old.period
      | _, _ => ceilDiv (s.clk.sys + (s.ro.nextEl - s.clk.el)) im.period * im.period
    { s with ro := { s.ro with nextAt := at_ } }

/-- Where bay lb's stash lies (R298). -/
def State.stashAddr (s : State) (lb : Nat) : Nat := (s.ro.image.elim 0 fun i => i.stashbase + lb * (i.stashsz * 4096))
/-- Bytes of a stash. -/
def State.stashSize (s : State) : Nat := s.ro.image.elim 0 fun i => i.stashsz * 4096

/-- Copies live ranges back from device memory, range after range. -/
def State.restoreRanges (s : State) (p : Nat) : Nat → List PRange → State
  | _, [] => s
  | a, r :: rs =>
    let (s, bs, e) := s.devReadAll a (256 * r.len)
    let s := s.bayEcc p e
    (s.wingsWrite p (runAt (256 * r.ofs) bs)).restoreRanges p (a + 256 * r.len) rs

/-- A stash that no bay has saved. -/
def Stash.none_ : Stash := { sheet := 0, hdrcrc := 0, pc := 0, ldepth := 0, loops := [], bodies := [], agbase := [], agdim := [], sems := [], live := 0, rings := [] }

/-- A parked bay resumes from its stash (R100); every resumption reloads its rounding generators from the seed of the
last seed point (R37). KEPT and CUE_FAULT stay as they are: R100 counts a resumption as a sheet start for the
generators only (log entry 79, DESIGN CHOICE). -/
def State.resumeBay (s : State) (lb : Nat) (c : Cmd) : State :=
  let p := s.phys lb
  match s.residentEntry p c.sheet c.hdrcrc with
  | none => s
  | some e =>
    let st := Tab.get Stash.none_ s.stashes lb
    let part := Tab.get {} (s.bay p).resParts e
    let s := s.reseedBay p (Tab.get 0 s.ro.seeds lb)
    let s := s.modBay p fun b =>
      let b := b.forStart c.id e c.hdrcrc s.clk.ca
      { b with
        rings := st.rings
        loopBody := (st.bodies.zipIdx.filter fun x => x.1 != 0).map fun x => (x.2, x.1) }
    let s := st.agbase.zipIdx.foldl (fun (s : State) x => s.setRaw ⟨.CUE_AGBASE, p, x.2⟩ (BitVec.ofNat 64 x.1)) s
    let s := st.agdim.zipIdx.foldl (fun (s : State) x => s.setRaw ⟨.CUE_AGDIM, p, x.2⟩ (BitVec.ofNat 64 x.1)) s
    let s := st.sems.zipIdx.foldl (fun (s : State) x => s.put CUE_SEM_VALUE x.1 p x.2) s
    let s := st.loops.zipIdx.foldl (fun (s : State) x => s.put CUE_LOOP_REMAIN x.1 p x.2) s
    let s := s.restoreRanges p (s.stashAddr lb + 1024) (liveRanges part.ranges st.live)
    let s := s.modDie (lb / 8) fun d => { d with ctx := Tab.mod {} d.ctx (lb % 8) fun x => { x with ord := st.ord } }
    let s := ((s.put CUE_LIVEMASK_MASK st.live p).put CUE_SEQSTAT_LDEPTH st.ldepth p).put CUE_SEQSTAT_PC st.pc p
    { s.put CUE_SEQSTAT_STATE 3 p with stashes := Tab.erase s.stashes lb }

/-- The lines of wings ranges, as stores or reads. -/
def rangeLines (rs : List PRange) (store : Bool) : List (Nat × Nat × Bool) :=
  rs.flatMap fun r => (List.range r.len).map fun i => (r.ofs + i, 0, store)

/-- The live ranges of a resuming lane are written through the bays' crossbars at the lowest priority (R137). -/
def State.restorePort (s : State) (c : Cmd) : State × Bool :=
  if !c.resume then (s, true) else
  (laneBays c.mask).foldl (fun (x : State × Bool) lb =>
    let s := x.1
    let p := s.phys lb
    let part := (s.residentEntry p c.sheet c.hdrcrc).elim {} fun e => Tab.get {} (s.bay p).resParts e
    let (s, ok) := s.wingsPort p whoLive c.id (rangeLines (liveRanges part.ranges (Tab.get Stash.none_ s.stashes lb).live) true)
    (s, x.2 && ok)) (s, true)

/-- Every bay of the lane issues its first or next cue (R75, R100); a resumption waits until its restores are served. -/
def State.laneGo (s : State) (id : Nat) : State :=
  match s.cmd id with
  | none => s
  | some c =>
    match s.restorePort c with
    | (s, false) => s.modCmd id fun x => { x with phase := .loading, plan := some { image := 0, level := 0, token := 0, exitGap := 0, hdrcrc := c.hdrcrc, rows := [] } }
    | (s, true) =>
    let s := if s.ro.seedPending then s.seedPoint else s
    let s := (laneBays c.mask).foldl (fun s lb => if c.resume then s.resumeBay lb c else s.startBay lb c) s
    let s := if c.resume then s else s.commandRecord c false cOK
    s.modCmd id fun x => { x with phase := .running, plan := none }

/-! ## RUN_COMMAND and SHEET_LOAD_DONE -/

/-- A command completes with an F code before any part runs. -/
def State.refuseCmd (s : State) (id code : Nat) : State := (s.modCmd id fun c => c.setF code).endCmd id

/-- The stash of each bay matches the sheet (R100). -/
def State.stashesMatch (s : State) (c : Cmd) (hdr : Nat) : Bool :=
  (laneBays c.mask).all fun lb => (s.stashes.any fun x => x.1 == lb && x.2.valid && x.2.sheet == c.sheet && x.2.hdrcrc == hdr)

/-- The bays of a lane are taken by a command; those that load show LOAD, and a parked one stays in PARK until the common
resume cycle (R82, R84, R100). -/
def State.takeLane (s : State) (id : Nat) (c : Cmd) (loads : Nat → Bool) : State :=
  (laneBays c.mask).foldl (fun s lb =>
    let p := s.phys lb
    let s := (s.put CUE_SHEETNO_SHEET c.sheet p).put CUE_SHEETNO_ACTIVE 1 p
    let s := s.modBay p fun b => { b.walkOff with cid := some id }
    if c.resume = true ∧ s.get CUE_SEQSTAT_STATE p = 6 then s else s.put CUE_SEQSTAT_STATE (if loads lb then 2 else 1) p) s

/-- The start, restart or resumption of a command is noted once (R311, R313): STATE RUNNING, and START at the first
start of command 0. But for RUN, whose first cycle is the lane's common start (R75), its COMMAND record (R377) and
the seed point that waits for it (R37) come here too. -/
def State.noteStart (s : State) (id : Nat) : State :=
  match s.cmd id with
  | none => s
  | some c =>
    if c.noted then s
    else
      let s := s.modCmd id fun x => { x with noted := true, start := s.clk.el }
      let s := match c.src with
        | .board e i => s.modBoard e fun b =>
            let b := b.setState stRUNNING
            if i = 0 ∧ b.latched = false then { b.setWord 29 s.clk.odo with latched := true } else b
        | _ => s
      if c.op = 1 then s
      else
        let s := s.commandRecord c false cOK
        if s.ro.seedPending then s.seedPoint else s

/-- A RUN command starts, unless a shed holds every start (R319): its sheet's parts run at once when all are resident, else they load (R80 to R82, R303). -/
def State.runStart (s : State) (id : Nat) : State :=
  match s.cmd id with
  | none => s
  | some c =>
    if c.phase ≠ .starting ∨ c.op ≠ 1 ∨ s.laneFree c = false ∨ s.mayStart = false then s
    else match (s.noteStart id).sheetFor c with
      | (s, .error e) => s.refuseCmd id e
      | (s, .ok (hdr, pl)) =>
        if c.resume = true ∧ s.stashesMatch c hdr = false then s.refuseCmd id cSHEET_BAD
        else
          let s := if c.resume then s else s.grantStaging c
          if c.resume = false ∧ (s.cmd id).any (fun x => x.staged == some false) then s.refuseCmd id cRESOURCE_HELD
          else
            let s := s.modCmd id fun x => { x with hdrcrc := hdr, plan := pl, phase := .loading }
            match pl with
            | none => (s.takeLane id c fun _ => false).laneGo id
            | some pl => s.takeLane id c fun lb => pl.rows.any fun r => r.bay == lb && !r.resident

/-- RUN_COMMAND (R309): the command starts its sheet once its bays are free. -/
def execRunCommand (cid : Nat) (s : State) : Out := .next (if s.clocked then s.runStart cid else s)

/-- The tables and cues of a part's body (R77): range entries, semaphore entries, padding, cues as (word 0, word 1). -/
def bodyParts (r : PartRow) (bs : Bytes) : List Nat × List Nat × Bool × List (Nat × Nat) :=
  let o1 := up16 (8 * r.nrange)
  let o2 := o1 + up16 (4 * r.nsem)
  let pad := (((bs.take o1).drop (8 * r.nrange)) ++ ((bs.take o2).drop (o1 + 4 * r.nsem))).all fun b => b == 0
  ((List.range r.nrange).map fun i => numAt bs (8 * i) 8, (List.range r.nsem).map fun i => numAt bs (o1 + 4 * i) 4, pad,
    (List.range (r.lenm1 + 1)).map fun i => (numAt bs (o2 + 16 * i) 8, numAt bs (o2 + 16 * i + 8) 8))

/-- The cues of a part: of its body, or of cue memory when it is resident. -/
def State.partCues (s : State) (pl : SheetPlan) (sheet : Nat) (r : PartRow) : List (Nat × Nat) :=
  if r.resident then
    let p := s.phys r.bay
    match s.residentEntry p sheet pl.hdrcrc with
    | some e => (List.range (s.get CUE_RESTAB_LO_LENM1 p e + 1)).map fun i =>
        let (w1, w0) := (s.bay p).cueWords (s.get CUE_RESTAB_LO_BASE p e + i)
        (w0, w1)
    | none => []
  else (bodyParts r (s.devBytes (pl.image + 16 * r.ofs) r.bodyLen)).2.2.2

/-- Every OPEN of a sheet's parts, with the bay of its part (R119). -/
def State.sheetOpens (s : State) (pl : SheetPlan) (sheet : Nat) : List (Nat × Cue) :=
  pl.rows.flatMap fun r => (s.partCues pl sheet r).filterMap fun (w0, w1) =>
    match cueDecode w1 w0 with
    | some (.ring 0 rv role peer prv n z b) => some (r.bay, .ring 0 rv role peer prv n z b)
    | _ => none

/-- Checks 7 to 11 of a body that has arrived (R81): its first refusal in the order of R81, or OK. -/
def bodyRefusal (c : PartCtx) (r : PartRow) (token : Nat) (bs : Bytes) : Nat :=
  let (rs, ss, pad, cues) := bodyParts r bs
  if crc32c bs ≠ r.crc then cSHEET_BAD
  else if !pad || !rangesOk token rs || !semsOk ss then cSHEET_BAD
  else cuesRefusal c [] cues

/-- The entries of a bay whose cues the new part overlaps become invalid (R80). -/
def State.dropOverlaps (s : State) (p base lenm1 : Nat) : State :=
  (List.range 32).foldl (fun s e =>
    if s.flag CUE_RESTAB_LO_VALID p e && decide (s.get CUE_RESTAB_LO_BASE p e ≤ base + lenm1)
        && decide (base ≤ s.get CUE_RESTAB_LO_BASE p e + s.get CUE_RESTAB_LO_LENM1 p e)
    then (s.put CUE_RESTAB_LO_VALID 0 p e).modBay p fun b => { b with resOrder := b.resOrder.filter fun x => x != e, resParts := Tab.erase b.resParts e }
    else s) s

/-- The entry a load takes: a free one, else that of the part started least recently (R80). -/
def State.freeEntry (s : State) (p : Nat) : Nat :=
  match (List.range 32).find? fun e => !s.flag CUE_RESTAB_LO_VALID p e with
  | some e => e
  | none => (s.bay p).resOrder.headD 0

/-- A part's cues enter cue memory (R79, R82). -/
def State.writeCues (s : State) (p base : Nat) (cues : List (Nat × Nat)) : State :=
  s.modBay p fun b => { b with cueMem := cues.zipIdx.foldl (fun (t : Tab W64) x =>
    Tab.set 0 (Tab.set 0 t (2 * (base + x.2)) (BitVec.ofNat 64 x.1.1)) (2 * (base + x.2) + 1) (BitVec.ofNat 64 x.1.2)) b.cueMem }

/-- One body is read and checked: the state with its cues in cue memory, and its refusal. -/
def State.loadBody (s : State) (c : Cmd) (pl : SheetPlan) (opens : List (Nat × Cue)) (r : PartRow) : State × Nat :=
  let a := pl.image + 16 * r.ofs
  match s.unpermitted a r.bodyLen false with
  | some x => (s.winFault x false, cWINDOW)
  | none =>
    let p := s.phys r.bay
    let (s, bs, e) := s.devReadAll a r.bodyLen
    let s := s.cmdEcc (some c.id) e
    let s := (s.dropOverlaps p r.base r.lenm1).writeCues p r.base (bodyParts r bs).2.2.2
    let ctx : PartCtx := { bay := r.bay, lane := c.mask.toNat, stage := r.stage, ranges := (bodyParts r bs).1.map rangeOf, opens := opens }
    (s, bodyRefusal ctx r pl.token.toNat bs)

/-- A checked part becomes resident (R80). -/
def State.enterPart (s : State) (c : Cmd) (pl : SheetPlan) (r : PartRow) : State :=
  let p := s.phys r.bay
  let e := s.freeEntry p
  let (rs, ss, _, _) := bodyParts r (s.devBytes (pl.image + 16 * r.ofs) r.bodyLen)
  let part : ResPart := { ranges := rs.map rangeOf, sems := ss.map fun v => (fld v 5 0, fld v 31 16), stage := r.stage, token := pl.token, exitGap := pl.exitGap }
  let s := (((s.put CUE_RESTAB_LO_VALID 1 p e).put CUE_RESTAB_LO_SHEET c.sheet p e).put CUE_RESTAB_LO_BASE r.base p e).put CUE_RESTAB_LO_LENM1 r.lenm1 p e
  (s.put CUE_RESTAB_HI_HDRCRC pl.hdrcrc p e).modBay p fun b => { b with
    resParts := Tab.set {} b.resParts e part
    resOrder := (b.resOrder.filter fun x => x != e) ++ [e] }

/-- The refusal of the part with the lowest logical bay (R81). -/
def firstRefusal (xs : List (Nat × Nat)) : Option Nat :=
  ((xs.filter fun x => x.2 != cOK).foldl (fun (a : Option (Nat × Nat)) x => match a with
    | none => some x
    | some y => if x.1 < y.1 then some x else some y) none).map fun x => x.2

/-- Every body of a loading sheet has arrived (R81, R82). -/
def State.loadDone (s : State) (id : Nat) : State :=
  match s.cmd id with
  | none => s
  | some c => match c.plan, decide (c.phase = .loading) with
    | some pl, true =>
      let rows := pl.rows.filter fun r => !r.resident
      let opens := s.sheetOpens pl c.sheet
      let (s, codes) := rows.foldl (fun (x : State × List (Nat × Nat)) r =>
        let (t, k) := x.1.loadBody c pl opens r
        (t, x.2 ++ [(r.bay, k)])) (s, [])
      match firstRefusal codes with
      | some k => s.refuseCmd id k
      | none => (rows.foldl (fun s r => s.enterPart c pl r) s).laneGo id
    | _, _ => s

/-- SHEET_LOAD_DONE (R82): the parts have arrived and been checked; the lane starts together, or is refused. -/
def execSheetLoadDone (cid : Nat) (s : State) : Out := .next (if s.clocked then s.loadDone cid else s)

end Sys2Proof.Machine
end

