-- ==== Sys2Proof/Machine/Events.lean ====
section
/-! DEFINITION. What a sequencer meets while its cues run: acceptance of waiting cues, satisfied WAITs,
POST deliveries, credits, overruns, HALT's retirement, stops and saves (R75, R85, R91 to R99, R121, R147,
R315), and MARK with its photocalls (R123, R371, R381 to R385). -/

namespace Sys2Proof.Machine

/-! ## Waiting cues (R85) -/

/-- A bay whose waiting cue may be tried again: it runs, nothing stops it and no shed gates issue. -/
def State.mayRetry (s : State) (p : Nat) : Bool :=
  s.get CUE_SEQSTAT_STATE p == 3 && !(s.bay p).saving && !s.shed

/-- The action of a cue that can wait in an issue stall. -/
def retryCue (s : State) (p : Nat) (q : Cue) : Option State :=
  match q with
  | .loadw .. => loadwCue s p q
  | .feed .. => feedCue s p q
  | .drain .. => drainCue s p q
  | .walk .. => walkCue s p q
  | .prompt stg .. => promptCue stg s p q
  | .matcher mode .. => matchCue mode s p q
  | .ring rop rv .. =>
    let r := (s.bay p).ring rv
    let act (consumer : Bool) := match ringWait consumer s p rv r with
      | .ok t => some t
      | .error c => some (s.fault p c (s.get CUE_SEQSTAT_PC p))
    if rop = 2 then act false else if rop = 4 then act true else none
  | _ => none

/-- The cue in issue stall is accepted when its target now has room (R85); otherwise it keeps waiting. -/
def State.retry (s : State) (p : Nat) : State :=
  if (s.bay p).stall.isNone || (s.bay p).present.isSome || !s.mayRetry p then s
  else match s.cueAt p with
    | none => s
    | some q => match retryCue (s.modBay p fun b => { b with stall := none }) p q with
      | some t => if (t.bay p).stall.isSome then s else t
      | none => s

/-- CUE_ACCEPT (R85). -/
def execCueAccept (lb : Nat) (s : State) : Out := onBay lb s fun p => s.retry p

/-- A waiting WAIT is satisfied: its semaphore loses N and it retires (R91). -/
def State.waitDone (s : State) (p : Nat) : State :=
  if s.get CUE_SEQSTAT_STATE p ≠ 4 ∨ s.shed = true then s
  else match s.cueAt p with
    | some (.wait sem n) =>
      let v := s.get CUE_SEM_VALUE p sem
      if n ≤ v then ((s.put CUE_SEM_VALUE (v - n) p sem).put CUE_SEQSTAT_STATE 3 p).retireCue p else s
    | _ => s

/-- WAIT_SATISFIED (R91). -/
def execWaitSatisfied (lb : Nat) (s : State) : Out := onBay lb s fun p => s.waitDone p

/-- The POST's fence is met (R93). -/
def Bay.fenceMet (b : Bay) (m : PostMsg) : Bool :=
  (m.drains.all fun o => !(b.dq.any fun d => d.ord == o) && !(b.drows.any fun r => r.ord == o))
  && m.moves.all fun i => !b.moves.contains i

/-- The first POST of the bay that may be delivered: its fence is met and no earlier one goes to the same
semaphore (R92, R93). -/
def Bay.duePost (b : Bay) : List PostMsg → List PostMsg → Option PostMsg
  | _, [] => none
  | before, m :: rest =>
    if b.fenceMet m && !(before.any fun x => x.bay == m.bay && x.sem == m.sem) then some m
    else b.duePost (before ++ [m]) rest

/-- POST_DELIVERY (R93): one POST of the bay reaches its semaphore. -/
def execPostDelivery (lb : Nat) (s : State) : Out :=
  onBay lb s fun p =>
    match (s.bay p).duePost [] (s.bay p).posts with
    | none => s
    | some m =>
      (s.modBay p fun b => { b with posts := b.posts.erase m }).semAdd (s.phys m.bay) m.sem m.n p m.pc

/-- The command of a bay, settled after the bay came to rest. -/
def State.settleBay (s : State) (p : Nat) : State :=
  match (s.bay p).cid with
  | some id => s.settleLane id
  | none => s

/-- A credit that reaches a bay in PARK is part of the saved heads and tails (R148). -/
def State.stashRings (s : State) (lb p : Nat) : State :=
  { s with stashes := s.stashes.map fun x => if x.1 = lb then (lb, { x.2 with rings := (s.bay p).rings }) else x }

/-- REVOLVE_CREDIT (R147): the oldest credit on its way to the bay arrives; at a closed end, or one that
does not count it, it is discarded (R148); a waiting ACQ or TAKE may retire (R146). -/
def execRevolveCredit (lb : Nat) (s : State) : Out :=
  onBay lb s fun p =>
    match (s.bay p).credits with
    | [] => s
    | (rv, full) :: rest =>
      let r := (s.bay p).ring rv
      let t := s.modBay p fun b =>
        let b := { b with credits := rest }
        if r.opened && r.consumer == full then b.setRing rv { r with count := r.count + 1 } else b
      if s.get CUE_SEQSTAT_STATE p = 6 then (t.stashRings lb p).settleBay p
      else if (t.bay p).stall = some 3 then t.retry p else t.kick p

/-! ## Overruns (R94, R121, R315) -/

/-- An operand's read or store waits for its slot: its turn has come and the slot is not there. -/
def Bay.slotWait (b : Bay) (op : Opnd) (ord : Nat) : Bool :=
  match op with
  | .wings _ => false
  | .ring rv _ _ _ => let r := b.ring rv; r.opened && r.waiting.head? == some ord && r.count == 0

/-- The bay waits on a semaphore or on a revolve (R94, R121). -/
def State.waits (s : State) (p : Nat) : Bool :=
  let b := s.bay p
  s.get CUE_SEQSTAT_STATE p == 4 || b.stall == some 3
  || ([0, 1, 2].any fun a => match (b.arr a).fq with | .feed f :: _ => b.slotWait f.src f.ord | _ => false)
  || ([0, 1, 2].any fun a => match (b.arr a).lq with | l :: _ => b.slotWait l.src l.ord | [] => false)
  || (match b.drows with | r :: _ => b.slotWait r.dst r.ord | [] => false)
  || (s.engines.any fun e => match e.2.q with
      | m :: _ => m.phys == p && (match m.ring with | some op => b.slotWait op m.ord | none => false)
      | [] => false)

/-- SCHED_OVERRUN on a bay, a pending LIVE stop or not (R315): under HOLD_LANE the status carries it once, under ABORT_COMMAND the lane
stops and the command ends with it. -/
def State.overrun (s : State) (p : Nat) : State :=
  match (s.bay p).cid with
  | none => s
  | some id => match s.cmd id with
    | none => s
    | some c =>
      if !s.waits p || (c.phase != .running && c.phase != .stopping) then s
      else
        let s := s.bump RUN_OVERRUN_COUNT
        if c.ovr = 0 then s.modCmd id fun x => x.addS cSCHED_OVERRUN
        else
          let s := s.modCmd id fun x => { x.setF cSCHED_OVERRUN with phase := .aborting, liveStop := false, curtAfter := x.curt }
          (s.stopLane c.mask .pointers).settleLane id

/-- SCHED_OVERRUN (R94): one WAIT or revolve stall has outlasted the slot's slack. -/
def execSchedOverrun (lb : Nat) (s : State) : Out := onBay lb s fun p => s.overrun p

/-! ## HALT (R75, R85) -/

/-- HALT retires, the PC staying at it, for no cue follows (log entry 5); with the lane's last the command ends (R75). -/
def State.haltDone (s : State) (p : Nat) : State :=
  let b := s.bay p
  if !b.halted || !s.quiet p || s.get CUE_SEQSTAT_STATE p != 3 || b.stop == .pointers then s
  else
    let s := ((s.modBay p fun b => { b with halted := false }).retireTo p (s.get CUE_SEQSTAT_PC p)).put CUE_SEQSTAT_STATE 7 p
    match b.cid with
    | none => s
    | some id => match s.cmd id with
      | none => s
      | some c =>
        if (laneBays c.mask).all fun lb => s.get CUE_SEQSTAT_STATE (s.phys lb) == 7 then
          s.endCmd id
        else s.settleLane id

/-- HALT_RETIRE (R75). -/
def execHaltRetire (lb : Nat) (s : State) : Out := onBay lb s fun p => s.haltDone p

/-! ## Stops (R96 to R99, R317) -/

/-- The LIVE stop of a lane falls back to POINTERS (R99): each bay counts it, the command reports EXIT_LATE. -/
def State.fallBack (s : State) (id : Nat) : State :=
  match s.cmd id with
  | none => s
  | some c =>
    let s := s.modCmd id fun x => { x.addS cEXIT_LATE with liveStop := false }
    let s := (laneBays c.mask).foldl (fun s lb => s.bump CUE_STOPCNT_EXITLATE 1 (s.phys lb)) s
    s.stopLane c.mask .pointers

/-- EXIT_LATE (R99): the LIVE stop has not taken effect on every bay within EXIT_GAP. -/
def execExitLate (cid : Nat) (s : State) : Out :=
  .next (match s.cmd cid with
    | some c =>
      if s.clocked && c.phase == .stopping && c.liveStop
          && !(laneBays c.mask).all (fun lb => s.get CUE_SEQSTAT_STATE (s.phys lb) == 6)
      then s.fallBack cid else s
    | none => s)

/-- A POINTERS stop reaches a bay (R96): STOP, its units stop; a bay in PARK discards its stash and is idle, with every
revolve of its part closed (R148), once a save that was under way has let go of its units; one that is done or
faulted has nothing to stop. -/
def State.pointersStop (s : State) (p : Nat) : State :=
  let st := s.get CUE_SEQSTAT_STATE p
  let s := s.modBay p fun b => { b with stopReq := .none }
  if st = 3 ∨ st = 4 then
    ((s.haltUnits p).put CUE_SEQSTAT_STATE 5 p).modBay p fun b => { b with stop := .pointers, saving := false }
  else if st = 6 then
    let t := match s.logical p with | some lb => { s with stashes := Tab.erase s.stashes lb } | none => s
    if (s.bay p).saving then (t.haltUnits p).modBay p fun b => { b with saving := false, stop := .pointers }
    else ((t.put CUE_SEQSTAT_STATE 1 p).modBay p fun b => { b.closeRings with stop := .pointers, credits := [] }).settleBay p
  else if st = 2 then ((s.put CUE_SEQSTAT_STATE 1 p).modBay p fun b => { b with stop := .pointers }).settleBay p
  else s.settleBay p

/-- A LIVE stop reaches a bay (R98): at an unsatisfied WAIT it takes effect at once, else at the next EXIT or WAIT. -/
def State.liveStop (s : State) (p : Nat) : State :=
  let s := s.modBay p fun b => { b with stopReq := .none, stop := .live }
  if s.get CUE_SEQSTAT_STATE p = 4 then
    match s.cueAt p with
    | some (.wait sem n) => if n ≤ s.get CUE_SEM_VALUE p sem then s else s.liveEffect p
    | _ => s
  else s

/-- STOP_RECEIVE (R96): the stop sent to the bay reaches it. -/
def execStopReceive (lb : Nat) (s : State) : Out :=
  onBay lb s fun p =>
    match (s.bay p).stopReq with
    | .none => s
    | .pointers => s.pointersStop p
    | .live => s.liveStop p

/-- The first drained row that goes to a revolve has its slot: it is to be stored before the revolve closes (R96). -/
def Bay.rowDue (b : Bay) : Bool :=
  (b.drows.find? fun r => match r.dst with | .wings _ => false | .ring _ _ _ _ => true).any fun r => b.turn r.dst r.ord == .go

/-- A stopped bay's units have ended: no executing PROMPT, MATCH or WALK of it is left, and no drained row that can be
stored through a revolve (R96, R148). -/
def State.unitsReleased (s : State) (p : Nat) : Bool :=
  let b := s.bay p
  b.matchQ.isEmpty && !b.rowDue && ([0, 1, 2].all fun a => (b.arr a).fq.isEmpty)
  && (s.die (p / 9)).prompts.all fun q => some q.lbay != s.logical p

/-- BAY_STOP_DONE (R96): the bay's units are released and it is idle; its revolves close (R148). -/
def execBayStopDone (lb : Nat) (s : State) : Out :=
  onBay lb s fun p =>
    if (s.get CUE_SEQSTAT_STATE p ≠ 5 ∧ ¬ (s.get CUE_SEQSTAT_STATE p = 6 ∧ (s.bay p).stop = .pointers)) ∨ s.unitsReleased p = false then s
    else
      let s := s.put CUE_SEQSTAT_STATE 1 p
      let s := s.modBay p fun b => { b.closeRings with credits := [] }
      s.settleBay p

/-! ## The LIVE save (R98, R317) -/

/-- The state record of a bay (R98). -/
def State.stashOf (s : State) (p : Nat) : Stash :=
  let b := s.bay p
  { valid := true, sheet := s.get CUE_SHEETNO_SHEET p, hdrcrc := b.sheetCrc
    pc := s.get CUE_SEQSTAT_PC p, ldepth := s.get CUE_SEQSTAT_LDEPTH p
    loops := (List.range 4).map fun k => s.get CUE_LOOP_REMAIN p k
    bodies := (List.range 4).map fun k => Tab.get 0 b.loopBody k
    agbase := (List.range 8).map fun g => (s.raw ⟨.CUE_AGBASE, p, g⟩).toNat
    agdim := (List.range 40).map fun i => (s.raw ⟨.CUE_AGDIM, p, i⟩).toNat
    sems := (List.range 64).map fun i => s.get CUE_SEM_VALUE p i
    live := s.get CUE_LIVEMASK_MASK p, rings := b.rings, ord := (s.logical p).elim 0 fun lb => (s.ctx lb).ord }

/-- The live ranges are written to the stash, range after range. -/
def State.saveRanges (s : State) (p : Nat) : Nat → List PRange → State
  | _, [] => s
  | a, r :: rs =>
    let bs := (s.bay p).bytes (256 * r.ofs) (256 * r.len)
    let s := (s.wingsRead p (wordsAt (256 * r.ofs) (256 * r.len))).devWrite a bs
    (s.1.bayEcc p s.2).saveRanges p (a + 256 * r.len) rs

/-- The record's 1 KiB in device memory: its layout is not stated (free bytes). -/
def State.saveRecord (s : State) (a : Nat) : State :=
  let bs := (List.range 128).flatMap fun k => leBytes 8 (Config.freeValue (s.free + k)).toNat
  ({ s with free := s.free + 128 }.devWrite a bs).1

/-- STASH_SAVE_DONE (R98): with its earlier work complete, the bay's record and live ranges are written and
it rests in PARK. A save that the stash cannot hold, or that no window permits, falls back (R317). -/
def State.saveDone (s : State) (lb p : Nat) : State :=
  let b := s.bay p
  if !b.saving || s.get CUE_SEQSTAT_STATE p != 6 || !s.quiet p || !b.credits.isEmpty then s
  else match b.cid with
    | none => s
    | some id =>
      let rs := liveRanges b.part.ranges (s.get CUE_LIVEMASK_MASK p)
      let n := 1024 + liveLen rs
      let a := s.stashAddr lb
      match s.unpermitted a n true with
      | some x => (s.winFault x true).fallBack id
      | none =>
        if s.stashSize < n then s.fallBack id
        else match s.wingsPort p whoLive id (rangeLines rs false) with
        | (s, false) => s
        | (s, true) =>
          let s := ((s.saveRecord a).saveRanges p (a + 1024) rs).bump CUE_STOPCNT_PARKS 1 p
          let s := { s with stashes := Tab.insert (Tab.erase s.stashes lb) lb (s.stashOf p) }
          (s.modBay p fun b => { b with saving := false }).settleLane id

/-- STASH_SAVE_DONE (R98). -/
def execStashSaveDone (lb : Nat) (s : State) : Out := onBay lb s fun p => s.saveDone lb p

/-! ## MARK (R123) -/

/-- LATCH (R371): the counters, TAG and the odometer, and the user's copy in the wings. -/
def State.markLatch (s : State) (p tag : Nat) : State :=
  let k := bayBlk p
  let s := (s.put OBS_LATCHTAG_TAG tag p).put OBS_LATCHODO_CYCLES s.clk.odo p
  let s := (List.range 8).foldl (fun s i => s.put OBS_LATCHCNT_COUNT (s.get OBS_CNT_COUNT k i) p i) s
  if s.flag OBS_USER_EN_EN then
    let o := 256 * s.get OBS_BCTL_LOFS k
    let bs := runAt o (wordsBytes ([tag, s.clk.odo] ++ ((List.range 8).map fun i => s.get OBS_CNT_COUNT k i) ++ [0, 0, 0, 0, 0, 0]))
    if o + 128 ≤ wingsSize then (s.tear p bs).wingsWrite p bs else s
  else s

/-- The photocall entry that takes a MARK (R382). -/
def State.photoEntry (s : State) (tag : Nat) : Option Nat :=
  (List.range 16).find? fun n =>
    s.flag OBS_PHOTOCTL_EN 0 n && s.get OBS_PHOTO_TAG 0 n == tag && match s.get OBS_PHOTOCTL_MODE 0 n with
      | 0 => s.get OBS_STEP_NOW == s.get OBS_PHOTO_STEP 0 n
      | 1 => s.obs.pinArmed.contains n
      | 2 => true
      | _ => false

/-- A PIN entry matches only the first MARK of its TAG after an edge (R382): armed entries of the tag are spent. -/
def State.spendPins (s : State) (tag : Nat) : State :=
  { s with obs := { s.obs with pinArmed := s.obs.pinArmed.filter fun m => s.get OBS_PHOTO_TAG 0 m != tag } }

/-- PHOTO (R382, R383): the matching entry's copy starts; while the bay's previous one copies, PHOTO_DROP. -/
def State.markPhoto (s : State) (p tag lines src : Nat) : State :=
  match s.photoEntry tag with
  | none => s.spendPins tag
  | some n =>
    let s := s.spendPins tag
    if (s.bay p).photo.isSome then { s with obs := { s.obs with photoDrop := s.obs.photoDrop + 1 } }
    else
      let shots := s.get OBS_PHOTOCTL_SHOTS 0 n - 1
      let s := s.put OBS_PHOTOCTL_SHOTS shots 0 n
      let s := if shots = 0 then s.put OBS_PHOTOCTL_EN 0 0 n else s
      let x : PhotoCopy := { entry := n, tag := tag, src := src, lines := lines, step := s.get OBS_STEP_NOW, odo := s.clk.odo, time := s.clk.sys, pc := s.get CUE_SEQSTAT_PC p, sheet := s.get CUE_SHEETNO_SHEET p }
      let s := s.modBay p fun b => ({ b with photo := some x }).ask whoPhoto b.ord (lineReads src (256 * lines))
      (s.put OBS_PHOTOSTAT_BUSY 1 (p / 9)).put OBS_PHOTOSTAT_BAY ((s.logical p).getD 0 % 8) (p / 9)

/-- STROBE (R385): a pulse of 100 ns when the output is enabled and the pin is not an input; one that overlaps the last
lengthens it. -/
def State.markStrobe (s : State) : State :=
  if s.flag OBS_EVT_STROBE && !s.flag OBS_EVT_TRIG then
    { s with obs := { s.obs with strobe := if s.clk.el < s.obs.strobeEnd then s.obs.strobe else s.obs.strobe + 1, strobeEnd := s.clk.el + 100 } }
  else s

def markCue (s : State) (p : Nat) (q : Cue) : Option State :=
  match q with
  | .mark latch photo strobe lenm1 tag src =>
    let lines := lenm1 + 1
    let r : Except Nat State := do
      let s := if latch then s.markLatch p tag else s
      let s ← if photo then do
          let (i, o) ← Issue.wop { s := s } p src (256 * lines) 0 false (s.bay p).ord
          pure ((i.done p).markPhoto p tag lines o.ofs)
        else pure s
      return ((if strobe then s.markStrobe else s).retireCue p)
    match r with
    | .ok t => some t
    | .error c => some (s.fault p c (s.get CUE_SEQSTAT_PC p))
  | _ => none

/-- MARK (R123): latch, photocall, strobe, in this order; it retires at issue. -/
def execMark (lb : Nat) (s : State) : Out := issueCue lb s markCue

/-- PHOTOCALL_DONE (R383): the copy ends; its PHOTO record is written into ring 3. -/
def execPhotocallDone (lb : Nat) (s : State) : Out :=
  onBay lb s fun p =>
    match (s.bay p).photo with
    | none => s
    | some x =>
      if (s.bay p).xreqs.any fun y => y.who == whoPhoto.2 then s else
      let blk := p / 9
      let data := x.data ++ (s.bay p).bytes (x.src + x.data.length) (256 * x.lines - x.data.length)
      let head := wordsBytes [recWord0 4 (1 + 4 * x.lines) x.tag,
        x.step * 2 ^ 32 + lb * 2 ^ 26 + p % 9 * 2 ^ 22 + x.entry * 2 ^ 18 + b2n x.torn * 2 ^ 17 + x.pc,
        x.odo, x.time, crc32c data * 2 ^ 32 + x.sheet * 2 ^ 20 + x.src / 256, 0, 0, 0]
      let s := (s.modBay p fun b => { b with photo := none }).put OBS_PHOTOSTAT_BUSY 0 blk
      let s := if x.torn then s.bump OBS_PHOTOSTAT_TORN 1 blk else s
      s.ringWrite 3 (head ++ data)

end Sys2Proof.Machine
end

