-- ==== Sys2Proof/Machine/HostRegs.lean ====
section
/-! DEFINITION. A register write by the host: when it reaches the register (R388, R415, R444, R447),
what the access codes do with it (R8, R9, R410), and the registers whose WO bit clears counters
(R45, R72, R106, R154, R155, R183, R216, R217, R237, R238, R252, R297, R324, R370, R392, R456). -/

namespace Sys2Proof.Machine

/-- The power domain of a register's block: its die and its bit of PWR_DOMSTAT (R345). The registers of
the Felsyn ports answer at all times, or no port could be enabled (log entry 30). -/
def Reg.domain (r : Reg) : Option (Nat × Nat) :=
  match r.name.spec.region with
  | .bay => some (r.unit / 9, r.unit % 9)
  | .obsBay => some (r.unit / 9, r.unit % 9)
  | .engine => if r.unit < 72 then some (r.unit / 9, r.unit % 9) else none
  | .obs => if r.unit < 80 ∧ r.unit % 10 < 9 then some (r.unit / 10, r.unit % 10) else none
  | .chan => some (8 + r.unit / 8, r.unit % 8)
  | _ => none

/-- The block that holds a register is powered. -/
def State.blockOn (s : State) (r : Reg) : Bool :=
  match r.domain with
  | some (die, b) => (s.get PWR_DOMSTAT_ON die).testBit b
  | none => true

/-- A register of the identity-and-versions or the clocks-and-reset block (R415). -/
def Reg.early (r : Reg) : Bool := r.name.spec.region == .glob 0 || r.name.spec.region == .glob 0x40000
/-- A register of the tableau block (R388, R393). -/
def Reg.tableau (r : Reg) : Bool := r.name.spec.region == .glob 0x70000

/-- Requests of the host arrive: the module is powered and its endpoint out of reset (R411, R415). -/
def State.hostUp (s : State) : Bool := s.powered && s.pins.perstN

/-- A host write reaches a register: the block is powered, the module is ready or the register answers
before, and no tableau holds it back (R388, R415, R447). -/
def State.reaches (s : State) (r : Reg) : Bool :=
  (s.ready || r.early) && s.blockOn r
  && (s.get TAB_STAT_STATE == 0 || r.tableau || r.name == .ENV_CTL)

/-- The security state is OPEN (R433). -/
def State.open_ (s : State) : Bool := s.get SEC_STATE_STATE == 0

/-- One field of a written word, by its access code (R8); reserved bits stay zero (R9). -/
def FSpec.apply (open_ : Bool) (v w : Nat) (f : FSpec) : Nat :=
  let n := f.hi + 1 - f.lo
  match f.acc with
  | .RW => putBits w f.lo n (bits v f.lo n)
  | .RWS => if open_ then putBits w f.lo n (bits v f.lo n) else w
  | .W1C => putBits w f.lo n (bits w f.lo n - (bits w f.lo n &&& bits v f.lo n))
  | .RO => w
  | .WO => w

/-- The fields of a register written whole (R8). -/
def State.writeFields (s : State) (r : Reg) (v : Nat) : State :=
  s.setRaw r (BitVec.ofNat 64 (r.name.spec.fields.foldl (FSpec.apply s.open_ v) (s.raw r).toNat))

/-- A host write of a whole register: refused in D3hot with Unsupported Request (R444, R455), ignored where
it does not reach the register, else its fields are set and its effect happens. -/
def State.hostWrite (s : State) (r : Reg) (v : Nat) (eff : State → State) : State :=
  if !s.hostUp then s
  else if s.host.d3 then s.bump HST_ERR_UR
  else if !s.reaches r then s
  else eff (s.writeFields r v)

/-- A command that writes a register of unit `u`, of `n` units. -/
def hostSet (n : Nat) (r : Reg) (v : Nat) (s : State) (eff : State → State) : Out :=
  onUnit r.unit n s fun s => s.hostWrite r v eff

/-! ## Effects of the clearing bits -/

/-- CUE_RNDCTL.CLR (R45). -/
def State.wrCueRndctl (s : State) (p v : Nat) : State :=
  if bit v 1 then (s.clear .CUE_NUMSAT p).clear .CUE_NUMNAN p else s
/-- TLH_RNDCTL.CLR (R45). -/
def State.wrTlhRndctl (s : State) (t v : Nat) : State :=
  if bit v 1 then (s.clear .TLH_NUMSAT t).clear .TLH_NUMNAN t else s
/-- CUE_ARRCTL.ECLR (R72). -/
def State.wrArrctl (s : State) (p v : Nat) : State := if bit v 0 then s.clear .CUE_ARRECC p else s
/-- CUE_SEQCTL.CCLR (R106). -/
def State.wrSeqctl (s : State) (p v : Nat) : State := if bit v 0 then s.clear .CUE_STOPCNT p else s
/-- WNG_CTL.ECLR clears WNG_ECC and every RNG_STATn.STALL (R154). -/
def State.wrWngctl (s : State) (p v : Nat) : State :=
  if bit v 0 then
    (s.clear .WNG_ECC p).modBay p fun b =>
      { b with rings := Tab.mapVals {} (fun r => { r with stall := 0 }) b.rings }
  else s
/-- GRM_CTL.ECLR (R155). -/
def State.wrGrmctl (s : State) (d v : Nat) : State := if bit v 0 then s.clear .GRM_ECC d else s
/-- STR_CTL.CCLR clears STR_FAULT and the four counters (R183). -/
def State.wrStrctl (s : State) (e v : Nat) : State :=
  if bit v 0 then ((((s.clear .STR_FAULT e).clear .STR_BOUND e).clear .STR_PADG e).clear .STR_RADROP e).clear .STR_STALE e else s
/-- MEM_CHCTL.ECLR (R216). -/
def State.wrChctl (s : State) (c v : Nat) : State :=
  if bit v 0 then (s.clear .MEM_ECC c).clear .MEM_ERRADDR c else s
/-- GTH_CTL.CCLR (R217). -/
def State.wrGthctl (s : State) (q v : Nat) : State := if bit v 0 then s.clear .GTH_OOB q else s
/-- SPR_CTL.CCLR (R237). -/
def State.wrSprctl (s : State) (p v : Nat) : State :=
  if bit v 0 then ((s.clear .SPR_OVERFULL p).clear .SPR_METADUP p).clear .SPR_IDXOOB p else s
/-- PRM_CTL.CCLR clears PRM_AUD0–7 and PRM_DROP (R238). -/
def State.wrPrmctl (s : State) (d v : Nat) : State :=
  if bit v 0 then (s.clearAll .PRM_AUD d).clear .PRM_DROP d else s
/-- TLH_UPDCTL.CCLR (R252). -/
def State.wrUpdctl (s : State) (t v : Nat) : State :=
  if bit v 0 then (s.clear .TLH_SKIP t).clear .TLH_SNAPHOLD t else s
/-- FAB_CNTCTL.CCLR clears the seven counters (R297). -/
def State.wrCntctl (s : State) (t v : Nat) : State :=
  if bit v 0 then
    ((((((s.clear .FAB_LATE t).clear .FAB_STALE t).clear .FAB_BACKUP t).clear .FAB_SAT t).clear .FAB_RXDROP t).clear
      .FAB_E2ELOST t).clear .FAB_RESYNC t
  else s
/-- RUN_CNTCTL.CCLR (R324). -/
def State.wrRunCntctl (s : State) (v : Nat) : State :=
  if bit v 0 then ((((s.clear .RUN_MISS).clear .RUN_OVERBUD).clear .RUN_PREEMPT).clear .RUN_MAKEUP).clear .RUN_OVERRUN else s
/-- OBS_BCTL: CCLR clears OBS_CNT0–7; LOFS exists only in bay blocks (R370). -/
def State.wrBctl (s : State) (blk v : Nat) : State :=
  let s := if blk < 80 ∧ blk % 10 < 9 then s else s.put OBS_BCTL_LOFS 0 blk
  if bit v 31 then s.clearAll .OBS_CNT blk else s
/-- OBS_CCTL.CCLR clears OBS_SAMPDROP and every ring's LOST (R392). -/
def State.wrCctl (s : State) (v : Nat) : State :=
  if bit v 0 then (List.range 4).foldl (fun s n => s.put OBS_RINGSTAT_LOST 0 n) (s.clear .OBS_SAMPDROP) else s
/-- HST_CTL.CCLR (R456). -/
def State.wrHstctl (s : State) (v : Nat) : State := if bit v 0 then s.clear .HST_ERR else s

/-! ## The commands -/

/-- CUE_RNDCTL_CLR (R45). -/
def execCueRndctlClr (p : Nat) (v : W32) (s : State) : Out :=
  hostSet 72 ⟨.CUE_RNDCTL, p, 0⟩ v.toNat s fun s => s.wrCueRndctl p v.toNat
/-- CUE_ARRCTL_ECLR (R72). -/
def execCueArrctlEclr (p : Nat) (s : State) : Out := hostSet 72 ⟨.CUE_ARRCTL, p, 0⟩ 1 s fun s => s.wrArrctl p 1
/-- CUE_SEQCTL_CCLR (R106). -/
def execCueSeqctlCclr (p : Nat) (s : State) : Out := hostSet 72 ⟨.CUE_SEQCTL, p, 0⟩ 1 s fun s => s.wrSeqctl p 1
/-- WNG_CTL_ECLR (R154). -/
def execWngCtlEclr (p : Nat) (s : State) : Out := hostSet 72 ⟨.WNG_CTL, p, 0⟩ 1 s fun s => s.wrWngctl p 1
/-- GRM_CTL_ECLR (R155). -/
def execGrmCtlEclr (d : Nat) (s : State) : Out := hostSet 8 ⟨.GRM_CTL, d, 0⟩ 1 s fun s => s.wrGrmctl d 1
/-- STR_CTL_CCLR (R183). -/
def execStrCtlCclr (eng : Nat) (s : State) : Out := hostSet 104 ⟨.STR_CTL, eng, 0⟩ 1 s fun s => s.wrStrctl eng 1
/-- MEM_CHCTL_ECLR (R216). -/
def execMemChctlEclr (chan : Nat) (s : State) : Out := hostSet 32 ⟨.MEM_CHCTL, chan, 0⟩ 1 s fun s => s.wrChctl chan 1
/-- GTH_CTL_CCLR (R217). -/
def execGthCtlCclr (pd : Nat) (s : State) : Out := hostSet 4 ⟨.GTH_CTL, pd, 0⟩ 1 s fun s => s.wrGthctl pd 1
/-- SPR_CTL_CCLR (R237). -/
def execSprCtlCclr (p : Nat) (s : State) : Out := hostSet 72 ⟨.SPR_CTL, p, 0⟩ 1 s fun s => s.wrSprctl p 1
/-- PRM_CTL_CCLR (R238). -/
def execPrmCtlCclr (d : Nat) (s : State) : Out := hostSet 8 ⟨.PRM_CTL, d, 0⟩ 1 s fun s => s.wrPrmctl d 1
/-- TLH_UPDCTL_CCLR (R252). -/
def execTlhUpdctlCclr (pd : Nat) (s : State) : Out := hostSet 4 ⟨.TLH_UPDCTL, pd, 0⟩ 1 s fun s => s.wrUpdctl pd 1
/-- FAB_CNTCTL_CCLR (R297). -/
def execFabCntctlCclr (pd : Nat) (s : State) : Out := hostSet 4 ⟨.FAB_CNTCTL, pd, 0⟩ 1 s fun s => s.wrCntctl pd 1
/-- RUN_CNTCTL_CCLR (R324). -/
def execRunCntctlCclr (s : State) : Out := hostSet 1 ⟨.RUN_CNTCTL, 0, 0⟩ 1 s fun s => s.wrRunCntctl 1
/-- OBS_BCTL_CCLR (R370). -/
def execObsBctlCclr (blk : Nat) (v : W32) (s : State) : Out :=
  hostSet 84 ⟨.OBS_BCTL, blk, 0⟩ v.toNat s fun s => s.wrBctl blk v.toNat
/-- OBS_CCTL_CCLR (R392). -/
def execObsCctlCclr (s : State) : Out := hostSet 1 ⟨.OBS_CCTL, 0, 0⟩ 1 s fun s => s.wrCctl 1
/-- HST_CTL_CCLR (R456). -/
def execHstCtlCclr (s : State) : Out := hostSet 1 ⟨.HST_CTL, 0, 0⟩ 1 s fun s => s.wrHstctl 1
/-- HST_EVSTAT_CLEAR (R450): a 1 clears that event's bit. -/
def execHstEvstatClear (v : W32) (s : State) : Out := hostSet 1 ⟨.HST_EVSTAT, 0, 0⟩ v.toNat s fun s => s

end Sys2Proof.Machine
end

