-- ==== Sys2Proof/Machine/Curtain.lean ====
section
/-! DEFINITION. Curtains (R71, R105, R149 to R153, R236): requested, started with the stop of every
covered bay, and completed with the zeroing of what they cover. -/

namespace Sys2Proof.Machine

/-- RST_CURTCTL.GO requests a curtain with the masks and KEEP in force (R150). -/
def State.wrCurtctl (s : State) (v : Nat) : State :=
  if bit v 9 then
    s.requestCurtain { bays := BitVec.ofNat 64 (s.get RST_CURTBAY_BAYS), grm := BitVec.ofNat 8 (s.get RST_CURTCTL_GRM), keep := s.flag RST_CURTCTL_KEEP }
  else s

/-- CURTAIN_GO (R150, R156): the host writes `v` to RST_CURTCTL. -/
def execCurtainGo (v : W32) (s : State) : Out := hostSet 1 ⟨.RST_CURTCTL, 0, 0⟩ v.toNat s fun s => s.wrCurtctl v.toNat

/-- The physical bays a curtain that runs covers (R149). -/
def State.coveredBays (s : State) : List Nat := (List.range 72).filter s.covers

/-- A bay's margin check is abandoned (R350). -/
def State.dropCheck (s : State) (p : Nat) : State :=
  if (s.bay p).check then (s.modBay p fun b => { b with check := false }).bump UST_STAT_CHKABORT else s

/-- A MOVE of the prompter for a logical bay (R236). -/
def MoveOp.colOf (m : MoveOp) (lb : Nat) : Bool := m.col.isSome && m.lbay == lb

/-- The prompter forgets a covered logical bay: its context, sums, audits, makeup entries, PROMPTs and
column move (R236). -/
def State.curtainPrompter (s : State) (lb : Nat) : State :=
  let d := lb / 8
  let x := s.die d
  let held := match x.colMove with | some (_, m) => m.lbay == lb | none => false
  let s := if held then s.put PRM_STAT_HOLD 0 d else s
  let s := if (x.prompts.head?.any fun q => q.started && q.lbay == lb) then s.put PRM_STAT_BUSY 0 d else s
  let s := s.modDie d fun x => { x with
    ctx := Tab.erase x.ctx (lb % 8)
    prompts := x.prompts.filter fun q => q.lbay != lb
    makeup := x.makeup.filter fun m => m.lbay != lb
    colMove := if held then none else x.colMove }
  let s := (List.range 4).foldl (fun s q =>
    ((s.eng (72 + 4 * d + q)).q.filter fun m => m.colOf lb).foldl (fun s m => s.dropMove (72 + 4 * d + q) m) s) s
  s.clear .PRM_CTX d (lb % 8)

/-- What is left to store of a drained row of a covered bay: the bytes bound for storage that the curtain does not cover
(R151). -/
def State.openRow (s : State) (p : Nat) (r : DRow) : Option DRow :=
  let q := s.storeBay p r.dst
  let lands (q o : Nat) : Bool := !s.covers q || s.spared q o
  let bs := r.bytes.filter fun x => lands q ((s.bay p).opOfs r.dst + x.1)
  let zs := r.zbytes.filter fun x => lands p x.1
  if bs.isEmpty && zs.isEmpty then none else some { r with bytes := bs, zbytes := zs }

/-- A covered bay stops: its sequencer and units as under R96, and nothing is left in a unit queue but what it has read for
storage outside the curtain (R71, R151, R384). -/
def State.curtainBay (s : State) (p : Nat) : State :=
  let s := (s.dropCheck p).photoAbandon p
  let s := s.modBay p fun b => { b with stopReq := .none }
  let st := s.get CUE_SEQSTAT_STATE p
  let s := if st = 3 ∨ st = 4 ∨ st = 6 ∧ ((s.bay p).saving = true ∨ (s.bay p).cid.isSome = true) ∨ st = 2 then s.pointersStop p else s
  let s := s.modBay p fun b => { b with
    arrs := b.arrs.map fun a => (a.1, { a.2 with fq := [], lq := [], pend := false })
    dq := [], drows := b.drows.filterMap (s.openRow p), matchQ := [], posts := [], xreqs := [] }
  match s.logical p with
  | some lb => s.curtainPrompter lb
  | none => s

/-- A command whose lane a curtain covers in part: it stops and completes with ABORTED (R151); one that has
not started yet completes at once, a parked one about to resume stays parked. -/
def State.curtainCmd (s : State) (c : Cmd) : State :=
  if c.op ≠ 1 ∨ (laneBays c.mask).all (fun lb => !s.covers (s.phys lb)) then s
  else match c.phase with
    | .parked => s
    | .starting =>
      if c.resume then s.repark c.id
      else s.refuseCmd c.id cABORTED
    | _ =>
      let s := s.modCmd c.id fun x => { x.setF cABORTED with phase := .aborting, liveStop := false }
      s.stopLane c.mask .pointers

/-- Commands whose bays all rest now end. -/
def State.settleAll (s : State) : State :=
  (s.ro.cmds.filter fun c => c.phase == .aborting || c.phase == .stopping).foldl (fun s c => s.settleLane c.id) s

/-- A waiting curtain starts (R150 to R152). -/
def State.curtainStart (s : State) : State :=
  match s.curt, s.curtQ with
  | none, some c =>
    let s := ({ s with curt := some c, curtQ := none }.put RST_CURTSTAT_QUEUED 0).put RST_CURTSTAT_BUSY 1
    let s := s.markExcl
    let s := s.ro.cmds.foldl State.curtainCmd s
    (s.coveredBays.foldl State.curtainBay s).settleAll
  | _, _ => s

/-- CURTAIN_START (R151). -/
def execCurtainStart (s : State) : Out := onClock s State.curtainStart

/-- Every covered bay has stopped (R152). -/
def State.curtainReady (s : State) : Bool :=
  s.coveredBays.all fun p =>
    let st := s.get CUE_SEQSTAT_STATE p
    !(st == 2 || st == 3 || st == 4 || st == 5 || (st == 6 && (s.bay p).stop == .pointers)) && !(s.bay p).saving && (s.bay p).drows.isEmpty

/-- A covered bay's storage and sequencer read as zero (R71, R105, R149, R153); KEEP spares a held resident set (R102). -/
def State.zeroBay (s : State) (p : Nat) (keep : Bool) : State :=
  let k := keep && s.flag CUE_RESSTAT_HELD p
  let spare (o : Nat) := k && (s.bay p).held.any fun r => decide (256 * r.1 ≤ o) && decide (o < 256 * (r.1 + r.2))
  let s := s.modBay p fun b => { b.closeRings with
    wings := b.wings.filter fun c => spare c.1
    wingsErr := b.wingsErr.filter fun e => spare (2 * e.1)
    cueMem := [], loopBody := [], arrs := []
    credits := [], resOrder := [], resParts := []
    held := if k then b.held else [] }
  let s := if k then s.put CUE_RESSTAT_KEPT 1 p else (s.clear .CUE_RESSTAT p).clear .CUE_TOKEN p
  let s := (((((s.clearAll .CUE_AGBASE p).clearAll .CUE_AGDIM p).clearAll .CUE_SEM p).clearAll .CUE_LOOP p).clearAll .CUE_RESTAB_LO p).clearAll .CUE_RESTAB_HI p
  let s := ((s.clear .CUE_FAULT p).clear .CUE_LIVEMASK p)
  if s.bayOn p then s.clear .CUE_SEQSTAT p else s

/-- A green room reads as zero (R149). -/
def State.zeroGreen (s : State) (d : Nat) : State := s.modDie d fun x => { x with green := [], greenErr := [] }

/-- Every green room of a mask reads as zero. -/
def State.zeroGreens (s : State) (m : Byte) : State :=
  (List.range 8).foldl (fun s d => if m.getLsbD d then s.zeroGreen d else s) s

/-- A swap's copy of a covered logical bay has ended; the curtain zeroed its understudy (R360). -/
def State.curtainSwaps (s : State) (bays : W64) : State :=
  (List.range 8).foldl (fun s d => match (s.die d).swap with
    | some w =>
      if w.inF0 && !w.copied && bays.getLsbD w.lbay then
        (s.modDie d fun x => { x with swap := some { w with copied := true } }).put UST_SWAP_STATE 4
      else s
    | none => s) s

/-- The curtain completes (R152, R153): what it covers is zero and the held accesses go on. -/
def State.curtainDone (s : State) : State :=
  match s.curt with
  | none => s
  | some c =>
    if !s.curtainReady then s
    else
      let s := s.coveredBays.foldl (fun s p => s.zeroBay p c.keep) s
      let s := { (s.zeroGreens c.grm).curtainSwaps c.bays with curt := none }
      ((s.put RST_CURTSTAT_BUSY 0).bumpWrap RST_CURTSTAT_DONE).event 4

/-- CURTAIN_DONE (R152). -/
def execCurtainDone (s : State) : Out := onClock s State.curtainDone

/-! ## Memory windows (R172, R185) -/

/-- STR_WINCTL.COMMIT marks the staged windows for application. -/
def State.wrWinctl (s : State) (v : Nat) : State :=
  if bit v 0 then { s with winPend := some s.stagedWindows }.put STR_WINCTL_PEND 1 else s

/-- STR_WINCTL_COMMIT (R172). -/
def execStrWinctlCommit (s : State) : Out := hostSet 1 ⟨.STR_WINCTL, 0, 0⟩ 1 s fun s => s.wrWinctl 1

/-- WINDOW_APPLY (R172): with no running order in force the committed windows take effect by themselves. -/
def execWindowApply (s : State) : Out :=
  onClock s fun s => if s.flag RUN_STAT_ACTIVE then s else s.applyWindows

end Sys2Proof.Machine
end

