-- ==== Sys2Proof/Machine/MainMem.lean ====
section
/-! DEFINITION. Main memory on its own: patrol, refresh and memory scrubs (R194 to R196), channel retirement
(R197 to R200, R361), depot write-backs (R202), and the host's check-value scans (R210 to R214). -/

namespace Sys2Proof.Machine

/-- DDR holds data and is served: boot is complete and the clocks run. -/
def State.ddrServed (s : State) : Bool := s.clocked && s.ready

/-! ## Patrol and refresh (R194, R195) -/

/-- Patrol reads granule `g` in DRAM: a correctable error is counted, recorded and written back corrected; an
uncorrectable one is counted, recorded and stays poisoned. -/
def State.patrol (s : State) (g : Nat) : State :=
  let c := s.chanOf (64 * g)
  if !s.ddrServed || s.get MEM_PATROL_HOURS c == 0 || decide (s.ddrSize ≤ 64 * g) then s
  else match markOf s.memErr g with
    | none => s
    | some .corr => ({ s with memErr := Tab.erase s.memErr g }.bump MEM_ECC_CORR 1 c).errAddr (64 * g) false
    | some .uncorr => (s.bump MEM_ECC_UNCORR 1 c).errAddr (64 * g) true

/-- PATROL_SCRUB (R194). -/
def execPatrolScrub (granule : Nat) (s : State) : Out := .next (s.patrol granule)

/-- REFRESH (R195): data is unchanged; the stall of the accesses that meet it is timing (log entry 31). -/
def execRefresh (chan : Nat) (s : State) : Out := onUnit chan 32 s fun s => s

/-! ## Memory scrub (R196) -/

/-- MEM_ZERO.GO: with no running order active and no channel migrating the scrub starts by invalidating the
depot; otherwise REFUSED. -/
def State.wrMemZero (s : State) (v : Nat) : State :=
  if bit v 31 then
    if s.flag RUN_STAT_ACTIVE || s.retire.chan.isSome then s.put MEM_ZERO_REFUSED 1
    else
      let s := (s.put MEM_ZERO_REFUSED 0).put MEM_ZERO_BUSY 1
      (List.range 4).foldl (fun s p => (s.modPort p fun x => { x with depot := { x.depot with lines := [], errs := [] } }).depotShow p) s
  else s

/-- MEM_ZERO_GO (R196). -/
def execMemZeroGo (s : State) : Out := hostSet 1 ⟨.MEM_ZERO, 0, 0⟩ 0x80000000 s fun s => s.wrMemZero 0x80000000

/-! ## Channel retirement (R197 to R200, R361) -/

/-- The live channel-local granules: those below the first reserve granule (R197). -/
def State.liveGranules (s : State) : Nat := s.reserveBase / 65536

/-- The device address of channel-local granule `g` of channel `x` (R191). -/
def granuleAddr (x g : Nat) : Nat := g * 65536 + (x ^^^ bits g 0 5 ^^^ bits g 5 5) * 2048

/-- Retirement of channel `x` is requested (R198): accepted, with the channel's depot lines written back, or refused; a
request refused while another channel migrates leaves that migration as it is. -/
def State.requestRetire (s : State) (x : Nat) : State :=
  if !s.boot.reserve || s.flag MEM_INFO_RETIRED || s.retire.chan.isSome || s.flag MEM_ZERO_BUSY then
    s.put MEM_RETIRE_STATE 3
  else
    let s := ({ s with retire := { s.retire with chan := some x } }.put MEM_RETIRE_STATE 1).put MEM_CHSTAT_STATE 1 x
    let s := (s.put MEM_MIGPOS_GRANULES 0).depotDrop (x / 8) fun l => chanHash (256 * l) == x
    if s.flag UST_STAT_CHANV && s.get UST_STAT_CHAN == x then (s.put UST_STAT_CHANV 0).alert else s

/-- MEM_RETIRE.GO requests retirement of CHAN (R198). -/
def State.wrMemRetire (s : State) (v : Nat) : State :=
  if bit v 31 then s.requestRetire (s.get MEM_RETIRE_CHAN) else s

/-- MEM_RETIRE_GO (R198). -/
def execMemRetireGo (v : W32) (s : State) : Out := hostSet 1 ⟨.MEM_RETIRE, 0, 0⟩ v.toNat s fun s => s.wrMemRetire v.toNat

/-- Accesses held for the granule being copied (R199) see either side of the remap; the copy itself reads
each 64 B granule once, counting and clearing a correctable error and keeping poison. -/
def State.copyGranule (s : State) (a : Nat) : State :=
  (List.range 32).foldl (fun s i =>
    let g := a / 64 + i
    let c := s.chanOf (64 * g)
    match markOf s.memErr g with
    | none => s
    | some .corr => ({ s with memErr := Tab.erase s.memErr g }.bump MEM_ECC_CORR 1 c).errAddr (64 * g) false
    | some .uncorr => (s.bump MEM_ECC_UNCORR 1 c).errAddr (64 * g) true) s

/-- Best-effort time (R14, R198): the slot in force is a BE slot, or no running order is active. -/
def State.beSlot (s : State) : Bool :=
  match s.flag RUN_STAT_ACTIVE, s.ro.image with
  | true, some im => (Tab.get {} im.slots (64 * s.get RUN_STAT_ACT + s.get RUN_STAT_SLOT)).be
  | _, _ => true

/-- The next live granule is copied into the reserve and remapped in best-effort time; it waits while the granule is in
a stale-watch ledger (R198, R199). -/
def State.migrate (s : State) : State :=
  match s.retire.chan with
  | none => s
  | some x =>
    let g := s.get MEM_MIGPOS_GRANULES
    let a := granuleAddr x g
    let watched := s.ledger.any fun l => l.granule / 32 == a / 2048
    if s.beSlot = false ∨ s.liveGranules ≤ g ∨ watched = true then s
    else ((s.copyGranule a).depotDrop (x / 8) fun l => l / 8 == a / 2048).bump MEM_MIGPOS_GRANULES

/-- MIGRATE_GRANULE (R199). -/
def execMigrateGranule (s : State) : Out := onClock s State.migrate

/-- The channel is out of service: RETIRED, its domain off, event MEMORY (R198). -/
def State.retireChan (s : State) (x : Nat) : State :=
  let s := { s with retire := { s.retire with chan := none } }
  let s := (((s.put MEM_RETIRE_STATE 2).put MEM_CHSTAT_STATE 2 x).put MEM_INFO_RETIRED 1).put MEM_INFO_RCHAN x
  (s.setDomain (8 + x / 8) (x % 8) false).event 6

/-- The last live granule has been remapped. -/
def State.chanRetired (s : State) : State :=
  match s.retire.chan with
  | some x => if s.liveGranules ≤ s.get MEM_MIGPOS_GRANULES then s.retireChan x else s
  | none => s

/-- CHAN_RETIRED (R198). -/
def execChanRetired (s : State) : Out := onClock s State.chanRetired

/-- A channel has corrected single-device errors in 64 granules within an hour (R361). -/
def State.autoRetire (s : State) (x : Nat) : State :=
  if s.flag UST_CFG_CHANAUTO then
    if s.boot.reserve then
      let gone := s.flag MEM_INFO_RETIRED
      let s := (s.put MEM_RETIRE_CHAN x).requestRetire x
      if gone then (s.put UST_STAT_SERVICE 1).alert else s
    else s
  else ((s.put UST_STAT_CHANV 1).put UST_STAT_CHAN x).alert

/-- CHANNEL_AUTO_RETIRE (R361). -/
def execChannelAutoRetire (chan : Nat) (s : State) : Out :=
  onUnit chan 32 s fun s => if s.ddrServed then s.autoRetire chan else s

/-! ## Depot write-back (R202) -/

/-- A write of DEP_CTL: FLUSH, or ENABLE cleared, starts a write-back; `was` is ENABLE before the write. -/
def State.wrDepctl (s : State) (p : Nat) (was : Bool) (v : Nat) : State :=
  let off := was && !bit v 0
  let s := s.modPort p fun x => { x with depot := { x.depot with disabling := off || (x.depot.disabling && !bit v 0) } }
  if bit v 1 || off then s.put DEP_STAT_FLUSHING 1 p else s

/-- DEP_CTL_FLUSH (R202): FLUSH written 1 with ENABLE as it stands. -/
def execDepCtlFlush (pd : Nat) (s : State) : Out :=
  let was := s.flag DEP_CTL_ENABLE pd
  hostSet 4 ⟨.DEP_CTL, pd, 0⟩ (2 + b2n was) s fun s => s.wrDepctl pd was (2 + b2n was)

/-- DEP_CTL_DISABLE (R202): ENABLE cleared. -/
def execDepCtlDisable (pd : Nat) (s : State) : Out :=
  let was := s.flag DEP_CTL_ENABLE pd
  hostSet 4 ⟨.DEP_CTL, pd, 0⟩ 0 s fun s => s.wrDepctl pd was 0

/-- Every line of a depot is clean (R202). -/
def State.depotClean (s : State) (p : Nat) : State := s.depotBack p fun _ => true

/-- A write-back in progress completes; after a cleared ENABLE the depot is empty and bypassed (R202). -/
def State.depotFlushed (s : State) (p : Nat) : State :=
  if s.flag DEP_STAT_FLUSHING p then
    let s := (s.depotClean p).put DEP_STAT_FLUSHING 0 p
    s.modPort p fun x => { x with depot := if x.depot.disabling then {} else { x.depot with disabling := false } }
  else s

/-- DEPOT_FLUSH_DONE (R202). -/
def execDepotFlushDone (pd : Nat) (s : State) : Out := onUnitClock pd 4 s fun s => s.depotFlushed pd

/-! ## Host scans (R210 to R214) -/

/-- The register value a scan starts with (R210, R212). -/
def State.scanRun (s : State) (e : Nat) : Nat := s.get CHK_RUN_VALUE e

/-- CHK_RESULT shows RUN XOR the output mask of ALG once RUN or ALG has been set; after a reset it reads its reset value
(R210, R217; log entry 93). -/
def State.showResult (s : State) (e : Nat) : State :=
  let ones := crcOnes (s.get CHK_CTL_ALG e)
  s.put CHK_RESULT_VALUE (s.get CHK_RUN_VALUE e % (ones + 1) ^^^ ones) e

/-- `n` bytes of a scan are covered: RUN and POS advance; answers whether a granule was uncorrectable. -/
def State.scanBytes (s : State) (e : Nat) (x : Scan) (n : Nat) : State × Bool :=
  let (s, bs, ecc) := s.devReadAll x.start n
  let r := crcRun (crcPoly x.alg) (s.scanRun e % (crcOnes x.alg + 1)) bs
  ((((s.put CHK_RUN_VALUE r e).put CHK_POS_BYTES n e).count (portBlk (e / 2)) 0x4B (e % 2) (units64 n)).showResult e, ecc.unc)

/-- The scan of an engine, if one runs. -/
def State.scan (s : State) (e : Nat) : Option Scan := Tab.get none (s.port (e / 2)).scans (e % 2)
def State.setScan (s : State) (e : Nat) (x : Option Scan) : State :=
  s.modPort (e / 2) fun p => { p with scans := Tab.set none p.scans (e % 2) x }

/-- The scan completes with its code (R212). -/
def State.scanDone (s : State) (e : Nat) : State :=
  match s.scan e with
  | none => s
  | some x =>
    let (s, unc) := s.scanBytes e x x.len
    ((s.setScan e none).put CHK_STAT_BUSY 0 e).put CHK_STAT_CODE (if unc then cECC_UNCORR else cOK) e

/-- GO (R212, R213): refused outside installed DDR or inside the enabled reserve. -/
def State.scanGo (s : State) (e : Nat) : State :=
  if s.flag CHK_STAT_BUSY e then s
  else
    let s := s.put CHK_STAT_PAUSED 0 e
    let a := s.get CHK_START_ADDR e
    let n := s.get CHK_LEN_BYTES e
    let top := if s.boot.reserve then s.reserveBase else s.ddrSize
    if top < a + n then s.put CHK_STAT_CODE cWINDOW e
    else
      let alg := s.get CHK_CTL_ALG e
      let s := if s.flag CHK_CTL_INIT e then s.put CHK_RUN_VALUE (crcOnes alg) e else s
      (((s.setScan e (some { start := a, len := n, alg := alg })).put CHK_STAT_BUSY 1 e).put CHK_POS_BYTES 0 e).showResult e

/-- PAUSE (R213) with `covered` bytes covered: the scan stops at the next 64 B boundary of its range. -/
def State.scanPause (s : State) (e covered : Nat) : State :=
  match s.scan e with
  | none => s
  | some x =>
    let n := ceilDiv covered 64 * 64
    if x.len ≤ n then s.scanDone e
    else
      let (s, _) := s.scanBytes e x n
      ((s.setScan e none).put CHK_STAT_BUSY 0 e).put CHK_STAT_PAUSED 1 e

/-- A write of CHK_CTL; a PAUSE finds as many bytes covered as it happens to (a free value). -/
def State.wrChkctl (s : State) (e v : Nat) : State :=
  if bit v 3 && s.flag CHK_STAT_BUSY e then
    let (r, s) := s.fresh
    s.scanPause e (r % (((s.scan e).elim 0 fun x => x.len) + 1))
  else if bit v 2 then s.scanGo e else s.showResult e

/-- CHK_GO (R212). -/
def execChkGo (e : Nat) (v : W32) (s : State) : Out := hostSet 8 ⟨.CHK_CTL, e, 0⟩ v.toNat s fun s => s.wrChkctl e v.toNat

/-- CHK_PAUSE (R213): PAUSE written with ALG and INIT as they stand, `covered` bytes into the scan. -/
def execChkPause (e : Nat) (covered : Nat) (s : State) : Out :=
  hostSet 8 ⟨.CHK_CTL, e, 0⟩ (8 + s.get CHK_CTL_ALG e + 2 * s.get CHK_CTL_INIT e) s fun s => s.scanPause e covered

/-- CHK_SCAN_DONE (R212). -/
def execChkScanDone (e : Nat) (s : State) : Out := onUnitClock e 8 s fun s => s.scanDone e

/-- A write of CHK_RUN takes effect only while no scan runs (R213): `old` is the value before it. -/
def State.wrChkrun (s : State) (e old : Nat) : State :=
  if s.flag CHK_STAT_BUSY e then s.put CHK_RUN_VALUE old e else s.showResult e

end Sys2Proof.Machine
end

