-- ==== Sys2Proof/Machine/Gather.lean ====
section
/-! DEFINITION. The gather engines (R205 to R209): jobs of a GATHER command, started whole and completed by
GATHER_JOB_DONE. -/

namespace Sys2Proof.Machine

/-- Why a job's accesses end: a fault of the job, or a curtain holds the storage it needs (R151). -/
inductive JobStop where
  | fault (code : Nat)
  | held
  deriving DecidableEq, Repr

/-- One irregular request for each 256 B of a read of DDR, on the port die that serves it (R204, R207, R449); each is served
before the next is issued, so never more than 64 are outstanding (log entry 95). -/
def State.irregular (s : State) (a n : Nat) : State :=
  if s.place a ≠ .ddr then s
  else (List.range ((a + n - 1) / 256 + 1 - a / 256)).foldl (fun s i => s.count (portBlk (s.chanOf ((a / 256 + i) * 256) / 8)) 0x46 0 1) s

/-- A job under way: what its reads met and why it ended early, if it did. -/
structure Job where
  s : State
  ecc : EccSeen := {}
  oob : Nat := 0
  stop : Option JobStop := none
  deriving DecidableEq, Repr

/-- Nothing more of a job happens once it has stopped. -/
def Job.andThen (j : Job) (f : Job → Job) : Job := if j.stop.isSome then j else f j

/-- A demand access of a job (R206): windows and curtains decide whether it is made. -/
def Job.check (j : Job) (a n : Nat) (write : Bool) : Job :=
  match j.s.unpermitted a n write with
  | some x => { j with s := j.s.winFault x write, stop := some (.fault cWINDOW) }
  | none =>
    if ((granulesAt a n).any fun g => j.s.coveredLoc (.dev g)) then { j with stop := some .held } else j

/-- `n` bytes are read. -/
def Job.read (j : Job) (a n : Nat) : Job × Bytes :=
  if j.stop.isSome then (j, [])
  else
    let j := j.check a n false
    if j.stop.isSome then (j, [])
    else let (s, bs, e) := j.s.devReadAll a n; ({ j with s := s, ecc := j.ecc.or e }, bs)

/-- Bytes are written; a part discarded as poison marks the command ECC_UNCORR (R193). -/
def Job.write (j : Job) (a : Nat) (bs : Bytes) : Job :=
  (j.andThen fun j => j.check a bs.length true).andThen fun j =>
    let (s, e) := j.s.devWrite a bs
    { j with s := s, ecc := j.ecc.or e }

/-- The fields of a job record (R205). -/
structure JobRec where
  op : Nat
  iof : Bool
  notify : Option (Nat × Nat)
  count : Nat
  src : Nat
  nrows : Nat
  rl : Nat
  idx : Nat
  dst : Nat
  map : Nat
  unq : Nat
  ucount : Nat
  deriving DecidableEq, Repr

/-- Word `i` of a record. -/
def recWord (bs : Bytes) (i : Nat) : Nat := numAt bs (8 * i) 8

/-- The record's fields. -/
def jobRec (bs : Bytes) : JobRec :=
  let w := recWord bs
  { op := fld (w 0) 63 60, iof := bit (w 0) 59
    notify := if bit (w 0) 58 then some (fld (w 0) 57 52, fld (w 0) 51 46) else none
    count := fld (w 0) 20 0, src := fld (w 1) 47 0, nrows := fld (w 2) 63 32, rl := 64 * (fld (w 2) 5 0 + 1)
    idx := fld (w 3) 47 0, dst := fld (w 4) 47 0, map := fld (w 5) 47 0, unq := fld (w 6) 47 0, ucount := fld (w 7) 20 0 }

/-- The refusals of R206, in order: DESC_BAD, then MISALIGN of any base of the record. -/
def jobRefusal (bs : Bytes) : Option Nat :=
  let w := recWord bs
  let r := jobRec bs
  let reserved := fld (w 0) 45 32 != 0 || fld (w 0) 31 21 != 0 || fld (w 2) 31 6 != 0 || fld (w 7) 55 21 != 0
    || [1, 3, 4, 5, 6].any fun i => fld (w i) 63 48 != 0
  if !(r.op == 1 || r.op == 2 || r.op == 3) || reserved || r.count == 0 || decide (1048576 < r.count) then some cDESC_BAD
  else if [r.src, r.idx, r.dst, r.map, r.unq].any fun a => a % 64 != 0 then some cMISALIGN
  else none

/-- 32-bit numbers of a byte string. -/
def u32s (bs : Bytes) (n : Nat) : List Nat := (List.range n).map fun i => numAt bs (4 * i) 4
/-- 32-bit numbers as bytes. -/
def u32Bytes (ns : List Nat) : Bytes := ns.flatMap fun n => leBytes 4 n

/-- A position whose index is at or above NROWS: a row of zeros and IDX_OOB, or the fault under IOF (R207). -/
def Job.outOfRange (j : Job) (r : JobRec) (i : Nat) : Job :=
  j.andThen fun j =>
    if r.iof then { j with stop := some (.fault cIDX_OOB) }
    else ({ j with oob := j.oob + 1 }).write (r.dst + i * r.rl) (List.replicate r.rl 0)

/-- The unique in-range indices, ascending. -/
def JobRec.unique (r : JobRec) (is : List Nat) : List Nat := ((is.filter fun i => decide (i < r.nrows)).dedup).insertionSort (· ≤ ·)

/-- GATHER (R207): answers the number of unique rows. -/
def Job.gather (j : Job) (r : JobRec) : Job × Nat :=
  let (j, bs) := j.read r.idx (4 * r.count)
  let is := u32s bs r.count
  let us := r.unique is
  let j := us.foldl (fun (j : Job) u =>
    let (j, row) := j.read (r.src + u * r.rl) r.rl
    is.zipIdx.foldl (fun (j : Job) x => if x.1 = u then j.write (r.dst + x.2 * r.rl) row else j) j) j
  let j := is.zipIdx.foldl (fun (j : Job) x => if x.1 < r.nrows then j else j.outOfRange r x.2) j
  let map := is.map fun i => if i < r.nrows then us.findIdx fun u => u == i else 0xFFFFFFFF
  ((j.write r.map (u32Bytes map)).write r.unq (u32Bytes us), us.length)

/-- DIRECT (R207): each position's row in list order, one irregular request each on the die that serves it (R204). -/
def Job.direct (j : Job) (r : JobRec) : Job × Nat :=
  let (j, bs) := j.read r.idx (4 * r.count)
  let is := u32s bs r.count
  (is.zipIdx.foldl (fun (j : Job) x => j.andThen fun j =>
    if x.1 < r.nrows then
      let a := r.src + x.1 * r.rl
      let (j, row) := j.read a r.rl
      (j.andThen fun j => { j with s := j.s.irregular a r.rl }).write (r.dst + x.2 * r.rl) row
    else j.outOfRange r x.2) j, (r.unique is).length)

/-- Two rows of FP32 elements added element by element (R208). -/
def addRows : Bytes → Bytes → Nat → Bytes
  | _, _, 0 => []
  | a, b, n + 1 =>
    leBytes 4 (fadd (BitVec.ofNat 32 (leVal (a.take 4))) (BitVec.ofNat 32 (leVal (b.take 4)))).toNat ++ addRows (a.drop 4) (b.drop 4) n

/-- REDUCE (R208). -/
def Job.reduce (j : Job) (r : JobRec) : Job × Nat :=
  let (j, bs) := j.read r.map (4 * r.count)
  let j := (List.range r.ucount).foldl (fun (j : Job) u => j.write (r.dst + u * r.rl) (List.replicate r.rl 0)) j
  ((u32s bs r.count).zipIdx.foldl (fun (j : Job) x =>
    let (j, row) := j.read (r.src + x.2 * r.rl) r.rl
    if x.1 = 0xFFFFFFFF then j
    else
      let (j, old) := j.read (r.dst + x.1 * r.rl) r.rl
      j.write (r.dst + x.1 * r.rl) (addRows old row (r.rl / 4))) j, r.ucount)

/-- A job's reading of its record and its work: its code and UCOUNT, the semaphore it notifies, and its OP (0: no record
was read). -/
def State.runJob (s : State) (a : Nat) : Job × Nat × Nat × Option (Nat × Nat) × Nat :=
  if a % 64 ≠ 0 then ({ s := s }, cMISALIGN, 0, none, 0)
  else
    let (j, bs) := ({ s := s } : Job).read a 64
    let r := jobRec bs
    if j.stop.isSome then (j, cWINDOW, 0, none, 0)
    else match jobRefusal bs with
      | some c => (j, c, r.ucount, r.notify, r.op)
      | none =>
        let (j, n) := if r.op = 1 then j.gather r else if r.op = 2 then j.reduce r else j.direct r
        match j.stop with
        | some (.fault c) => (j, c, r.ucount, r.notify, r.op)
        | _ => (j, cOK, n, r.notify, r.op)

/-- The phases that GTH_STAT.STATE shows while a job of an OP runs (R207 to R209, R217); which of them it shows between the
start and the end of the job is time's, a free value (log entry 96). -/
def gatherPhases (op : Nat) : List Nat := if op = 2 then [1, 4, 5] else if op = 3 then [1, 3, 5] else [1, 2, 3, 5]

/-- The engine takes two ways of its depot: lines they hold are written back (R209). -/
def State.takeWays (s : State) (pd : Nat) : State :=
  let ls := (s.port pd).depot.lines
  let extra := ls.zipIdx.filterMap fun x : (Nat × Bool) × Nat =>
    if 14 ≤ ((ls.take x.2).filter fun y : Nat × Bool => depotSet y.1 == depotSet x.1.1).length then some x.1.1 else none
  (s.depotDrop pd fun l => extra.contains l).put DEP_STAT_GTHWAYS 1 pd

/-- A GATHER command starts its job on a free engine (R205 to R208). -/
def State.gatherStart (s : State) (id : Nat) : State :=
  match s.cmd id with
  | none => s
  | some c =>
    if c.op ≠ 2 ∨ c.phase ≠ .starting ∨ (s.port c.port).gather.isSome = true ∨ s.mayStart = false then s
    else
      let (j, code, n, notify, op) := ((s.put GTH_JOB_ADDR c.arg c.port).takeWays c.port).runJob c.arg
      if j.stop = some .held then s
      else
        let (v, s) := (j.s.bump GTH_OOB_COUNT j.oob c.port).fresh
        let ph := gatherPhases op
        let s := s.put GTH_STAT_STATE (ph.getD (v % ph.length) 1) c.port
        let job : GatherJob := { cid := id, recAddr := c.arg, notify := notify, code := code, ucount := n, reduce := op == 2 }
        let s := s.modPort c.port fun x => { x with gather := some job }
        (s.cmdEcc (some id) j.ecc).modCmd id fun x =>
          let x := if j.oob ≠ 0 then x.setFlag flSPARSE else x
          { x with phase := .running }

/-- GATHER_COMMAND (R308). -/
def execGatherCommand (cid : Nat) (s : State) : Out := onClock s fun s => s.gatherStart cid

/-- Where a job writes CODE, and UCOUNT with it when it is OK, and the bytes it writes there (R205, R206). -/
def GatherJob.mark (x : GatherJob) : Nat × Bytes :=
  if x.code = cOK then (x.recAddr + 56, wordsBytes [x.code * 2 ^ 56 + x.ucount]) else (x.recAddr + 63, [BitVec.ofNat 8 x.code])

/-- The code a job completes with: an OK job whose record no window permits it to write faults WINDOW (R206). -/
def State.jobCode (s : State) (x : GatherJob) : Nat :=
  if x.code = cOK ∧ (s.unpermitted x.mark.1 x.mark.2.length true).isSome then cWINDOW else x.code

/-- A job's outputs end: CODE and UCOUNT in the record, the ways released, the semaphore posted (R206, R209); a completed
REDUCE joins the order of R251. -/
def State.jobDone (s : State) (pd : Nat) (x : GatherJob) : State :=
  let code := s.jobCode x
  let s := match s.unpermitted x.mark.1 x.mark.2.length true with
    | some y => s.winFault y true
    | none => let (t, e) := s.devWrite x.mark.1 x.mark.2; t.cmdEcc (some x.cid) e
  let s := (((s.put GTH_STAT_STATE 0 pd).put GTH_STAT_CODE code pd).put GTH_STAT_UCOUNT x.ucount pd).put DEP_STAT_GTHWAYS 0 pd
  let s := s.modPort pd fun q => { q with gather := none }
  let s := if x.reduce && code == cOK then
      { s with fab := { s.fab with mp := { s.fab.mp with jobs := s.fab.mp.jobs ++ [x.recAddr] } } }
    else s
  match x.notify with
  | some (lb, sem) =>
    let v := s.get CUE_SEM_VALUE (s.phys lb) sem + 1
    s.put CUE_SEM_VALUE (if v ≤ 65535 then v else 65535) (s.phys lb) sem
  | none => s

/-- The job of a port die completes, and its command with the job's code (R206, R311); a curtain over its record holds it
(R151). -/
def State.gatherDone (s : State) (pd : Nat) : State :=
  match (s.port pd).gather with
  | none => s
  | some x =>
    if s.coveredLoc (.dev x.recAddr) then s
    else
      let code := s.jobCode x
      let s := s.jobDone pd x
      (if code = cOK then s else s.modCmd x.cid fun c => c.setF code).endCmd x.cid

/-- GATHER_JOB_DONE (R209). -/
def execGatherJobDone (pd : Nat) (s : State) : Out := onUnitClock pd 4 s fun s => s.gatherDone pd

end Sys2Proof.Machine
end

