-- ==== Sys2Proof/Machine/Fabric.lean ====
section
/-! DEFINITION. Felsyn ports and frames (R260 to R275, R294, R295): the header and its check value, sending
and its retry rules, receiving, links, and system time. `fab.tx` lists the frames sent. -/

namespace Sys2Proof.Machine

/-! ## Devices and ports (R260, R262, R268) -/

abbrev tCONTRIB : Nat := 1
abbrev tSUM : Nat := 2
abbrev tPARAM : Nat := 3
abbrev tSNAP : Nat := 4
abbrev tRESYNC : Nat := 5
abbrev tPREQ : Nat := 6
abbrev tLACK : Nat := 7
abbrev tEACK : Nat := 8
abbrev tTIME : Nat := 9
abbrev tHELLO : Nat := 10

/-- The device's own number. -/
def State.devno (s : State) : Nat := s.get FAB_DEVNO_DEVICE
/-- Position, troupe and circuit of a device number. -/
def devPos (d : Nat) : Nat := d % 8
def devTroupe (d : Nat) : Nat := d / 8 % 16
def devCircuit (d : Nat) : Nat := d / 128
/-- The device number of (circuit, troupe, position). -/
def devOf (c t k : Nat) : Nat := c * 128 + t * 8 + k
/-- Troupes per circuit and circuits. -/
def State.nTroupes (s : State) : Nat := s.get FAB_TOPO_NTRPM1 + 1
def State.nCircuits (s : State) : Nat := s.get FAB_TOPO_NCIRCM1 + 1
/-- The device number lies inside FAB_TOPO (R268). -/
def State.devInTopo (s : State) : Bool :=
  decide (devTroupe s.devno < s.nTroupes) && decide (devCircuit s.devno < s.nCircuits)

def State.fport (s : State) (p : Nat) : FPort := Tab.get {} s.fab.ports p
def State.setFport (s : State) (p : Nat) (x : FPort) : State := { s with fab := { s.fab with ports := Tab.set {} s.fab.ports p x } }
def State.flow (s : State) (d : Nat) : Flow := Tab.get {} s.fab.flows d
def State.setFlow (s : State) (d : Nat) (x : Flow) : State := { s with fab := { s.fab with flows := Tab.set {} s.fab.flows d x } }

/-- The port is UP, on four lanes or three. -/
def State.portUp (s : State) (p : Nat) : Bool := decide (2 ≤ s.get FAB_PORTSTAT_STATE p)
def State.isTroupe (s : State) (p : Nat) : Bool := s.get FAB_PORTCTL_ROLE p == 1
def State.isSwitch (s : State) (p : Nat) : Bool := s.get FAB_PORTCTL_ROLE p == 2
/-- The UP SWITCH ports, ascending. -/
def State.planes (s : State) : List Nat := (List.range 16).filter fun p => s.isSwitch p && s.portUp p
/-- The UP TROUPE port to a troupe position. -/
def State.cable (s : State) (pos : Nat) : Option Nat :=
  (List.range 16).find? fun p => s.isTroupe p && s.portUp p && s.get FAB_PORTCTL_PEERPOS p == pos
/-- A device of the own troupe. -/
def State.inTroupe (s : State) (d : Nat) : Bool := d / 8 == s.devno / 8

/-! ## The header (R264, R265) -/

/-- The 32 header bytes. -/
def frameHeader (f : Frame) : Bytes :=
  leBytes 8 (f.ver * 2 ^ 60 + f.typ * 2 ^ 56 + f.level * 2 ^ 54 + b2n f.backup * 2 ^ 53 + b2n f.retx * 2 ^ 52 + f.part * 2 ^ 48
    + f.src * 2 ^ 36 + f.dst * 2 ^ 24 + f.seq)
  ++ leBytes 8 (f.ack * 2 ^ 40 + f.len * 2 ^ 24 + f.shard)
  ++ leBytes 8 (f.milepost * 2 ^ 32 + f.bundle * 2 ^ 14 + f.ncontr)
  ++ leBytes 8 (f.rev * 2 ^ 48 + f.satf * 2 ^ 16 + f.smallf)

/-- The appended check value (R211, R264). -/
def frameCheck (f : Frame) : Nat := crc32c (frameHeader f ++ f.payload)

/-! ## Sending (R270 to R272) -/

/-- The Ethernet address of a device's port, octet 0 the most significant (R264). -/
def State.macOf (s : State) (d port : Nat) : Nat := s.get FAB_MACPFX_PREFIX * 2 ^ 16 + d / 16 % 256 * 2 ^ 8 + d % 16 * 16 + port % 16

/-- The frame check sequence, over the whole untagged frame (R264). -/
def frameFcs (f : Frame) : Nat :=
  crcEther (beBytes 6 f.dstMac.toNat ++ beBytes 6 f.srcMac.toNat ++ beBytes 2 f.etype ++ frameHeader f ++ f.payload ++ leBytes 4 f.crc.toNat)

/-- The port of the receiving device that a frame sent on port `p` is addressed to (R264): of a cable the one that the peer's
HELLO named, before which it is not stated: a free value; on a switched plane the same number. -/
def State.farPort (s : State) (p : Nat) : Nat × State :=
  if s.isTroupe p then match (s.fport p).peerPort with
    | some n => (n, s)
    | none => let (r, s) := s.fresh; (r % 16, s)
  else (p, s)

/-- The frame leaves on a port: addresses, source, EtherType and check values are set, and its payload counts. -/
def State.transmit (s : State) (p : Nat) (f : Frame) : State :=
  let (q, s) := s.farPort p
  let f := { f with
    port := p, src := s.devno, etype := s.get FAB_ETYPE_ETYPE, len := f.payload.length, tag := none
    dstMac := BitVec.ofNat 48 (s.macOf f.dst q), srcMac := BitVec.ofNat 48 (s.macOf s.devno p) }
  let f := { f with crc := BitVec.ofNat 32 (frameCheck f) }
  let f := { f with fcs := BitVec.ofNat 32 (frameFcs f) }
  ({ s with fab := { s.fab with tx := s.fab.tx ++ [f] } }.bump FAB_PORTTX_BYTES f.payload.length p).count
    (portBlk (p / 4)) 0x47 (p % 4) (units64 f.payload.length)

/-- The payload of a frame that passed its checks counts as accepted (R295, R369). -/
def State.accepts (s : State) (f : Frame) : State :=
  (s.bump FAB_PORTRX_BYTES f.payload.length f.port).count (portBlk (f.port / 4)) 0x48 (f.port % 4) (units64 f.payload.length)

/-- Bytes of replay buffer a frame takes (R264, R270): all of it on the wire. -/
def frameWire (f : Frame) : Nat := f.payload.length + 54

/-- The priority classes of R272. -/
def framePrio (f : Frame) : Nat := if 7 ≤ f.typ then 0 else if f.typ = 4 then 2 else 1

/-- The first waiting frame of the best priority, and the others. -/
def takeFrame (fs : List Frame) : Option (Frame × List Frame) :=
  match fs.find? (fun f => framePrio f == 1) with
  | some f => some (f, fs.erase f)
  | none => match fs with
    | f :: r => some (f, r)
    | [] => none

/-- A TROUPE port sends as many waiting frames as its replay buffer of 512 KiB takes (R270). -/
def State.pumpTroupe (s : State) (p : Nat) : Nat → State
  | 0 => s
  | fuel + 1 =>
    let x := s.fport p
    match takeFrame x.waiting with
    | none => s
    | some (f, rest) =>
      if 524288 < (x.unacked.map frameWire).sum + frameWire f then s
      else
        let f := { f with seq := x.txSeq, ack := x.rxSeq }
        let s := s.setFport p { x with txSeq := (x.txSeq + 1) % 2 ^ 24, waiting := rest, unacked := x.unacked ++ [f] }
        (s.transmit p f).pumpTroupe p fuel

/-- A flow sends waiting frames while fewer than 64 are unacknowledged; the first copy goes on port
BUNDLE mod n of the n UP SWITCH ports (R271). -/
def State.pumpFlow (s : State) (d : Nat) : Nat → State
  | 0 => s
  | fuel + 1 =>
    let x := s.flow d
    let ps := s.planes
    match takeFrame x.waiting with
    | none => s
    | some (f, rest) =>
      if 64 ≤ x.unacked.length ∨ ps = [] then s
      else
        let p := ps.getD (f.bundle % ps.length) 0
        let f := { f with seq := x.txSeq, ack := x.rxCum, port := p }
        let s := s.setFlow d { x with txSeq := (x.txSeq + 1) % 2 ^ 24, waiting := rest, unacked := x.unacked ++ [(f, 0)] }
        (s.transmit p f).pumpFlow d fuel

/-- A frame goes to its device: on the cable inside the troupe, else (and SNAP always) end to end; where the
path is down nothing is sent (R262, R293, R294), and an unjoined module sends no CONTRIB, SUM or PARAM (R269). -/
def State.sendTo (s : State) (d : Nat) (f : Frame) : State :=
  let f := { f with dst := d }
  if f.typ ≤ 3 && !s.flag FAB_TOPO_JOINED then s
  else if s.inTroupe d && f.typ != tSNAP then
    match s.cable (devPos d) with
    | none => s
    | some p =>
      let x := s.fport p
      (s.setFport p { x with waiting := x.waiting ++ [f] }).pumpTroupe p (x.waiting.length + 1)
  else if s.planes.isEmpty then s
  else
    let x := s.flow d
    (s.setFlow d { x with waiting := x.waiting ++ [f] }).pumpFlow d (x.waiting.length + 1)

/-- A frame outside the numbering (LACK, EACK, TIME, HELLO) leaves at once (log entry 40). -/
def State.sendBare (s : State) (p d : Nat) (f : Frame) : State := s.transmit p { f with dst := d }

/-- The device at the other end of a cable. -/
def State.peerOf (s : State) (p : Nat) : Nat := s.devno / 8 * 8 + s.get FAB_PORTCTL_PEERPOS p

/-- An LACK on a TROUPE port (R270): PART 1 asks for a replay and counts in NAK. -/
def State.sendLack (s : State) (p part : Nat) : State :=
  let s := if part = 1 then s.bump FAB_PORTERR_NAK 1 p else s
  s.sendBare p (s.peerOf p) { port := p, typ := tLACK, part := part, ack := (s.fport p).rxSeq }

/-- An EACK to a source: the cumulative SEQ and the bitmap of frames beyond it (R266, R271). -/
def State.sendEack (s : State) (p d : Nat) : State :=
  let x := s.flow d
  let map := (List.range 64).foldl (fun m i => if x.rxMap.contains ((x.rxCum + 1 + i) % 2 ^ 24) then m + 2 ^ i else m) 0
  s.sendBare p d { port := p, typ := tEACK, ack := x.rxCum, payload := leBytes 8 map }

/-- The HELLO of a port that trains (R262, R266). -/
def State.sendHello (s : State) (p : Nat) : State :=
  s.sendBare p (s.peerOf p) { port := p, typ := tHELLO, payload := leBytes 4 (s.raw ⟨.FAB_TOPO, 0, 0⟩).toNat ++ leBytes 4 p }

/-! ## Receiving (R267, R270, R271) -/

/-- A frame is dropped and counted at its port die. -/
def State.rxDrop (s : State) (f : Frame) : State := s.bump FAB_RXDROP_COUNT 1 (f.port / 4)

/-- Does sequence number `a` come before `b`, modulo 2^24? -/
def seqBefore (a b : Nat) : Bool := let d := (b + 2 ^ 24 - a) % 2 ^ 24; decide (0 < d) && decide (d < 2 ^ 23)

/-- Frames acknowledged by `ack` leave a TROUPE sender's replay buffer. -/
def State.troupeAck (s : State) (p ack : Nat) : State :=
  let x := s.fport p
  (s.setFport p { x with unacked := x.unacked.filter fun f => !seqBefore f.seq ack }).pumpTroupe p (x.waiting.length)

/-- A TROUPE sender replays every frame it has not seen acknowledged, in order (R270). -/
def State.replay (s : State) (p : Nat) : State :=
  if (s.fport p).unacked.isEmpty then s
  else (s.fport p).unacked.foldl (fun s f => s.transmit p { f with retx := true, ack := (s.fport p).rxSeq }) (s.bump FAB_PORTERR_REPLAY 1 p)

/-- The checks of R267 that a port makes: a bad FCS or codeword, the header's limits, the check value. A frame may carry one
802.1Q tag, which is ignored (R264). -/
def State.frameGood (s : State) (f : Frame) : State × Bool :=
  let lost (s : State) := if s.isTroupe f.port && f.typ != tHELLO then s.sendLack f.port 1 else s
  if f.fcsBad || f.fecBad then (lost (s.bump FAB_PORTERR_FECUNC 1 f.port), false)
  else if f.etype ≠ s.get FAB_ETYPE_ETYPE ∨ f.ver ≠ 1 ∨ f.typ = 0 ∨ 11 ≤ f.typ ∨ 8192 < f.len ∨ f.dst ≠ s.devno then (lost (s.rxDrop f), false)
  else if frameCheck f ≠ f.crc.toNat ∨ f.len ≠ f.payload.length then
    let (e, s) := s.fresh
    (lost ((s.bump CHK_MISCNT_COUNT 1 (f.port / 4 * 2 + e % 2)).rxDrop f), false)
  else (s, true)

/-- A numbered frame on a TROUPE port is delivered in SEQ order, each once; a gap asks for a replay (R270). -/
def State.inOrder (s : State) (f : Frame) : State × Bool :=
  let s := s.troupeAck f.port f.ack
  let x := s.fport f.port
  if f.seq = x.rxSeq then ((s.setFport f.port { x with rxSeq := (x.rxSeq + 1) % 2 ^ 24 }).sendLack f.port 0, true)
  else if seqBefore f.seq x.rxSeq then (s.sendLack f.port 0, false)
  else (s.sendLack f.port 1, false)

/-- The cumulative SEQ moves past frames received beyond it. -/
def advanceCum (map : List Nat) : Nat → Nat → Nat
  | 0, c => c
  | fuel + 1, c => if map.contains c then advanceCum map fuel ((c + 1) % 2 ^ 24) else c

/-- A numbered frame on a SWITCH port is delivered once, in any order, and acknowledged (R271). -/
def State.onceOnly (s : State) (f : Frame) : State × Bool :=
  let x := s.flow f.src
  if seqBefore f.seq x.rxCum || x.rxMap.contains f.seq || decide (64 < (f.seq + 2 ^ 24 - x.rxCum) % 2 ^ 24) then (s.sendEack f.port f.src, false)
  else
    let map := f.seq :: x.rxMap
    let c := advanceCum map 65 x.rxCum
    let s := s.setFlow f.src { x with rxCum := c, rxMap := map.filter fun q => !seqBefore q c }
    (s.sendEack f.port f.src, true)

/-- A frame of a data type arrives: it is delivered when its port is UP and every check passes; its payload
then counts as accepted (R295). -/
def State.receive (s : State) (f : Frame) : State × Bool :=
  if !s.portUp f.port then (s, false)
  else match s.frameGood f with
    | (s, false) => (s, false)
    | (s, true) =>
      let (s, ok) := if s.isTroupe f.port then s.inOrder f else s.onceOnly f
      (if ok then s.accepts f else s, ok)

/-- A received frame of type `t` is handled by `h`; a frame of another type is another command's. -/
def onFrame (t : Nat) (f : Frame) (s : State) (h : State → State) : Out :=
  onUnit f.port 16 s fun s =>
    if !s.clocked || (f.typ != t && (0 < f.typ && f.typ < 11)) then s
    else match s.receive f with
      | (s, true) => h s
      | (s, false) => s

/-- A received frame outside the numbering; TIME and the acknowledgements need the port UP. -/
def onBare (t : Nat) (f : Frame) (up : Bool) (s : State) (h : State → State) : Out :=
  onUnit f.port 16 s fun s =>
    if !s.clocked || f.typ != t || (up && !s.portUp f.port) then s
    else match s.frameGood f with
      | (s, true) => h (s.accepts f)
      | (s, false) => s

/-- An acknowledgement at a TROUPE sender; PART 1 asks for a replay from ACK onward. -/
def State.onLack (s : State) (f : Frame) : State :=
  let s := s.troupeAck f.port f.ack
  if f.part = 1 then s.replay f.port else s

/-- LACK_RECEIVE (R270). -/
def execLackReceive (f : Frame) (s : State) : Out :=
  onBare tLACK f true s fun s => if s.isTroupe f.port then s.onLack f else s

/-- REPLAY_TIMEOUT (R270): 10 µs without an acknowledgement. -/
def execReplayTimeout (port : Nat) (s : State) : Out :=
  onUnitClock port 16 s fun s => if s.isTroupe port && s.portUp port then s.replay port else s

/-- Frames an EACK names leave the flow to its sender (R271). -/
def State.onEack (s : State) (f : Frame) : State :=
  let x := s.flow f.src
  let map := leVal (f.payload.take 8)
  let got (q : Nat) : Bool := seqBefore q f.ack || (List.range 64).any fun i => map.testBit i && q == (f.ack + 1 + i) % 2 ^ 24
  (s.setFlow f.src { x with unacked := x.unacked.filter fun u => !got u.1.seq }).pumpFlow f.src x.waiting.length

/-- EACK_RECEIVE (R271). -/
def execEackReceive (f : Frame) (s : State) : Out :=
  onBare tEACK f true s fun s => if s.isSwitch f.port then s.onEack f else s

/-- The next UP SWITCH port after `p` in ascending order, around the end. -/
def State.nextPlane (s : State) (p : Nat) : Option Nat :=
  match s.planes.find? fun q => decide (p < q) with
  | some q => some q
  | none => s.planes.head?

/-- A frame is retransmitted on the next UP SWITCH port, or abandoned after eight retransmissions (R271). -/
def State.retransmit (s : State) (d seq : Nat) : State :=
  let x := s.flow d
  match x.unacked.find? fun u => u.1.seq == seq with
  | none => s
  | some (f, n) =>
    if 8 ≤ n ∧ f.typ ≠ tSNAP then
      ((s.setFlow d { x with unacked := x.unacked.filter fun u => u.1.seq != seq }).bump FAB_E2ELOST_COUNT 1 (f.port / 4)).pumpFlow d x.waiting.length
    else
      let p := (s.nextPlane f.port).getD f.port
      let f := { f with port := p, retx := true, ack := x.rxCum }
      let s := s.setFlow d { x with unacked := x.unacked.map fun u => if u.1.seq = seq then (f, n + 1) else u }
      if (s.nextPlane f.port).isSome then s.transmit p f else s

/-- RETX_TIMEOUT (R271): a frame unacknowledged for 50 µs. -/
def execRetxTimeout (dst seq : Nat) (s : State) : Out := onClock s fun s => s.retransmit dst seq

/-! ## Links (R262, R263, R269) -/

/-- A TROUPE port's peer is the device its configuration names (R262). -/
def State.peerRight (s : State) (p dev : Nat) : Bool := s.inTroupe dev && devPos dev == s.get FAB_PORTCTL_PEERPOS p

/-- JOINED (R268, R269): numbers written, the own number inside FAB_TOPO, and the seven cables UP. It stays while the own
number lies inside FAB_TOPO. -/
def State.join (s : State) : State :=
  if !s.devInTopo then s.put FAB_TOPO_JOINED 0
  else if s.fab.devSet && s.fab.topoSet
      && ((List.range 8).all fun k => k == devPos s.devno || (s.cable k).isSome)
      && ((List.range 16).all fun p => !s.isTroupe p || s.portUp p)
  then s.put FAB_TOPO_JOINED 1 else s

/-- A port goes down: LINK_DOWN, retry state reset, unacknowledged frames lost (R263). -/
def State.downPort (s : State) (p : Nat) : State :=
  let s := (((s.put FAB_PORTSTAT_STATE 0 p).put FAB_PORTSTAT_LANES 0 p).put FAB_PORTSTAT_PEERPOS 0 p).put FAB_PORTSTAT_PEERDEV 0 p
  ((s.setFport p {}).bump FAB_PORTERR_DOWNS 1 p).event 7

/-- A port that runs has ROLE TROUPE or SWITCH and EN; in rehearsal mode none runs (R398, R427). -/
def State.portRuns (s : State) (p : Nat) : Bool := !s.flag RST_BOOTSTAT_REH && s.flag FAB_PORTCTL_EN p && (s.isTroupe p || s.isSwitch p)

/-- A port that runs and is down trains; on a cable it sends its HELLO (R262, R263). -/
def State.train (s : State) (p : Nat) : State :=
  if !s.portRuns p then s
  else
    let s := s.put FAB_PORTSTAT_STATE 1 p
    if s.isTroupe p then s.sendHello p else s

/-- The peer's HELLO: its position and device; a wrong peer keeps the port DOWN (R262). -/
def State.onHello (s : State) (f : Frame) : State :=
  let p := f.port
  if !s.isTroupe p || !s.portRuns p || s.portUp p then s
  else
    let s := (s.put FAB_PORTSTAT_PEERPOS (devPos f.src) p).put FAB_PORTSTAT_PEERDEV f.src p
    if s.peerRight p f.src then s.setFport p { s.fport p with peerPort := some (leVal ((f.payload.drop 4).take 4)) }
    else ((s.put FAB_PORTSTAT_STATE 0 p).bump FAB_PORTERR_DOWNS 1 p).event 7

/-- HELLO_RECEIVE (R262). -/
def execHelloReceive (f : Frame) (s : State) : Out := onBare tHELLO f false s fun s => s.onHello f

/-- LANE_LOSS (R263): one lane of four is lost, LINK_DEGRADE; with fewer than three the port goes down. -/
def State.loseLane (s : State) (p lane : Nat) : State :=
  let l := s.get FAB_PORTSTAT_LANES p
  if !s.portUp p || !l.testBit lane then s
  else if s.get FAB_PORTSTAT_STATE p = 2 then ((s.put FAB_PORTSTAT_LANES (l - 2 ^ lane) p).put FAB_PORTSTAT_STATE 3 p).event 7
  else (s.downPort p).train p

/-- LANE_LOSS (R263). -/
def execLaneLoss (port lane : Nat) (s : State) : Out := onUnitClock port 16 s fun s => s.loseLane port lane

/-- LINK_DOWN (R263): the port goes down and retrains by itself. -/
def execLinkDown (port : Nat) (s : State) : Out :=
  onUnitClock port 16 s fun s => if s.portUp port then (s.downPort port).train port else s

/-- What the partner of a port offers (R261). -/
def State.partner (s : State) (p : Nat) : LinkOffer := Tab.get .gaui4 s.partners p

/-- A port reaches UP on four lanes: training has ended with what R261 supports, and on a TROUPE port the right peer's HELLO
has come (R262); a port whose partner offers anything else stays DOWN. -/
def State.linkUp (s : State) (p : Nat) : State :=
  if !s.portRuns p || s.portUp p then s
  else if s.partner p == .other then s.put FAB_PORTSTAT_STATE 0 p
  else if s.isTroupe p && ((s.fport p).peerPort.isNone || !s.peerRight p (s.get FAB_PORTSTAT_PEERDEV p)) then s
  else
    let x := s.fport p
    let s := ((s.put FAB_PORTSTAT_STATE 2 p).put FAB_PORTSTAT_LANES 15 p).setFport p { peerPort := x.peerPort }
    (s.event 7).join

/-- LINK_UP (R261, R262). -/
def execLinkUp (port : Nat) (s : State) : Out := onUnitClock port 16 s fun s => s.linkUp port

/-- A write of FAB_PORTCTL (R262, R295, R345): `old` is the register before it. ROLE 3 is ignored; a port whose
EN, ROLE or PEERPOS changes trains anew or is held down, and its power domain follows. -/
def State.wrPortctl (s : State) (p old v : Nat) : State :=
  let s := if s.get FAB_PORTCTL_ROLE p = 3 then s.put FAB_PORTCTL_ROLE (bits old 29 2) p else s
  let s := if bit v 0 then ((s.clear .FAB_PORTERR p).clear .FAB_PORTTX p).clear .FAB_PORTRX p else s
  let s := s.put ⟨.PWR_DOMSTAT, 12 + p % 4, 1⟩ (b2n (s.flag FAB_PORTCTL_EN p || (s.get FAB_PORTCTL_ROLE p != 0 && bit (s.get PWR_DOMSTAT_ON (8 + p / 4)) (12 + p % 4)))) (8 + p / 4)
  if (s.raw ⟨.FAB_PORTCTL, p, 0⟩).toNat / 2 ^ 26 = old / 2 ^ 26 then s
  else
    ((if s.portUp p then s.downPort p else (s.put FAB_PORTSTAT_STATE 0 p).setFport p {}).train p).join

/-- FAB_PORTCTL_CCLR (R295). -/
def execFabPortctlCclr (port : Nat) (v : W32) (s : State) : Out :=
  let old := (s.raw ⟨.FAB_PORTCTL, port, 0⟩).toNat
  hostSet 16 ⟨.FAB_PORTCTL, port, 0⟩ v.toNat s fun s => s.wrPortctl port old v.toNat

/-! ## System time (R273 to R275, R300) -/

/-- System time slews toward an offset of `d` ns (R273, R275). -/
def State.slewTime (s : State) (d : Int) : State := { s with clk := { s.clk with slew := d * 47000000000 } }

/-- A time lies more than 1 µs from system time. -/
def State.farTime (s : State) (t : Nat) : Bool := decide (s.clk.sys + 1000 < t) || decide (t + 1000 < s.clk.sys)

/-- System time becomes `t` at once; more than 1 µs away this is a step, which the slot grid follows (R300) and the
minute's CLOCKSTEP notes. -/
def State.setTime (s : State) (t : Nat) : State :=
  let far := s.farTime t
  let s := { s with clk := { s.clk with sys := t, slew := 0 } }
  if !far then s
  else
    let s := { s with env := { s.env with acc := { s.env.acc with clockstep := true } } }
    match s.flag RUN_STAT_ACTIVE, s.ro.image with
    | true, some im =>
      let wait := ceilDiv (im.tf * 1000) 64 - (s.clk.el - s.ro.lastEl)
      { s with ro := { s.ro with noneBefore := t + wait } }.setNextAt
    | _, _ => s.setNextAt

/-- System time is corrected by a signed number of nanoseconds, by a step where it is more than 1 µs and else by slewing. -/
def State.moveTime (s : State) (d : Int) : State :=
  let t := ((s.clk.sys : Int) + d).toNat
  if s.farTime t then s.setTime t else s.slewTime d

/-- The device's parent in the time tree (R273). -/
def State.parent (s : State) : Option Nat :=
  let d := s.devno
  if d = 0 then none
  else if devPos d ≠ 0 then some (d - devPos d)
  else if devTroupe d ≠ 0 then some (devOf (devCircuit d) 0 0)
  else some 0

/-- The port a TIME frame to a device takes: the cable, or the lowest UP SWITCH port. -/
def State.timePort (s : State) (d : Nat) : Option Nat := if s.inTroupe d then s.cable (devPos d) else s.planes.head?

/-- A TIME frame with its timestamps so far (log entry 41). -/
def State.sendTime (s : State) (d : Nat) (ts : List Nat) : State :=
  match s.timePort d with
  | none => s
  | some p => s.sendBare p d { port := p, typ := tTIME, payload := ts.flatMap (leBytes 8) ++ List.replicate (32 - 8 * ts.length) 0 }

/-- TIME_EXCHANGE (R273): the device asks its parent for the exchange of this millisecond. -/
def execTimeExchange (s : State) : Out :=
  onClock s fun s => match s.parent with
    | some d => if s.flag FAB_TOPO_JOINED then s.sendTime d [] else s
    | none => s

/-- The four timestamps are complete: the offset is measured and corrected, by slewing up to 1 µs, else by a
step (R273, R300). An offset that does not fit the register's 16 bits leaves a free value there. -/
def State.exchanged (s : State) (t1 t2 t3 t4 : Nat) : State :=
  let off : Int := (((t2 : Int) - t1) - ((t4 : Int) - t3)) / 2
  let (shown, s) := if -32768 ≤ off ∧ off < 32768 then (unsigned 16 off, s) else let (r, s) := s.fresh; (r % 65536, s)
  let s := ((s.put FAB_TIMESTAT_OFFSET shown).put FAB_TIMESTAT_LOCKED 1).put FAB_TIMESTAT_HOLDOVER 0
  let rate := (Config.slewRate off (s.clk.el - s.fab.lastExchange) s.clk.rate).toInt
  { s with fab := { s.fab with lastExchange := s.clk.el }, clk := { s.clk with rate := rate } }.moveTime (-off)

/-- A TIME frame (R273): a request is answered with t1, an answer with t2 and t3, that with t4, and the full
set corrects the child's time. -/
def State.onTime (s : State) (f : Frame) : State :=
  let t (i : Nat) := leVal ((f.payload.drop (8 * i)).take 8)
  let now := s.clk.sys
  if s.parent = some f.src then
    if t 3 ≠ 0 then s.exchanged (t 0) (t 1) (t 2) (t 3)
    else if t 0 ≠ 0 then s.sendTime f.src [t 0, now, now]
    else s
  else if t 2 ≠ 0 then s.sendTime f.src [t 0, t 1, t 2, now]
  else s.sendTime f.src [now]

/-- TIME_FRAME_RECEIVE (R273). -/
def execTimeFrameReceive (f : Frame) (s : State) : Out := onBare tTIME f true s fun s => s.onTime f

/-- HOLDOVER (R274): 10 ms without an exchange on a joined device with a parent. -/
def execHoldover (s : State) : Out :=
  onClock s fun s =>
    if s.flag FAB_TOPO_JOINED && s.parent.isSome && decide (s.fab.lastExchange + 10000000 ≤ s.clk.el) then
      { s.put FAB_TIMESTAT_HOLDOVER 1 with env := { s.env with acc := { s.env.acc with holdover := true } } }
    else s

/-- FAB_TIMESET on the root waits for its PPS edge; elsewhere it is ignored (R275). -/
def State.wrTimeset (s : State) (v : Nat) : State :=
  if s.devno = 0 then { s with fab := { s.fab with timeSet := some (v, s.clk.el) } } else s

/-- FAB_TIMESET_WRITE (R275). -/
def execFabTimesetWrite (ns : W64) (s : State) : Out := hostSet 1 ⟨.FAB_TIMESET, 0, 0⟩ ns.toNat s fun s => s.wrTimeset ns.toNat

/-- The whole second nearest to a time. -/
def nearestSecond (t : Nat) : Nat := (t + 500000000) / 1000000000 * 1000000000

/-- A rising PPS_IN edge on the root (R275): after a time set it steps to the second, else it slews toward the
nearest second by at most 10 µs. -/
def State.ppsEdge (s : State) : State :=
  let s := { s with fab := { s.fab with lastPps := some s.clk.el } }
  if s.devno ≠ 0 then s
  else match s.fab.timeSet with
    | some (v, e) =>
      let t := nearestSecond (v + (s.clk.el - e))
      let s := { s with fab := { s.fab with timeSet := none }, clk := { s.clk with timeKnown := true } }
      s.setTime t
    | none =>
      let d : Int := (nearestSecond s.clk.sys : Int) - s.clk.sys
      let d := if 10000 < d then 10000 else if d < -10000 then -10000 else d
      s.slewTime d

/-- PPS_IN_EDGE (R275). -/
def execPpsInEdge (s : State) : Out := onPower s State.ppsEdge

/-- PPS_OUT (R275, R461): one pulse for each whole second of system time. -/
def execPpsOut (s : State) : Out := onPower s fun s => { s with pins := { s.pins with ppsOut := s.pins.ppsOut + 1 } }

end Sys2Proof.Machine
end

