-- ==== Sys2Proof/Machine/Optimizer.lean ====
section
/-! DEFINITION. Masters, working copies and the optimizer updates of the tollhouses (R41, R245 to R251). -/

namespace Sys2Proof.Machine

/-! ## Demand accesses of a tollhouse (R171, R246, R280) -/

/-- A range is permitted, or the WINDOW fault is recorded. -/
def State.tlhPermits (s : State) (a n : Nat) (write : Bool) : State × Bool :=
  match s.unpermitted a n write with
  | some x => (s.winFault x write, false)
  | none => (s, true)

/-- A tollhouse reads `n` bytes for a command. -/
def State.readFor (s : State) (who : Option Nat) (a n : Nat) : State × Except Nat Bytes :=
  match s.tlhPermits a n false with
  | (s, false) => (s, .error cWINDOW)
  | (s, true) => let (t, bs, e) := s.devReadAll a n; (t.cmdEcc who e, .ok bs)

/-- A tollhouse reads `n` bytes for the milepost. -/
def State.tlhRead (s : State) (a n : Nat) : State × Except Nat Bytes := s.readFor s.fab.mp.cid a n

/-- A tollhouse writes bytes that a window permits; a part discarded as poison is charged to the milepost (R193). -/
def State.tlhPut (s : State) (a : Nat) (bs : Bytes) : State := let (t, e) := s.devWrite a bs; t.cmdEcc s.fab.mp.cid e

/-- A tollhouse writes bytes; answers whether a window permitted it. -/
def State.tlhWrite (s : State) (a : Nat) (bs : Bytes) : State × Bool :=
  match s.tlhPermits a bs.length true with
  | (s, false) => (s, false)
  | (s, true) => (s.tlhPut a bs, true)

/-! ## Shard records (R245, R246) -/

/-- A shard record. -/
structure ShardRec where
  opt : Nat
  wfmt : Nat
  single : Bool
  snapst : Bool
  master : Nat
  state : Nat
  sums : Nat
  wcb : Nat
  wcf : Nat
  pstride : Nat
  count : Nat
  step : Nat
  lr : W32
  wd : W32
  b1 : W32
  b2 : W32
  eps : W32
  gscale : W32
  rowlen : Nat
  job : Nat
  deriving DecidableEq, Repr

/-- The record's fields. -/
def shardRec (bs : Bytes) : ShardRec :=
  let w := recWord bs
  let f (v : Nat) : W32 := BitVec.ofNat 32 v
  { opt := fld (w 0) 63 60, wfmt := fld (w 0) 59 56, single := bit (w 0) 55, snapst := bit (w 0) 54
    master := fld (w 0) 47 0, state := fld (w 1) 47 0, sums := fld (w 2) 47 0, wcb := fld (w 3) 47 0, wcf := fld (w 4) 47 0
    pstride := fld (w 5) 47 0, count := fld (w 6) 63 32, step := fld (w 6) 31 0
    lr := f (fld (w 7) 63 32), wd := f (fld (w 7) 31 0), b1 := f (fld (w 8) 63 32), b2 := f (fld (w 8) 31 0)
    eps := f (fld (w 9) 63 32), gscale := f (fld (w 9) 31 0), rowlen := fld (w 10) 63 48, job := fld (w 10) 47 0 }

/-- A working-copy format code that R245 and R276 allow. -/
def wfmtOk (f : Nat) : Bool := f == 1 || (decide (3 ≤ f) && decide (f ≤ 7))

/-- R246: a reserved value or breached limit, then a misaligned base. -/
def shardRefusal (bs : Bytes) : Option Nat :=
  let w := recWord bs
  let r := shardRec bs
  let reserved := fld (w 0) 53 48 != 0 || ([1, 2, 3, 4, 5].any fun i => fld (w i) 63 48 != 0) || ([11, 12, 13, 14, 15].any fun i => w i != 0)
  let rows := r.opt == 3 && (decide (r.rowlen < 16) || decide (1024 < r.rowlen) || r.count % r.rowlen != 0 || r.sums != 0)
  if reserved || rows || (r.single && r.pstride != 0) || !(r.opt == 1 || r.opt == 2 || r.opt == 3 || r.opt == 4) || !wfmtOk r.wfmt || r.count % 256 != 0 then some cDESC_BAD
  else if [r.master, r.state, r.sums, r.wcb, r.wcf, r.pstride, r.job].any fun a => a % 64 != 0 then some cMISALIGN
  else none

/-- State planes of a record: 4 B values each. -/
def ShardRec.stateLen (r : ShardRec) : Nat :=
  if r.opt = 3 then 4 * (r.count / r.rowlen) else if r.opt = 2 then 8 * r.count else 4 * r.count

/-- The offset of working-copy set k mod 2, or of set 0 under SINGLE (R247). -/
def ShardRec.setOf (r : ShardRec) (k : Nat) : Nat := if r.single then 0 else k % 2 * r.pstride

/-- The storage an update of the record reads and writes, and whether it writes it (R246). -/
def ShardRec.ranges (r : ShardRec) (k : Nat) : List (Nat × Nat × Bool) :=
  [(r.master, 4 * r.count, false), (r.master, 4 * r.count, true), (r.state, r.stateLen, false), (r.state, r.stateLen, true)]
  ++ (if r.opt = 3 then [] else [(r.sums, 4 * r.count, false), (r.sums, 4 * r.count, true)])
  ++ [(r.wcb + r.setOf k, 2 * r.count, true)]
  ++ (if r.wfmt = 1 then [] else [(r.wcf + r.setOf k, halfBytes r.count (fmtHalves r.wfmt), true)])

/-- The first range no window permits is recorded. -/
def State.permitsAll (s : State) : List (Nat × Nat × Bool) → State × Bool
  | [] => (s, true)
  | (a, n, w) :: rest => match s.tlhPermits a n w with
    | (s, false) => (s, false)
    | (s, true) => s.permitsAll rest

/-- TLH_UPDSTAT.CODE records a refused record, and the milepost's command completes with the code (R246). -/
def State.updCode (s : State) (p code : Nat) : State :=
  let s := s.put TLH_UPDSTAT_CODE code p
  match s.fab.mp.cid with
  | some id => s.modCmd id (·.setF code)
  | none => s

/-- Record `i` of tollhouse `p`, read and checked for the update of milepost k before anything of it changes, with every
other range (`more`) that the update touches (R246). -/
def State.record (s : State) (p i k : Nat) (more : List (Nat × Nat × Bool)) : State × Except Nat ShardRec :=
  let s := s.put TLH_UPDSTAT_SHARD i p
  match s.tlhRead (s.get TLH_SHARDBASE_ADDR p + 128 * i) 128 with
  | (s, .error c) => (s, .error c)
  | (s, .ok bs) => match shardRefusal bs with
    | some c => (s, .error c)
    | none => match s.permitsAll ((s.get TLH_SHARDBASE_ADDR p + 128 * i + 48, 4, true) :: (shardRec bs).ranges k ++ more) with
      | (s, true) => (s, .ok (shardRec bs))
      | (s, false) => (s, .error cWINDOW)

/-! ## One element (R249, R250) -/

/-- β^t, within 2 units in the last place: the free value where it lies within them, else the power of a
128-bit evaluation rounded. -/
def dyPow (b : Dy) : Nat → Nat → Dy
  | 0, _ => Dy.one
  | fuel + 1, t => if t = 0 then Dy.one else
    let h := dyPow b fuel (t / 2)
    if t % 2 = 0 then h.mul h else b.mul (h.mul h)

/-- Does FP32 value `c` lie within `k` units in the last place of `x`? -/
def withinUlp (k : Nat) (c : W32) (x : Dy) : Bool :=
  match fval c with
  | .fin neg m e =>
    let d := (Dy.add ⟨if neg then -(m : Int) else m, e⟩ x.neg)
    let l := Nat.log2 x.m.natAbs + x.e - 23
    let u : Int := if x.m = 0 ∨ l < -149 then -149 else l
    (FVal.cmp (.fin false d.m.natAbs d.e) (.fin false k u)) != some .gt
  | _ => false

/-- β^t (R249); of a NaN it is NaN (R21). -/
def betaPow (beta : W32) (t : Nat) : W32 :=
  match fval beta with
  | .nan => f32nan
  | .inf neg => f32 (.inf (neg && t % 2 == 1))
  | .fin neg m e =>
    let x := dyPow ⟨if neg then -(m : Int) else m, e⟩ 64 t
    let c := Config.powValue beta t
    if withinUlp 2 c x then c else f32 x.toF

def f32one : W32 := 0x3F800000

/-- sign(c) as FP32, sign(0) = 0 (R249); of a NaN it is NaN (R21). -/
def signOf (c : W32) : W32 :=
  match fval c with
  | .nan => f32nan
  | .inf neg => if neg then 0xBF800000 else f32one
  | .fin neg m _ => if m = 0 then 0 else if neg then 0xBF800000 else f32one

/-- An element's master and its two state values. -/
structure OptElem where
  w : W32
  m : W32
  v : W32
  deriving DecidableEq, Repr

/-- SGDM. -/
def stepSgdm (r : ShardRec) (x : OptElem) (g : W32) : OptElem :=
  let m := fadd (fadd (fmul r.b1 x.m) g) (fmul r.wd x.w)
  { x with m := m, w := fsub x.w (fmul r.lr m) }

/-- AdamW at t = STEP + 1. -/
def stepAdamw (r : ShardRec) (x : OptElem) (g : W32) : OptElem :=
  let t := r.step + 1
  let m := fadd (fmul r.b1 x.m) (fmul (fsub f32one r.b1) g)
  let v := fadd (fmul r.b2 x.v) (fmul (fsub f32one r.b2) (fmul g g))
  let mh := fdiv m (fsub f32one (betaPow r.b1 t))
  let vh := fdiv v (fsub f32one (betaPow r.b2 t))
  let u := fadd (fdiv mh (fadd (fsqrt vh) r.eps)) (fmul r.wd x.w)
  { m := m, v := v, w := fsub x.w (fmul r.lr u) }

/-- Lion. -/
def stepLion (r : ShardRec) (x : OptElem) (g : W32) : OptElem :=
  let c := fadd (fmul r.b1 x.m) (fmul (fsub f32one r.b1) g)
  { x with w := fsub x.w (fmul r.lr (fadd (signOf c) (fmul r.wd x.w)))
           m := fadd (fmul r.b2 x.m) (fmul (fsub f32one r.b2) g) }

/-- A finite FP32 value. -/
def f32finite (w : W32) : Bool := match fval w with | .fin _ _ _ => true | _ => false

/-- One element under its record's optimizer; a NaN or infinite g leaves it as it is (R250). -/
def optStep (r : ShardRec) (x : OptElem) (g : W32) : OptElem :=
  if !f32finite g then x
  else if r.opt = 1 then stepSgdm r x g
  else if r.opt = 2 then stepAdamw r x g
  else stepLion r x g

/-! ## Runs of elements -/

/-- FP32 values of a byte string. -/
def f32s (bs : Bytes) : List W32 := (List.range (bs.length / 4)).map fun i => BitVec.ofNat 32 (numAt bs (4 * i) 4)
/-- FP32 values as bytes. -/
def f32Bytes (ws : List W32) : Bytes := ws.flatMap fun w => leBytes 4 w.toNat

/-- `n` FP32 values of storage, as demand reads deliver them. -/
def State.readF32 (s : State) (a n : Nat) : State × List W32 :=
  let (t, bs, e) := s.devReadAll a (4 * n)
  (t.cmdEcc s.fab.mp.cid e, f32s bs)

/-- Values written back granule by granule where any element of the granule changed hands. -/
def State.writeBack (s : State) (a : Nat) (ws : List W32) (hit : List Bool) : State :=
  (chunks 16 (ws.length / 16 + 1) (ws.zip hit)).zipIdx.foldl (fun s x =>
    if x.1.any fun y => y.2 then s.tlhPut (a + 64 * x.2) (f32Bytes (x.1.map fun y => y.1)) else s) s

/-- Elements e0 onward of a record are updated with their gradients (R249, R250). -/
def State.updateRun (s : State) (p : Nat) (r : ShardRec) (e0 : Nat) (gs : List W32) : State :=
  let n := gs.length
  let (s, ws) := s.readF32 (r.master + 4 * e0) n
  let (s, ms) := s.readF32 (r.state + 4 * e0) n
  let (s, vs) := if r.opt = 2 then s.readF32 (r.state + 4 * r.count + 4 * e0) n else (s, ms)
  let xs := ((ws.zip (ms.zip vs)).zip gs).map fun y => optStep r { w := y.1.1, m := y.1.2.1, v := y.1.2.2 } y.2
  let hit := gs.map f32finite
  let s := s.writeBack (r.master + 4 * e0) (xs.map fun x => x.w) hit
  let s := s.writeBack (r.state + 4 * e0) (xs.map fun x => x.m) hit
  let s := if r.opt = 2 then s.writeBack (r.state + 4 * r.count + 4 * e0) (xs.map fun x => x.v) hit else s
  s.bump TLH_SKIP_COUNT ((hit.filter fun h => !h).length) p

/-- One draw of a tollhouse's generators. The manual gives 64 of them and not which one an element uses: the
number is free (log entry 42). -/
def State.tlhDraw (s : State) (p : Nat) : State × Nat :=
  let (i, s) := s.fresh
  let (r, l) := lfsrDraw (Tab.get 0 (s.port p).lfsr (i % 64))
  (s.modPort p fun x => { x with lfsr := Tab.set 0 x.lfsr (i % 64) l }, r)

/-- `n` draws. -/
def State.tlhDraws (s : State) (p : Nat) : Nat → State × List Nat
  | 0 => (s, [])
  | n + 1 => let (s, r) := s.tlhDraw p; let (s, rs) := s.tlhDraws p n; (s, r :: rs)

/-- What conversions count in TLH_NUMSAT and TLH_NUMNAN (R45, R469), and in FLAGS of every command that uses the tollhouse: the
milepost's, and a snapshot's of its port die (R305). -/
def State.tlhCount (s : State) (p : Nat) (cs : List Conv) : State :=
  let n (f : Conv → Bool) : Nat := (cs.filter f).length
  let s := ((s.bump TLH_NUMSAT_COUNT (n fun c => c.sat) p).bump TLH_NUMNAN_INF (n fun c => c.inf) p).bump TLH_NUMNAN_NAN (n fun c => c.nan) p
  if cs.all fun c => !(c.sat || c.inf || c.nan) then s
  else { s with ro := { s.ro with cmds := s.ro.cmds.map fun c =>
    if c.op = 3 ∨ (c.op = 4 ∧ c.port = p) then c.setFlag flNUM else c } }

/-- Element codes packed, `h` half bytes each (R27). -/
def packCodes (h : Nat) (cs : List Nat) : Bytes :=
  if h = 1 then (chunks 2 cs.length cs).map fun x => BitVec.ofNat 8 (x.getD 0 0 + 16 * x.getD 1 0)
  else cs.flatMap fun c => leBytes (h / 2) c

/-- The forward copy of some values: scale bytes (MX only) and conversions (R28, R41). -/
def forwardCopy (fmt : Nat) (rds : List Round) (vs : List FVal) : List Nat × List Conv :=
  if isMx fmt then
    let bs := ((chunks 32 (vs.length / 32 + 1) (rds.zip vs)).filter fun b => !b.isEmpty).map fun b => mxBlock fmt (b.map fun y => y.1) (b.map fun y => y.2)
    (bs.map fun b => b.1, bs.flatMap fun b => b.2)
  else ([], List.zipWith (fun rd v => (fmtOf fmt).conv rd true v) rds vs)

/-- Both working copies of elements e0 onward are written from the masters under SR and saturation (R41,
R248); `wcs` is the scale plane of set 0 where there is one (R276). -/
def State.writeCopies (s : State) (p : Nat) (r : ShardRec) (k e0 n : Nat) (wcs : Option Nat) : State :=
  let (s, ws) := s.readF32 (r.master + 4 * e0) n
  let vs := ws.map fval
  let (s, ds) := s.tlhDraws p n
  let bs := List.zipWith (fun d v => bf16.conv (.sr d) true v) ds vs
  let s := (s.tlhPut (r.wcb + r.setOf k + 2 * e0) (packCodes 4 (bs.map fun c => c.code))).tlhCount p bs
  if r.wfmt = 1 then s
  else
    let (s, ds) := s.tlhDraws p n
    let (sc, cs) := forwardCopy r.wfmt (ds.map Round.sr) vs
    let h := fmtHalves r.wfmt
    let s := (s.tlhPut (r.wcf + r.setOf k + halfBytes e0 h) (packCodes h (cs.map fun c => c.code))).tlhCount p cs
    match wcs, isMx r.wfmt with
    | some a, true => s.tlhPut (a + r.setOf k + e0 / 32) (sc.map (BitVec.ofNat 8))
    | _, _ => s

/-- STEP rises by 1 (R249), and the record has had the update of milepost k. -/
def State.stepRecord (s : State) (p i k : Nat) (r : ShardRec) : State :=
  let s := s.tlhPut (s.get TLH_SHARDBASE_ADDR p + 128 * i + 48) (leBytes 4 (r.step + 1))
  { s with fab := { s.fab with mp := { s.fab.mp with applied := Tab.set 0 s.fab.mp.applied (p * 4096 + i) (k + 1) } } }

/-! ## ROWADA (R249, R251) -/

/-- Σ g² in ascending order. -/
def sumSq (gs : List W32) : W32 := gs.foldl (fun a g => fadd a (fmul g g)) 0

/-- One row of a REDUCE: a_r and the row's masters; a NaN or infinite element leaves all of it. -/
def State.rowStep (s : State) (p : Nat) (r : ShardRec) (row : Nat) (sums : List W32) : State :=
  let gs := sums.map fun x => fmul x r.gscale
  let bad := (gs.filter fun g => !f32finite g).length
  if 0 < bad then s.bump TLH_SKIP_COUNT bad p
  else
    let (s, as) := s.readF32 (r.state + 4 * row) 1
    let a := fadd (as.headD 0) (fdiv (sumSq gs) (f32 (FVal.ofInt r.rowlen)))
    let (s, ws) := s.readF32 (r.master + 4 * r.rowlen * row) r.rowlen
    let d := fadd (fsqrt a) r.eps
    let ws := List.zipWith (fun w g => fsub w (fdiv (fmul r.lr g) d)) ws gs
    (s.tlhPut (r.state + 4 * row) (f32Bytes [a])).tlhPut (r.master + 4 * r.rowlen * row) (f32Bytes ws)

/-- The rows of the gather job at JOB; a job whose CODE is not OK updates none and reports its code (R246, R251). Answers
whether the record is updated. -/
def State.rowada (s : State) (p : Nat) (r : ShardRec) : State × Bool :=
  match s.tlhRead r.job 64 with
  | (s, .error c) => (s.updCode p c, false)
  | (s, .ok bs) =>
    let j := jobRec bs
    let code := fld (recWord bs 7) 63 56
    if code ≠ cOK then (s.updCode p code, false)
    else if j.rl ≠ 4 * r.rowlen then (s.updCode p cDESC_BAD, false)
    else match s.tlhRead j.unq (4 * j.ucount), s.unpermitted j.dst (j.ucount * j.rl) false with
      | (s, .error c), _ => (s.updCode p c, false)
      | (s, .ok _), some x => ((s.winFault x false).updCode p cWINDOW, false)
      | (s, .ok us), none =>
        ((u32s us j.ucount).zipIdx.foldl (fun s x =>
          if x.1 < r.count / r.rowlen then
            let (s, sums) := s.readF32 (j.dst + j.rl * x.2) r.rowlen
            s.rowStep p r x.1 sums
          else s) s, true)

end Sys2Proof.Machine
end

