-- ==== Sys2Proof/Machine/Snapshot.lean ====
section
/-! DEFINITION. Snapshots (R256 to R259, R293, R453, R454): the request, the streams of the shards to host
memory or a peer, the manifest, and the receiving peer. -/

namespace Sys2Proof.Machine

/-! ## Writes to host memory (R453, R454) -/

/-- A host byte address lies in an enabled host window. -/
def State.hostAllowed (s : State) (a : Nat) : Bool :=
  (List.range 4).any fun n => s.flag HST_HWINW0_EN 0 n && decide (s.get HST_HWINW0_BASE 0 n ≤ a / 4096) && decide (a / 4096 ≤ s.get HST_HWINW1_LIMIT 0 n)

/-- The pieces of a write from `a`: at most `mps` bytes, none across a 4 KiB boundary. -/
def hostPieces (mps : Nat) : Nat → Nat → Bytes → List (Nat × Bytes)
  | 0, _, _ => []
  | fuel + 1, a, bs =>
    if bs.isEmpty then []
    else
      let n := Nat.min (Nat.max mps 1) (4096 - a % 4096)
      (a, bs.take n) :: hostPieces mps fuel (a + n) (bs.drop n)

/-- One chunk, header or manifest goes to host memory whole, or not at all: HST_DMAFAULT records the first
refused address and its cause. -/
def State.hostSend (s : State) (a : Nat) (bs : Bytes) : State × Bool :=
  match (List.range bs.length).find? fun i => !s.hostAllowed (a + i) with
  | some i => ((s.put HST_DMAFAULT_ADDR ((a + i) / 4)).put HST_DMAFAULT_CAUSE 1, false)
  | none =>
    if !s.host.bme then ((s.put HST_DMAFAULT_ADDR (a / 4)).put HST_DMAFAULT_CAUSE 2, false)
    else
      let ws := (hostPieces s.host.mps (bs.length + 1) a bs).map fun x => { addr := x.1, data := x.2, noSnoop := s.flag HST_DMACTL_NS : HostWrite }
      ({ s with host := { s.host with writes := s.host.writes ++ ws } }, true)

/-! ## Streams -/

def chunkBytes : Nat := 0x100000

/-- State bytes that a snapshot of the record ships (R258). -/
def ShardRec.shipped (r : ShardRec) : Nat := 4 * r.count + (if r.snapst then r.stateLen else 0)

/-- Bytes of a record's stream: header, chunks and check values. -/
def ShardRec.streamLen (r : ShardRec) : Nat := 64 + r.shipped + 8 * ceilDiv r.shipped chunkBytes

/-- The 64 B header of a shard's stream (R258). -/
def State.snapHeader (s : State) (r : ShardRec) (i milepost : Nat) : Bytes :=
  let h := wordsBytes [0x53504E31 * 2 ^ 32 + r.opt * 2 ^ 28 + b2n r.snapst * 2 ^ 27 + s.devno * 2 ^ 12 + i,
    milepost * 2 ^ 32 + r.step, r.count * 2 ^ 32 + ceilDiv r.shipped chunkBytes, 0, 0, 0, 0]
  h ++ leBytes 8 (crc64 h)

/-- A snapshot's code is set; the first stays. -/
def Snap.fail (x : Snap) (c : Nat) : Snap := match x.code with | some _ => x | none => { x with code := some c }

/-- Stream bytes travel as SNAP frames of up to 8,184 B, each with its own destination address (R266, R293). -/
def State.snapFrames (s : State) (peer : Nat) : Nat → Nat → Bytes → State
  | 0, _, _ => s
  | fuel + 1, a, bs =>
    if bs.isEmpty then s
    else (s.sendTo peer { port := 0, typ := tSNAP, payload := leBytes 8 a ++ bs.take 8184 }).snapFrames peer fuel (a + 8184) (bs.drop 8184)

/-- One piece of a stream is sent. -/
def State.snapSend (s : State) (x : Snap) (a : Nat) (bs : Bytes) : State × Snap :=
  if x.code.isSome then (s, x)
  else if x.dest1 then (s.snapFrames x.peer (bs.length / 8184 + 1) a bs, x)
  else match s.hostSend a bs with
    | (s, true) => (s, x)
    | (s, false) => (s, x.fail cWINDOW)

/-- The chunks of a shard's data, each followed by its CRC-64 (R258). -/
def State.snapChunks (s : State) (x : Snap) : Nat → Nat → Bytes → State × Snap
  | 0, _, _ => (s, x)
  | fuel + 1, a, bs =>
    if bs.isEmpty then (s, x)
    else
      let c := bs.take chunkBytes
      let (s, x) := s.snapSend x a (c ++ leBytes 8 (crc64 c))
      s.snapChunks x fuel (a + c.length + 8) (bs.drop chunkBytes)

/-- The manifest entry of a shard (R259). -/
def manifestEntry (r : ShardRec) (i ofs len : Nat) (digest : Bytes) : Bytes :=
  wordsBytes [r.opt * 2 ^ 28 + b2n r.snapst * 2 ^ 27 + i, ofs, len] ++ digest ++ wordsBytes [0]

/-- The next record of a snapshot is streamed (R257, R258). -/
def State.streamNext (s : State) (p : Nat) : State :=
  match (s.port p).snap with
  | none => s
  | some x =>
    if x.code.isSome ∨ x.first + x.nshard ≤ x.next then s
    else
      let set (s : State) (x : Snap) := s.modPort p fun q => { q with snap := some x }
      let read (s : State) := s.readFor (some x.cid)
      match read s (s.get TLH_SHARDBASE_ADDR p + 128 * x.next) 128 with
      | (s, .error c) => set (s.put TLH_UPDSTAT_CODE c p) (x.fail c)
      | (s, .ok bs) => match shardRefusal bs with
        | some c => set (s.put TLH_UPDSTAT_CODE c p) (x.fail c)
        | none =>
          let r := shardRec bs
          let fail (s : State) (c : Nat) := set (s.put TLH_UPDSTAT_CODE c p) (x.fail c)
          match read s r.master (4 * r.count) with
          | (s, .error c) => fail s c
          | (s, .ok ms) => match (if r.snapst then read s r.state r.stateLen else (s, .ok [])) with
          | (s, .error c) => fail s c
          | (s, .ok st) =>
            let h := s.snapHeader r x.next x.milepost
            let data := ms ++ st
            let stream := h ++ (chunks chunkBytes (data.length + 1) data).flatMap fun c => c ++ leBytes 8 (crc64 c)
            let (s, y) := s.snapSend x x.addr h
            let (s, y) := s.snapChunks y (data.length + 1) (x.addr + 64) data
            let e := manifestEntry r x.next (x.addr - x.daddr) r.streamLen (sha3 stream)
            set s { y with next := x.next + 1, addr := x.addr + r.streamLen, entries := if y.manifest then y.entries ++ e else [] }

/-- The update of the next milepost to a record waits until its stream has been read (R257): everything up to
it is streamed now, and the wait is counted. -/
def State.snapHold (s : State) (p i : Nat) : State :=
  match (s.port p).snap with
  | none => s
  | some x =>
    if x.code.isSome ∨ i < x.next ∨ x.first + x.nshard ≤ i ∨ Tab.get 0 s.fab.mp.applied (p * 4096 + i) ≤ x.milepost then s
    else (List.range (i + 1 - x.next)).foldl (fun s _ => s.streamNext p) (s.bump TLH_SNAPHOLD_COUNT 1 p)

/-! ## The command (R256, R308) -/

/-- A snapshot command's request record is checked, and streaming begins. -/
def State.snapStart (s : State) (id : Nat) : State :=
  match s.cmd id with
  | none => s
  | some c =>
    let p := c.port
    if c.op ≠ 4 ∨ c.phase ≠ .starting ∨ (s.port p).snap.isSome = true ∨ s.mayStart = false then s
    else if c.arg % 64 ≠ 0 then s.refuseCmd id cMISALIGN
    else match s.readFor (some id) c.arg 64 with
      | (s, .error e) => s.refuseCmd id e
      | (s, .ok bs) =>
        let w := recWord bs
        let n := fld (w 2) 44 32
        let first := fld (w 2) 11 0
        let reserved := fld (w 0) 61 44 != 0 || fld (w 2) 63 45 != 0 || fld (w 2) 31 12 != 0 || ([4, 5, 6, 7].any fun i => w i != 0)
        let dest1 := bit (w 0) 63
        let man := bit (w 0) 62
        if reserved ∨ n = 0 ∨ 4096 < n ∨ s.get TLH_SHARDCNT_COUNT p < first + n then s.refuseCmd id cDESC_BAD
        else if (dest1 = false ∧ w 1 % 4096 ≠ 0) ∨ (man = true ∧ w 3 % 4096 ≠ 0) then s.refuseCmd id cMISALIGN
        else
          let x : Snap := { cid := id, dest1 := dest1, peer := fld (w 0) 43 32, manifest := man, milepost := fld (w 0) 31 0, daddr := w 1, first := first, nshard := n, maddr := w 3, next := first, addr := w 1 }
          let s := (s.modPort p fun q => { q with snap := some x }).put TLH_UPDSTAT_SNAP 1 p
          s.modCmd id fun y => { y with phase := .running }

/-- SNAPSHOT_COMMAND (R256). -/
def execSnapshotCommand (cid : Nat) (s : State) : Out := onClock s fun s => s.snapStart cid

/-- The manifest (R259): header, entries, the identity key's signature over their digest, zeros. -/
def State.manifestBytes (s : State) (x : Snap) : Bytes :=
  let body := wordsBytes [0x4D4E4631 * 2 ^ 32 + x.nshard % 65536 * 2 ^ 16 + s.devno, x.milepost * 2 ^ 32, 0, 0, 0, 0, 0, 0] ++ x.entries
  let sig := ((Config.identitySign (sha3 body)).take 4627)
  body ++ sig ++ List.replicate (4672 - sig.length) 0

/-- The update of the snapshot's milepost has been applied to every record it still has to stream (R257). -/
def State.snapDue (s : State) (p : Nat) (x : Snap) : Bool :=
  (List.range x.nshard).all fun i => decide (x.first + i < x.next) || decide (x.milepost < Tab.get 0 s.fab.mp.applied (p * 4096 + x.first + i))

/-- A snapshot's last records are streamed, its manifest is sent, and the command completes (R259, R454). -/
def State.snapComplete (s : State) (id : Nat) : State :=
  match s.cmd id with
  | none => s
  | some c =>
    let p := c.port
    match (s.port p).snap with
    | none => s
    | some x =>
      if x.cid ≠ id ∨ (x.code = none ∧ s.snapDue p x = false) then s
      else
        let s := (List.range (x.first + x.nshard - x.next)).foldl (fun s _ => s.streamNext p) s
        let x := ((s.port p).snap).getD x
        let (s, x) := if x.manifest && x.code.isNone then
            (match s.hostSend x.maddr (s.manifestBytes x) with
            | (s, true) => (s, x)
            | (s, false) => (s, x.fail cWINDOW))
          else (s, x)
        let s := (s.modPort p fun q => { q with snap := none }).put TLH_UPDSTAT_SNAP 0 p
        (match x.code with
        | some e => s.modCmd id (·.setF e)
        | none => s).endCmd id

/-- SNAPSHOT_COMPLETE (R454). -/
def execSnapshotComplete (cid : Nat) (s : State) : Out := onClock s fun s => s.snapComplete cid

/-! ## The receiving peer (R258, R293) -/

/-- All of `n` bytes at `a` have been received. -/
def Milepost.hasAll (m : Milepost) (a n : Nat) : Bool :=
  (List.range n).all fun i => m.snapHave.any fun r => decide (r.1 ≤ a + i) && decide (a + i < r.1 + r.2)

/-- The data lengths that a header of R258 allows: one, but for a ROWADA shard's state, which is as long as its rows are
many; its row length is a multiple of 16 that the header does not give (R245). -/
def headerLens (opt : Nat) (snapst : Bool) (count chunks : Nat) : List Nat :=
  if snapst && opt == 3 then
    ((((List.range 64).map fun i => 16 * (i + 1)).filter fun r => count % r == 0).map fun r => 4 * count + 4 * (count / r)).dedup.filter
      fun l => ceilDiv l chunkBytes == chunks
  else [4 * count * (if snapst then (if opt = 2 then 3 else 2) else 1)]

/-- A header of R258 received at `a`: the data lengths it allows, and its chunks. -/
def Milepost.headerAt (m : Milepost) (a : Nat) : Option (List Nat × Nat) :=
  if m.snapRx.num (a + 4) 4 ≠ 0x53504E31 ∨ m.hasAll a 64 = false then none
  else if crc64 (m.snapRx.readN a 56) ≠ m.snapRx.num (a + 56) 8 then none
  else
    let w0 := m.snapRx.num a 4
    let count := m.snapRx.num (a + 20) 4
    let n := m.snapRx.num (a + 16) 4
    some (headerLens (fld w0 31 28) (bit w0 27) count n, n)

/-- The bytes at `a` have all been received and are followed by their CRC-64. -/
def Milepost.checks (m : Milepost) (a n : Nat) : Bool := m.hasAll a (n + 8) && crc64 (m.snapRx.readN a n) == m.snapRx.num (a + n) 8

/-- The chunks of a header at `a`: first byte and length of data, the check value following. Where the header allows several
lengths, the last chunk is known once one of them has arrived whole with a check value that fits (log entry 98). -/
def Milepost.chunksOf (m : Milepost) (a : Nat) (lens : List Nat) (n : Nat) : List (Nat × Nat) :=
  let at_ (i : Nat) : Nat := a + 64 + i * (chunkBytes + 8)
  let len := match lens with
    | [l] => some l
    | _ => lens.find? fun l => m.checks (at_ (n - 1)) (l - (n - 1) * chunkBytes)
  (List.range n).filterMap fun i => match len with
    | some l => if i * chunkBytes < l then some (at_ i, Nat.min chunkBytes (l - i * chunkBytes)) else none
    | none => if i + 1 < n then some (at_ i, chunkBytes) else none

/-- The headers among the bytes received near a new frame, and earlier ones. -/
def Milepost.headers (m : Milepost) : List Nat :=
  m.snapHave.flatMap fun r => (List.range (r.2 / 8 + 8)).filterMap fun i =>
    let a := r.1 + 8 * i
    if 56 ≤ a ∧ (m.headerAt (a - 56)).isSome = true then some (a - 56) else if (m.headerAt a).isSome then some a else none

/-- Every chunk of the streams received so far. -/
def Milepost.chunks (m : Milepost) : List (Nat × Nat) :=
  (m.headers.dedup.flatMap fun a => match m.headerAt a with | some (l, n) => m.chunksOf a l n | none => [])

/-- A chunk whose bytes have all arrived is checked once (R211, R258). -/
def State.checkChunk (s : State) (die : Nat) (c : Nat × Nat) : State :=
  let m := s.fab.mp
  if m.snapChecked.contains c.1 || !m.hasAll c.1 (c.2 + 8) then s
  else
    let s := { s with fab := { s.fab with mp := { m with snapChecked := c.1 :: m.snapChecked } } }
    if m.checks c.1 c.2 then s
    else
      let (e, s) := s.fresh
      s.bump CHK_MISCNT_COUNT 1 (die * 2 + e % 2)

/-- Runs of bytes that are no check value. -/
def dataRuns (skip : Nat → Bool) : Nat → Bytes → Nat → Bytes → List (Nat × Bytes)
  | _, [], _, [] => []
  | st, run, _, [] => [(st, run)]
  | st, run, a, b :: bs =>
    if skip a then (if run.isEmpty then [] else [(st, run)]) ++ dataRuns skip (a + 1) [] (a + 1) bs
    else dataRuns skip st (run ++ [b]) (a + 1) bs

/-- A byte lies in one of some ranges. -/
def inRanges (rs : List (Nat × Nat)) (x : Nat) : Bool := rs.any fun r => decide (r.1 ≤ x) && decide (x < r.1 + r.2)

/-- Received bytes of which the headers tell what they are: those of headers and chunks are written, check values are not
(R211, R258, R293). -/
def State.deliverSnap (s : State) (cs : List (Nat × Nat)) : State :=
  let m := s.fab.mp
  let crcs := cs.map fun c => (c.1 + c.2, 8)
  let known := inRanges (m.headers.dedup.map (fun a => (a, 64)) ++ cs ++ crcs)
  let go (w : Nat × Bytes) : Bool := (List.range w.2.length).all fun i => known (w.1 + i)
  let s := { s with fab := { s.fab with mp := { m with snapWait := m.snapWait.filter fun w => !go w } } }
  (m.snapWait.filter go).foldl (fun s w =>
    (dataRuns (inRanges crcs) w.1 [] w.1 w.2).foldl (fun (s : State) r => (s.devWrite r.1 r.2).1) s) s

/-- SNAP bytes arrive (R293): not permitted, they are dropped and counted; else they are written, but for check values, once
the stream's header tells which of them are data, and complete chunks are checked. Bytes that come again begin another
snapshot. -/
def State.onSnap (s : State) (f : Frame) : State :=
  let a := leVal (f.payload.take 8)
  let bs := f.payload.drop 8
  match s.tlhPermits a bs.length true with
  | (s, false) => s.rxDrop f
  | (s, true) =>
    let m := s.fab.mp
    let again := m.snapHave.any fun r => decide (r.1 < a + bs.length) && decide (a < r.1 + r.2)
    let m := if again then { m with snapHave := [], snapRx := [], snapChecked := [], snapWait := [] } else m
    let m := { m with snapHave := (a, bs.length) :: m.snapHave, snapRx := m.snapRx.writeN a bs, snapWait := m.snapWait ++ [(a, bs)] }
    let cs := m.chunks
    cs.foldl (fun s c => s.checkChunk (f.port / 4) c) ({ s with fab := { s.fab with mp := m } }.deliverSnap cs)

/-- SNAP_RECEIVE (R293). -/
def execSnapReceive (f : Frame) (s : State) : Out := onFrame tSNAP f s fun s => s.onSnap f

end Sys2Proof.Machine
end

