-- ==== Sys2Proof/Machine/Preempt.lean ====
section
/-! DEFINITION. The units a command needs and who holds them (R309), pre-emption of best-effort commands
(R317), and the creation and resumption of commands (R309 to R313). -/

namespace Sys2Proof.Machine

/-- The units of a command (R309): logical bay b is b, the gather engine of Pp 64 + p, its tollhouse 68 + p. -/
def Cmd.units (c : Cmd) : List Nat :=
  if c.op = 1 then laneBays c.mask
  else if c.op = 2 then [64 + c.port]
  else if c.op = 3 then [68, 69, 70, 71]
  else [68 + c.port]

/-- A command holds a unit from its creation until it ends, is requeued or parks (R311, R317). -/
def Cmd.holds (c : Cmd) (u : Nat) : Bool := c.phase != .parked && c.units.contains u

/-- The unit is held by an LC command, or as one would hold it: by a running curtain (R151) or by a swap's F0 (R358). -/
def State.heldLc (s : State) (u : Nat) : Bool :=
  (s.ro.cmds.any fun c => !c.be && c.holds u)
  || (decide (u < 64) && (s.covers (s.phys u) || (s.die (u / 8)).swap.any fun w => w.inF0 && w.lbay == u))

/-- The BE RUN commands that hold any of some units. -/
def State.beHolders (s : State) (us : List Nat) : List Cmd :=
  s.ro.cmds.filter fun c => c.be && c.op == 1 && us.any c.holds

/-- A BE command that holds an engine or tollhouses holds the unit; it is never stopped (R313, R402). -/
def State.heldEngine (s : State) (u : Nat) : Bool := s.ro.cmds.any fun c => c.be && c.op != 1 && c.holds u

/-- Whether a command may start at a boundary: some unit is held as by an LC command, some unit is not free, or
it may once the BE commands listed have been stopped. -/
inductive Avail where
  | lc | no
  | go (stops : List Nat)
  deriving DecidableEq, Repr

/-- The conditions of R309 on units `us` in an LC or BE slot; `taken` are the units of commands started earlier at
this boundary. -/
def State.avail (s : State) (lcSlot : Bool) (taken us : List Nat) : Avail :=
  if us.any fun u => !taken.contains u && (s.heldLc u || (lcSlot && s.heldEngine u)) then .lc
  else if us.any taken.contains then .no
  else
    let hs := s.beHolders us
    if lcSlot then .go (hs.map fun c => c.id)
    else if us.any s.heldEngine || hs.any (fun c => !c.overbud) || us.any (fun u => decide (u < 64) && (s.bay (s.phys u)).check) then .no
    else .go (hs.map fun c => c.id)

/-- Every part the lane runs can take a LIVE save (R317): STAGE 0b01, and EXIT_GAP is not 0 (R99). -/
def State.liveSavable (s : State) (mask : W64) : Bool :=
  (laneBays mask).all fun lb => let r := (s.bay (s.phys lb)).part; r.stage == 1 && r.exitGap != 0

/-- A BE RUN command is stopped on every bay of its lane (R317): one that has not left LOAD is requeued at once,
else the image's SAVE decides between POINTERS and LIVE. -/
def State.preempt (s : State) (id : Nat) : State :=
  match s.cmd id with
  | none => s
  | some c => match c.phase with
    | .starting => if c.resume then s.repark id else s.requeueCmd id
    | .loading => s.requeueCmd id
    | .running =>
      if s.ro.image.any fun i => i.live then
        let s := s.modCmd id fun x => { x with phase := .stopping, liveStop := true }
        if s.liveSavable c.mask then s.stopLane c.mask .live else s.fallBack id
      else (s.modCmd id fun x => { x with phase := .stopping, liveStop := false }).stopLane c.mask .pointers
    | _ => s

/-- BE commands are stopped, and margin checks on the units abandoned (R317, R350). -/
def State.clearUnits (s : State) (us ids : List Nat) : State :=
  us.foldl (fun s u => if u < 64 then s.dropCheck (s.phys u) else s) (ids.foldl State.preempt s)

/-- The slot a boundary serves: its entry, act and number. -/
structure SlotAt where
  e : SlotEntry
  act : Nat
  slot : Nat
  deriving DecidableEq, Repr

/-- A command takes budget, slack, overrun policy and CURT of the slot that starts it (R309). -/
def SlotAt.give (x : SlotAt) (el : Nat) (c : Cmd) : Cmd :=
  { c with slack := x.e.slack, ovr := x.e.ovr, curt := x.e.curt, budget := x.e.budget, act := x.act, slot := x.slot, born := el, start := el, overbud := false, noted := false }

/-- The units of a command are free now: a RUN's bays are idle; others start only when free. -/
def State.readyNow (s : State) (c : Cmd) : Bool := c.op != 1 || s.laneFree c

/-- A created or resumed command starts: at this boundary when its units are free, else when they come to rest. -/
def State.noteIfReady (s : State) (id : Nat) : State :=
  match s.cmd id with
  | some c => if s.readyNow c then s.noteStart id else s
  | none => s

/-- A fresh command is created (R309, R310, R312). -/
def State.createCmd (s : State) (x : SlotAt) (c : Cmd) : State :=
  let id := s.ro.nextId
  let c := x.give s.clk.el { c with id := id }
  { s with ro := { s.ro with cmds := s.ro.cmds ++ [c], nextId := id + 1 } }.noteIfReady id

/-- A parked command resumes under a slot (R100, R310, R312, R317). -/
def State.resumeCmd (s : State) (x : SlotAt) (id : Nat) : State :=
  (s.modCmd id fun c => { x.give s.clk.el c with phase := .starting, resume := true, liveStop := false }).noteIfReady id

end Sys2Proof.Machine
end

