-- ==== Sys2Proof/Machine/Understudy.lean ====
section
/-! DEFINITION. Margin checks and their repairs (R350 to R352), bay swaps (R355 to R360), causeway wires (R353),
regulator phases (R354) and the management controllers (R362). -/

namespace Sys2Proof.Machine

/-! ## Margin checks -/

/-- UST_MARGIN records a margin of physical bay `p` (R351). -/
def State.recordMargin (s : State) (p margin : Nat) : State :=
  let s := s.put UST_MARGIN_LAST margin 0 p
  let s := if margin < s.get UST_MARGIN_MIN 0 p then s.put UST_MARGIN_MIN margin 0 p else s
  if margin < s.get UST_CFG_MARGIN then s.bump UST_MARGIN_LOWRUN 1 0 p else s.put UST_MARGIN_LOWRUN 0 0 p

/-- Words of a bay are copied into a spare: uncorrectable ones as 0xFFFF, and none keeps an error (R352). -/
def Bay.repairWords (b : Bay) (sel : Nat → Bool) : Bay :=
  { b with
    wings := (b.wingsErr.filter fun e => sel e.1 && e.2 == .uncorr).foldl
      (fun (m : Memory) e => m.writeN (2 * e.1) [0xFF, 0xFF]) b.wings
    wingsErr := b.wingsErr.filter fun e => !sel e.1 }

/-- A wings row is replaced by a spare row (R352). -/
def State.repairRow (s : State) (p r : Nat) : State :=
  let s := s.modBay p fun b => { b.repairWords (fun w => wingsRow w == r) with rowFix := b.rowFix.filter fun x => x != r }
  { s.bump UST_SRAM_ROWS with nv := { s.nv with spareRows := Tab.mod 0 s.nv.spareRows (384 * p + r / 32768) (· + 1) } }

/-- A wings bank is replaced by a spare bank of its block while one is left; with none left the bay is a swap candidate
(R349, R352, R355). The last of a pool asks for service (R366). -/
def State.repairBank (s : State) (p k : Nat) : State :=
  if 8 ≤ Tab.get 0 s.nv.spareBanks (3 * p + k / 128) then s.bayTrigger p
  else
    let s := s.modBay p fun b => { b.repairWords (fun w => wingsBank w == k) with
      bankFix := b.bankFix.filter (fun x => x != k), rowFix := b.rowFix.filter fun x => x / 32768 != k }
    { s.bump UST_SRAM_WBANK with nv := { s.nv with
        spareBanks := Tab.mod 0 s.nv.spareBanks (3 * p + k / 128) (· + 1), spareRows := Tab.set 0 s.nv.spareRows (384 * p + k) 0 } }.poolCheck

/-- The repairs that wait for a bay's next check (R352). -/
def State.repairs (s : State) (p : Nat) : State :=
  let s := (s.bay p).bankFix.foldl (fun s k => s.repairBank p k) s
  (s.bay p).rowFix.foldl (fun s r => s.repairRow p r) s

/-- A margin check ends: the margin is recorded, repairs are made, and a second low margin in a row makes the
bay a swap candidate (R350, R351, R352, R355). -/
def State.checkDone (s : State) (lb margin : Nat) : State :=
  let p := s.phys lb
  if !(s.bay p).check then s
  else
    let s := ((s.modBay p fun b => { b with check := false }).recordMargin p margin).repairs p
    if margin < s.get UST_CFG_MARGIN ∧ s.get UST_MARGIN_LOWRUN 0 p = 2 then s.swapCandidate lb else s

/-- MARGIN_CHECK_DONE (R351). -/
def execMarginCheckDone (lb margin : Nat) (s : State) : Out := onBay lb s fun _ => s.checkDone lb margin

/-! ## Swaps -/

/-- UST_SWAP.GO requests a swap of LBAY (R355, R356, R357). -/
def State.wrUstSwap (s : State) (v : Nat) : State :=
  if bit v 31 then
    let lb := s.get UST_SWAP_LBAY
    let s := s.requestSwap lb
    if (s.die (lb / 8)).swap.isNone then s.service else s
  else s

/-- UST_SWAP_GO (R355). -/
def execUstSwapGo (v : W32) (s : State) : Out := hostSet 1 ⟨.UST_SWAP, 0, 0⟩ v.toNat s fun s => s.wrUstSwap v.toNat

/-- A physical bay's state in UST_BAYST (R366). -/
def State.setBayst (s : State) (d b st : Nat) : State :=
  s.put UST_BAYST_STATE (putBits (s.get UST_BAYST_STATE 0 d) (2 * b) 2 st) 0 d

/-- A die has no understudy left: its pool is used up (R366). -/
def State.spareGone (s : State) (d : Nat) : State :=
  (s.put UST_STAT_SPARE (putBits (s.get UST_STAT_SPARE) d 1 0)).service

/-- F0 of a die's swap begins, at a frame start of number `n` or at once with no running order active: no milepost is
open, no shed is in force and, at a frame start, no LC command holds the bay; BE work on the bay is stopped, and the
frame is lost (R358, R364). -/
def State.f0Begin (s : State) (d n : Nat) : State :=
  match (s.die d).swap with
  | none => s
  | some w =>
    if !w.checked || w.inF0 || s.flag FAB_MPSTAT_OPEN || s.shed || (s.flag RUN_STAT_ACTIVE && s.heldLc w.lbay) then s
    else
      let s := (s.modDie d fun x => { x with swap := some { w with inF0 := true, f0 := n } }).put UST_SWAP_STATE 3
      let s := if s.flag RUN_STAT_ACTIVE then s.markLost else s
      s.clearUnits [w.lbay] ((s.beHolders [w.lbay]).map fun c => c.id)

/-- With no running order active the swaps that wait for their frame begin as soon as nothing holds them off (R358). -/
def State.f0Waiting (s : State) : State :=
  if s.flag RUN_STAT_ACTIVE || s.frozen.isSome then s else (List.range 8).foldl (fun s d => s.f0Begin d 0) s

/-- The powered understudy's own check ends (R358 step 1): below the threshold it is RETIRED and the swap is
refused, leaving a candidate without an understudy (R357); else the swap waits for its frame. -/
def State.understudyDone (s : State) (d margin : Nat) : State :=
  match (s.die d).swap, s.understudyOf d with
  | some w, some b =>
    if w.checked then s
    else
      let s := s.recordMargin (9 * d + b) margin
      if margin < s.get UST_CFG_MARGIN then
        let s := (((s.setBayst d b 2).setDomain d b false).spareGone d).modDie d fun x => { x with swap := none }
        ((s.put UST_SWAP_STATE 5).event 5).service
      else ((s.modDie d fun x => { x with swap := some { w with checked := true } }).put UST_SWAP_STATE 2).f0Waiting
  | _, _ => s

/-- UNDERSTUDY_CHECK_DONE (R358). -/
def execUnderstudyCheckDone (d margin : Nat) (s : State) : Out := onUnitClock d 8 s fun s => s.understudyDone d margin

/-- What the understudy takes over (R359): the wings, uncorrectable words as 0xFFFF, and the held resident set.
Its generators' values are not stated: free values; a reload that waits goes with the logical bay (R37). -/
def Bay.copyFor (b : Bay) (free : Nat) : Bay :=
  { wings := (b.repairWords fun _ => true).wings
    held := b.held
    reseed := b.reseed
    lfsr := (List.range 129).map fun i => (i, Config.freeValue (free + i)) }

/-- The logical bay's contents are copied into the understudy (R359). -/
def State.copyBay (s : State) (p q : Nat) : State :=
  let s := { s.setBay q ((s.bay p).copyFor s.free) with free := s.free + 129 }
  (s.setRaw ⟨.CUE_TOKEN, q, 0⟩ (s.raw ⟨.CUE_TOKEN, p, 0⟩)).setRaw ⟨.CUE_RESSTAT, q, 0⟩ (s.raw ⟨.CUE_RESSTAT, p, 0⟩)

/-- The event log's entry of UNDERSTUDY_IN, whose KIND and DETAIL the manual does not state (log entry 50), and event UNDERSTUDY. -/
def State.understudyIn (s : State) : State :=
  let (k, s) := s.fresh
  let (d, s) := s.fresh
  (s.evlog (k % 16) cUNDERSTUDY_IN (d % 2 ^ 32)).event 5

/-- Logical bay `lb` names understudy `b` of its die; the old physical bay is off and RETIRED, its contents gone. -/
def State.replaceBay (s : State) (lb b : Nat) : State :=
  let d := lb / 8
  let old := s.phys lb
  let s := s.put UST_MAP_PHYS (putBits (s.get UST_MAP_PHYS 0 d) (4 * (lb % 8)) 4 b) 0 d
  let s := (((s.setBayst d (old % 9) 2).setBayst d b 0).setDomain d (old % 9) false).spareGone d
  (((s.setBay old {}).setEng old {}).bump UST_LOSTEV_SWAPS).understudyIn

/-- The understudy map switches (R358 step 5). -/
def State.mapSwitch (s : State) (d : Nat) : State :=
  match (s.die d).swap, s.understudyOf d with
  | some w, some b => ((s.modDie d fun x => { x with swap := none }).put UST_SWAP_STATE 0).replaceBay w.lbay b
  | _, _ => s

/-- A bay at rest under no command, curtain or check. -/
def State.bayAtRest (s : State) (p : Nat) : Bool :=
  let st := s.get CUE_SEQSTAT_STATE p
  (st == 1 || st == 6) && (s.bay p).cid.isNone && !(s.bay p).check && !s.covers p

/-- The copy completes (R358 step 4, R359); the map switches at the end of the frame it completes in, which is F0 but
for a copy that a tableau made begin anew (R360). -/
def State.copyDone (s : State) (d : Nat) : State :=
  match (s.die d).swap, s.understudyOf d with
  | some w, some b =>
    if w.inF0 && !w.copied && s.bayAtRest (s.phys w.lbay) then
      let s := s.copyBay (s.phys w.lbay) (9 * d + b)
      let s := (s.modDie d fun x => { x with swap := some { w with copied := true, f0 := s.ro.frame } }).put UST_SWAP_STATE 4
      if s.flag RUN_STAT_ACTIVE then s else s.mapSwitch d
    else s
  | _, _ => s

/-- SWAP_COPY_DONE (R359). -/
def execSwapCopyDone (d : Nat) (s : State) : Out := onUnitClock d 8 s fun s => s.copyDone d

/-! ## Causeways, regulators, controllers -/

/-- A wire of a group has caused 16 retries within one second (R353): a spare wire takes over; the third failure
halves the group. -/
def State.wireFail (s : State) (key : Nat) : State :=
  let n := Tab.get 0 s.nv.wires key
  let t := { s with nv := { s.nv with wires := Tab.set 0 s.nv.wires key (n + 1) } }
  if n < 2 then t.bump UST_CWY_WIRES
  else if n = 2 then (t.put UST_CWY_HALF 1).service
  else s

/-- WIRE_REMAP (R353), at a frame boundary: die, causeway and group; the wire's 16 retries count (R369). -/
def execWireRemap (d cwy group : Nat) (s : State) : Out :=
  onUnitClock d 8 s fun s => (s.count (dieBlk d) 0x24 cwy 16).wireFail ((group * 8 + d) * 4 + cwy)

/-- A regulator phase fails (R354): the third of a rail holds the throttle level at 10 or above. -/
def State.phaseLost (s : State) (rail : Nat) : State :=
  let n := Tab.get 0 s.env.phases rail + 1
  let s := { s.bump UST_VRM_PHASES with env := { s.env with phases := Tab.set 0 s.env.phases rail n } }
  if n < 3 then s
  else
    let s := (s.put UST_VRM_LIMIT 1).service
    if s.get ENV_STAT_LEVEL < 10 then s.setLevel 10 else s

/-- PHASE_FAIL (R354). -/
def execPhaseFail (rail : Nat) (s : State) : Out := onPower s fun s => s.phaseLost rail

/-- The standby core becomes primary and the idle core of P2, or P3's, the standby (R362). Without an idle core the
module has no standby. The message being processed and a DOE exchange in progress are aborted (R436, R452). -/
def State.failover (s : State) (p2failed p3failed : Bool) : State :=
  if s.flag UST_COLVEL_NOSTBY then s
  else
    let sb := s.get UST_COLVEL_STANDBY
    let s := (s.put UST_COLVEL_PRIMARY sb).bump UST_COLVEL_FAILOVERS
    let s := { s with trust := { s.trust with doePart := [], doeOut := [], doeError := s.trust.doeError || !s.trust.doePart.isEmpty || s.trust.queue.any (fun m => !m.port), queue := (s.trust.queue.drop 1).filter fun m => m.port } }
    let s := s.put SEC_STATE_BUSY (b2n !s.trust.queue.isEmpty)
    if sb < 2 && !p2failed then s.put UST_COLVEL_STANDBY 2
    else if sb < 3 && !p3failed then s.put UST_COLVEL_STANDBY 3
    else (s.put UST_COLVEL_NOSTBY 1).service

/-- HEARTBEAT_MISS (R362). -/
def execHeartbeatMiss (p2failed p3failed : Bool) (s : State) : Out := onPower s fun s => s.failover p2failed p3failed

end Sys2Proof.Machine
end

