-- ==== Sys2Proof/Machine/Tollhouse.lean ====
section
/-! DEFINITION. Mileposts: the exchange table, roles, contributions, sums, updates and parameters of the
tollhouses (R42 to R44, R244, R269, R276 to R292). The sums of a role are held in the state; the work and carry
areas, whose content the manual does not define to software, receive free bytes (R13, R276, R283). -/

namespace Sys2Proof.Machine

/-! ## The exchange table (R276, R277) and the roles (R278) -/

/-- The entry's fields. -/
def xentOf (bs : Bytes) : XEnt :=
  let w := recWord bs
  let a (i : Nat) := fld (w i) 47 0
  { count := fld (w 0) 63 32, wfmt := fld (w 0) 31 28, single := bit (w 0) 27, tlh := fld (w 0) 25 24, owner := fld (w 0) 23 12
    record := fld (w 0) 11 0, sums := a 1, wcb := a 2, wcf := a 3, wcs := a 4, pstride := a 5, scales := a 6, work := a 7 }

/-- Where entry `sh` lies. -/
def State.xentAddr (s : State) (sh : Nat) : Nat := s.get FAB_XTBASE_ADDR + 64 * sh
/-- Entry `sh`: as it was checked when the milepost opened, else as the table stands (log entry 97). -/
def State.xent (s : State) (sh : Nat) : XEnt := (s.fab.mp.xt[sh]?).getD (xentOf (s.devBytes (s.xentAddr sh) 64))
/-- An entry that no opened milepost holds is read from the table (R280); answers whether a window permitted it. -/
def State.entryAccess (s : State) (sh : Nat) : State × Bool :=
  if sh < s.fab.mp.xt.length then (s, true)
  else match s.tlhRead (s.xentAddr sh) 64 with
    | (s, .ok _) => (s, true)
    | (s, .error _) => (s, false)
/-- The shards of the exchange table. -/
def State.shards (s : State) : List Nat := List.range (s.get FAB_XTCNT_COUNT)

/-- Bundles of a shard, and the elements of bundle `b` (R266). -/
def XEnt.bundles (x : XEnt) : Nat := ceilDiv x.count 8192
def XEnt.elems (x : XEnt) (b : Nat) : Nat := Nat.min 8192 (x.count - 8192 * b)
/-- Working-copy set of milepost k (R247, R290). -/
def XEnt.setOf (x : XEnt) (k : Nat) : Nat := if x.single then 0 else k % 2 * x.pstride
/-- The PARAM parts a bundle of the shard has (R266). -/
def XEnt.paramParts (x : XEnt) : List Nat := [0, 1, 2] ++ (if x.wfmt = 1 then [] else [3]) ++ (if isMx x.wfmt then [4] else [])

/-- A level-0 role of this device for a shard: primary (false) or backup (true). -/
def State.role0 (s : State) (x : XEnt) : Option Bool :=
  if devPos s.devno = devPos x.owner then some false
  else if devPos s.devno = (devPos x.owner + 1) % 8 then some true else none
/-- A level-1 role. -/
def State.role1 (s : State) (x : XEnt) : Option Bool :=
  if devPos s.devno ≠ devPos x.owner then none
  else if devTroupe s.devno = devTroupe x.owner then some false
  else if devTroupe s.devno = (devTroupe x.owner + 1) % s.nTroupes ∧ 1 < s.nTroupes then some true else none
/-- The owner. -/
def State.owns (s : State) (x : XEnt) : Bool := s.devno == x.owner

/-- R279: a reserved value or breached limit of R276, then a misaligned base. -/
def State.xentRefusal (s : State) (bs : Bytes) : Option Nat :=
  let w := recWord bs
  let x := xentOf bs
  let work := (s.role0 x).isSome || (s.role1 x).isSome || s.owns x
  if bit (w 0) 26 || ([1, 2, 3, 4, 5, 6, 7].any fun i => fld (w i) 63 48 != 0) || !wfmtOk x.wfmt || x.count % 256 != 0
      || decide (2147483648 < x.count) || (x.single && x.pstride != 0) || (!isMx x.wfmt && x.wcs != 0)
      || (!s.owns x && x.record != 0) || (!work && x.work != 0) then some cDESC_BAD
  else if [x.sums, x.wcb, x.wcf, x.wcs, x.pstride, x.scales, x.work].any fun a => a % 64 != 0 then some cMISALIGN
  else none

/-- The level-0 roles of the own troupe. -/
def State.dests0 (s : State) (x : XEnt) : List Nat :=
  [s.devno / 8 * 8 + devPos x.owner, s.devno / 8 * 8 + (devPos x.owner + 1) % 8]
/-- The level-1 roles of the own circuit. -/
def State.dests1 (s : State) (x : XEnt) : List Nat :=
  let c := devCircuit s.devno
  [devOf c (devTroupe x.owner) (devPos x.owner)]
  ++ (if 1 < s.nTroupes then [devOf c ((devTroupe x.owner + 1) % s.nTroupes) (devPos x.owner)] else [])

/-! ## The milepost in hand -/

def State.mp (s : State) : Milepost := s.fab.mp
def State.setMp (s : State) (m : Milepost) : State := { s with fab := { s.fab with mp := m } }
def State.modMp (s : State) (f : Milepost → Milepost) : State := s.setMp (f s.fab.mp)

/-- Deadline `i` in system time (R279). -/
def State.deadline (s : State) (i : Nat) : Nat := s.mp.tk + 1000 * s.get FAB_DLINE_MICROS 0 i
/-- The device takes part in milepost k: its command waits for T_k, or opened it. -/
def State.takesPart (s : State) : Bool := s.mp.cid.isSome || s.mp.opened

/-- An F code of the milepost's command. -/
def State.mpFault (s : State) (code : Nat) : State := match s.mp.cid with | some id => s.modCmd id (·.setF code) | none => s
/-- An S code of the milepost's command. -/
def State.mpStatus (s : State) (code : Nat) : State := match s.mp.cid with | some id => s.modCmd id (·.addS code) | none => s
/-- The FABRIC bit of its FLAGS (R312). -/
def State.mpFlag (s : State) : State := match s.mp.cid with | some id => s.modCmd id (·.setFlag flFABRIC) | none => s
/-- LATE_DROP at tollhouse p. -/
def State.lateDrop (s : State) (p : Nat) : State := (s.bump FAB_LATE_COUNT 1 p).mpFlag

/-- The granules of an area whose content the manual does not define are written with bytes that are free. -/
def State.scribble (s : State) (a n : Nat) : State × Bool :=
  match s.tlhPermits a n true with
  | (s, false) => (s.mpFault cWINDOW, false)
  | (s, true) => ((granulesAt a n).foldl (fun (s : State) g =>
      let bs : Bytes := (List.range 64).map fun i => BitVec.ofNat 8 (Config.freeValue (s.free + i)).toNat
      { s.tlhPut g bs with free := s.free + 64 }) s, true)

/-- The work area of a bundle: 32 KiB of sums and 64 B of bundle state (R276). -/
def State.scribbleWork (s : State) (x : XEnt) (b : Nat) : State × Bool :=
  match s.scribble (x.work + 32768 * b) 32768 with
  | (s, false) => (s, false)
  | (s, true) => s.scribble (x.work + 32768 * x.bundles + 64 * b) 64

/-! ## Scale tables (R277, R287) -/

/-- Where the scale entry of a bundle lies. -/
def XEnt.scaleAddr (x : XEnt) (b : Nat) : Nat := x.scales + 64 * b
/-- Exponent of block i in a scale entry. -/
def scaleExp (bs : Bytes) (i : Nat) : Int := signed 8 (numAt bs i 1)
/-- Run counter of block i. -/
def scaleRun (bs : Bytes) (i : Nat) : Nat := bits (numAt bs 32 8) (2 * i) 2
/-- REV. -/
def scaleRev (bs : Bytes) : Nat := numAt bs 40 2

/-- The exponent and run counter of a block for the next milepost (R287). -/
def nextScale (e : Int) (run : Nat) (sat small : Bool) : Int × Nat :=
  if sat then (if e < 127 then e + 1 else 127, 0)
  else if small then (if run + 1 = 4 then (if -128 < e then e - 1 else -128, 0) else (e, run + 1))
  else (e, 0)

/-- The owner's entry after a bundle's update: unchanged exponents and counters when the count was 0 (R286). -/
def scaleUpdate (bs : Bytes) (n sat small k : Nat) : Bytes :=
  let xs := (List.range 32).map fun i =>
    if n = 0 then (scaleExp bs i, scaleRun bs i) else nextScale (scaleExp bs i) (scaleRun bs i) (sat.testBit i) (small.testBit i)
  let runs := xs.zipIdx.foldl (fun v x => v + x.1.2 % 4 * 4 ^ x.2) 0
  (xs.map fun x => BitVec.ofNat 8 (unsigned 8 x.1)) ++ leBytes 8 runs ++ leBytes 2 ((k + 1) % 65536)

/-! ## Completion (R292) -/

/-- Every part of every shard of milepost k has been written. -/
def State.allParts (s : State) : Bool :=
  s.shards.all fun sh => let x := s.xent sh
    (List.range x.bundles).all fun b => x.paramParts.all fun q => s.mp.parts.contains (sh, b, q)

/-- The milepost's command completes; its completion is a seed point for the next command. -/
def State.mpComplete (s : State) : State :=
  match s.mp.cid with
  | none => s
  | some id =>
    let code := ((s.cmd id).map Cmd.code).getD cOK
    let s := (s.put FAB_MPSTAT_OPEN 0).put FAB_MPSTAT_CODE code
    let s := { s.modMp fun m => { m with cid := none } with ro := { s.ro with seedPending := true } }
    (s.endCmd id).f0Waiting

/-- A command refused under R279 completes with its code; the device holds no role for its milepost. -/
def State.mpRefuse (s : State) (id code : Nat) : State :=
  let s := s.modMp fun m => { m with cid := none, opened := false, b0 := [], xt := [], todo := [] }
  (((s.put FAB_MPSTAT_OPEN 0).put FAB_MPSTAT_CODE code).refuseCmd id code).f0Waiting

/-- PDONE, and completion once every part has been written. -/
def State.mpCheck (s : State) : State :=
  if s.mp.opened && s.allParts then (s.put FAB_MPSTAT_PDONE 1).mpComplete else s

/-! ## Parameters (R288 to R290) -/

/-- Where a PARAM part lies at a device and how many bytes it has (R266, R290). -/
def XEnt.partPlace (x : XEnt) (b k q : Nat) : Nat × Nat :=
  let n := x.elems b
  let h := fmtHalves x.wfmt
  let set := x.setOf k
  if q = 0 then (x.scaleAddr b, 32)
  else if q = 1 then (x.wcb + set + 16384 * b, 2 * Nat.min 4096 n)
  else if q = 2 then (x.wcb + set + 16384 * b + 8192, 2 * (n - 4096))
  else if q = 3 then (x.wcf + set + halfBytes (8192 * b) h, halfBytes n h)
  else (x.wcs + set + 256 * b, n / 32)

/-- The payload of one PARAM part of a bundle, from the device's own copies and scale table. -/
def State.paramPayload (s : State) (x : XEnt) (b k q : Nat) : Bytes :=
  let pl := x.partPlace b k q
  s.devBytes pl.1 pl.2

/-- The PARAM frames of a bundle to some devices; a part that no window permits to be read is not sent (R280). -/
def State.sendParams (s : State) (sh : Nat) (x : XEnt) (b k rev : Nat) (dests : List Nat) : State :=
  if dests.isEmpty then s
  else x.paramParts.foldl (fun s q =>
    let pl := x.partPlace b k q
    match s.tlhRead pl.1 pl.2 with
    | (s, .error c) => s.mpFault c
    | (s, .ok bs) => dests.foldl (fun s d =>
      s.sendTo d { port := 0, typ := tPARAM, part := q, shard := sh, milepost := k, bundle := b, rev := if q = 0 then rev else 0, payload := bs }) s) s

/-- The next hops of a PARAM from this device (R289). -/
def State.paramHops (s : State) (x : XEnt) : List Nat :=
  let d := s.devno
  let c := devCircuit d
  let t := devTroupe x.owner
  let k := devPos x.owner
  let owner := if s.owns x then ((List.range s.nCircuits).filter fun q => q != devCircuit x.owner).map fun q => devOf q t k else []
  let l1 := if d = devOf c t k then ((List.range s.nTroupes).filter fun q => q != t).map fun q => devOf c q k else []
  let l0 := if devPos d = k then ((List.range 8).filter fun q => q != k).map fun q => d / 8 * 8 + q else []
  owner ++ l1 ++ l0

/-! ## The owner's update (R286, R287, R249) -/

/-- The mean of R44: sum × 2^e ÷ n, rounded once, to the nearest even, from the exact quotient (log entry 80, DESIGN
CHOICE). -/
def meanOf (sum : Int) (e : Int) (n : Nat) : W32 := f32 (((FVal.ofInt sum).scale e).div (FVal.ofInt n))

/-- Every owned bundle of a shard has been updated for k. -/
def State.shardUpdated (s : State) (sh : Nat) (x : XEnt) : Bool := (List.range x.bundles).all fun b => s.mp.updated.contains (sh, b)

/-- TLH_UPDSTAT.BUSY of tollhouse p while an owned bundle still awaits its update. -/
def State.showBusy (s : State) (p : Nat) : State :=
  s.put TLH_UPDSTAT_BUSY (b2n (s.shards.any fun sh => let x := s.xent sh; s.owns x && x.tlh == p && !s.shardUpdated sh x)) p

/-- The scale table and the scale plane that an update of the entry's shard reads and writes (R246, R287). -/
def XEnt.tables (x : XEnt) (k : Nat) : List (Nat × Nat × Bool) :=
  [(x.scales, 64 * x.bundles, false), (x.scales, 64 * x.bundles, true)]
  ++ (if isMx x.wfmt then [(x.wcs + x.setOf k, x.count / 32, true)] else [])

/-- The owner forms a bundle's mean, applies the optimizer, writes the working copies, sets the scales and
sends the parameters. A ROWADA shard has had its update when the milepost opened, or none (R246, R251). -/
def State.bundleUpdate (s : State) (sh : Nat) (x : XEnt) (b : Nat) (sums : List Int) (n sat small : Nat) : State :=
  let k := s.mp.k
  if s.mp.updated.contains (sh, b) then s
  else
    let s := (s.snapHold x.tlh x.record).modMp fun m => { m with updated := (sh, b) :: m.updated }
    let s := if n = 0 then s.mpStatus cMILEPOST_MISS else s
    match s.record x.tlh x.record k (x.tables k) with
    | (s, .error c) => (s.updCode x.tlh c).showBusy x.tlh
    | (s, .ok r) => match s.tlhRead (x.scaleAddr b) 64 with
      | (s, .error c) => (s.updCode x.tlh c).showBusy x.tlh
      | (s, .ok sc) =>
        let len := x.elems b
        let g (i : Nat) : W32 := if n = 0 then f32nan else fmul r.gscale (meanOf (sums.getD i 0) (scaleExp sc (i / 256)) n)
        let applied := Tab.get 0 s.fab.mp.applied (x.tlh * 4096 + x.record) == k + 1
        if r.opt = 3 ∧ applied = false then s.showBusy x.tlh
        else
          let s := if r.opt = 3 then s
            else (s.updateRun x.tlh r (8192 * b) ((List.range len).map g)).writeCopies x.tlh r k (8192 * b) len (if isMx x.wfmt then some x.wcs else none)
          let s := s.tlhPut (x.scaleAddr b) (scaleUpdate sc n sat small k)
          let s := if s.shardUpdated sh x && r.opt != 3 then s.stepRecord x.tlh x.record k r else s
          let s := s.sendParams sh x b k ((k + 1) % 65536) (s.paramHops x)
          (s.modMp fun m => { m with parts := m.parts ++ x.paramParts.map fun q => (sh, b, q) }).showBusy x.tlh

/-! ## Levels 1 and 2 (R285, R286) -/

/-- The copies of a bundle taken at a level for milepost k. -/
def State.takenCopies (s : State) (level sh b : Nat) : List SumCopy :=
  s.mp.copies.filter fun c => c.k == s.mp.k && c.level == level && c.shard == sh && c.bundle == b && c.taken

/-- Element-wise sum of two lists, the shorter continued with zeros. -/
def addInts : List Int → List Int → List Int
  | [], b => b
  | a, [] => a
  | x :: a, y :: b => (x + y) :: addInts a b

/-- The elements of a copy. -/
def SumCopy.sums (c : SumCopy) (n : Nat) : List Int :=
  let pad (l : List Int) (m : Nat) := l.take m ++ List.replicate (m - l.length) 0
  pad (c.part0.getD []) (Nat.min 4096 n) ++ pad (c.part1.getD []) (n - 4096)

/-- What a role hands upward: sums, NCONTR, SATF, SMALLF (R286). -/
def mergeCopies (n : Nat) (cs : List SumCopy) : List Int × Nat × Nat × Nat :=
  (cs.foldl (fun a c => addInts a (c.sums n)) (List.replicate n 0), (cs.map fun c => c.ncontr).sum,
    cs.foldl (fun a c => a ||| c.sat) 0, cs.foldl (fun a c => a &&& c.small) 0xFFFFFFFF)

/-- A bundle has been closed at a level. -/
def State.isClosed (s : State) (level sh b : Nat) : Bool := s.mp.closed.contains { level := level, shard := sh, bundle := b }

/-- One part of a copy arrives at a level role; a copy that completes is taken when it is the first of its
source, or discarded (R285). `late` says that the level's deadline has passed. -/
def State.addPart (s : State) (x : XEnt) (c : SumCopy) (part : Nat) (sums : List Int) (late : Bool) : State :=
  let same (d : SumCopy) : Bool := d.k == c.k && d.level == c.level && d.shard == c.shard && d.bundle == c.bundle && d.source == c.source
  let old := (s.mp.copies.find? fun d => same d && d.backup == c.backup).getD { c with ncontr := 0, sat := 0, small := 0 }
  if (part = 0 ∧ old.part0.isSome = true) ∨ (part = 1 ∧ old.part1.isSome = true) then s
  else
    let new := if part = 0 then { old with part0 := some sums } else { old with part1 := some sums }
    let new := { new with ncontr := c.ncontr, sat := new.sat ||| c.sat, small := new.small ||| c.small }
    let full := new.part0.isSome && new.part1.isSome
    let other := s.mp.copies.any fun d => same d && d.taken
    let new := { new with taken := full && !late && !other }
    let s := s.modMp fun m => { m with copies := (m.copies.filter fun d => !(same d && d.backup == c.backup)) ++ [new] }
    let s := if full && late then s.lateDrop x.tlh else s
    if new.taken && c.backup then (s.bump FAB_BACKUP_COUNT 1 x.tlh).mpFlag else s

/-- INT16 sums of a part's payload. -/
def int16s (bs : Bytes) : List Int := (List.range (bs.length / 2)).map fun i => signed 16 (numAt bs (2 * i) 2)

/-- The two SUM frames of a bundle to a role, or their data handed over inside the package (R278, R284). -/
def State.sendSum (s : State) (level : Nat) (backup : Bool) (sh : Nat) (x : XEnt) (b : Nat) (m : List Int × Nat × Nat × Nat)
    (dest source : Nat) : State :=
  [0, 1].foldl (fun s part =>
    let part16 (v : Nat) := bits v (16 * part) 16
    let sums := if m.2.1 = 0 then [] else if part = 0 then m.1.take 4096 else m.1.drop 4096
    if dest = s.devno then
      s.addPart x { k := s.mp.k, level := level, shard := sh, bundle := b, source := source, backup := backup, ncontr := m.2.1, sat := part16 m.2.2.1 * 65536 ^ part, small := part16 m.2.2.2 * 65536 ^ part } part sums (decide (s.deadline level < s.clk.sys))
    else s.sendTo dest { port := 0, typ := tSUM, level := level, backup := backup, part := part, shard := sh, milepost := s.mp.k, bundle := b, ncontr := m.2.1, satf := part16 m.2.2.1, smallf := part16 m.2.2.2, payload := sums.flatMap fun v => leBytes 2 (unsigned 16 v) }) s

/-- The owner closes a bundle. -/
def State.close2 (s : State) (sh : Nat) (x : XEnt) (b : Nat) : State :=
  if s.isClosed 2 sh b then s
  else
    let m := mergeCopies (x.elems b) (s.takenCopies 2 sh b)
    (s.modMp fun q => { q with closed := { level := 2, shard := sh, bundle := b } :: q.closed }).bundleUpdate sh x b m.1 m.2.1 m.2.2.1 m.2.2.2

/-- The owner's bundle is complete once it holds a copy from every circuit. -/
def State.try2 (s : State) (sh : Nat) (x : XEnt) (b : Nat) : State :=
  if s.mp.opened && s.owns x && decide (s.nCircuits ≤ (s.takenCopies 2 sh b).length) then s.close2 sh x b else s

/-- A level-1 role closes a bundle and sends its sums to the owner. -/
def State.close1 (s : State) (backup : Bool) (sh : Nat) (x : XEnt) (b : Nat) : State :=
  if s.isClosed 1 sh b then s
  else
    let m := mergeCopies (x.elems b) (s.takenCopies 1 sh b)
    let s := s.modMp fun q => { q with closed := { level := 1, shard := sh, bundle := b } :: q.closed }
    (s.sendSum 2 backup sh x b m x.owner (devCircuit s.devno)).try2 sh x b

/-- A level-1 bundle is complete once it holds a copy from every troupe of the circuit. -/
def State.try1 (s : State) (sh : Nat) (x : XEnt) (b : Nat) : State :=
  match s.role1 x with
  | some backup => if s.mp.opened && decide (s.nTroupes ≤ (s.takenCopies 1 sh b).length) then s.close1 backup sh x b else s
  | none => s

/-! ## Level 0 (R281 to R284) -/

/-- An element byte as received: 0x80 is −127 and saturated (R42). -/
def wireVal (b : Byte) : Int × Bool :=
  let v := signed 8 b.toNat
  if v = -128 then (-127, true) else (v, v == 127 || v == -127)

/-- Per-block flags of a contribution: SAT, and SMALL where every magnitude is below 32 (R281). -/
def blockFlags (vs : List (Int × Bool)) : Nat × Nat :=
  ((List.range 32).foldl (fun (a : Nat × Nat) i =>
    let blk := (vs.drop (256 * i)).take 256
    (a.1 + b2n (blk.any fun v => v.2) * 2 ^ i, a.2 + b2n (blk.all fun v => decide (v.1.natAbs < 32)) * 2 ^ i)) (0, 0))

/-- The bundle of a level-0 role as it stands. -/
def State.bundle0 (s : State) (sh b : Nat) (backup : Bool) : Bundle0 :=
  (s.mp.b0.find? fun q => q.shard == sh && q.bundle == b && q.backup == backup).getD { shard := sh, bundle := b, backup := backup }
def State.setBundle0 (s : State) (x : Bundle0) : State :=
  s.modMp fun m => { m with b0 := (m.b0.filter fun q => !(q.shard == x.shard && q.bundle == x.bundle && q.backup == x.backup)) ++ [x] }

/-- A contribution's data is added to the sums, and the count rises (R283). -/
def Bundle0.addSums (q : Bundle0) (payload : Bytes) (n : Nat) : Bundle0 :=
  { q with count := q.count + 1, sums := addInts q.sums ((List.range n).map fun i => (wireVal (payload.getD i 0)).1) }

/-- An accepted contribution is added, its flags noted (R281). -/
def Bundle0.add (q : Bundle0) (payload : Bytes) (n : Nat) : Bundle0 :=
  let fl := blockFlags ((List.range n).map fun i => wireVal (payload.getD i 0))
  { q.addSums payload n with sat := q.sat ||| fl.1, small := q.small &&& fl.2 }

/-- A level-0 role closes a bundle: its sums go to both level-1 roles (R284). -/
def State.close0 (s : State) (backup : Bool) (sh : Nat) (x : XEnt) (b : Nat) : State :=
  let q := s.bundle0 sh b backup
  if q.closed then s
  else
    let s := s.setBundle0 { q with closed := true }
    let n := x.elems b
    let m := (q.sums.take n ++ List.replicate (n - q.sums.length) 0, q.count, q.sat, q.small)
    ((s.dests1 x).foldl (fun s d => s.sendSum 1 backup sh x b m d (devTroupe s.devno)) s).try1 sh x b

/-- A contribution is accepted and counted; with all eight the bundle closes (R281, R284, R369). -/
def State.accept0 (s : State) (backup : Bool) (sh : Nat) (x : XEnt) (b sender : Nat) (payload : Bytes) : State :=
  match s.scribbleWork x b with
  | (s, false) => s
  | (s, true) =>
    let q := s.bundle0 sh b backup
    if q.closed then s
    else
      let q := { q.add payload (x.elems b) with from_ := q.from_ ++ [sender] }
      let s := (s.setBundle0 q).count (portBlk x.tlh) 0x49 0 1
      if s.mp.opened && decide (8 ≤ q.from_.length) then s.close0 backup sh x b else s

/-- A free carry slot. -/
def State.freeCarry (s : State) : Option Nat :=
  (List.range (s.get FAB_CARRYN_SLOTS)).find? fun i => !(s.mp.carries.any fun c => c.1 == i)

/-- A late contribution is carried to the next milepost where a slot is free (R283). -/
def State.carry (s : State) (backup : Bool) (x : XEnt) (f : Frame) : State :=
  if s.mp.carries.any (fun c => c.2.shard == f.shard && c.2.bundle == f.bundle && c.2.backup == backup && c.2.sender == f.src && c.2.milepost == f.milepost) then s
  else match s.freeCarry, s.tlhRead (x.scaleAddr f.bundle) 32 with
    | none, _ => s
    | some _, (s, .error c) => s.mpFault c
    | some i, (s, .ok exps) => match s.scribble (s.get FAB_CARRYBASE_ADDR + 8256 * i) 8256 with
      | (s, false) => s
      | (s, true) =>
        let c : Carry := { shard := f.shard, bundle := f.bundle, backup := backup, sender := f.src, data := f.payload, exps := exps, milepost := f.milepost }
        s.modMp fun m => { m with carries := Tab.insert m.carries i c }

/-- A PREQ to the owner, counted in FAB_RESYNC (R288, R297). -/
def State.sendPreq (s : State) (sh : Nat) (x : XEnt) (b : Nat) : State :=
  (s.bump FAB_RESYNC_COUNT 1 x.tlh).sendTo x.owner { port := 0, typ := tPREQ, shard := sh, bundle := b, milepost := s.mp.k }

/-- A RESYNC has come: one PREQ per bundle and milepost (R288). -/
def State.resync (s : State) (sh : Nat) (x : XEnt) (b : Nat) : State :=
  if s.mp.preqs.contains (sh, b) then s
  else (s.modMp fun m => { m with preqs := (sh, b) :: m.preqs }).sendPreq sh x b

/-- The outcome of a CONTRIB at the role it is for (R281, R282). -/
def State.settleContrib (s : State) (backup : Bool) (x : XEnt) (f : Frame) : State :=
  let k := s.mp.k
  if f.milepost ≠ k then s.lateDrop x.tlh
  else if f.rev ≠ k % 65536 then
    (let s := (s.lateDrop x.tlh).bump FAB_STALE_COUNT 1 x.tlh
     if f.src = s.devno then s.resync f.shard x f.bundle
     else s.sendTo f.src { port := 0, typ := tRESYNC, shard := f.shard, bundle := f.bundle, milepost := f.milepost })
  else if (s.bundle0 f.shard f.bundle backup).from_.contains f.src then s
  else if s.clk.sys + 1000 < s.mp.tk then s.lateDrop x.tlh
  else if s.deadline 0 < s.clk.sys then
    (let s := s.lateDrop x.tlh; if s.flag FAB_MPPOL_CARRY then s.carry backup x f else s)
  else s.accept0 backup f.shard x f.bundle f.src f.payload

/-- A frame names a shard and bundle of the exchange table (R267). -/
def State.shardOk (s : State) (f : Frame) : Bool :=
  decide (f.shard < s.get FAB_XTCNT_COUNT) && decide (f.bundle < (s.xent f.shard).bundles)

/-- A frame that names a shard is handled with its exchange entry at hand; one that names none, or whose entry no window
permits to be read, is dropped and counted (R267, R280). -/
def State.withEntry (s : State) (f : Frame) (h : State → XEnt → State) : State :=
  if s.get FAB_XTCNT_COUNT ≤ f.shard then s.rxDrop f
  else match s.entryAccess f.shard with
    | (s, false) => s.rxDrop f
    | (s, true) => if s.shardOk f then h s (s.xent f.shard) else s.rxDrop f

/-- A CONTRIB arrives. -/
def State.onContrib (s : State) (f : Frame) : State :=
  s.withEntry f fun s x =>
    if !s.takesPart then s.rxDrop f
    else match s.role0 x with
      | none => s.rxDrop f
      | some backup => s.settleContrib backup x f

/-- CONTRIB_RECEIVE (R281, R292). -/
def execContribReceive (f : Frame) (s : State) : Out := onFrame tCONTRIB f s fun s => (s.onContrib f).mpCheck

/-- At T_k + D0 every open bundle of the level-0 roles closes (R284). -/
def State.closeAll0 (s : State) : State :=
  s.shards.foldl (fun s sh => let x := s.xent sh
    match s.role0 x with
    | some backup => (List.range x.bundles).foldl (fun s b => s.close0 backup sh x b) s
    | none => s) s

/-- A deadline of a milepost that was opened on a joined device has passed. -/
def State.deadlineDue (s : State) (i : Nat) : Bool := s.mp.opened && s.flag FAB_TOPO_JOINED && decide (s.deadline i ≤ s.clk.sys)

/-- DEADLINE_D0 (R284). -/
def execDeadlineD0 (s : State) : Out := onClock s fun s => if s.deadlineDue 0 then s.closeAll0.mpCheck else s

/-- A SUM part arrives (R285). -/
def State.onSum (s : State) (f : Frame) : State := s.withEntry f fun s x =>
  let role := if f.level = 1 then (s.role1 x).isSome else f.level == 2 && s.owns x
  if !role || decide (1 < f.part) || (f.milepost == s.mp.k && !s.takesPart) then s.rxDrop f
  else
    let late := decide (f.milepost < s.mp.k) || (f.milepost == s.mp.k && decide (s.deadline f.level < s.clk.sys))
    match s.scribbleWork x f.bundle with
    | (s, false) => s
    | (s, true) =>
      let c : SumCopy := { k := f.milepost, level := f.level, shard := f.shard, bundle := f.bundle
                           source := if f.level = 1 then devTroupe f.src else devCircuit f.src, backup := f.backup, ncontr := f.ncontr
                           sat := f.satf * 65536 ^ f.part, small := f.smallf * 65536 ^ f.part }
      let s := s.addPart x c f.part (int16s f.payload) late
      if f.milepost ≠ s.mp.k then s
      else if f.level = 1 then s.try1 f.shard x f.bundle
      else s.try2 f.shard x f.bundle

/-- SUM_RECEIVE (R285). -/
def execSumReceive (f : Frame) (s : State) : Out := onFrame tSUM f s fun s => (s.onSum f).mpCheck

/-- At T_k + D1 every open bundle of the level-1 roles closes. -/
def State.closeAll1 (s : State) : State :=
  s.shards.foldl (fun s sh => let x := s.xent sh
    match s.role1 x with
    | some backup => (List.range x.bundles).foldl (fun s b => s.close1 backup sh x b) s
    | none => s) s

/-- DEADLINE_D1 (R285). -/
def execDeadlineD1 (s : State) : Out := onClock s fun s => if s.deadlineDue 1 then s.closeAll1.mpCheck else s

/-- At T_k + D2 the owner closes every open bundle. -/
def State.closeAll2 (s : State) : State :=
  s.shards.foldl (fun s sh => let x := s.xent sh
    if s.owns x then (List.range x.bundles).foldl (fun s b => s.close2 sh x b) s else s) s

/-- DEADLINE_D2 (R285). -/
def execDeadlineD2 (s : State) : Out := onClock s fun s => if s.deadlineDue 2 then s.closeAll2.mpCheck else s

/-! ## Starting and opening (R279, R280) -/

/-- The exchange entries a milepost uses are read, checked (R279) and kept; the first code that is found. -/
def State.entryCheck (s : State) : State × Option Nat :=
  if !s.flag FAB_TOPO_JOINED then (s, none)
  else (s.shards.drop s.mp.xt.length).foldl (fun (x : State × Option Nat) sh => match x.2 with
    | some _ => x
    | none => match x.1.tlhRead (x.1.xentAddr sh) 64 with
      | (s, .error c) => (s, some c)
      | (s, .ok bs) => match s.xentRefusal bs with
        | some c => (s, some c)
        | none => (s.modMp fun m => { m with xt := m.xt ++ [xentOf bs] }, none)) (s, none)

/-- A milepost command starts: the deadlines are checked, and from T_k on the exchange entries (R279). -/
def State.mpStart (s : State) (id : Nat) : State :=
  match s.cmd id with
  | none => s
  | some c =>
    if c.op ≠ 3 ∨ c.phase ≠ .starting ∨ s.mp.cid.isSome = true ∨ s.mayStart = false then s
    else
      let d (i : Nat) := s.get FAB_DLINE_MICROS 0 i
      let early := match s.mp.prev with | some tj => decide (c.tk ≤ tj + 1000 * d 3) | none => false
      if !(decide (d 0 < d 1) && decide (d 1 < d 2) && decide (d 2 < d 3)) || early then
        (s.put FAB_MPSTAT_CODE cDESC_BAD).refuseCmd id cDESC_BAD
      else
        let s := (List.range 4).foldl (fun s p => s.put TLH_UPDSTAT_SUMSREAD 0 p) s
        let s := ((s.put FAB_MPSTAT_MILEPOST c.k).put FAB_MPSTAT_OPEN 0).put FAB_MPSTAT_PDONE 0
        let s := s.modMp fun m => { m with
          cid := some id, k := c.k, tk := c.tk, opened := false, prev := some c.tk, b0 := [], closed := [], updated := [], parts := [], preqs := [], xt := [], todo := []
          copies := m.copies.filter fun y => decide (c.k ≤ y.k) }
        let s := s.modCmd id fun y => { y with phase := .running }
        if s.clk.sys < c.tk then s
        else match s.entryCheck with
          | (s, some code) => s.mpRefuse id code
          | (s, none) => s

/-- MILEPOST_COMMAND (R279). -/
def execMilepostCommand (cid : Nat) (s : State) : Out := onClock s fun s => s.mpStart cid

/-- The contribution of one gradient sum (R43): its byte, and whether it saturated or was a NaN. -/
def contribOf (v : W32) (e : Int) (r : Nat) : Int × Conv := convInt8 (.sr r) ((fval v).scale (-e))

/-- A bundle's sums are read, converted and sent to both level-0 roles (R244, R280); what a role of this device receives is
settled like any other contribution (R278, R282). Sums that no window permits to be read and zeroed are not sent. -/
def State.sendContrib (s : State) (sh : Nat) (x : XEnt) (b : Nat) : State :=
  let n := x.elems b
  let a := x.sums + 32768 * b
  match s.permitsAll [(x.scaleAddr b, 64, false), (a, 4 * n, false), (a, 4 * n, true)] with
  | (s, false) => s.mpFault cWINDOW
  | (s, true) => match s.tlhRead (x.scaleAddr b) 64 with
    | (s, .error c) => s.mpFault c
    | (s, .ok sc) =>
      let (s, ws) := s.readF32 a n
      let (s, ds) := s.tlhDraws x.tlh n
      let qs := (ws.zip ds).zipIdx.map fun y => contribOf y.1.1 (scaleExp sc (y.2 / 256)) y.1.2
      let s := (s.bump FAB_SAT_COUNT (qs.filter fun q => q.2.sat).length x.tlh).tlhCount x.tlh (qs.map fun q => { q.2 with sat := false, inf := false })
      let payload : Bytes := qs.map fun q => BitVec.ofNat 8 (unsigned 8 q.1)
      let f : Frame := { port := 0, typ := tCONTRIB, src := s.devno, shard := sh, milepost := s.mp.k, bundle := b, rev := scaleRev sc, payload := payload }
      (s.dests0 x).zipIdx.foldl (fun s d => if d.1 = s.devno then s.settleContrib (d.2 == 1) x f else s.sendTo d.1 f) s

/-- The sums of a bundle are zeroed where they were sent (R244). -/
def State.zeroBundle (s : State) (x : XEnt) (b : Nat) : State :=
  match s.permitsAll [(x.sums + 32768 * b, 4 * x.elems b, false), (x.sums + 32768 * b, 4 * x.elems b, true)] with
  | (s, false) => s
  | (s, true) => s.tlhPut (x.sums + 32768 * b) (List.replicate (4 * x.elems b) 0)

/-- Carried contributions for milepost k are added or dropped, and their slots freed (R283). -/
def State.useCarries (s : State) : State :=
  s.mp.carries.foldl (fun (s : State) (c : Nat × Carry) =>
    let q := c.2
    let s := s.modMp fun m => { m with carries := Tab.erase m.carries c.1 }
    if q.milepost + 1 ≠ s.mp.k ∨ s.get FAB_XTCNT_COUNT ≤ q.shard then s
    else
      let x := s.xent q.shard
      match s.tlhRead (x.scaleAddr q.bundle) 32 with
      | (s, .error c) => s.mpFault c
      | (s, .ok exps) =>
        if exps = q.exps then s.setBundle0 ((s.bundle0 q.shard q.bundle q.backup).addSums q.data (x.elems q.bundle))
        else s.lateDrop x.tlh) s

/-- The exchange entry of this device that names a record, which gives the scale plane of its forward copy and its scale
table (R276). -/
def State.entryFor (s : State) (p i : Nat) : State × Option XEnt :=
  let s := s.shards.foldl (fun s sh => (s.entryAccess sh).1) s
  (s, (s.shards.map s.xent).find? fun x => x.tlh == p && x.record == i && s.owns x)

/-- A whole record is updated from the device's own sums, with divisor 1 (R249, R269), or by its gather job. -/
def State.ownUpdate (s : State) (p i : Nat) : State :=
  let k := s.mp.k
  let (s, x) := (s.snapHold p i).entryFor p i
  let wcs (x : XEnt) : Option Nat := if isMx x.wfmt then some x.wcs else none
  match s.record p i k (x.elim [] fun x => if isMx x.wfmt then [(x.wcs + x.setOf k, x.count / 32, true)] else []) with
  | (s, .error c) => s.updCode p c
  | (s, .ok r) =>
    let (s, ok) := if r.opt = 3 then s.rowada p r
      else
        let (s, ws) := s.readF32 r.sums r.count
        (s.updateRun p r 0 (ws.map fun w => fmul r.gscale w), true)
    if ok then (s.writeCopies p r k 0 r.count (x.bind wcs)).stepRecord p i k r else s

/-- The sums of a record that was updated from them are zeroed (R244). -/
def State.zeroRecord (s : State) (p i : Nat) : State :=
  if Tab.get 0 s.fab.mp.applied (p * 4096 + i) ≠ s.mp.k + 1 then s
  else match s.tlhRead (s.get TLH_SHARDBASE_ADDR p + 128 * i) 128 with
    | (s, .error _) => s
    | (s, .ok bs) => let r := shardRec bs; (s.tlhWrite r.sums (List.replicate (4 * r.count) 0)).1

/-- Records of a tollhouse that are updated at the opening: all of them on an unjoined module, the ROWADA ones on a joined
one; ROWADA records follow the order in which their REDUCEs last completed (R251). A record that no window permits to be read
reports it. -/
def State.openRecords (s : State) (p : Nat) : State × List SumStep :=
  let r := (List.range (s.get TLH_SHARDCNT_COUNT p)).foldl (fun (y : State × List (Nat × Nat × Nat)) i =>
    match y.1.tlhRead (y.1.get TLH_SHARDBASE_ADDR p + 128 * i) 128 with
    | (s, .error c) => (s.updCode p c, y.2)
    | (s, .ok bs) => (s, y.2 ++ [(i, (shardRec bs).opt, (shardRec bs).job)])) (s, [])
  let last (j : Nat) : Nat := (s.mp.jobs.zipIdx.filter fun a => a.1 == j).foldl (fun _ a => a.2) s.mp.jobs.length
  let rows := (r.2.filter fun y => y.2.1 == 3).insertionSort fun a b => last a.2.2 ≤ last b.2.2
  (r.1, (if s.flag FAB_TOPO_JOINED then [] else (r.2.filter fun y => y.2.1 != 3).flatMap fun y => [.own p y.1, .zeroOwn p y.1])
    ++ rows.map fun y => .own p y.1)

/-- A step that reads sums. -/
def SumStep.reads : SumStep → Bool
  | .send _ _ | .own _ _ => true
  | .zero _ _ | .zeroOwn _ _ => false

/-- SUMSREAD shows that every sum has been read (R244); with nothing left to do an unjoined module completes its milepost. -/
def State.sumsDone (s : State) : State :=
  let s := if s.mp.todo.any SumStep.reads then s else (List.range 4).foldl (fun s p => s.put TLH_UPDSTAT_SUMSREAD 1 p) s
  if s.flag FAB_TOPO_JOINED then s.mpCheck
  else if s.mp.todo.isEmpty then (s.put FAB_MPSTAT_PDONE 1).mpComplete else s

/-- T_k: the milepost opens (R280): carried data is used; then come the updates that need no exchange and every shard's sums, in
order, one step with each idle cycle (log entry 99). -/
def State.mpOpen (s : State) : State :=
  match s.mp.cid with
  | none => s
  | some id =>
    if s.mp.opened = true ∨ s.clk.sys < s.mp.tk then s
    else match s.entryCheck with
      | (s, some code) => s.mpRefuse id code
      | (s, none) =>
        let s := (s.modMp fun m => { m with opened := true }).put FAB_MPSTAT_OPEN 1
        let (s, todo) := (List.range 4).foldl (fun (y : State × List SumStep) p =>
          let z := y.1.openRecords p; (z.1, y.2 ++ z.2)) (s, [])
        let s := s.modMp fun m => { m with jobs := [] }
        if s.flag FAB_TOPO_JOINED then
          let s := (List.range 4).foldl State.showBusy s.useCarries
          let sends := s.shards.flatMap fun sh => (List.range (s.xent sh).bundles).flatMap fun b => [SumStep.send sh b, .zero sh b]
          (s.modMp fun m => { m with todo := todo ++ sends }).sumsDone
        else (s.modMp fun m => { m with todo := todo }).sumsDone

/-- The next step of an opened milepost's work on the sums (R244, R280). -/
def State.sumStep (s : State) : State :=
  match s.mp.todo with
  | [] => s
  | t :: rest =>
    if !s.clocked then s
    else
      let s := s.modMp fun m => { m with todo := rest }
      (match t with
      | .send sh b => s.sendContrib sh (s.xent sh) b
      | .zero sh b => s.zeroBundle (s.xent sh) b
      | .own p i => s.ownUpdate p i
      | .zeroOwn p i => s.zeroRecord p i).sumsDone

/-- One CK_C cycle in which no command waits: time passes, and an opened milepost goes on with the sums. -/
def State.idle (s : State) : State := s.tick.sumStep

/-- MILEPOST_OPEN (R280). -/
def execMilepostOpen (s : State) : Out := onClock s State.mpOpen

/-! ## Parameters at a device (R288 to R291) -/

/-- Is milepost j of a frame not older than the milepost of revision `rev`, minus 1 (R290)? -/
def notOlder (j rev : Nat) : Bool := decide ((j + 65537 - rev % 65536) % 65536 < 32768)

/-- A part is written where no newer parameters stand, and noted for milepost k. -/
def State.writeParam (s : State) (x : XEnt) (f : Frame) : State :=
  let bad (s : State) := (s.rxDrop f).mpFault cWINDOW
  match s.tlhRead (x.scaleAddr f.bundle) 64 with
  | (s, .error _) => bad s
  | (s, .ok sc) =>
    if !notOlder f.milepost (scaleRev sc) then s
    else
      let pl := x.partPlace f.bundle f.milepost f.part
      let rev : Bytes := leBytes 2 f.rev
      match s.tlhWrite pl.1 (f.payload.take pl.2) with
      | (s, false) => bad s
      | (s, true) =>
        let (s, ok) := if f.part = 0 then s.tlhWrite (x.scaleAddr f.bundle + 40) rev else (s, true)
        if !ok then bad s
        else if f.milepost ≠ s.mp.k ∨ s.mp.parts.contains (f.shard, f.bundle, f.part) = true then s
        else s.modMp fun m => { m with parts := m.parts ++ [(f.shard, f.bundle, f.part)] }

/-- A PARAM part arrives: it is written and forwarded down the tree (R289, R290). -/
def State.onParam (s : State) (f : Frame) : State := s.withEntry f fun s x =>
  if !x.paramParts.contains f.part then s.rxDrop f
  else
    let s := s.writeParam x f
    let s := if s.owns x then s else (s.paramHops x).foldl (fun s d => s.sendTo d { f with retx := false, ack := 0 }) s
    s.mpCheck

/-- PARAM_RECEIVE (R290). -/
def execParamReceive (f : Frame) (s : State) : Out := onFrame tPARAM f s fun s => s.onParam f

/-- T_k + DP with the command still open (R291, R292): a PREQ for each bundle that lacks a part, MILEPOST_MISS, and
completion. -/
def State.mpExpire (s : State) : State :=
  if s.mp.cid.isNone || !s.deadlineDue 3 then s
  else
    let s := s.shards.foldl (fun s sh => let x := s.xent sh
      (List.range x.bundles).foldl (fun s b =>
        if x.paramParts.all fun q => s.mp.parts.contains (sh, b, q) then s
        else
          let s := s.mpStatus cMILEPOST_MISS
          if s.owns x then s else s.sendPreq sh x b) s) s
    s.mpComplete

/-- DEADLINE_DP (R291). -/
def execDeadlineDp (s : State) : Out := onClock s State.mpExpire

/-- A RESYNC arrives (R288). -/
def State.onResync (s : State) (f : Frame) : State := s.withEntry f fun s x => s.resync f.shard x f.bundle

/-- RESYNC_RECEIVE (R288). -/
def execResyncReceive (f : Frame) (s : State) : Out := onFrame tRESYNC f s fun s => s.onResync f

/-- The milepost whose parameters carry a revision: the one before it, not above the current milepost. -/
def revMilepost (k rev : Nat) : Nat := k - (k + 65536 - (rev + 65535) % 65536) % 65536

/-- The owner answers a PREQ from its copies and scale table as they stand (R288). -/
def State.onPreq (s : State) (f : Frame) : State := s.withEntry f fun s x =>
  if !s.owns x then s.rxDrop f
  else match s.tlhRead (x.scaleAddr f.bundle) 64 with
    | (s, .error c) => s.mpFault c
    | (s, .ok sc) => s.sendParams f.shard x f.bundle (revMilepost s.mp.k (scaleRev sc)) (scaleRev sc) [f.src]

/-- PREQ_RECEIVE (R288). -/
def execPreqReceive (f : Frame) (s : State) : Out := onFrame tPREQ f s fun s => s.onPreq f

end Sys2Proof.Machine
end

