-- ==== Sys2Proof/Machine/RunOrder.lean ====
section
/-! DEFINITION. The running order: its image (R298 to R304), call boards (R305 to R308), slot boundaries (R299,
R309 to R314, R395), budgets (R313), host aborts (R316), and the service counters (R363 to R365). -/

namespace Sys2Proof.Machine

/-! ## The image -/

/-- A slot entry from its four words (R301). -/
def slotEntry (w : Nat → Nat) : SlotEntry :=
  { kind := fld (w 0) 63 62, be := bit (w 0) 61, ovr := fld (w 0) 60 59, curt := bit (w 0) 58, units := fld (w 0) 55 48
    op := fld (w 0) 47 44, sheet := fld (w 0) 43 32, slack := fld (w 0) 31 0, lanemask := BitVec.ofNat 64 (w 1)
    budget := fld (w 2) 63 48, arg := fld (w 2) 47 0 }

/-- Check 4 of R302 on one slot entry. -/
def slotOk (catn : Nat) (w : Nat → Nat) : Bool :=
  let e := slotEntry w
  let bits14 := [0, 1, 2, 3].filter fun i => e.units.testBit i
  if e.kind = 0 then w 0 == 0 && w 1 == 0 && w 2 == 0 && w 3 == 0
  else
    decide (e.kind < 3) && decide (e.ovr < 2) && fld (w 0) 57 56 == 0 && fld (w 0) 55 53 == 0 && w 3 == 0
    && e.slack != 0 && e.budget != 0
    && (if e.kind = 1 then
          (if e.op = 1 then e.lanemask != 0 && decide (e.sheet < catn)
           else e.op == 2 && bits14.length == 1 && e.lanemask == 0 && e.arg % 64 == 0)
        else e.op == 0 && e.sheet == 0 && e.arg == 0 && (e.lanemask != 0 || e.units != 0))

/-- R321 on one slot entry of a rehearsal image. -/
def SlotEntry.rehOk (e : SlotEntry) : Bool := e.kind == 0 || (e.kind == 1 && e.op == 1)

/-- The image at `base`, or the code of its first failing check (R298, R302, R321). -/
def State.readImage (s : State) (base : Nat) : State × Except Nat ROImage :=
  if base % 64 ≠ 0 then (s, .error cMISALIGN) else
  match s.unpermitted base 64 false with
  | some a => (s.winFault a false, .error cWINDOW)
  | none =>
    let (s, h, _) := s.devReadAll base 64
    let w (i : Nat) := numAt h (8 * i) 8
    let nact := fld (w 3) 18 16 + 1
    match s.unpermitted (base + 64) (2048 * nact) false with
    | some a => (s.winFault a false, .error cWINDOW)
    | none =>
      let (s, t, _) := s.devReadAll (base + 64) (2048 * nact)
      let crc := crc32c (h.take 56 ++ [0, 0, 0, 0] ++ h.drop 60 ++ t)
      let ew (i k : Nat) := numAt t (32 * i + 8 * k) 8
      let im : ROImage := { tf := fld (w 0) 15 0, live := bit (w 0) 16, reh := bit (w 0) 17, catbase := fld (w 1) 47 0
                            catn := fld (w 3) 12 0, stashbase := fld (w 2) 47 0, stashsz := fld (w 3) 63 32, nact := nact
                            slots := (List.range (64 * nact)).filterMap fun i =>
                              let e := slotEntry (ew i); if e = {} then none else some (i, e) }
      let reserved := fld (w 0) 31 18 != 0 || fld (w 1) 63 48 != 0 || fld (w 2) 63 48 != 0 || fld (w 3) 31 19 != 0
        || fld (w 3) 15 13 != 0 || w 4 != 0 || w 5 != 0 || w 6 != 0 || fld (w 7) 63 32 != 0
      if fld (w 0) 63 32 ≠ 0x524F5231 ∨ crc ≠ fld (w 7) 31 0 then (s, .error cDESC_BAD)
      else if im.tf < 250 ∨ 16000 < im.tf ∨ im.catn = 0 ∨ 4096 < im.catn ∨ (im.live = true ↔ im.stashsz = 0) ∨ reserved = true then (s, .error cDESC_BAD)
      else if (List.range (64 * nact)).any fun i => !slotOk im.catn (ew i) then (s, .error cDESC_BAD)
      else if im.reh && (im.live || (List.range (64 * nact)).any fun i => !(slotEntry (ew i)).rehOk) then (s, .error cDESC_BAD)
      else if s.flag RST_BOOTSTAT_REH && !im.reh then (s, .error cREHEARSAL)
      else (s, .ok im)

/-- RUN_CTL.GO (R302, R304, R434): the image is refused, or waits for the frame start at which it takes effect. -/
def State.runGo (s : State) : State :=
  if s.get SEC_STATE_STATE = 2 then (s.put RUN_STAT_CODE cSTATE_DENIED).event 3 else
  match s.readImage (s.get RUN_BASE_ADDR) with
  | (s, .error c) => (s.put RUN_STAT_CODE c).event 3
  | (s, .ok im) =>
    let s := { s with ro := { s.ro with next := some im, nextEl := s.clk.el + 20000 } }.setNextAt
    (((s.put RUN_STAT_CODE cOK).put RUN_STAT_PEND 1).put RUN_FRAME_FRAMES 0).event 3

/-- A write of RUN_CTL (R304): GO with STOP is ignored; STOP takes effect at the next slot boundary. -/
def State.wrRunctl (s : State) (v : Nat) : State :=
  if bit v 0 && bit v 1 then s
  else if bit v 0 then s.runGo
  else if bit v 1 && s.flag RUN_STAT_ACTIVE then { s with ro := { s.ro with stopping := true } }
  else s

/-- RUN_CTL_GO (R304). -/
def execRunCtlGo (v : W32) (s : State) : Out := hostSet 1 ⟨.RUN_CTL, 0, 0⟩ v.toNat s fun s => s.wrRunctl v.toNat
/-- RUN_CTL_STOP (R304). -/
def execRunCtlStop (v : W32) (s : State) : Out := hostSet 1 ⟨.RUN_CTL, 0, 0⟩ v.toNat s fun s => s.wrRunctl v.toNat

/-! ## Frames (R299, R363 to R365) -/

/-- The slot that contains a system time: frame number, slot, and its start (R299). -/
def ROImage.slotOf (im : ROImage) (sys : Nat) : Nat × Nat × Nat :=
  let t := im.period
  let n := sys / t
  let j := ((List.range 64).filter fun j => decide (t * j / 64 ≤ sys % t)).length - 1
  (n, j, n * t + t * j / 64)

/-- The frame in force ends: in service when it began at its first slot under a running order that is no rehearsal;
then excluded, or lost, or neither (R363 to R365). -/
def State.frameEnd (s : State) : State :=
  let us := s.ro.image.elim 0 fun i => i.tf
  let t := { s with ro := { s.ro with frameWhole := false, frameLost := false, frameExcl := false, lastFrameEnd := s.clk.el } }
  if s.ro.frameWhole && !s.flag RUN_STAT_REH then
    let t := t.bump UST_SVCUS_MICROS us
    if s.ro.frameExcl then t.bump UST_EXCLUS_MICROS us
    else if s.ro.frameLost then (t.bump UST_LOSTUS_MICROS us).bump UST_LOSTEV_FRAMES
    else t
  else t

/-- A frame begins at its first slot, excluded while a shed, a thermal limit, a curtain or an update lasts; the time since the last frame before a reset is lost or excluded (R364, R365). -/
def State.frameBegin (s : State) (n : Nat) : State :=
  let excl := s.shed || s.flag ENV_STAT_THERM || s.curt.isSome || s.trust.update.isSome
  let s := { s with ro := { s.ro with frame := n, frameWhole := true, frameExcl := excl } }.bump RUN_FRAME_FRAMES
  match s.boot.gapFrom, s.flag RUN_STAT_REH with
  | some (el, lost), false =>
    let us := (s.clk.el - el) / 1000
    let s := { s with boot := { s.boot with gapFrom := none } }
    if lost then s.bump UST_LOSTUS_MICROS us else s.bump UST_EXCLUS_MICROS us
  | _, _ => s

/-- `k` more frames have passed whole within a tableau: in service, and excluded (R363, R365). -/
def State.framesExcluded (s : State) (k : Nat) : State :=
  let us := k * s.ro.image.elim 0 fun i => i.tf
  if s.flag RUN_STAT_REH then s else (s.bump UST_SVCUS_MICROS us).bump UST_EXCLUS_MICROS us

/-- A tableau ends (R299, R363, R365): the frame it began in is excluded, so are those it spanned and the one it ends in,
and the slot boundaries that passed in it start nothing. -/
def State.frameThaw (s : State) : State :=
  match s.flag RUN_STAT_ACTIVE, s.ro.image with
  | true, some im =>
    let (n, _, b) := im.slotOf s.clk.sys
    let s := s.markExcl
    let s := if n = s.ro.frame then s
      else
        let t := s.frameEnd.framesExcluded (n - s.ro.frame - 1)
        { t with ro := { t.ro with frame := n, frameWhole := true, frameExcl := true } }
    { s with ro := { s.ro with noneBefore := max s.ro.noneBefore (s.clk.sys + 1), lastEl := s.clk.el - (s.clk.sys - b) } }
  | _, _ => s

/-- Frame accounting at a boundary in slot `j` of frame `n`. -/
def State.frameAt (s : State) (n j : Nat) : State :=
  if j = 0 then s.frameEnd.frameBegin n
  else if n = s.ro.frame then s
  else let s := s.frameEnd; { s with ro := { s.ro with frame := n } }

/-- The loaded image takes effect at its frame start (R304); its first command makes a seed point (R37). -/
def State.takeEffect (s : State) : State :=
  match s.ro.next with
  | none => s
  | some im =>
    if s.ro.stopping ∨ s.clk.sys < s.ro.nextAt then s
    else
      let s := s.frameEnd
      let s := { s with ro := { s.ro with image := some im, next := none, noneBefore := max s.ro.noneBefore s.ro.nextAt, seedPending := true } }
      ((s.put RUN_STAT_ACTIVE 1).put RUN_STAT_REH (b2n im.reh)).put RUN_STAT_PEND 0

/-- IMAGE_TAKE_EFFECT (R304). -/
def execImageTakeEffect (s : State) : Out := onClock s State.takeEffect

/-- A command whose start is still to come is taken back when the running order ends (R304). -/
def State.unstart (s : State) (c : Cmd) : State :=
  if c.phase ≠ .starting ∨ c.noted = true then s
  else if c.resume then s.repark c.id
  else
    let s := s.dropCmd c.id
    match c.src with
    | .board e _ => s.modBoard e fun b => { b with eligible := true }
    | .table _ => s
    | .makeup d m => s.modDie d fun x => { x with makeup := m :: x.makeup }

/-- A parked command is discarded: its entry completes with ABORTED, a TABLE or makeup command is dropped (R304). -/
def State.discardParked (s : State) (c : Cmd) : State :=
  if c.phase ≠ .parked then s
  else match c.src with
    | .board _ _ => s.refuseCmd c.id cABORTED
    | _ => (s.dropCmd c.id).unpark c.mask

/-- STOP takes effect, at a frame start (`whole`) after the frame that ended there is counted (R304, R363); the time since
the last frame's end is excluded (R365). -/
def State.stopEffect (s : State) (whole : Bool) : State :=
  let s := (if whole then s.frameEnd else s).gap false
  let s := { s with ro := { s.ro with stopping := false, next := none, frameWhole := false } }
  let s := ((s.put RUN_STAT_ACTIVE 0).put RUN_STAT_REH 0).put RUN_STAT_PEND 0
  let s := s.ro.cmds.foldl State.unstart s
  let s := s.ro.cmds.foldl State.discardParked s
  let s := (List.range 8).foldl (fun s d => if (s.die d).swap.any fun w => w.copied then s.mapSwitch d else s) s
  s.f0Waiting.event 3

/-! ## Accepting call boards (R306, R308) -/

/-- Words of command `i` of the copy. -/
def Board.cmdWord (b : Board) (i k : Nat) : Nat := b.own (4 + 3 * i + k)

/-- Command `i` breaks R308. -/
def Board.cmdBad (b : Board) (i : Nat) : Bool :=
  let w0 := b.cmdWord i 0
  let w1 := b.cmdWord i 1
  let w2 := b.cmdWord i 2
  let port := fld w0 59 50 != 0 || fld w0 47 0 != 0 || w1 != 0 || fld w2 63 48 != 0
  match fld w0 63 60 with
  | 1 => fld w0 59 44 != 0 || fld w0 31 0 != 0 || w1 == 0 || w2 != 0
  | 2 => port
  | 3 => fld w0 59 32 != 0 || w2 != 0
  | 4 => port
  | _ => true

/-- The index a CALL_BAD refusal names, if the entry is refused (R306). -/
def Board.callBad (b : Board) : Option Nat :=
  let w0 := b.own 0
  let n := b.ncmd
  if n = 0 ∨ 8 < n ∨ fld w0 28 24 ≠ 0 ∨ fld w0 15 4 ≠ 0 ∨ ([1, 2, 3].any fun i => b.own i != 0) = true
      ∨ ((List.range (24 - 3 * n)).any fun i => b.own (4 + 3 * n + i) != 0) = true then some 0
  else (List.range n).find? b.cmdBad

/-- An entry completes at once with an F code of command `i`. -/
def State.refuseEntry (s : State) (e i code : Nat) : State :=
  (s.modBoard e fun b => { b.setCode i code with fcode := some (i, code) }).entryDone e

/-- An entry with READY set, FREE or DONE, is accepted: copied, cleared, queued, and refused where R306 or
rehearsal mode (R321) says so. -/
def State.acceptBoard (s : State) (e : Nat) : State :=
  let b := s.board e
  if !bit (b.word 0) 31 || !(b.state == stFREE || b.state == stDONE) then s
  else
    let copy := b.words.filter fun x => decide (x.1 < 28)
    let b : Board := { words := Tab.set 0 (b.words.filter fun x => decide (x.1 < 28)) 0 (BitVec.ofNat 64 (putBits (b.word 0) 31 1 0)), copy := copy }
    let b := b.setWord 28 (fld (b.own 0) 63 32 * 2 ^ 32 + stQUEUED * 2 ^ 29)
    let s := s.setBoard e b
    match b.callBad with
    | some i => s.refuseEntry e i cCALL_BAD
    | none => if s.flag RST_BOOTSTAT_REH then s.refuseEntry e 0 cREHEARSAL else s

/-- A command of the entry exists and has not ended. -/
def State.boardBusy (s : State) (e : Nat) : Bool :=
  s.ro.cmds.any fun c => match c.src with | .board x _ => x == e | _ => false

/-- The command of a queued entry becomes eligible at a boundary (R308). -/
def State.makeEligible (s : State) (e : Nat) : State :=
  let b := s.board e
  if b.state == stQUEUED && !b.eligible && !s.boardBusy e then s.setBoard e { b with eligible := true, since := s.clk.el } else s

/-- Entries read and accepted at a boundary, in ascending number. -/
def State.acceptBoards (s : State) : State :=
  (List.range 64).foldl (fun s e => (s.acceptBoard e).makeEligible e) s

/-! ## Starting (R309, R310, R312, R314, R319) -/

/-- A BOARD entry's next command. -/
def Board.command (b : Board) (e : Nat) : Cmd :=
  let w0 := b.cmdWord b.cmd 0
  let w1 := b.cmdWord b.cmd 1
  let w2 := b.cmdWord b.cmd 2
  let op := fld w0 63 60
  let c : Cmd := { id := 0, src := .board e b.cmd, op := op, be := bit (b.own 0) 29, slack := 0, ovr := 0, curt := false, budget := 0, act := 0, slot := 0, start := 0 }
  if op = 1 then { c with sheet := fld w0 43 32, mask := BitVec.ofNat 64 w1 }
  else if op = 3 then { c with k := fld w0 31 0, tk := w1 }
  else { c with port := fld w0 49 48, arg := fld w2 47 0 }

/-- Conditions 1 and 2 of R309. -/
def SlotAt.takes (x : SlotAt) (c : Cmd) : Bool :=
  c.be == x.e.be && (if c.op = 1 then c.mask &&& x.e.lanemask == c.mask
    else if c.op = 2 then x.e.units.testBit c.port else x.e.units.testBit 4)

/-- An LC start is held off: the frame is lost where a swap holds one of its units (R364). -/
def State.heldOff (s : State) (us : List Nat) : State :=
  if us.any fun u => decide (u < 64) && (s.die (u / 8)).swap.any fun w => w.inF0 && w.lbay == u then s.markLost else s

/-- An LC command misses a boundary: SLOT_MISS once per command (R314). -/
def State.miss (s : State) (e : Nat) : State :=
  let b := s.board e
  if b.missed then s
  else (s.setBoard e { b with missed := true, scodes := b.scodes ++ [(b.cmd, cSLOT_MISS)] }).bump RUN_MISS_COUNT

/-- The state while a boundary starts commands, with the units taken so far. -/
structure Starting where
  s : State
  taken : List Nat := []

/-- A command starts or resumes after the BE commands in its way have been stopped. -/
def Starting.start (y : Starting) (x : SlotAt) (c : Cmd) (stops : List Nat) (parked : Option Nat) : Starting :=
  let s := y.s.clearUnits c.units stops
  let s := match parked with
    | some id => s.resumeCmd x id
    | none => s.createCmd x c
  { s := s, taken := y.taken ++ c.units }

/-- An eligible entry is considered at a BOARD slot (R309, R314). -/
def Starting.board (x : SlotAt) (y : Starting) (e : Nat) : Starting :=
  let b := y.s.board e
  let c := b.command e
  if !x.takes c then y
  else match y.s.avail (!x.e.be) y.taken c.units with
    | .lc => if x.e.be then y else { y with s := (y.s.miss e).heldOff c.units }
    | .no => y
    | .go stops =>
      let y := { y with s := y.s.setBoard e { b with eligible := false, parked := none } }
      y.start x c stops b.parked

/-- The eligible entries in the order of R309. -/
def State.eligible (s : State) : List Nat :=
  let es := (List.range 64).filter fun e => (s.board e).eligible
  es.insertionSort fun a b => (s.board a).since < (s.board b).since ∨ ((s.board a).since = (s.board b).since ∧ a ≤ b)

/-- The command of a TABLE slot (R301). -/
def SlotAt.command (x : SlotAt) : Cmd :=
  { id := 0, src := .table (64 * x.act + x.slot), op := x.e.op, sheet := x.e.sheet, mask := x.e.lanemask
    port := (([0, 1, 2, 3].find? fun i => x.e.units.testBit i).getD 0), arg := x.e.arg, be := x.e.be
    slack := 0, ovr := 0, curt := false, budget := 0, act := 0, slot := 0, start := 0 }

/-- The parked command of a source, if one waits. -/
def State.parkedOf (s : State) (p : Src → Bool) : Option Cmd := s.ro.cmds.find? fun c => p c.src && c.phase == .parked

/-- A TABLE slot starts its command, or resumes the one it parked (R310). -/
def Starting.table (x : SlotAt) (y : Starting) : Starting :=
  let parked := y.s.parkedOf fun r => r == .table (64 * x.act + x.slot)
  let c := parked.getD x.command
  match y.s.avail (!x.e.be) y.taken c.units with
  | .lc =>
    let s := (y.s.bump RUN_MISS_COUNT).tableCode x.act x.slot cSLOT_MISS
    { y with s := if x.e.be then s else s.heldOff c.units }
  | .no => y
  | .go stops => y.start x c stops (parked.map fun c => c.id)

/-- A makeup command on a logical bay (R312). -/
def makeupCmd (d : Nat) (m : Makeup) : Cmd :=
  { id := 0, src := .makeup d m, op := 1, sheet := m.sheet, mask := BitVec.ofNat 64 (2 ^ m.lbay), be := true
    slack := 0, ovr := 0, curt := false, budget := 0, act := 0, slot := 0, start := 0 }

/-- The head of a die's makeup queue starts when its bay is in the LANEMASK and free, and then the next (R312). -/
def Starting.makeups (x : SlotAt) (d : Nat) : Nat → Starting → Starting
  | 0, y => y
  | fuel + 1, y => match (y.s.die d).makeup with
    | [] => y
    | m :: rest =>
      if !x.e.lanemask.getLsbD m.lbay then y
      else match y.s.avail false y.taken [m.lbay] with
        | .go stops =>
          let y := { y with s := (y.s.modDie d fun q => { q with makeup := rest }).bump RUN_MAKEUP_COUNT }
          Starting.makeups x d fuel (y.start x (makeupCmd d m) stops none)
        | _ => y

/-- Parked makeup commands resume, then each die's queue is taken in order (R312). -/
def Starting.allMakeups (x : SlotAt) (y : Starting) : Starting :=
  let parked := y.s.ro.cmds.filter fun c => c.phase == .parked && match c.src with | .makeup _ _ => true | _ => false
  let y := parked.foldl (fun (y : Starting) c =>
    if c.mask &&& x.e.lanemask == c.mask then
      match y.s.avail false y.taken c.units with
      | .go stops => y.start x c stops (some c.id)
      | _ => y
    else y) y
  (List.range 8).foldl (fun y d => Starting.makeups x d 16 y) y

/-- The bay a margin check may start on (R350). -/
def State.checkable (s : State) (lanemask : W64) (lb : Nat) : Bool :=
  let p := s.phys lb
  lanemask.getLsbD lb && s.get CUE_SEQSTAT_STATE p == 1 && (s.bay p).cid.isNone && !(s.bay p).check
  && !s.heldLc lb && (s.beHolders [lb]).isEmpty
  && (Tab.get 0 s.ro.lastCheck lb == 0 || decide (Tab.get 0 s.ro.lastCheck lb + 10 ^ 9 ≤ s.clk.el + 1))

/-- One margin check starts on the next bay of the rotation (R350). -/
def State.startCheck (s : State) (lanemask : W64) : State :=
  match ((List.range 64).map fun i => (s.ro.checkRot + i) % 64).find? (s.checkable lanemask) with
  | none => s
  | some lb =>
    let s := s.modBay (s.phys lb) fun b => { b with check := true }
    { s with ro := { s.ro with checkRot := (lb + 1) % 64, lastCheck := Tab.set 0 s.ro.lastCheck lb (s.clk.el + 1) } }

/-- Eligible commands that wait during a shed report SHED (R319). -/
def State.shedWaits (s : State) : State :=
  (List.range 64).foldl (fun s e =>
    let b := s.board e
    if b.eligible && !b.scodes.contains (b.cmd, cSHED) then s.setBoard e { b with scodes := b.scodes ++ [(b.cmd, cSHED)] } else s) s

/-- Steps 7 to 10 of R395 in slot `x`. -/
def State.startSlot (s : State) (x : SlotAt) : State :=
  if x.e.kind = 0 then s
  else
    let y : Starting := { s := s }
    let y := if x.e.be then y.allMakeups x else y
    let y := if x.e.kind = 2 then y.s.eligible.foldl (Starting.board x) y else y.table x
    if x.e.be then y.s.startCheck x.e.lanemask else y.s

/-- A slot boundary of frame `n`, slot `j` (R395). -/
def State.boundary (s : State) (im : ROImage) (n j : Nat) : State :=
  let act := n % im.nact
  let s := ((s.frameAt n j).put RUN_STAT_ACT act).put RUN_STAT_SLOT j
  let s := (List.range 8).foldl (fun s d => if (s.die d).swap.any fun w => w.copied && w.f0 != n then s.mapSwitch d else s) s
  let s := s.applyWindows
  let s := if j = 0 then (List.range 8).foldl (fun s d => s.f0Begin d n) s else s
  let s := s.acceptBoards
  if s.shed then s.shedWaits
  else s.startSlot { e := Tab.get {} im.slots (64 * act + j), act := act, slot := j }

/-- The slot boundary that system time has reached, once each (R299, R300, R304). Windows committed before the boundary
of a STOP take effect with no running order, by WINDOW_APPLY (log entry 84, DESIGN CHOICE). -/
def State.slotBoundary (s : State) : State :=
  let s := s.takeEffect
  match s.flag RUN_STAT_ACTIVE, s.ro.image with
  | true, some im =>
    let (n, j, b) := im.slotOf s.clk.sys
    if b < s.ro.noneBefore then s
    else
      let s := { s with ro := { s.ro with noneBefore := b + 1, lastEl := s.clk.el } }
      if s.ro.stopping then s.stopEffect (j == 0) else s.boundary im n j
  | _, _ => s

/-- SLOT_BOUNDARY (R395). -/
def execSlotBoundary (s : State) : Out := onClock s State.slotBoundary

/-- BUDGET_EXPIRY (R313). -/
def execBudgetExpiry (cid : Nat) (s : State) : Out :=
  onClock s fun s => match s.cmd cid with
    | none => s
    | some c =>
      if c.noted && !c.overbud && c.phase != .parked && decide (c.start + 1000 * c.budget ≤ s.clk.el) then
        (s.modCmd cid fun x => { x with overbud := true }).bump RUN_OVERBUD_COUNT
      else s

/-! ## Host aborts (R316) -/

/-- A running command is aborted: a lane is stopped, an engine ends its job, and it completes with ABORTED. -/
def State.abortCmd (s : State) (c : Cmd) : State :=
  if c.phase = .starting ∧ c.noted = false ∧ c.resume = false then
    (match c.src with
    | .board e i => (s.dropCmd c.id).refuseEntry e i cABORTED
    | _ => s)
  else if c.op = 1 then
    (if c.phase = .starting ∨ c.phase = .parked then s.refuseCmd c.id cABORTED
     else ((s.modCmd c.id fun x => { x.setF cABORTED with phase := .aborting, liveStop := false }).stopLane c.mask .pointers).settleLane c.id)
  else if c.phase = .starting then s.refuseCmd c.id cABORTED
  else if c.op = 2 then
    match (s.port c.port).gather with
    | some x => (s.jobDone c.port { x with code := cABORTED }).refuseCmd c.id cABORTED
    | none => s.refuseCmd c.id cABORTED
  else if c.op = 3 then s.mpRefuse c.id cABORTED
  else (s.modPort c.port fun q => { q with snap := q.snap.map fun x => { x with code := some cABORTED } }).snapComplete c.id

/-- The logical bays of an entry's RUN commands. -/
def Board.bays (b : Board) : W64 :=
  (List.range b.ncmd).foldl (fun m i => if fld (b.cmdWord i 0) 63 60 = 1 then m ||| BitVec.ofNat 64 (b.cmdWord i 1) else m) 0

/-- A queued, running or parked entry is aborted (R316). -/
def State.abortEntry (s : State) (e : Nat) : State :=
  let b := s.board e
  if b.state = stFREE ∨ b.state = stDONE then s
  else if s.boardBusy e then
    s.ro.cmds.foldl (fun s c => match c.src with
      | .board x _ => if x = e then s.abortCmd c else s
      | _ => s) s
  else s.refuseEntry e b.cmd cABORTED

/-- RUN_ABORT.GO aborts entry ENTRY; with CURT a curtain of its logical bays follows (R316). -/
def State.wrRunAbort (s : State) (v : Nat) : State :=
  if !bit v 31 then s
  else
    let e := s.get RUN_ABORT_ENTRY
    let b := s.board e
    if b.state = stFREE ∨ b.state = stDONE then s
    else
      let s := s.markExcl.abortEntry e
      if s.flag RUN_ABORT_CURT && b.bays != 0 then s.requestCurtain { bays := b.bays, grm := 0, keep := false } else s

/-- RUN_ABORT_GO (R316). -/
def execRunAbortGo (v : W32) (s : State) : Out := hostSet 1 ⟨.RUN_ABORT, 0, 0⟩ v.toNat s fun s => s.wrRunAbort v.toNat

end Sys2Proof.Machine
end

