-- ==== Sys2Proof/Machine/Envelope.lean ====
section
/-! DEFINITION. The power envelope: draw schedules (R325 to R329), the control loop (R330 to R335, R472), sheds,
sags, dropouts, surges and dark stops (R336 to R340), thermal and coolant limits (R341, R466) and metering (R342
to R344). Power is in nW, so that a ramp limit in W/s times an interval in ns is exact. -/

namespace Sys2Proof.Machine

/-! ## Schedules -/

/-- An entry's two words (R326). -/
def SchedEntry.w0 (e : SchedEntry) : Nat := e.start * 2 ^ 32 + e.pmax * 2 ^ 16 + e.pmin
def SchedEntry.w1 (e : SchedEntry) : Nat := b2n e.holdroom * 2 ^ 63 + e.rup * 2 ^ 32 + e.rdn

/-- The default entry (R329). -/
def SchedEntry.default : SchedEntry := { start := 0, pmax := 3500, pmin := 0, holdroom := false, rup := 0, rdn := 0 }

/-- An entry of an image (R326). -/
def schedEntry (w0 w1 : Nat) : SchedEntry :=
  { start := fld w0 63 32, pmax := fld w0 31 16, pmin := fld w0 15 0, holdroom := bit w1 63, rup := fld w1 51 32, rdn := fld w1 19 0 }

/-- A ramp limit in range (R326). -/
def rampOk (r : Nat) : Bool := r == 0 || (decide (100 ≤ r) && decide (r ≤ 1000000))

/-- The limits of R326 on one entry in use. -/
def schedEntryOk (w0 w1 : Nat) : Bool :=
  let e := schedEntry w0 w1
  decide (750 ≤ e.pmax) && decide (e.pmax ≤ 3500)
  && (e.pmin == 0 || (decide (200 ≤ e.pmin) && decide (e.pmin ≤ 2000) && decide (e.pmin + 250 ≤ e.pmax)))
  && rampOk e.rup && rampOk e.rdn && fld w1 62 52 == 0 && fld w1 31 20 == 0

/-- START ascends strictly (R326). -/
def ascending : List Nat → Bool
  | a :: b :: t => decide (a < b) && ascending (b :: t)
  | _ => true

/-- Check 6 of R327 on a whole image. -/
def schedForm (bs : Bytes) : Bool :=
  let w (i : Nat) := numAt bs (8 * i) 8
  let n := fld (w 0) 6 0
  let e0 (i : Nat) := numAt bs (64 + 16 * i) 8
  let e1 (i : Nat) := numAt bs (72 + 16 * i) 8
  fld (w 0) 63 32 == 0x45565331 && fld (w 0) 31 7 == 0 && decide (1 ≤ n) && decide (n ≤ 64)
  && ([4, 5, 6, 7].all fun i => w i == 0)
  && ((List.range n).all fun i => schedEntryOk (e0 i) (e1 i))
  && ascending ((List.range n).map fun i => (schedEntry (e0 i) (e1 i)).start)
  && ((List.range (64 - n)).all fun i => e0 (n + i) == 0 && e1 (n + i) == 0)
  && ((bs.drop 5715).all fun b => b == 0)

/-- The schedule an image holds. -/
def scheduleOf (bs : Bytes) : Schedule :=
  { serial := fld (numAt bs 8 8) 63 32
    entries := (List.range (fld (numAt bs 0 8) 6 0)).map fun i => schedEntry (numAt bs (64 + 16 * i) 8) (numAt bs (72 + 16 * i) 8)
    digest := sha3 (bs.take 1088) }

/-- DEVID: the first 16 B of the SHA3-512 of the identity public key (R431). -/
def devid : Bytes := (sha3 Config.identityKey).take 16

/-- The image a submission names, or the refusal of check 1, before anything is read, or of check 2 (R327). -/
def State.schedImage (s : State) (src : SchedSrc) : State × Except Nat Bytes :=
  if s.get SEC_STATE_STATE = 2 then (s, .error cSTATE_DENIED) else
  match src with
  | .mgmt bs => (s, .ok bs)
  | .host a =>
    if a % 64 ≠ 0 then (s, .error cMISALIGN) else
    match s.unpermitted a 5760 false with
    | some x => (s.winFault x false, .error cWINDOW)
    | none => let (s, bs, _) := s.devReadAll a 5760; (s, .ok bs)

/-- The code of a submission (R327), in the order of its checks. -/
def State.schedCode (s : State) (img : Except Nat Bytes) : Nat :=
  match img with
  | .error c => c
  | .ok bs =>
    if s.flag SEC_STATE_FACKEY = false then cKEY_ABSENT
    else if Config.mldsaVerify s.nv.facKey (sha3 (bs.take 1088)) ((bs.drop 1088).take 4627) = false then cSIG_BAD
    else if (bs.drop 16).take 16 ≠ devid ∨ fld (numAt bs 8 8) 63 32 ≤ s.env.serialCmp then cSIG_BAD
    else if schedForm bs then cOK else cDESC_BAD

/-- A result for the management port, with its in-band interrupt (R465). -/
def State.mgmtResult (s : State) (cmd : Nat) (bs : Bytes) : State :=
  { s with mgmt := { s.mgmt with result := some bs, ibi := s.mgmt.ibi ++ [cmd] } }

/-- Verification ends (R327, R328, R344): ENV_STAT.LCODE, the event log, and an accepted schedule waits for its tick.
The serial of an image that could not be read is not stated: a free value. -/
def State.verifyDone (s : State) : State :=
  match s.env.load with
  | none => s
  | some src =>
    let (s, img) := s.schedImage src
    let code := s.schedCode img
    let (f, s) := s.fresh
    let serial := match img with | .ok bs => fld (numAt bs 8 8) 63 32 | .error _ => f % 2 ^ 32
    let s := (({ s with env := { s.env with load := none } }.put ENV_STAT_LBUSY 0).put ENV_STAT_LCODE code).evlog
      (if code = cOK then 8 else 9) code serial
    let s := match img, src with
      | .ok bs, _ => if code = cOK then { s with env := { s.env with accepted := some (scheduleOf bs), serialCmp := serial } } else s
      | _, _ => s
    match src with
    | .mgmt _ => s.mgmtResult 0x11 [BitVec.ofNat 8 code]
    | .host _ => s

/-- SCHEDULE_VERIFY_DONE (R327). -/
def execScheduleVerifyDone (s : State) : Out := onPower s State.verifyDone

/-! ## Sheds (R336, R337) -/

/-- The conditions of R336 that hold: bit 0 pin, 1 register, 2 sag, 3 dropout (R344). -/
def State.shedSources (s : State) : Nat :=
  s.get ENV_STAT_PIN + 2 * s.get ENV_CTL_SHED + 4 * s.get ENV_STAT_SAG + 8 * s.get ENV_STAT_DROP

/-- What the minute's record gathers is changed. -/
def State.modAcc (s : State) (f : MinuteAcc → MinuteAcc) : State := { s with env := { s.env with acc := f s.env.acc } }

/-- What holds the waiting cues of every bay changes with a shed (R380): from its own stall to the shed's hold, or back
to the stall, a WAIT where it stalls on no unit. -/
def State.shedCause (s : State) (shed : Bool) : State :=
  { s with bays := s.bays.map fun x => (x.1,
      if x.2.wait.isNone then x.2 else x.2.waitFor s.clk.ca (if shed then 5 else x.2.stall.getD 2)) }

/-- Every WALK of the envelope ends (R336). -/
def State.walksOff (s : State) : State :=
  (List.range 64).foldl (fun s lb =>
    let p := s.phys lb
    if (s.bay p).cid.isNone && s.get CUE_SEQSTAT_STATE p == 1 then s.modBay p Bay.walkOff else s) s

/-- A shed begins: walk-on ends, CK_A goes to ÷24, every running or waiting command reports SHED (R319, R336, R337). -/
def State.shedBegin (s : State) : State :=
  let s := (((s.put ENV_STAT_SHED 1).put RUN_STAT_SHED 1).put ENV_STAT_WSTEPS 0).setDiv 3
  let s := { s with env := { s.env with shedStart := s.clk.el, shedMark := s.clk.el } }.modAcc fun a => { a with sheds := a.sheds + 1 }
  let s := s.evlog 1 cSHED s.shedSources
  let s := s.ro.cmds.foldl (fun s c => if c.phase = .parked then s else s.modCmd c.id (·.addS cSHED)) s
  (s.shedWaits.markExcl.walksOff).shedCause true

/-- SHEDMS of the minute takes the time under shed up to now. -/
def State.shedTime (s : State) : State :=
  { s with env := { s.env with shedMark := s.clk.el, acc := { s.env.acc with shedNs := s.env.acc.shedNs + (s.clk.el - s.env.shedMark) } } }

/-- A shed lifts: level 19, no walk-on, and R is the next measured P (R337). -/
def State.shedEnd (s : State) : State :=
  let s := ((s.shedTime.put ENV_STAT_SHED 0).put RUN_STAT_SHED 0).put ENV_STAT_WSTEPS 0
  let s := { s.setLevel 19 with env := { s.env with rFresh := true, shedOver := s.clk.el } }.shedCause false
  (s.evlog 2 cOK ((s.clk.el - s.env.shedStart) / 1000)).f0Waiting

/-- The shed follows its conditions (R336, R337). -/
def State.shedUpdate (s : State) : State :=
  if s.shedSources ≠ 0 ∧ s.shed = false then s.shedBegin
  else if s.shedSources = 0 ∧ s.shed = true then s.shedEnd
  else s

/-- A write of ENV_CTL: SHED acts at all times, LOAD and CCLR only outside a tableau (R327, R347, R388). -/
def State.wrEnvctl (s : State) (v : Nat) : State :=
  let s := s.shedUpdate
  if s.get TAB_STAT_STATE ≠ 0 then s
  else
    let s := if bit v 2 then s.clear .ENV_CNT else s
    if bit v 0 && !s.flag ENV_STAT_LBUSY then
      { s with env := { s.env with load := some (.host (s.get ENV_SCHEDBASE_ADDR)) } }.put ENV_STAT_LBUSY 1
    else s

/-- ENV_CTL_LOAD (R327). -/
def execEnvCtlLoad (v : W32) (s : State) : Out := hostSet 1 ⟨.ENV_CTL, 0, 0⟩ v.toNat s fun s => s.wrEnvctl v.toNat
/-- ENV_CTL_SHED (R336). -/
def execEnvCtlShed (v : W32) (s : State) : Out := hostSet 1 ⟨.ENV_CTL, 0, 0⟩ v.toNat s fun s => s.wrEnvctl v.toNat
/-- ENV_CTL_CCLR (R347). -/
def execEnvCtlCclr (v : W32) (s : State) : Out := hostSet 1 ⟨.ENV_CTL, 0, 0⟩ v.toNat s fun s => s.wrEnvctl v.toNat

/-- SHED_N has stood at a level for the deglitch time. -/
def State.shedPin (s : State) (low : Bool) : State :=
  ({ s with pins := { s.pins with shedN := !low } }.put ENV_STAT_PIN (b2n low)).shedUpdate

/-- SHED_N_FALL (R336). -/
def execShedNFall (s : State) : Out := onPower s fun s => s.shedPin true
/-- SHED_N_RISE (R336). -/
def execShedNRise (s : State) : Out := onPower s fun s => s.shedPin false

/-! ## Sags, dropouts, surges (R338 to R340) -/

/-- A sag begins. -/
def State.sagIn (s : State) (vin : Nat) : State :=
  if s.flag ENV_STAT_SAG = false then
    let s := (s.put ENV_STAT_SAG 1).put ENV_POWER_VIN vin
    let s := { s with env := { s.env with sagStart := s.clk.el } }.modAcc fun a => { a with sags := a.sags + 1 }
    s.evlog 3 cVIN_SAG vin
  else s

/-- SAG_BEGIN (R338): an input below 44 V. -/
def execSagBegin (vin : Nat) (s : State) : Out := onPower s fun s => if vin < 4400 then (s.sagIn vin).shedUpdate else s

/-- SAG_END (R338): the input has stayed at or above 45 V for 1 ms. -/
def execSagEnd (vin : Nat) (s : State) : Out :=
  onPower s fun s =>
    if 4500 ≤ vin ∧ s.flag ENV_STAT_SAG = true ∧ s.flag ENV_STAT_DROP = false then
      (((s.put ENV_STAT_SAG 0).put ENV_POWER_VIN vin).evlog 4 cOK ((s.clk.el - s.env.sagStart) / 1000)).shedUpdate
    else s

/-- A dropout is ridden through from here on. -/
def State.dropIn (s : State) : State :=
  if s.flag ENV_STAT_DROP then s else (s.put ENV_STAT_DROP 1).modAcc fun a => { a with drops := a.drops + 1 }

/-- DROPOUT (R339): an input below 36 V; it is below 44 V too, so the sag holds with it. -/
def execDropout (vin : Nat) (s : State) : Out :=
  onPower s fun s => if vin < 3600 then (((s.sagIn vin).put ENV_POWER_VIN vin).dropIn).shedUpdate else s

/-- SURGE (R340): an input of 58 to 72 V. -/
def execSurge (vin : Nat) (s : State) : Out :=
  onPower s fun s =>
    if 5800 ≤ vin ∧ vin ≤ 7200 then
      ((s.put ENV_POWER_VIN vin).modAcc fun a => { a with surges := a.surges + 1 }).evlog 6 cOK vin
    else s

/-- SURGE_TIMEOUT (R340): above 58 V for more than 10 ms, or above 72 V, the hot-swap stage opens and the module
proceeds as under a dropout, which ends as a sag (R339). -/
def execSurgeTimeout (vin : Nat) (s : State) : Out :=
  onPower s fun s => if 5800 < vin then (((s.sagIn vin).put ENV_POWER_VIN vin).dropIn).shedUpdate else s

/-! ## Metering (R342, R343) -/

/-- A count that stops at the largest value of `w` bits. -/
def cap (w n : Nat) : Nat := if n < 2 ^ w then n else 2 ^ w - 1

/-- Free bytes, where the manual states no value. -/
def State.freeBytes (s : State) (words : Nat) : Bytes × State :=
  ((List.range words).flatMap fun i => leBytes 8 (Config.freeValue (s.free + i)).toNat, { s with free := s.free + words })

/-- Bytes cut or filled with zeros to a length. -/
def padTo (n : Nat) (bs : Bytes) : Bytes := bs.take n ++ List.replicate (n - bs.length) 0

/-- The FLAGS of the minute (R342), without POWERFAIL and LATESIG. -/
def State.minuteFlags (s : State) (coverMs : Nat) : Nat :=
  let a := s.env.acc
  b2n (decide (coverMs < 60000)) + 2 * b2n (a.holdover || s.flag FAB_TIMESTAT_HOLDOVER) + 4 * b2n a.clockstep + 16 * b2n a.change
  + 64 * b2n (a.tableau || s.frozen.isSome) + 128 * b2n (!s.clk.timeKnown)

/-- The 448 B body of a record (R342). PREV of the first record and SCHED with no schedule in force are not stated:
free bytes. -/
def State.meterBody (s : State) (minute : Nat) (m : MinuteMeter) (flags : Nat) : Bytes × State :=
  let a := s.env.acc
  let (fp, s) := s.freeBytes 8
  let (fs, s) := s.freeBytes 8
  let c := m.coverMs
  let ws := wordsBytes [0x4D4D5231 * 2 ^ 32 + s.get FAB_DEVNO_DEVICE, minute % 2 ^ 32 * 2 ^ 32 + s.get ENV_MMSTAT_NEXTSEQ, m.energy,
    cap 16 m.pmax100 * 2 ^ 48 + cap 16 m.pmin100 * 2 ^ 32 + cap 16 m.ppeak * 2 ^ 16 + c % 65536,
    a.serial * 2 ^ 32 + a.index * 2 ^ 26 + c / 65536 % 1024 * 2 ^ 16 + flags, a.w0.toNat, a.w1.toNat,
    cap 16 a.ramphold * 2 ^ 48 + cap 16 a.caplimit * 2 ^ 32 + cap 16 a.short * 2 ^ 16 + cap 16 a.thermticks,
    cap 8 a.sheds * 2 ^ 56 + cap 8 a.sags * 2 ^ 48 + cap 8 a.drops * 2 ^ 40 + cap 8 a.surges * 2 ^ 32 + cap 32 (a.shedNs / 1000000),
    0, 0, 0, 0, 0, 0, 0]
  (ws ++ (if s.nv.prevDigest.isEmpty then fp else s.nv.prevDigest) ++ (if a.digest.isEmpty then fs else a.digest) ++ List.replicate 192 0, s)

/-- A record's body signed by the identity key (R342). -/
def signedRecord (body : Bytes) : Bytes := body ++ padTo 4672 (Config.identitySign (sha3 body))

/-- A record goes into the store: slot SEQ mod 204, PREV of the next one, and event METER (R342, R343, R450). -/
def State.storeRecord (s : State) (body : Bytes) : State :=
  let n := s.get ENV_MMSTAT_NEXTSEQ
  let s := { s with nv := { s.nv with meters := Tab.set [] s.nv.meters (n % 204) (signedRecord body), prevDigest := sha3 body } }
  let s := (s.bumpWrap ENV_MMSTAT_NEXTSEQ).put ENV_MMSTAT_HEAD ((n + 1) % 204)
  let s := if s.get ENV_MMSTAT_COUNT < 204 then s.bump ENV_MMSTAT_COUNT else s
  s.event 2

/-- The power-fail record, if one waits, is signed with LATESIG (FLAGS bit 5) and stored (R342). -/
def State.signLate (s : State) : State :=
  match s.nv.powerFail with
  | none => s
  | some body =>
    { s with nv := { s.nv with powerFail := none } }.storeRecord
      (body.take 32 ++ [(body.getD 32 0) ||| 0x20] ++ body.drop 33)

/-- A minute's record starts with what is in force (R342). -/
def State.freshAcc (s : State) : MinuteAcc :=
  { serial := s.get ENV_SCHED_SERIAL, index := s.get ENV_SCHED_INDEX, w0 := s.raw ⟨.ENV_ENTRYW0, 0, 0⟩, w1 := s.raw ⟨.ENV_ENTRYW1, 0, 0⟩,
    digest := s.env.cur.elim [] fun c => c.digest }

/-- The next minute begins, in a tableau or in holdover as the last one ended. -/
def State.newMinute (s : State) : State :=
  { s with env := { s.env with acc := { s.freshAcc with tableau := s.frozen.isSome, holdover := s.flag FAB_TIMESTAT_HOLDOVER } } }

/-- METERED_MINUTE (R342): the minute that has just ended is recorded with what the meter measured. -/
def execMeteredMinute (m : MinuteMeter) (s : State) : Out :=
  onPower s fun s =>
    let s := if s.shed then s.signLate.shedTime else s.signLate
    let (body, s) := s.meterBody (s.clk.sys / 60000000000 - 1) m (s.minuteFlags m.coverMs)
    (s.storeRecord body).newMinute

/-! ## The dark stop (R339, R394) -/

/-- What the loop has metered of the current minute. -/
def MinuteAcc.meter (a : MinuteAcc) : MinuteMeter :=
  { energy := a.energy / 10 ^ 9, pmax100 := a.pmax, pmin100 := a.pmin.getD 0, ppeak := a.ppeak, coverMs := a.cover / 1000000 }

/-- Depots are written back (R202, R339, R411). -/
def State.depotsBack (s : State) : State := (List.range 4).foldl State.depotClean s

/-- A dark stop (R339): every bay stops, the depots are written back, the switched domains go off but for AON and MGT,
PWR_OK falls, and the power-fail record of the minute is kept. A tableau ends (R394). -/
def State.darkStop (s : State) (bulk : Nat) (after : Power) : State :=
  let s := s.gap false
  let s := (List.range 72).foldl (fun s p => if s.get CUE_SEQSTAT_STATE p = 3 ∨ s.get CUE_SEQSTAT_STATE p = 4 then s.haltUnits p else s) s
  let s := s.depotsBack
  let s := (List.range 12).foldl (fun s d => s.put PWR_DOMSTAT_ON (if d < 8 then 0x80000 else 0xC0000) d) s
  let s := if s.shed then s.shedTime else s
  let m := s.env.acc.meter
  let (body, s) := s.meterBody (s.clk.sys / 60000000000) m (s.minuteFlags m.coverMs + 8)
  let s := { s with nv := { s.nv with powerFail := some body }, frozen := none, pins := { s.pins with pwrOk := false }
                    boot := { s.boot with power := after } }
  (s.clear .TAB_STAT).evlog 5 cPOWER_FAIL bulk

/-- DARK_STOP (R339): the dropout has lasted 2 ms or the bulk, in 10 mV, fell below 40 V. -/
def execDarkStop (bulk : Nat) (s : State) : Out :=
  onPower s fun s => if s.flag ENV_STAT_DROP || decide (bulk < 4000) then s.darkStop bulk .dark else s

/-- A dark stop without ride-through (R341, R461, R464); the bulk voltage it finds is not stated: a free value. -/
def State.darkNow (s : State) (after : Power) : State :=
  let (b, s) := s.fresh
  { s.darkStop (b % 2 ^ 16) after with mem := [], memErr := [] }

/-- PWR_EN_LOW (R461): PWR_EN has been low for 10 ms. -/
def execPwrEnLow (s : State) : Out :=
  .next (let t := { s with pins := { s.pins with pwrEn := false }, boot := { s.boot with pwrLowAt := s.clk.el } }
    if s.powered then t.darkNow .off else t)

/-- MEM_LATCH_OPEN (R464): a latch opened while PWR_OK is high; the next boot is a power-on. -/
def execMemLatchOpen (s : State) : Out := onPower s fun s => s.darkNow .off

/-- Power is lost: AON and MGT go off with it (R345). -/
def State.allOff (s : State) : State := (List.range 12).foldl (fun s d => s.put PWR_DOMSTAT_ON 0 d) s

/-- BULK_DEPLETED (R413): the bulk has fallen to 36 V after a dark stop; DDR content is lost. -/
def execBulkDepleted (s : State) : Out :=
  .next (if s.boot.power = .dark then { s.allOff with mem := [], memErr := [], boot := { s.boot with power := .off } } else s)

/-! ## Temperatures and coolant (R341, R466) -/

/-- A junction temperature is recorded. -/
def State.setTemp (s : State) (die temp : Nat) : State :=
  let s := s.put PWR_TEMP_NOW temp die
  if s.get PWR_TEMP_MAX die < temp then s.put PWR_TEMP_MAX temp die else s

/-- A junction reaches 95 °C, or every junction is back at 93 °C or below (R341). -/
def State.thermal (s : State) (die temp : Nat) : State :=
  let was := s.get PWR_TEMP_NOW die
  let s := s.setTemp die temp
  if 95 ≤ temp ∧ was < 95 then
    ((s.put ENV_STAT_THERM 1).evlog 7 cTHERM_LIMIT (die * 256 + temp)).markExcl
  else if s.flag ENV_STAT_THERM && (List.range 12).all fun d => decide (s.get PWR_TEMP_NOW d ≤ 93) then s.put ENV_STAT_THERM 0
  else s

/-- THERM_LIMIT (R341). -/
def execThermLimit (die temp : Nat) (s : State) : Out := onUnit die 12 s fun s => if s.powered then s.thermal die temp else s

/-- THERMTRIP (R341, R414): a junction at 110 °C. -/
def execThermtrip (die : Nat) (s : State) : Out :=
  onUnit die 12 s fun s =>
    if s.powered then { (s.setTemp die 110).darkNow .tripped with pins := { s.pins with thermtripN := false, pwrOk := false } } else s

/-- COOLANT_ALERT (R466, R467). -/
def execCoolantAlert (flow inlet outlet : Nat) (s : State) : Out :=
  onPower s fun s =>
    let s := ((s.put PWR_COOL_FLOW flow).put PWR_COOL_INLET inlet).put PWR_COOL_OUTLET outlet
    ((s.put PWR_COOL_LOWFLOW (b2n (decide (flow < 400)))).put PWR_COOL_HOTIN (b2n (decide (40 < inlet)))).alert

/-! ## The control loop (R328, R330 to R335, R472) -/

/-- The last entry whose START is at or before a minute (R328). -/
def Schedule.at (c : Schedule) (minute : Nat) : Option (Nat × SchedEntry) :=
  (((List.range c.entries.length).zip c.entries).filter fun x : Nat × SchedEntry => decide (x.2.start ≤ minute)).getLast?

/-- An accepted schedule takes effect and the entry in force follows the minute (R328). -/
def State.adopt (s : State) : State :=
  let new := s.env.accepted.isSome
  let s := match s.env.accepted with
    | some c => ({ s with env := { s.env with cur := some c, accepted := none } }.modAcc fun a => { a with change := true }).put ENV_SCHED_SERIAL c.serial
    | none => s
  match s.env.cur with
  | none => s
  | some c => match c.at (s.clk.sys / 60000000000) with
    | none => s
    | some (i, e) =>
      if s.env.entry = some e ∧ s.get ENV_SCHED_INDEX = i ∧ new = false then s
      else
        let s := ({ s with env := { s.env with entry := some e } }.modAcc fun a => { a with change := true }).put ENV_STAT_DEFAULT 0
        let s := ((s.put ENV_SCHED_INDEX i).put ENV_ENTRYW0_WORD e.w0).put ENV_ENTRYW1_WORD e.w1
        s.evlog 10 cOK i

/-- A term of R331 that gave a bound its value (R472). -/
inductive BoundTerm where
  | cap | floor | ramp
  deriving DecidableEq, Repr

/-- The bounds of a tick: Hi and Lo with the terms that set them, and C. -/
structure Bounds where
  hi : Nat
  hiBy : BoundTerm
  lo : Nat
  loBy : BoundTerm
  c  : Nat
  deriving DecidableEq, Repr

/-- R331 and R472: the bounds from the entry in force, G in W, WALKMAX in W, R in nW and Δt in ns. -/
def bounds (e : SchedEntry) (g walkmax r dt : Nat) : Bounds :=
  let w := 10 ^ 9
  let c := (if e.holdroom && decide (walkmax < e.pmax) then walkmax else e.pmax) * w
  let h : Nat × BoundTerm := if e.rup ≠ 0 ∧ r + e.rup * dt < c - g * w then (r + e.rup * dt, .ramp) else (c - g * w, .cap)
  let f := if e.pmin = 0 then 0 else (e.pmin + g) * w
  let l : Nat × BoundTerm := if e.rdn ≠ 0 ∧ f < r - e.rdn * dt then (r - e.rdn * dt, .ramp) else (f, .floor)
  let l := if h.1 < l.1 then h else l
  { hi := h.1, hiBy := h.2, lo := l.1, loBy := l.2, c := c }

/-- The acted-on bound's term (R472), from P, L, S and L_min before the tick's action. -/
def Bounds.actedOn (b : Bounds) (p l st lmin : Nat) : Option BoundTerm :=
  if b.hi < p then some b.hiBy
  else if p < b.lo then some b.loBy
  else if lmin < l then some b.hiBy
  else if 0 < st then some b.loBy
  else none

/-- The loop's action (R332): the new level and walk-on steps. -/
def Bounds.act (b : Bounds) (p l st lmin w avail : Nat) (walk : Bool) : Nat × Nat :=
  if b.hi < p then
    if 0 < st then (l, st - min st (ceilDiv (p - b.hi) w))
    else (min 19 (l + (if b.c < 20 * (p - b.hi) then 4 else 1)), st)
  else if p < b.lo then
    if lmin < l then (l - 1, st)
    else if walk then (l, min avail (st + ceilDiv (b.lo - p) w))
    else (l, st)
  else if lmin < l ∧ 20 * p + b.c ≤ 20 * b.hi then (l - 1, st)
  else if 0 < st ∧ b.lo + w ≤ p then (l, st - 1)
  else (l, st)

/-- Logical bays that may carry walk-on: powered, IDLE, and under no command or check (R334). -/
def State.walkBays (s : State) : List Nat :=
  (List.range 64).filter fun lb =>
    let p := s.phys lb
    s.bayOn p && s.get CUE_SEQSTAT_STATE p == 1 && (s.bay p).cid.isNone && !(s.bay p).check

/-- Walk-on steps on logical bay `lb`: S spread as evenly as it can be, the lower bays taking the extra step (R334). -/
def State.walkSteps (s : State) (lb : Nat) : Nat :=
  let bs := s.walkBays
  match bs.findIdx? (· == lb) with
  | none => 0
  | some i => let n := s.get ENV_STAT_WSTEPS; n / bs.length + b2n (decide (i < n % bs.length))

/-- The envelope's WALK of k > 0 steps on an idle bay (R126, R334): ARRM 0b111, DUTY k − 1, one 16-cycle step at a time
(log entry 87, DESIGN CHOICE); none at 0. -/
def Bay.walkOn (b : Bay) (k : Nat) : Bay :=
  [0, 1, 2].foldl (fun b a => b.modArr a fun x => { x with fq := if k = 0 then [] else [.walk 0 (k - 1) 0 0] }) b

/-- The envelope's WALK cues stand on the idle bays as S spreads over them, and on no other bay that no command holds. -/
def State.placeWalks (s : State) : State :=
  (List.range 64).foldl (fun s lb =>
    let p := s.phys lb
    if (s.bay p).cid.isNone && s.get CUE_SEQSTAT_STATE p == 1 then s.modBay p fun b => b.walkOn (s.walkSteps lb) else s) s

/-- L_min (R332) without a thermal limit: 10 in rehearsal mode (R398) and while R354 holds the level. -/
def State.levelMin (s : State) : Nat := if s.flag RST_BOOTSTAT_REH || s.flag UST_VRM_LIMIT then 10 else 0

/-- A tick is metered (R331, R342): P in mW over Δt ns, the input in 10 mV and 10 mA. -/
def State.meter (s : State) (p vin iin dt : Nat) : State :=
  let pj := p * dt
  let e := s.env.energySub + pj
  let s := ((s.put ENV_POWER_P100US (cap 16 (p / 1000))).put ENV_POWER_VIN vin).put ENV_POWER_IIN iin
  let s := { s with env := { s.env with energySub := e % 10 ^ 9, meanPj := s.env.meanPj + pj, meanNs := s.env.meanNs + dt } }.bump ENV_ENERGY_MJ (e / 10 ^ 9)
  let s := s.modAcc fun a => { a with energy := a.energy + pj, cover := a.cover + dt, ppeak := max a.ppeak (p / 1000) }
  let at_ := s.clk.sys / 10 ^ 8
  if at_ = s.env.meanAt then s
  else
    let mean := s.env.meanPj / s.env.meanNs / 1000
    let s := (s.put ENV_POWER_P100MS (cap 16 mean)).modAcc fun a =>
      { a with pmax := max a.pmax mean, pmin := some (a.pmin.elim mean fun x => min x mean) }
    { s with env := { s.env with meanAt := at_, meanPj := 0, meanNs := 0 } }

/-- What R472 and R334 count of a tick. -/
def State.countTick (s : State) (t : Option BoundTerm) (short therm : Bool) : State :=
  let s := s.modAcc fun a => { a with
    caplimit := a.caplimit + b2n (t == some .cap), ramphold := a.ramphold + b2n (t == some .ramp)
    short := a.short + b2n short, thermticks := a.thermticks + b2n therm }
  (s.bump ENV_CNT_CAPLIMIT (b2n (t == some .cap))).bump ENV_CNT_RAMPHOLD (b2n (t == some .ramp))

/-- The loop's action at a tick outside a shed (R331, R332, R341, R472); P in nW. A thermal limit raises L_min by
one from the level in force; walk-on never stays beside a level above L_min. -/
def State.loopAct (s : State) (p dt : Nat) : State :=
  let l := s.get ENV_STAT_LEVEL
  let therm := s.flag ENV_STAT_THERM
  let lmin := if therm then max s.levelMin (min 19 (l + 1)) else s.levelMin
  let avail := 16 * s.walkBays.length
  let st := min avail (s.get ENV_STAT_WSTEPS)
  let w := s.get ENV_WALKCAL_MW * 10 ^ 6 * (4 - s.get CLK_STAT_ADIV) / 4
  let r := if s.env.rFresh then p else s.env.r
  let b := bounds (s.env.entry.getD SchedEntry.default) (s.get ENV_GUARD_WATTS) (s.get ENV_INFO_WALKMAX) r dt
  let (l', st') := b.act p l st lmin w avail (!therm)
  let l' := max l' lmin
  let s := s.countTick (b.actedOn p l st lmin) (decide (p < b.lo) && st == avail) therm
  let s := { s with env := { s.env with rFresh := false, r := (if p < b.lo then b.lo else if b.hi < p then b.hi else p) } }
  ((s.setLevel l').put ENV_STAT_WSTEPS (if lmin < l' then 0 else st')).placeWalks

/-- A tick of the loop (R330 to R332): metering at all times; outside a tableau the entry in force is settled, and
outside a shed the loop acts. -/
def State.envTick (s : State) (p vin iin dt : Nat) : State :=
  let s := s.meter p vin iin dt
  if s.frozen.isSome then s
  else
    let s := s.adopt
    if s.shed then s else s.loopAct (p * 10 ^ 6) dt

/-- ENVELOPE_TICK (R330, R332): a tick after an interval of `dt` ns, never longer than 125 µs. Where the ticks fall on the
line of system time is timing (log entry 86). -/
def execEnvelopeTick (p vin iin dt : Nat) (s : State) : Out :=
  onPower s fun s => if 0 < dt ∧ dt ≤ 125000 then s.envTick p vin iin dt else s

end Sys2Proof.Machine
end

