-- ==== Sys2Proof/Machine/Boot.lean ====
section
/-! DEFINITION. Clocks, resets and boot: the kinds of reset and what each keeps (R407 to R414), the boot images and
the playbill (R421 to R427, R432), and the stages from power to READY (R187, R188, R346, R403, R404, R415 to R420). -/

namespace Sys2Proof.Machine

/-! ## What a reset keeps (R349, R409, R410) -/

/-- The resets of R408 that reach the whole module. -/
inductive ResetKind where
  | powerOn | cold | warm
  deriving DecidableEq, Repr

/-- Registers that hold what non-volatile storage or fuses keep: the understudy map, repairs and retired parts,
the service counters, the security block, the metered store's pointers, the schedule in force and the reset count
(R329, R343, R349, R366, R428, R442). -/
def keptAlways : List RegName :=
  [.UST_MAP, .UST_BAYST, .UST_SVCUS, .UST_LOSTUS, .UST_EXCLUS, .UST_LOSTEV, .UST_SRAM, .UST_CWY, .UST_VRM, .UST_COLVEL, .SEC_STATE, .SEC_CMDCTR, .SEC_FACID,
   .SEC_OPID, .SEC_REPORTS, .SEC_FLOOR, .RST_REASON, .ENV_SCHED, .ENV_ENTRYW0, .ENV_ENTRYW1, .ENV_MMSTAT, .MEM_INFO, .MEM_CHSTAT]

/-- Registers of what stays up through a cold or a warm reset (ENV_CTL is not one: RW fields reset): the envelope loop, the shed path and metering, sensors,
regulators, domains, and the settings that act at the next reset (R190, R354, R408, R409, R427, R428). -/
def keptRunning : List RegName :=
  [.ENV_STAT, .ENV_POWER, .ENV_CNT, .ENV_EVHEAD, .ENV_EVLOG_LO, .ENV_EVLOG_HI, .PWR_DOMSTAT, .PWR_TEMP, .PWR_COOL,
   .CLK_STAT, .CLK_FREQ, .MEM_CFG, .RST_BOOTCFG]

/-- Registers a warm reset keeps besides: ENV_ENERGY, what boot found of images, the least margins since cold reset (of
UST_MARGIN `settleRegs` keeps MIN alone, R366), and a channel retirement in hand (R409, R416, R420). -/
def keptWarm : List RegName :=
  [.ENV_ENERGY, .RST_PLAYBILL, .RST_IMG, .RST_IMGMARK, .UST_MARGIN, .MEM_RETIRE, .MEM_MIGPOS]

/-- A register that a reset keeps whole. -/
def RegName.kept (n : RegName) (k : ResetKind) : Bool :=
  keptAlways.contains n
  || (match k with | .powerOn => false | _ => keptRunning.contains n)
  || (match k with | .warm => keptWarm.contains n | _ => false)

/-- A register's reset value with its stored (RWS) fields as they stand (R410). -/
def RegName.storedPart (n : RegName) (v : W64) : W64 :=
  BitVec.ofNat 64 (n.spec.fields.foldl (fun w f =>
    if f.acc = .RWS then putBits w f.lo (f.hi + 1 - f.lo) (bits v.toNat f.lo (f.hi + 1 - f.lo)) else w) n.reset.toNat)

/-- The registers after a reset (R409, R410). -/
def State.resetRegs (s : State) (k : ResetKind) : List (Reg × W64) :=
  s.regs.filterMap fun x =>
    let v := if x.1.name.kept k then x.2 else x.1.name.storedPart x.2
    if v = x.1.name.reset then none else some (x.1, v)

/-- The clock after a reset: system time is kept while AON stays powered, the odometers through a warm reset (R409). -/
def Clock.after (c : Clock) (k : ResetKind) : Clock :=
  match k with
  | .powerOn => { c with sys := 0, slew := 0, rate := 0, slewSub := 0, odo := 0, ca := 0, timeKnown := false }
  | .cold => { c with odo := 0, ca := 0 }
  | .warm => c

/-- DDR keeps its content through a warm boot: it held data, and no scrub was running (R196, R420). -/
def State.ddrWhole (s : State) : Bool := s.boot.trained && s.boot.zeroed && !s.flag MEM_ZERO_BUSY

/-- The boot state after a reset. A warm boot keeps the population, the self-test and the images' results (R416). -/
def State.resetBoot (s : State) (k : ResetKind) : Boot :=
  match k with
  | .warm => { power := .on, keepDdr := s.ddrWhole, selftest := s.boot.selftest, trainedRate := s.boot.trainedRate,
               halted := s.get RST_BOOTSTAT_STAGE == 15,
               rates := s.boot.rates, mr144 := s.boot.mr144, gapFrom := s.boot.gapFrom, start := s.clk.el, measures := s.boot.measures }
  | _ => { power := .on, gapFrom := s.boot.gapFrom, start := s.clk.el }

/-- The module after a reset (R409): storage, commands, windows, call boards and links are gone; the fabric and the
tableau end; Colvel restarts but for a warm reset, which ends the mailbox's exchanges with its link. -/
def State.resetState (s : State) (k : ResetKind) : State :=
  { pending := s.pending
    clk := s.clk.after k
    regs := s.resetRegs k
    mem := if k = .warm then s.mem else []
    memErr := if k = .warm then s.memErr else []
    busErr := s.busErr
    partners := s.partners
    nextMove := s.nextMove
    ro := { nextId := s.ro.nextId, lastFrameEnd := s.ro.lastFrameEnd }
    env := if k = .powerOn then
        { cur := s.env.cur, accepted := s.env.accepted, serialCmp := s.env.serialCmp, entry := s.env.entry, phases := s.env.phases
          acc := s.freshAcc }
      else s.env
    fab := { lastPps := s.fab.lastPps }
    retire := if k = .powerOn then {} else { chan := s.retire.chan }
    flash := s.flash
    boot := s.resetBoot k
    nv := s.nv
    trust := if k = .warm then { s.trust with doePart := [], doeOut := [], doeError := false, queue := s.trust.queue.filter fun m => m.port } else {}
    mgmt := if k = .powerOn then {} else s.mgmt
    pins := { s.pins with pwrOk := true, thermtripN := true }
    free := s.free }

/-- The domains through a warm reset (R345, R360): the ports are off, for EN is 0 and ROLE OFF, and so is an understudy. -/
def State.warmDomains (s : State) : State :=
  let s := (List.range 16).foldl (fun s i => s.setDomain (8 + i / 4) (12 + i % 4) false) s
  (List.range 72).foldl (fun s i => if bits (s.get UST_BAYST_STATE 0 (i / 9)) (2 * (i % 9)) 2 = 0 then s else s.setDomain (i / 9) (i % 9) false) s

/-- Registers that follow stored state rather than a reset value: the spares and SERVICE while a pool is used up (R366), a
retired channel (R200), the default entry (R329), domains (R345) and the security block's own status. -/
def State.settleRegs (s : State) (k : ResetKind) : State :=
  let s := s.put UST_STAT_SPARE ((List.range 8).foldl (fun m d =>
    m + 2 ^ d * b2n ((List.range 9).any fun b => bits (s.get UST_BAYST_STATE 0 d) (2 * b) 2 == 1)) 0)
  let s := (s.put ENV_STAT_DEFAULT (b2n s.env.entry.isNone)).put ENV_STAT_PIN (b2n !s.pins.shedN)
  let s := s.put RUN_STAT_SHED (s.get ENV_STAT_SHED)
  let s := if s.retire.chan.isSome then s else (s.clear .MEM_RETIRE).clear .MEM_MIGPOS
  let s := (s.put SEC_STATE_BUSY (b2n !s.trust.queue.isEmpty)).put SEC_STATE_UPD (b2n s.trust.update.isSome)
  let s := s.put UST_STAT_SERVICE (b2n s.poolsOut)
  match k with
  | .warm =>
    ((List.range 72).foldl (fun s i => (s.put UST_MARGIN_LAST 0 0 i).put UST_MARGIN_LOWRUN 0 0 i) s).warmDomains
  | _ =>
    let s := s.put UST_COLVEL_FAILOVERS 0
    let s := (List.range 32).foldl (fun s c => s.clear .MEM_CHSTAT c) ((s.put MEM_INFO_CAP 0).put MEM_INFO_RATE 0)
    let s := if s.flag MEM_INFO_RETIRED then s.put MEM_CHSTAT_STATE 2 (s.get MEM_INFO_RCHAN) else s
    let s := (s.put SEC_STATE_LCODE 0).put SEC_STATE_LOP 0
    let s := (s.put CLK_STAT_LOCK 0).put CLK_STAT_REFOK 0
    if k = .cold then
      (List.range 12).foldl (fun s d => (s.put PWR_DOMSTAT_ON (if d < 8 then 0x80000 else 0xC0000) d).put PWR_TEMP_MAX 0 d) s
    else s

/-- The stage a warm boot resumes at: what boot has found of images and sockets is kept (R416, R419). -/
def warmStage (stage code : Nat) (halted : Bool) : Nat :=
  if stage = 15 then 15
  else if code = cMEM_POPULATION then 4
  else if 5 ≤ stage then 5
  else if halted then stage - 1
  else stage

/-- A reset with its cause (R408, R409, R428); `lost` says whether the time until the next frame is lost service
(R364) or excluded (R365). -/
def State.doReset (s : State) (k : ResetKind) (cause : Nat) (lost : Bool) : State :=
  let s := s.gap lost
  let st := s.get RST_BOOTSTAT_STAGE
  let t := (s.resetState k).settleRegs k
  let t := if k = .warm then
      ((t.put RST_BOOTSTAT_STAGE (warmStage st (s.get RST_BOOTSTAT_CODE) s.boot.halted)).put RST_BOOTSTAT_OUTCOME (s.get RST_BOOTSTAT_OUTCOME)).put
        TAB_STAT_COUNT (s.get TAB_STAT_COUNT)
    else t
  let t := ((t.put RST_REASON_CAUSE cause).put RST_REASON_DDRKEPT 0).bump RST_REASON_COUNT
  t.shedUpdate.alert

/-! ## Resets -/

/-- RST_CTL.COLD (R408, R428). -/
def State.wrRstctl (s : State) (v : Nat) : State := if bit v 0 then s.doReset .cold 2 false else s

/-- RST_CTL_COLD (R408). -/
def execRstCtlCold (s : State) : Out := hostSet 1 ⟨.RST_CTL, 0, 0⟩ 1 s fun s => s.wrRstctl 1

/-- INTERNAL_FAULT (R412): a cold reset with cause INTERNAL; the third kind needs a running order that is active. -/
def execInternalFault (kind : InternalKind) (s : State) : Out :=
  onPower s fun s => if kind = .noBoundary ∧ s.flag RUN_STAT_ACTIVE = false then s else s.doReset .cold 4 true

/-- PLL_LOCK_LOSS (R407): the root or a memory PLL makes the module shed and reset; the others take their link down. -/
def execPllLockLoss (pll : Pll) (s : State) : Out :=
  match pll with
  | .felsyn port => onUnit port 16 s fun s => if s.powered && s.portUp port then (s.downPort port).train port else s
  | .pcie => onPower s fun s => ((s.put HST_LINK_UP 0).put HST_LINK_WIDTH 0).put HST_LINK_RATE 0
  | _ => onPower s fun s =>
      let s := (if s.shed then s else s.shedBegin).bump CLK_STAT_LOSSCNT
      s.doReset .cold 5 false

/-- PERST_N_FALL (R411): bays stop without a save, DDR keeps its content in self-refresh, and the logic is held. -/
def execPerstNFall (s : State) : Out :=
  .next (
    let low (s : State) : State := { s with pins := { s.pins with perstN := false } }
    if s.powered && s.pins.perstN then low (s.depotsBack.doReset .warm 1 false) else low s)

/-- PERST_N_RISE (R415): the warm boot begins; the link trains (HOST_LINK_RETRAIN gives its outcome). -/
def execPerstNRise (s : State) : Out :=
  .next { s with pins := { s.pins with perstN := true }, boot := if s.pins.perstN then s.boot else { s.boot with start := s.clk.el } }

/-- PWR_EN_RISE (R340, R414): from off, or after THERMTRIP_N once PWR_EN has been low for 100 ms (its low was noted
after 10 ms), the bulk charges and the module powers on. -/
def execPwrEnRise (s : State) : Out :=
  .next (
    let t := { s with pins := { s.pins with pwrEn := true } }
    match s.boot.power with
    | .off => t.doReset .powerOn 0 false
    | .tripped => if !s.pins.pwrEn && decide (s.boot.pwrLowAt + 90000000 ≤ s.clk.el) then t.doReset .powerOn 7 false else t
    | _ => t)

/-- Domains of orders 2 to 4 (R346); a retired channel's stays off (R198). -/
def State.powerOrders (s : State) : State :=
  let s := (List.range 8).foldl (fun s d => s.put PWR_DOMSTAT_ON (putBits (s.get PWR_DOMSTAT_ON d) 9 11 0x7FF) d) s
  let s := (List.range 4).foldl (fun s p => s.put PWR_DOMSTAT_ON 0xF0FFF (8 + p)) s
  if s.flag MEM_INFO_RETIRED then s.setDomain (8 + s.get MEM_INFO_RCHAN / 8) (s.get MEM_INFO_RCHAN % 8) false else s

/-- INPUT_RETURN (R339, R413): the input is back at 44 V. A dropout goes on as a sag; after a dark stop with the bulk
still at 36 V the module boots on the warm path with cause DARKSTOP and signs the power-fail record. -/
def execInputReturn (vin : Nat) (s : State) : Out :=
  .next (
    if vin < 4400 then s
    else match s.boot.power with
      | .on => if s.flag ENV_STAT_DROP then ((s.put ENV_STAT_DROP 0).put ENV_POWER_VIN vin).shedUpdate else s
      | .dark =>
        if !s.pins.pwrEn then s
        else
          let s := ((s.put ENV_STAT_DROP 0).put ENV_POWER_VIN vin)
          ((s.doReset .warm 6 false).powerOrders).signLate
      | _ => s)

/-! ## Images and the playbill (R421 to R427, R432) -/

/-- The bytes of a flash slot: `2 × target + slot`, with targets 1 to 4 the images, 14 the firmware-key certificate
and 15 the playbill. -/
def State.slotBytes (s : State) (target slot : Nat) : Bytes :=
  match Tab.get none s.flash.slots (2 * target + slot) with
  | some bs => bs
  | none => Config.deliveredFlash (2 * target + slot)

/-- A signature field of 4,672 B at `o` over the bytes before it, under a key (R430). -/
def signedBy (key bs : Bytes) (o : Nat) : Bool := Config.mldsaVerify key (sha3 (bs.take o)) ((bs.drop o).take 4627)

/-- The firmware-key certificate's form and signature under the root (R432). -/
def certOk (bs : Bytes) : Bool :=
  bs.length == 7328 && fld (numAt bs 0 8) 63 32 == 0x43455231 && fld (numAt bs 0 8) 31 24 == 2 && signedBy Config.rootKey bs 2656

/-- The firmware key: that of the valid certificate of higher SERIAL; none if neither is valid. -/
def State.fwCert (s : State) : Option Bytes :=
  let a := s.slotBytes 14 0
  let b := s.slotBytes 14 1
  match certOk a, certOk b with
  | true, true => some (if fld (numAt a 8 8) 63 32 < fld (numAt b 8 8) 63 32 then b else a)
  | true, false => some a
  | false, true => some b
  | false, false => none

/-- The key a certificate carries. -/
def certKey (bs : Bytes) : Bytes := (bs.drop 64).take 2592
def State.fwKey (s : State) : Option Bytes := s.fwCert.map certKey

/-- Bytes an image covers with its LEN, and its mark `i` (R423). -/
def imageLen (bs : Bytes) : Nat := fld (numAt bs 8 8) 31 0 * 4096
def imageMark (bs : Bytes) (i : Nat) : Nat := numAt bs (16 + 4 * i) 4
def imageNmark (bs : Bytes) : Nat := fld (numAt bs 0 8) 23 16
def imageVersion (bs : Bytes) : Nat := fld (numAt bs 8 8) 63 32

/-- The header of an image of an index (R423). -/
def imageHeadOk (i : Nat) (bs : Bytes) : Bool :=
  fld (numAt bs 0 8) 63 32 == 0x494D4731 && fld (numAt bs 0 8) 31 24 == i && decide (imageNmark bs ≤ 16)
  && decide (4800 ≤ imageLen bs) && decide (imageLen bs ≤ bs.length)

/-- A slot's image is valid for an index under the firmware key (R422, R439). -/
def imageOk (key : Option Bytes) (i : Nat) (bs : Bytes) : Bool :=
  match key with
  | none => false
  | some k => imageHeadOk i bs && signedBy k (bs.take (imageLen bs)) (imageLen bs - 4672)

/-- The image that provides an interface: 0 the boot ROM, 5 the stepping (R424). -/
def ifaceProvider : Nat → Option Nat
  | 1 => some 0 | 2 => some 5 | 3 => some 2 | 4 => some 5 | 5 => some 3 | 6 => some 5 | 7 => some 4 | 8 => some 5
  | _ => none

/-- A use mark is satisfied by the marks its provider carries: equal MAJOR, MINOR at least the user's (R424). -/
def useMet (provided : Nat → List Nat) (m : Nat) : Bool :=
  match ifaceProvider (fld m 31 24) with
  | none => false
  | some i => (provided i).any fun q => fld q 31 24 == fld m 31 24 && bit q 23 && fld q 15 8 == fld m 15 8 && decide (fld m 7 0 ≤ fld q 7 0)

/-- The marks in use of an image. -/
def marksOf (bs : Bytes) : List Nat := (List.range (imageNmark bs)).map (imageMark bs)

/-- The slot of an updatable image that boot takes: the active one, else the other (R422). -/
def State.pickSlot (s : State) (i : Nat) (ok : Bytes → Bool) : Option Nat :=
  let a := Tab.get 0 s.flash.active i
  if ok (s.slotBytes i a) then some a else if ok (s.slotBytes i (1 - a)) then some (1 - a) else none

/-- The Colvel firmware's uses of LOADER are met by the boot ROM (R422). -/
def loaderMet (bs : Bytes) : Bool :=
  (marksOf bs).all fun m => bit m 23 || fld m 31 24 != 1 || useMet (fun _ => Config.romMarks.map fun x => x.toNat) m

/-- The slots boot selects, images 1 to 4 in order. -/
def State.selection (s : State) : List (Option Nat) :=
  let key := s.fwKey
  (List.range 4).map fun j =>
    let i := j + 1
    s.pickSlot i fun bs => imageOk key i bs && (i != 1 || loaderMet bs)

/-- The marks that image `i` carries under a selection; 0 the boot ROM, 5 the stepping. -/
def State.marks (s : State) (sel : List (Option Nat)) (i : Nat) : List Nat :=
  if i = 0 then Config.romMarks.map fun x => x.toNat
  else if i = 5 then Config.steppingMarks.map fun x => x.toNat
  else match sel.getD (i - 1) none with
    | some sl => marksOf (s.slotBytes i sl)
    | none => []

/-- UNSAT of an image (R428): bit k is set when mark k is a use left unsatisfied. -/
def State.unsat (s : State) (sel : List (Option Nat)) (i : Nat) : Nat :=
  let ms := s.marks sel i
  ((List.range 16).zip ms).foldl (fun a x => a + 2 ^ x.1 * b2n (!bit x.2 23 && !useMet (s.marks sel) x.2)) 0

/-- The version of an image; the stepping's is its number (R429). -/
def State.version (s : State) (sel : List (Option Nat)) (i : Nat) : Nat :=
  if i = 0 then Config.romVersion.toNat
  else if i = 5 then s.get RST_IDENT_STEPPING
  else match sel.getD (i - 1) none with
    | some sl => imageVersion (s.slotBytes i sl)
    | none => 0

/-- A playbill's form and signature (R425). -/
def playbillOk (key : Option Bytes) (bs : Bytes) : Bool :=
  let n := fld (numAt bs 0 8) 10 0
  match key with
  | none => false
  | some k => fld (numAt bs 0 8) 63 32 == 0x504C4231 && decide (1 ≤ n) && decide (n ≤ 1024) && decide (64 + 32 * n + 4672 ≤ bs.length)
      && signedBy k bs (64 + 32 * n)

/-- The playbill in use: the valid one of higher SERIAL. -/
def State.playbill (s : State) : Option Bytes :=
  let key := s.fwKey
  let a := s.slotBytes 15 0
  let b := s.slotBytes 15 1
  match playbillOk key a, playbillOk key b with
  | true, true => some (if fld (numAt a 8 8) 63 32 < fld (numAt b 8 8) 63 32 then b else a)
  | true, false => some a
  | false, true => some b
  | false, false => none

/-- A playbill row equals the stepping and the versions of the selected images (R425, R426). -/
def State.rowMatches (s : State) (sel : List (Option Nat)) (bs : Bytes) (r : Nat) : Bool :=
  let w (k : Nat) := numAt bs (64 + 32 * r + 8 * k) 8
  let v := s.version sel
  fld (w 0) 63 48 == s.get RST_IDENT_STEPPING && fld (w 0) 31 0 == v 0 && fld (w 1) 63 32 == v 1 && fld (w 1) 31 0 == v 2
  && fld (w 2) 63 32 == v 3 && fld (w 2) 31 0 == v 4

/-- The outcome of the check (R426): 0 MATCHED, 1 COMPATIBLE, 2 MISMATCH. -/
def State.outcome (s : State) (sel : List (Option Nat)) : Nat :=
  match s.playbill with
  | none => 2
  | some bs =>
    if sel.all (fun x => x.isSome) && (List.range (fld (numAt bs 0 8) 10 0)).any (s.rowMatches sel bs) then 0
    else if (List.range 6).all fun i => s.unsat sel i == 0 then 1
    else 2

/-- RST_IMG and RST_IMGMARK of image `i`; the stepping, which is no image, shows SLOT none. -/
def State.showImage (s : State) (sel : List (Option Nat)) (i : Nat) : State :=
  let ms := s.marks sel i
  let slot := if i = 0 then 2 else if i = 5 then 3 else (sel.getD (i - 1) none).getD 3
  let s := (((s.put RST_IMG_VERSION (s.version sel i) 0 i).put RST_IMG_SLOT slot 0 i).put RST_IMG_NMARK ms.length 0 i).put RST_IMG_UNSAT (s.unsat sel i) 0 i
  (List.range 8).foldl (fun s k => s.put RST_IMGMARK_MARKS (ms.getD (2 * k) 0 + ms.getD (2 * k + 1) 0 * 2 ^ 32) 0 (8 * i + k)) s

/-- The bytes of an image that its signature and its measurement cover (R439). -/
def imageBody (bs : Bytes) : Bytes := bs.take (imageLen bs - 4672)

/-- The measurements of images 1 to 5 (R441); the boot ROM's content is not stated. -/
def State.measureImages (s : State) (sel : List (Option Nat)) : Tab Bytes :=
  let img (i : Nat) : Bytes := match sel.getD (i - 1) none with | some sl => sha3 (imageBody (s.slotBytes i sl)) | none => []
  let step := sha3 (padTo 64 ((Config.steppingMarks.map fun x => leBytes 4 x.toNat).flatten))
  [(1, img 1), (2, img 2), (3, img 3), (4, img 4), (5, step)]

/-- Boot halts at a stage with a cause (R419). -/
def State.haltBoot (s : State) (stage code : Nat) : State :=
  { (s.put RST_BOOTSTAT_STAGE stage).put RST_BOOTSTAT_CODE code with boot := { s.boot with halted := true } }.alert

/-- Boot is under way at a stage. -/
def State.bootAt (s : State) (stage : Nat) : Bool := !s.boot.halted && !s.ready && s.get RST_BOOTSTAT_STAGE == stage

/-- The boot stages act while the module is powered and PERST_N is high (R411, R462). -/
def onBoot (s : State) (f : State → State) : Out := .next (if s.powered && s.pins.perstN then f s else s)

/-- Images and playbill are selected and measured (R422, R426): without a Colvel image boot enters RECOVERY; else
Colvel runs and domain orders 2 to 4 are up (R416). -/
def State.imageCheck (s : State) : State :=
  if !s.bootAt 1 || !s.flag CLK_STAT_LOCK then s
  else
    let sel := s.selection
    let s := (List.range 6).foldl (fun s i => s.showImage sel i) { s with boot := { s.boot with measures := s.measureImages sel } }
    let s := (s.put RST_PLAYBILL_SERIAL (s.playbill.elim 0 fun bs => fld (numAt bs 8 8) 63 32)).put RST_BOOTSTAT_OUTCOME (s.outcome sel)
    if (sel.getD 0 none).isNone then s.haltBoot 15 cNOT_READY
    else ((s.put RST_BOOTSTAT_STAGE 4).powerOrders).signLate

/-- BOOT_IMAGE_CHECK (R422). -/
def execBootImageCheck (s : State) : Out := onBoot s State.imageCheck

/-! ## Clocks, memory, self-test (R187, R188, R403, R404, R416 to R420) -/

/-- PLL_LOCK (R403, R404): CK_ROOT locks, or without a reference boot halts at stage CLOCK and ALERT_N falls. -/
def execPllLock (refok : Bool) (s : State) : Out :=
  onBoot s fun s =>
    if !s.bootAt 0 then s
    else if refok then ((s.put CLK_STAT_LOCK 1).put CLK_STAT_REFOK 1).put RST_BOOTSTAT_STAGE 1
    else ((s.put CLK_STAT_LOCK 0).put CLK_STAT_REFOK 0).haltBoot 1 cNOT_READY

/-- The data rates that every module supports, by their codes, the highest first (R186, R188). -/
def commonRates (xs : List Spd) : List Nat := (List.range 3).filter fun r => xs.all fun x => x.rates.testBit r

/-- The population check (R3, R186, R187): 32 sockets, one accepted type in the accepted organisation, all alike, and a
rate that R188 may choose under MEM_CFG.RATEMAX. -/
def populationOk (xs : List Spd) (ratemax : Nat) : Bool :=
  match xs with
  | [] => false
  | a :: _ => xs.length == 32 && (a.typ == 72 || a.typ == 144) && a.organisation == 0
      && (xs.all fun x => x.typ == a.typ && x.organisation == a.organisation && x.density == a.density && x.bin == a.bin)
      && (commonRates xs).any fun r => decide (ratemax ≤ r)

/-- The sockets are read (R187): boot halts with MEM_POPULATION, or the population is kept. -/
def State.spdCheck (s : State) (xs : List Spd) : State :=
  if !s.bootAt 4 then s
  else if populationOk xs (s.get MEM_CFG_RATEMAX) then
    let s := (List.range 32).foldl (fun s c => s.put MEM_CHSTAT_TEMP ((xs.map fun x : Spd => x.temp).getD c 0) c) s
    { s.put RST_BOOTSTAT_STAGE 5 with boot := { s.boot with mr144 := (xs.any fun x => x.typ == 144), rates := commonRates xs } }
  else s.haltBoot 5 cMEM_POPULATION

/-- SPD_CHECK (R187). -/
def execSpdCheck (sockets : List Spd) (s : State) : Out := onBoot s fun s => s.spdCheck sockets

/-- Usable capacity in GiB (R189, R190). -/
def State.showCap (s : State) : State :=
  s.put MEM_INFO_CAP ((if s.boot.reserve then s.reserveBase else s.ddrSize) / gib)

/-- A stage that runs in parallel with others: the highest reached shows (R416). -/
def State.stageUp (s : State) (n : Nat) : State := if s.get RST_BOOTSTAT_STAGE < n then s.put RST_BOOTSTAT_STAGE n else s

/-- Memory is trained at rate code `r`. -/
def State.trainedAt (s : State) (r : Nat) : State :=
  let s := { s with boot := { s.boot with trained := true, trainedRate := s.get MEM_CFG_RATEMAX } }
  (s.put MEM_INFO_RATE r).showCap.stageUp 6

/-- The data rates training may run at, the highest first: those every module supports, up to MEM_CFG.RATEMAX (R188). -/
def State.trainRates (s : State) : List Nat := s.boot.rates.filter fun r => decide (s.get MEM_CFG_RATEMAX ≤ r)

/-- Boot halts for channels that failed training; they show UNTRAINED until memory trains again (R188, R216, R419; log
entry 94). -/
def State.untrained (s : State) (cs : List Nat) : State :=
  (cs.foldl (fun s c => s.put MEM_CHSTAT_STATE 3 c) s).haltBoot 6 cMEM_TRAIN

/-- Training from the start (R188): the highest of the rates at which no channel fails; at 8,800 MT/s one failing channel
is retired when the reserve is enabled and none is retired yet, RST_BOOTSTAT.CODE showing MEM_TRAIN until READY (log entry
94). Content is lost; a retirement that was migrating completes at once (R420). -/
def State.trainAll (s : State) (failing : List (List Nat)) : State :=
  let s := { s with mem := [], memErr := [], boot := { s.boot with keepDdr := false, zeroed := false } }
  let s := (List.range 32).foldl (fun s c => if s.get MEM_CHSTAT_STATE c = 3 then s.put MEM_CHSTAT_STATE 0 c else s) s
  let s := match s.retire.chan with | some x => s.retireChan x | none => s
  let gone (c : Nat) : Bool := s.flag MEM_INFO_RETIRED && s.get MEM_INFO_RCHAN == c
  let fails (r : Nat) : List Nat := ((failing.getD r []).filter fun c => !gone c).eraseDups
  match s.trainRates.find? fun r => (fails r).isEmpty with
  | some r => s.trainedAt r
  | none => match s.trainRates.contains 2, fails 2 with
    | true, [x] =>
      if s.boot.reserve && !s.flag MEM_INFO_RETIRED then ((s.retireChan x).put RST_BOOTSTAT_CODE cMEM_TRAIN).trainedAt 2 else s.untrained [x]
    | _, xs => s.untrained xs

/-- Memory training (R188, R190, R417): on the warm path the saved values are restored and read back. -/
def State.memTrain (s : State) (failing : List (List Nat)) (readback : Bool) : State :=
  if !(s.bootAt 5 || s.bootAt 7) || s.boot.trained then s
  else if s.get RST_IMG_SLOT 0 2 = 3 then s.haltBoot 6 cSIG_BAD
  else
    let s := { s with boot := { s.boot with reserve := s.flag MEM_CFG_RESERVE || s.flag MEM_INFO_RETIRED } }
    if s.boot.keepDdr && s.boot.trainedRate == s.get MEM_CFG_RATEMAX && readback then
      ({ s with boot := { s.boot with trained := true, zeroed := true } }.showCap.put RST_REASON_DDRKEPT 1).stageUp 6
    else s.trainAll failing

/-- MEM_TRAIN (R188). -/
def execMemTrain (failing : List (List Nat)) (readback : Bool) (s : State) : Out := onBoot s fun s => s.memTrain failing readback

/-- A bay that fails the self-test (R418): an understudy is retired, a logical bay takes its die's understudy, or
stays in service with SERVICE. -/
def State.bayFails (s : State) (p : Nat) : State :=
  let d := p / 9
  if bits (s.get UST_BAYST_STATE 0 d) (2 * (p % 9)) 2 = 1 then (s.setBayst d (p % 9) 2).spareGone d
  else match s.logical p with
    | none => s
    | some lb => match s.understudyOf d with
      | some b => s.replaceBay lb b
      | none => s.service

/-- The self-test ends (R418); failed understudies are dealt with first, since none can take a bay over. -/
def State.selfTested (s : State) (failed : List Nat) : State :=
  if s.boot.halted || s.ready || s.boot.selftest || decide (s.get RST_BOOTSTAT_STAGE < 5) then s
  else
    let spare (p : Nat) : Bool := bits (s.get UST_BAYST_STATE 0 (p / 9)) (2 * (p % 9)) 2 == 1
    let s := ((failed.filter spare) ++ failed.filter fun p => !spare p).foldl State.bayFails s
    { s.stageUp 7 with boot := { s.boot with selftest := true } }

/-- SELF_TEST (R418). -/
def execSelfTest (failed : List Nat) (s : State) : Out := onBoot s fun s => s.selfTested failed

/-- BOOT_DDR_ZERO (R420): on the full path DDR is zeroed once it is trained. -/
def execBootDdrZero (s : State) : Out :=
  onBoot s fun s =>
    if s.boot.halted || s.ready || !s.boot.trained || s.boot.zeroed then s
    else { s.stageUp 8 with mem := [], memErr := [], boot := { s.boot with zeroed := true } }

/-- In SEALED every selected image raises its floor (R440). -/
def State.raiseFloors (s : State) : State :=
  if s.get SEC_STATE_STATE ≠ 1 then s
  else [1, 2, 3, 4].foldl (fun s i =>
    if s.get SEC_FLOOR_VERSION 0 i < s.get RST_IMG_VERSION 0 i then s.put SEC_FLOOR_VERSION (s.get RST_IMG_VERSION 0 i) 0 i else s) s

/-- The module enters service (R346, R416, R427): bay domains, READY, rehearsal mode, the floors, and event READY. -/
def State.enterService (s : State) : State :=
  let s := (List.range 64).foldl (fun s lb => s.setDomain (s.phys lb / 9) (s.phys lb % 9) true) s
  let o := s.get RST_BOOTSTAT_OUTCOME
  let reh := o == 2 || (o == 1 && s.flag RST_BOOTCFG_STRICT) || s.flag RST_BOOTCFG_REHEARSE
  let s := (((s.put RST_BOOTSTAT_STAGE 10).put RST_BOOTSTAT_CODE cOK).put RST_BOOTSTAT_READY 1).put RST_BOOTSTAT_REH (b2n reh)
  let s := (s.put RST_BOOTCFG_REHEARSE 0).put RST_BOOTTIME_MS ((s.clk.el - s.boot.start) / 1000000)
  let s := { s.setLevel (max (s.get ENV_STAT_LEVEL) s.levelMin) with env := { s.env with rFresh := true } }
  s.raiseFloors.event 10

/-- BOOT_READY (R416): with memory, self-test and storage done and the images that FINAL loads at hand (R422). -/
def execBootReady (s : State) : Out :=
  onBoot s fun s =>
    if s.boot.halted || s.ready || !s.boot.trained || !s.boot.zeroed || !s.boot.selftest then s
    else if s.get RST_IMG_SLOT 0 3 = 3 ∨ s.get RST_IMG_SLOT 0 4 = 3 then s.haltBoot 9 cSIG_BAD
    else s.enterService

end Sys2Proof.Machine
end

