-- ==== Sys2Proof/Machine/Tableau.lean ====
section
/-! DEFINITION. The central reader's dumps, derived units and step number (R373, R375, R378, R381), EVT_IO (R385,
R399), and the tableau (R387, R388, R391, R397). -/

namespace Sys2Proof.Machine

/-! ## Central reader -/

/-- DUMP_CAPTURE (R375): a capture is written as a DUMP record; one that a tableau or a disabled ring 0 prevents is
missed, and the next record says so. -/
def execDumpCapture (s : State) : Out :=
  onPower s fun s =>
    if !s.flag OBS_DUMP_EN then s
    else if !s.clocked || !s.flag OBS_RINGCTL_EN 0 then { s with obs := { s.obs with missed := s.obs.missed + 1, gap := true } }
    else s.dumpRecord

/-- A derived unit's window of 2^K µs ends (R378): COUNT, MBPS = COUNT × 64 ÷ 2^K, and its own counter restarts. -/
def State.bwReport (s : State) (n : Nat) : State :=
  if !s.flag OBS_BWSEL_EN 0 n then { s with obs := { s.obs with bwCount := Tab.set 0 s.obs.bwCount n 0 } }
  else
    let c := Tab.get 0 s.obs.bwCount n
    let s := { s with obs := { s.obs with bwCount := Tab.set 0 s.obs.bwCount n 0 } }
    (s.put OBS_BW_COUNT (cap 40 c) 0 n).put OBS_BW_MBPS (cap 24 (c * 64 / 2 ^ s.get OBS_BWSEL_K 0 n)) 0 n

/-- BW_WINDOW (R378). -/
def execBwWindow (n : Nat) (s : State) : Out := onUnitClock n 8 s fun s => s.bwReport n

/-- EVT_IO_EDGE (R385): with TRIG set a rising edge arms the enabled PIN-mode entries. -/
def execEvtIoEdge (s : State) : Out :=
  onClock s fun s =>
    if !s.flag OBS_EVT_TRIG then s
    else { s with obs := { s.obs with pinArmed := (List.range 16).filter fun n => s.flag OBS_PHOTOCTL_EN 0 n && s.get OBS_PHOTOCTL_MODE 0 n == 1 } }

/-- A write of OBS_EVT (R385, R399): CONFLICT reads 1 exactly while TRIG and STROBE are both set. -/
def State.wrObsEvt (s : State) : State := s.put OBS_EVT_CONFLICT (b2n (s.flag OBS_EVT_TRIG && s.flag OBS_EVT_STROBE))

/-- OBS_EVT_WRITE (R399). -/
def execObsEvtWrite (v : W32) (s : State) : Out := hostSet 1 ⟨.OBS_EVT, 0, 0⟩ v.toNat s State.wrObsEvt

/-- OBS_STEPCTL.INC (R381). -/
def State.wrStepctl (s : State) (v : Nat) : State := if bit v 0 then s.bumpWrap OBS_STEP_NOW else s

/-- OBS_STEPCTL_INC (R381). -/
def execObsStepctlInc (s : State) : Out := hostSet 1 ⟨.OBS_STEPCTL, 0, 0⟩ 1 s fun s => s.wrStepctl 1

/-- A write of OBS_RINGCTL (R373) with `was` the register before it: SIZE holds while EN was 1; setting EN empties the ring. -/
def State.wrRingctl (s : State) (n was : Nat) : State :=
  let en := bits was 31 1 == 1
  let s := if en then s.put OBS_RINGCTL_SIZE (bits was 0 20) n else s
  if !en && s.flag OBS_RINGCTL_EN n then (s.put OBS_RINGWR_WR 0 n).put OBS_RINGRD_RD 0 n else s

/-- OBS_RING_ENABLE (R373). -/
def execObsRingEnable (n : Nat) (v : W32) (s : State) : Out :=
  let was := (s.raw ⟨.OBS_RINGCTL, n, 0⟩).toNat
  hostSet 4 ⟨.OBS_RINGCTL, n, 0⟩ v.toNat s fun s => s.wrRingctl n was

/-! ## The tableau -/

/-- A trigger by the pin or the register (R387); during a tableau it does nothing. -/
def State.tabTrigger (s : State) (pin : Bool) : State :=
  if s.get TAB_STAT_STATE ≠ 0 then s
  else { (s.put TAB_STAT_STATE 1).bump TAB_STAT_COUNT with obs := { s.obs with tabPin := pin } }

/-- TABLEAU_PIN (R387): TABLEAU_N has fallen; it triggers while PINEN is 1. -/
def execTableauPin (s : State) : Out :=
  onPower s fun s =>
    let s := { s with pins := { s.pins with tableauN := false } }.put TAB_STAT_PIN 1
    if s.clocked && s.flag TAB_CTL_PINEN then s.tabTrigger true else s

/-- RESUME thaws a frozen module; it is ignored while TABLEAU_N is low (R391). -/
def State.tabResume (s : State) : State :=
  if s.get TAB_STAT_STATE = 2 ∧ s.pins.tableauN = true then (s.put TAB_STAT_STATE 3).put TAB_STAT_RDOUT 0 else s

/-- TABLEAU_N has risen (R391, R393). No command of the table stands for it by itself (log entry 61). -/
def State.tabPinHigh (s : State) : State := { s with pins := { s.pins with tableauN := true } }.put TAB_STAT_PIN 0

/-- A write of TAB_CTL (R387, R391). -/
def State.wrTabctl (s : State) (v : Nat) : State :=
  let s := if bit v 1 then s.tabTrigger false else s
  if bit v 2 then s.tabResume else s

/-- TAB_CTL_FREEZE (R387). -/
def execTabCtlFreeze (v : W32) (s : State) : Out := hostSet 1 ⟨.TAB_CTL, 0, 0⟩ v.toNat s fun s => s.wrTabctl v.toNat
/-- TAB_CTL_RESUME (R391): TAB_CTL is written with TABLEAU_N high again (log entry 61). -/
def execTabCtlResume (v : W32) (s : State) : Out := hostSet 1 ⟨.TAB_CTL, 0, 0⟩ v.toNat s fun s => s.tabPinHigh.wrTabctl v.toNat

/-- TABLEAU_CLOCK_STOP (R387): the clocks and odometers stop; the directory keeps the system time and the source (R389). -/
def execTableauClockStop (s : State) : Out :=
  onPower s fun s =>
    if s.get TAB_STAT_STATE = 1 ∧ s.frozen.isNone = true then
      { s with frozen := some (s.clk.sys, s.clk.el, if s.obs.tabPin then 1 else 2) }.modAcc fun a => { a with tableau := true }
    else s

/-- TABLEAU_FROZEN (R387, R390): depots are written back, DDR rests, read-out is enabled unless sealed; event TABLEAU. -/
def execTableauFrozen (s : State) : Out :=
  onPower s fun s =>
    if s.get TAB_STAT_STATE = 1 ∧ s.frozen.isSome = true then
      ((s.depotsBack.put TAB_STAT_STATE 2).put TAB_STAT_RDOUT (b2n (s.get SEC_STATE_STATE == 0))).event 8
    else s

/-- TABLEAU_THAW_DONE (R365, R391, R397): every stopped clock restarts; the hold is excluded time, and R is the next
measured P. -/
def execTableauThawDone (s : State) : Out :=
  onPower s fun s =>
    match s.get TAB_STAT_STATE, s.frozen with
    | 3, some (_, el, _) =>
      let us := (s.clk.el - el) / 1000
      let s := { s with frozen := none, env := { s.env with rFresh := true } }
      let s := (s.put TAB_STAT_STATE 0).put TAB_HOLD_MICROS (cap 32 us)
      s.frameThaw.f0Waiting.event 8
    | _, _ => s

end Sys2Proof.Machine
end

