-- ==== Sys2Proof/Machine/HostPort.lean ====
section
/-! DEFINITION. The host port (R443 to R456): what a register write does by its register, what a register read
shows, call-board writes, BAR2, function power and the link. -/

namespace Sys2Proof.Machine

/-! ## What a register read shows (R79, R106, R388, R415, R447) -/

/-- CUE_ARRSTAT shows the queues and pending tiles of a bay (R72). -/
def State.arrstat (s : State) (p : Nat) : Nat :=
  let b := s.bay p
  let q (a : Nat) : Nat := (b.arr a).fq.length * 16 ^ a + (b.arr a).lq.length * 4 * 16 ^ a
  q 0 + q 1 + q 2 + b.dq.length * 2 ^ 12
    + b2n (b.arr 0).pend * 2 ^ 16 + b2n (b.arr 1).pend * 2 ^ 17 + b2n (b.arr 2).pend * 2 ^ 18

/-- RNG_GEOM of a revolve end (R154). -/
def RingEnd.geom (r : RingEnd) : Nat :=
  if r.opened then
    2 ^ 45 + b2n r.consumer * 2 ^ 44 + r.peer * 2 ^ 38 + r.prv * 2 ^ 33 + (r.nsl - 1) * 2 ^ 29 + (r.slsz / 256 - 1) * 2 ^ 17 + r.base
  else 0

/-- RNG_STAT of a revolve end (R154). -/
def RingEnd.stat (r : RingEnd) : Nat :=
  r.stall % 2 ^ 32 * 2 ^ 32 + r.index % 16 * 2 ^ 28 + min r.count 31 * 2 ^ 23 + r.cursor / 256 % 2 ^ 12

/-- STR_STAT of a stream engine (R183). -/
def State.strstat (s : State) (e : Nat) : Nat :=
  let q := (s.eng e).q
  let reqs := (q.map fun m : MoveOp => m.reqs.length).foldl (· + ·) 0
  let xp := q.head?.any fun m => m.desc.any fun d => d.perm.getD 0 0 != 0
  b2n (q.head?.any fun m => m.copying == .staged) * 2 ^ 16 + b2n xp * 2 ^ 15 + reqs % 128 * 2 ^ 8 + b2n (!q.isEmpty) * 2 ^ 4 + q.length % 16

/-- PRM_MAKEUP of a compute die: its oldest makeup entry (R238). -/
def State.prmMakeup (s : State) (d : Nat) : Nat :=
  match (s.die d).makeup with
  | [] => 0
  | m :: rest => 2 ^ 63 + (rest.length + 1) * 2 ^ 58 + m.lbay % 8 * 2 ^ 55 + m.sheet % 4096 * 2 ^ 43 + m.ord % 2048 * 2 ^ 32

/-- PPS_IN edges have been seen in the last 2 s (R296). -/
def State.ppsSeen (s : State) : Bool := s.fab.lastPps.any fun t => decide (s.clk.el ≤ t + 2000000000)

/-- The value a register shows; that of an unpowered block is zero, which for CUE_SEQSTAT is STATE OFF (R106, R447). -/
def State.regView (s : State) (r : Reg) : Nat :=
  let v := (s.raw r).toNat
  if !s.blockOn r then 0
  else match r.name with
    | .CUE_ARRSTAT => s.arrstat r.unit
    | .RNG_GEOM => ((s.bay r.unit).ring r.idx).geom
    | .RNG_STAT => ((s.bay r.unit).ring r.idx).stat
    | .STR_STAT => s.strstat r.unit
    | .PRM_MAKEUP => s.prmMakeup r.unit
    | .OBS_ODO | .RUN_ODO => s.clk.odo % 2 ^ 64
    | .FAB_TIME => s.clk.sys % 2 ^ 64
    | .FAB_TIMESTAT => putBits (putBits v 31 1 (b2n (s.devno == 0))) 28 1 (b2n s.ppsSeen)
    | .RST_SERIAL | .SEC_DEVID_LO => leVal (devid.take 8)
    | .SEC_DEVID_HI => leVal (devid.drop 8)
    | .SEC_ROOTID => leVal (Config.rootHash.take 8)
    | .RST_BAYS => putBits v 0 8 (s.get UST_STAT_SPARE)
    | .UST_STAT => putBits v 31 1 (b2n (s.flag UST_STAT_SERVICE || s.flag UST_STAT_CAND))
    | _ => v

/-- The 64-bit word of cue memory at a BAR0 offset (R10, R79): nothing but in OPEN, on a powered bay. -/
def State.cueWord (s : State) (off : Nat) : Nat :=
  let o := off % 0x1000000
  let b := o / 0x100000 - 1
  let i := o % 0x100000
  if off < 0x8000000 ∧ 0x100000 ≤ o ∧ b < 9 ∧ 0x80000 ≤ i ∧ i < 0xC0000 ∧ s.open_ = true ∧ s.bayOn (9 * (off / 0x1000000) + b) = true
  then (Tab.get 0 (s.bay (9 * (off / 0x1000000) + b)).cueMem ((i - 0x80000) / 8)).toNat else 0

/-- Four bytes of BAR0 (R415, R447). -/
def State.read4 (s : State) (off : Nat) : Nat :=
  match regAt off with
  | some r =>
    if !s.ready && !r.early then 0xE4E4E4E4
    else bits (s.regView r) (8 * (off - r.offset)) 32
  | none => if !s.ready then 0xE4E4E4E4 else bits (s.cueWord off) (8 * (off % 8)) 32

/-- An aligned 8 B read of BAR0. -/
def State.read8 (s : State) (off : Nat) : Nat := s.read4 off + s.read4 (off + 4) * 2 ^ 32

/-! ## Fields a write leaves alone -/

/-- The UNITs of an event that a kind of block offers; none: not offered (R368, R369). Kinds: 0 bay, 1 compute die, 2 port die. -/
def eventUnits (kind ev : Nat) : Nat :=
  if ev = 0 then 1
  else match kind with
    | 0 => if ev = 6 ∨ ev = 7 then 3 else if ev ≤ 0x0F then 1 else 0
    | 1 => if ev = 0x20 ∨ ev = 0x22 ∨ ev = 0x23 ∨ ev = 0x24 then 4 else if ev = 0x26 then 2 else if ev = 0x21 ∨ ev = 0x25 then 1 else 0
    | _ => if ev = 0x40 ∨ ev = 0x41 ∨ ev = 0x42 then 8 else if ev = 0x47 ∨ ev = 0x48 then 4 else if ev = 0x4B then 2
           else if 0x43 ≤ ev ∧ ev ≤ 0x4C then 1 else 0

/-- The kind of an observed block. -/
def blkKind (blk : Nat) : Nat := if 80 ≤ blk then 2 else if blk % 10 = 9 then 1 else 0

/-- The byte events of R369. -/
def byteEvents : List Nat := [0x0B, 0x0C, 0x22, 0x23, 0x26, 0x40, 0x41, 0x47, 0x48, 0x4B]

/-- A field of a written word takes the register's own value where the manual ignores the written one. -/
def keepField (was v lo w : Nat) (ok : Bool) : Nat := if ok then v else putBits v lo w (bits was lo w)

/-- The word a write stores, with every ignored value replaced by what the register holds (R368, R215, R347, R373,
R378, R389, R392). -/
def State.storable (s : State) (r : Reg) (v : Nat) : Nat :=
  let was := (s.raw r).toNat
  let in_ (lo w a b : Nat) : Bool := decide (a ≤ bits v lo w) && decide (bits v lo w ≤ b)
  match r.name with
  | .ENV_DEGLITCH => keepField was v 0 7 (in_ 0 7 2 100)
  | .ENV_GUARD => keepField was v 0 8 (in_ 0 8 20 200)
  | .OBS_DUMP => keepField was v 0 5 (in_ 0 5 4 24)
  | .OBS_PHOTOCTL => keepField was v 29 2 (in_ 29 2 0 2)
  | .TAB_PAGE => keepField was v 0 7 (in_ 0 7 0 105)
  | .MEM_CFG => keepField was v 0 2 (in_ 0 2 0 2)
  | .OBS_SEL =>
    let k := blkKind r.unit
    let v := keepField was v 0 8 (eventUnits k (bits v 0 8) != 0)
    keepField was v 8 4 (decide (bits v 8 4 < eventUnits k (bits v 0 8)))
  | .OBS_BWSEL => if byteEvents.contains (bits v 0 8) then v else was
  | .OBS_RINGBASE => if s.flag OBS_RINGCTL_EN r.unit then was else v
  | _ => v

/-! ## Effects of a write (R8) -/

/-- A write of FAB_DEVNO or FAB_TOPO (R268, R269). -/
def State.wrNumbers (s : State) (topo : Bool) : State :=
  { s with fab := { s.fab with devSet := s.fab.devSet || !topo, topoSet := s.fab.topoSet || topo } }.join

/-- MSI-X table entry `v` written: an unmasked vector whose pending bit is set is sent (PCI Express, R450). -/
def State.wrVector (s : State) (v : Nat) : State :=
  let pba := (s.raw ⟨.MSIX_PBA, 0, v / 64⟩).toNat
  if bit pba (v % 64) && !s.vecMasked v then
    (s.setRaw ⟨.MSIX_PBA, 0, v / 64⟩ (BitVec.ofNat 64 (pba - 2 ^ (v % 64)))).sendVec v
  else s

/-- What a write of `v` to a register does beside setting its fields; `old` is the register before it. -/
def State.wrEffect (s : State) (r : Reg) (old v : Nat) : State :=
  match r.name with
  | .CUE_RNDCTL => s.wrCueRndctl r.unit v
  | .TLH_RNDCTL => s.wrTlhRndctl r.unit v
  | .CUE_ARRCTL => s.wrArrctl r.unit v
  | .CUE_SEQCTL => s.wrSeqctl r.unit v
  | .WNG_CTL => s.wrWngctl r.unit v
  | .GRM_CTL => s.wrGrmctl r.unit v
  | .STR_CTL => s.wrStrctl r.unit v
  | .MEM_CHCTL => s.wrChctl r.unit v
  | .GTH_CTL => s.wrGthctl r.unit v
  | .SPR_CTL => s.wrSprctl r.unit v
  | .PRM_CTL => s.wrPrmctl r.unit v
  | .TLH_UPDCTL => s.wrUpdctl r.unit v
  | .FAB_CNTCTL => s.wrCntctl r.unit v
  | .RUN_CNTCTL => s.wrRunCntctl v
  | .OBS_BCTL => s.wrBctl r.unit v
  | .OBS_CCTL => s.wrCctl v
  | .HST_CTL => s.wrHstctl v
  | .RST_CURTCTL => s.wrCurtctl v
  | .OBS_BWSEL => { s with obs := { s.obs with bwCount := Tab.set 0 s.obs.bwCount r.idx 0 } }
  | .OBS_DUMP => if s.flag OBS_DUMP_EN && !bit old OBS_DUMP_EN.lo then { s with obs := { s.obs with dumpSeq := 0 } } else s
  | .STR_WINCTL => s.wrWinctl v
  | .MEM_ZERO => s.wrMemZero v
  | .MEM_RETIRE => s.wrMemRetire v
  | .DEP_CTL => s.wrDepctl r.unit (bit old 0) v
  | .CHK_CTL => s.wrChkctl r.unit v
  | .CHK_RUN => s.wrChkrun r.unit old
  | .FAB_PORTCTL => s.wrPortctl r.unit old v
  | .FAB_TIMESET => s.wrTimeset v
  | .FAB_DEVNO => s.wrNumbers false
  | .FAB_TOPO => s.wrNumbers true
  | .RUN_CTL => s.wrRunctl v
  | .RUN_ABORT => s.wrRunAbort v
  | .UST_SWAP => s.wrUstSwap v
  | .ENV_CTL => s.wrEnvctl v
  | .RST_CTL => s.wrRstctl v
  | .OBS_EVT => s.wrObsEvt
  | .OBS_STEPCTL => s.wrStepctl v
  | .OBS_RINGCTL => s.wrRingctl r.unit old
  | .TAB_CTL => s.wrTabctl v
  | .MSIX_DATA => s.wrVector r.idx
  | _ => s

/-- A whole register is written. -/
def State.regWrite (s : State) (r : Reg) (v : Nat) : State :=
  s.hostWrite r (s.storable r v) fun t => t.wrEffect r (s.raw r).toNat v

/-- An entry of the MSI-X table: its DWORDs are independent (PCI Express). -/
def RegName.dwords (n : RegName) : Bool := n == .MSIX_ADDR || n == .MSIX_DATA

/-- A 4 B write (R447): a lower half of a 64-bit register is held until the upper half comes. -/
def State.write4 (s : State) (off v : Nat) : State :=
  match regAt off with
  | none => s
  | some r =>
    if r.name.spec.width = 32 then s.regWrite r v
    else if !s.reaches r then s
    else
      let old := (s.raw r).toNat
      let hold (x : Option Nat) : State := { s with host := { s.host with heldLow := Tab.set none s.host.heldLow r.offset x } }
      if r.name.dwords then s.regWrite r (putBits old (8 * (off - r.offset)) 32 v)
      else if off = r.offset then hold (some v)
      else (hold none).regWrite r (v * 2 ^ 32 + (Tab.get none s.host.heldLow r.offset).getD (old % 2 ^ 32))

/-- An 8 B write: a 64-bit register in one access, else two 4 B writes. -/
def State.write8 (s : State) (off v : Nat) : State :=
  match regAt off with
  | some r => if r.name.spec.width = 64 then s.regWrite r v else (s.write4 off (v % 2 ^ 32)).write4 (off + 4) (v / 2 ^ 32)
  | none => s.write4 (off + 4) (v / 2 ^ 32)

/-! ## BAR4 (R305, R446) -/

/-- A write of BAR4: words 0 to 27 of the call boards, and nothing else. -/
def State.bar4Write (s : State) (off size v : Nat) : State :=
  let e := off / 256
  let i := off % 256 / 8
  if e < 64 ∧ i < 28 ∧ s.ready = true then
    s.modBoard e fun b => b.setWord i (putBits (b.word i) (8 * (off % 8)) (8 * min size (8 - off % 8)) v)
  else s

/-- REGISTER_WRITE (R8, R446, R447, R455). -/
def execRegisterWrite (bar off size : Nat) (value : W64) (s : State) : Out :=
  .next (
    if !s.hostUp then s
    else if s.host.d3 then s.bump HST_ERR_UR
    else if bar = 0 then
      if off % size ≠ 0 then s.bump HST_ERR_UR
      else if size = 4 then s.write4 off (value.toNat % 2 ^ 32)
      else if size = 8 then s.write8 off value.toNat
      else s.bump HST_ERR_UR
    else if bar = 4 then s.bar4Write off size value.toNat
    else s)

/-! ## BAR2 (R388, R415, R448, R449) -/

/-- B: HST_BAR2BASE.BASE rounded down to a multiple of the size in force (R448). -/
def State.bar2Base (s : State) : Nat :=
  let b := s.get HST_BAR2BASE_BASE * 2 ^ 34
  b - b % 2 ^ s.host.bar2log

/-- A completion is sent. -/
def State.complete (s : State) (c : Completion) : State := { s with host := { s.host with comps := s.host.comps ++ [c] } }

/-- A BAR2 access is carried out. -/
def State.bar2Serve (s : State) (x : HostAccess) : State :=
  match x with
  | .read a n =>
    if s.place a ≠ .ddr then (s.bump HST_ERR_B2DROP).complete { data := List.replicate n 0 }
    else
      let (t, bs, e) := (s.irregular a n).ddrRead a n
      (if e.unc then t.bump HST_ERR_POISON else t).complete { data := bs, poisoned := e.unc }
  | .write a bs => if s.place a ≠ .ddr then s.bump HST_ERR_B2DROP else ((s.foul a bs.length).ddrWrite a bs).1

/-- A BAR2 access waits for a scrub, or is carried out. -/
def State.bar2 (s : State) (x : HostAccess) : State :=
  if s.flag MEM_ZERO_BUSY then { s with host := { s.host with waiting := s.host.waiting ++ [x] } } else s.bar2Serve x

/-- BAR2_READ (R449): during a tableau and before ready it completes with all ones, in D3hot with Unsupported Request. -/
def execBar2Read (off len : Nat) (s : State) : Out :=
  .next (
    let ones : Completion := { data := List.replicate len 0xFF }
    if !s.hostUp then s
    else if s.host.d3 then (s.bump HST_ERR_UR).complete { ur := true }
    else if s.get TAB_STAT_STATE ≠ 0 then (s.bump TAB_BAR2_COUNT).complete ones
    else if !s.ready then s.complete ones
    else s.bar2 (.read (s.bar2Base + off) len))

/-- BAR2_WRITE (R449): a poisoned write is dropped (R455). -/
def execBar2Write (off : Nat) (data : Bytes) (poisoned : Bool) (s : State) : Out :=
  .next (
    if !s.hostUp then s
    else if s.host.d3 || poisoned then s.bump HST_ERR_UR
    else if s.get TAB_STAT_STATE ≠ 0 then s.bump TAB_BAR2_COUNT
    else if !s.ready then s
    else s.bar2 (.write (s.bar2Base + off) data))

/-- BAR2_RESIZE (R448): sizes from 16 GiB to 8 TiB. -/
def execBar2Resize (log2 : Nat) (s : State) : Out :=
  .next (if s.hostUp && decide (34 ≤ log2) && decide (log2 ≤ 43) then { s with host := { s.host with bar2log := log2 } } else s)

/-- A scrub ends (R196, R450): all of DDR reads zero, and the accesses it held are carried out in order. -/
def State.scrubDone (s : State) : State :=
  if !s.flag MEM_ZERO_BUSY then s
  else
    let held := s.host.waiting
    let s := { s with mem := [], memErr := [], host := { s.host with waiting := [] } }
    held.foldl State.bar2Serve ((s.put MEM_ZERO_BUSY 0).event 6)

/-- MEM_ZERO_DONE (R196). -/
def execMemZeroDone (s : State) : Out := onClock s State.scrubDone

/-! ## Function power and link (R407, R443, R444, R455) -/

/-- POWER_STATE_CHANGE (R444): the return to D0 sends the messages of events that arose in D3hot. -/
def execPowerStateChange (d3 : Bool) (s : State) : Out :=
  .next (
    if !s.hostUp || s.host.d3 == d3 then s
    else if d3 then { s with host := { s.host with d3 := true } }
    else s.host.owed.foldl State.sendVec { s with host := { s.host with d3 := false, owed := [] } })

/-- HOST_LINK_RETRAIN (R443, R455): the link goes down, or trains at a rate and width; FLIT mode at 64 GT/s. -/
def execHostLinkRetrain (rate width : Nat) (up : Bool) (s : State) : Out :=
  .next (
    if !s.hostUp then s
    else if up then
      let s := if s.host.linked then s.bump HST_LINK_RETRAINS else s
      let s := { s with host := { s.host with linked := true } }
      (((s.put HST_LINK_UP 1).put HST_LINK_RATE rate).put HST_LINK_WIDTH width).put HST_LINK_FLIT (b2n (rate == 5))
    else (((s.put HST_LINK_UP 0).put HST_LINK_RATE 0).put HST_LINK_WIDTH 0).put HST_LINK_FLIT 0)

/-! ## What BAR4 reads (R343, R389, R390, R446) -/

/-- A byte of the metered-minute store (R343). -/
def State.storeByte (s : State) (o : Nat) : Byte :=
  if o < 4096 then
    (leBytes 4 0x4D4D5331 ++ [0, 0, 0, 0] ++ leBytes 8 (s.get ENV_MMSTAT_NEXTSEQ) ++ leBytes 2 (s.get ENV_MMSTAT_HEAD)
      ++ leBytes 2 (s.get ENV_MMSTAT_COUNT)).getD o 0
  else if o < 4096 + 5120 * 204 then
    (Tab.get [] s.nv.meters ((o - 4096) / 5120)).getD ((o - 4096) % 5120) 0
  else 0

/-- The read-out is enabled: frozen, and not sealed (R389, R390). -/
def State.readOut (s : State) : Bool := s.get TAB_STAT_STATE == 2 && s.open_

/-- A byte of the tableau directory window (R389); die-level state has no stated layout. -/
def State.tabDirByte (s : State) (o : Nat) : Byte :=
  match s.readOut, s.frozen with
  | true, some (sys, _, src) =>
    if o < 4096 then (wordsBytes [0x54424C31, s.clk.odo, sys, src]).getD o 0
    else Config.tableauState (106 + (o - 4096) / 0x10000) ((o - 4096) % 0x10000)
  | _, _ => 0

/-- A byte of page `n` of the tableau space (R389): wings, cue memory, accumulators and weights of a bay, green rooms;
sequencer, depot and port-die state has no stated layout. -/
def State.tabPageByte (s : State) (n o : Nat) : Byte :=
  if !s.readOut then 0
  else if n < 72 then
    let b := s.bay n
    if o < 0x1800000 then b.byte o
    else if o < 0x1840000 then leByte (Tab.get 0 b.cueMem ((o - 0x1800000) / 8)).toNat (o % 8)
    else if o < 0x19C0000 then
      leByte (Tab.get 0 (b.arr ((o - 0x1840000) / 0x80000)).acc ((o - 0x1840000) % 0x80000 / 4)).toNat (o % 4)
    else if o < 0x1A30000 then Config.tableauState n o
    else 0
  else if n < 88 then s.greenByte ((n - 72) / 2) ((n - 72) % 2 * 0x2000000 + o)
  else if n < 106 then Config.tableauState n o
  else 0
where
  /-- Byte `i` of a little-endian number. -/
  leByte (v i : Nat) : Byte := BitVec.ofNat 8 (v / 256 ^ i)

/-- A byte of BAR4 (R415, R446). -/
def State.bar4Byte (s : State) (off : Nat) : Byte :=
  if !s.ready then 0
  else if off < 0x4000 then BitVec.ofNat 8 ((s.board (off / 256)).word (off % 256 / 8) / 256 ^ (off % 8))
  else if 0x100000 ≤ off ∧ off < 0x200000 then s.storeByte (off - 0x100000)
  else if 0x1000000 ≤ off ∧ off < 0x10C1000 then s.tabDirByte (off - 0x1000000)
  else if 0x2000000 ≤ off ∧ off < 0x4000000 then s.tabPageByte (s.get TAB_PAGE_PAGE) (off - 0x2000000)
  else 0

end Sys2Proof.Machine
end

