-- ==== Sys2Proof/Machine/Trust.lean ====
section
/-! DEFINITION. The trust functions (R430 to R442, R452): messages and their order, the requests, updates, the
attestation report, and decommissioning. A message that waits is processed by the command of its operation. -/

namespace Sys2Proof.Machine

/-! ## Requests (R435 to R437) -/

/-- The fields of a request's header. -/
def reqOp (bs : Bytes) : Nat := fld (numAt bs 0 8) 31 24
def reqNsig (bs : Bytes) : Nat := fld (numAt bs 0 8) 23 16
def reqLen (bs : Bytes) : Nat := fld (numAt bs 8 8) 31 0
def reqCtr (bs : Bytes) : Nat := numAt bs 16 8
def reqPayload (bs : Bytes) : Bytes := (bs.drop 64).take (reqLen bs)
/-- Signature `i` of a request. -/
def reqSig (bs : Bytes) (i : Nat) : Bytes := (bs.drop (64 + reqLen bs + 4672 * i)).take 4627

/-- The operations of R437. -/
def trustOps : List Nat := [0x01, 0x02, 0x10, 0x11, 0x12, 0x20, 0x21, 0x30, 0x31, 0x32]

/-- The message opens with a header of a defined operation. -/
def headed (bs : Bytes) : Bool := decide (64 ≤ bs.length) && fld (numAt bs 0 8) 63 32 == 0x54525131 && trustOps.contains (reqOp bs)

/-- Targets of an update (R437). -/
def updateTargets : List Nat := [1, 2, 3, 4, 0xE, 0xF]

/-- UPDATE_BEGIN's payload: TARGET in the upper half of its word, total length in the lower (log entry 65). -/
def beginTarget (p : Bytes) : Nat := fld (numAt p 0 8) 63 32
def beginTotal (p : Bytes) : Nat := fld (numAt p 0 8) 31 0

/-- The payload an operation takes (R437). -/
def payloadOk (op : Nat) (p : Bytes) : Bool :=
  match op with
  | 0x01 => p.length == 1 && decide ((p.getD 0 0).toNat ≤ 1)
  | 0x02 => p.length == 64
  | 0x10 | 0x11 => p.length == 2592
  | 0x30 => p.length == 8 && updateTargets.contains (beginTarget p)
  | 0x31 => decide (8 ≤ p.length) && decide (p.length ≤ 8 + 65536)
  | 0x32 => p.length == 64
  | _ => p.isEmpty

/-- Check 1 of R436. -/
def formOk (bs : Bytes) : Bool :=
  headed bs && fld (numAt bs 0 8) 15 0 == 0 && fld (numAt bs 8 8) 63 32 == 0 && (numAt bs 40 24 == 0)
  && decide (reqLen bs ≤ 1048576) && bs.length == 64 + reqLen bs + 4672 * reqNsig bs && payloadOk (reqOp bs) (reqPayload bs)

/-- Check 2 of R436: the security state permits the operation (R434), and in RECOVERY only updates run (R422). -/
def State.opPermitted (s : State) (op : Nat) : Bool :=
  let st := s.get SEC_STATE_STATE
  (decide (s.get RST_BOOTSTAT_STAGE ≠ 15) || decide (0x30 ≤ op))
  && (st != 2 || op == 0x01 || op == 0x02) && (op != 0x20 || st == 0)

/-- The keys whose signatures an operation needs, in order; none: one of them is not enrolled (R436, R437). -/
def State.opKeys (s : State) (op : Nat) (p : Bytes) : Option (List Bytes) :=
  let operator := if s.flag SEC_STATE_OPKEY then some [s.nv.opKey] else none
  match op with
  | 0x10 => if s.get SEC_STATE_STATE = 0 ∧ s.flag SEC_STATE_OPKEY = false then some [] else operator
  | 0x11 => if s.flag SEC_STATE_FACKEY then some [s.nv.facKey] else operator.map fun k => k ++ [p]
  | 0x12 => if s.flag SEC_STATE_FACKEY then some [s.nv.facKey] else none
  | 0x20 | 0x21 => operator
  | 0x32 => if s.get SEC_STATE_STATE = 0 then some [] else operator
  | _ => some []

/-- Check 4 of R436: DEVID and CTR of a signed request, and every signature over header and payload. -/
def State.sigsOk (s : State) (bs : Bytes) (keys : List Bytes) : Bool :=
  reqNsig bs == keys.length
  && (keys.isEmpty || ((bs.drop 24).take 16 == devid && reqCtr bs == s.get SEC_CMDCTR_CTR))
  && ((List.range keys.length).all fun i => Config.mldsaVerify (keys.getD i []) (sha3 (bs.take (64 + reqLen bs))) (reqSig bs i))

/-- The code of a request's checks (R436), and whether it is a signed one. -/
def State.reqCheck (s : State) (bs : Bytes) : Nat × Bool :=
  if !formOk bs then (cDESC_BAD, false)
  else if !s.opPermitted (reqOp bs) then (cSTATE_DENIED, false)
  else match s.opKeys (reqOp bs) (reqPayload bs) with
    | none => (cKEY_ABSENT, false)
    | some keys => if s.sigsOk bs keys then (cOK, !keys.isEmpty) else (cSIG_BAD, false)

/-! ## Responses and the queue (R435, R436, R452) -/

/-- A response: header, payload and the identity key's signature over the request's header and the response (R435). -/
def responseOf (req : Bytes) (code : Nat) (payload : Bytes) : Bytes :=
  let head := wordsBytes [0x54525131 * 2 ^ 32 + reqOp req * 2 ^ 24 + 2 ^ 16 + code * 2 ^ 8, payload.length, reqCtr req] ++ devid ++ List.replicate 24 0
  let r := head ++ payload
  r ++ padTo 4672 (Config.identitySign (sha3 (padTo 64 req ++ r)))

/-- A response is written to the path its request came on; in the DOE mailbox it is event DOE (R442, R450). -/
def State.respond (s : State) (m : Msg) (code : Nat) (payload : Bytes) : State :=
  let s := (s.put SEC_STATE_LCODE code).put SEC_STATE_LOP (reqOp m.bytes)
  let r := responseOf m.bytes code payload
  if m.port then { s with trust := { s.trust with mgmtOut := r } }
  else { s with trust := { s.trust with doeOut := r } }.event 11

/-- The queue moves on: messages with no operation to process them are answered DESC_BAD; BUSY while one waits. -/
def State.settleMsgs : List Msg → State → State
  | [], s => { s with trust := { s.trust with queue := [] } }.put SEC_STATE_BUSY 0
  | m :: rest, s =>
    if headed m.bytes then { s with trust := { s.trust with queue := m :: rest } }.put SEC_STATE_BUSY 1
    else State.settleMsgs rest (s.respond m cDESC_BAD [])

/-- A complete message joins the queue (R436). -/
def State.enqueue (s : State) (m : Msg) : State := State.settleMsgs (s.trust.queue ++ [m]) s

/-- Colvel, or in RECOVERY the boot ROM, takes messages (R416, R422). -/
def State.colvelUp (s : State) : Bool := s.powered && decide (4 ≤ s.get RST_BOOTSTAT_STAGE)

/-- The message at the front of the queue is processed if it asks for operation `op`: its checks, CTR, `f` for an
accepted one (state, code and response payload), and its response. -/
def onMsg (op : Nat) (s : State) (f : State → Bytes → State × Nat × Bytes) : Out :=
  .next (
    match s.trust.queue with
    | [] => s
    | m :: rest =>
      if !s.colvelUp || reqOp m.bytes != op then s
      else
        let (code, signed) := s.reqCheck m.bytes
        let s := if signed then s.put SEC_CMDCTR_CTR (s.get SEC_CMDCTR_CTR + 1) else s
        let (s, code, p) := if code = cOK then f s (reqPayload m.bytes) else (s, code, [])
        State.settleMsgs rest (s.respond m code p))

/-- DOE_FRAGMENT (R452): fragments ascend with no gap; else the message is discarded and DOE Error set, which stays
until an Abort. -/
def execDoeFragment (more : Bool) (off : Nat) (data : Bytes) (s : State) : Out :=
  .next (
    if !s.colvelUp || !s.hostUp || s.trust.doeError then s
    else if off ≠ s.trust.doePart.length ∨ 1048564 < data.length then
      { s with trust := { s.trust with doePart := [], doeError := true } }
    else
      let bs := s.trust.doePart ++ data
      if more then { s with trust := { s.trust with doePart := bs } }
      else { s with trust := { s.trust with doePart := [], doeOut := [] } }.enqueue { port := false, bytes := bs })

/-- DOE_ABORT (R452): the message in progress is discarded, in either direction. -/
def execDoeAbort (s : State) : Out :=
  .next (
    if !s.hostUp then s
    else State.settleMsgs (s.trust.queue.filter fun m => m.port)
      { s with trust := { s.trust with doePart := [], doeOut := [], doeError := false } })

/-! ## Certificates, report, keys (R437, R441) -/

/-- GET_CERT (R437): payload byte 0 chooses the device or the firmware-key certificate. With no valid firmware-key
certificate in flash what it returns is not stated: the delivered slot's bytes. -/
def execGetCert (s : State) : Out :=
  onMsg 0x01 s fun s p => (s, cOK, if p.getD 0 0 = 0 then Config.deviceCert else s.fwCert.getD (s.slotBytes 14 0))

/-- 64 B of a digest; what stands there without one is not stated: free bytes. -/
def State.digestOr (s : State) (bs : Bytes) : Bytes × State := if bs.length = 64 then (bs, s) else s.freeBytes 8

/-- The 64 B hash of an enrolled key, or zeros (R441). -/
def keyHash (have_ : Bool) (k : Bytes) : Bytes := if have_ then sha3 k else List.replicate 64 0

/-- The six measurements (R441): the boot ROM's and those of images not selected are free bytes. -/
def State.measureBytes (s : State) : Bytes × State :=
  (List.range 6).foldl (fun x i =>
    let (b, t) := x.2.digestOr (Tab.get [] s.boot.measures i)
    (x.1 ++ b, t)) ([], s)

/-- The signed attestation report with a nonce (R441); SEQ is the count of reports before it. -/
def State.report (s : State) (nonce : Bytes) : Bytes × State :=
  let r (n : RegName) (i : Nat := 0) : Nat := s.regView ⟨n, 0, i⟩ % 2 ^ 32
  let pair (n : RegName) (i : Nat) : Nat := r n (2 * i + 1) * 2 ^ 32 + r n (2 * i)
  let v (i : Nat) : Nat := s.get RST_IMG_VERSION 0 i
  let (ms, s') := s.measureBytes
  let (dg, s') := s'.digestOr (s.env.cur.elim [] fun c => c.digest)
  let body := wordsBytes [0x41545231 * 2 ^ 32 + s.get SEC_STATE_STATE * 2 ^ 30 + s.get RST_BOOTSTAT_OUTCOME * 2 ^ 28 + s.get RST_BOOTSTAT_REH * 2 ^ 27
        + s.get ENV_STAT_DEFAULT * 2 ^ 26 + s.get FAB_DEVNO_DEVICE, s.get SEC_REPORTS_SEQ % 2 ^ 32 * 2 ^ 32 + r .RST_REASON]
    ++ devid ++ nonce
    ++ wordsBytes [s.clk.sys, s.get RST_PLAYBILL_SERIAL * 2 ^ 32 + r .MEM_INFO, 0, 0]
    ++ ms
    ++ wordsBytes ([v 1 * 2 ^ 32 + v 0, v 3 * 2 ^ 32 + v 2, v 5 * 2 ^ 32 + v 4, r .UST_STAT * 2 ^ 32 + r .UST_SRAM]
        ++ (List.range 4).map (pair .UST_MAP) ++ (List.range 4).map (pair .UST_BAYST)
        ++ [r .UST_VRM * 2 ^ 32 + r .UST_CWY, r .UST_COLVEL * 2 ^ 32 + r .ENV_SCHED])
    ++ keyHash (s.flag SEC_STATE_FACKEY) s.nv.facKey ++ keyHash (s.flag SEC_STATE_OPKEY) s.nv.opKey
    ++ wordsBytes [s.get ENV_SCHED_SERIAL * 2 ^ 32 + r .ENV_STAT, r .ENV_INFO * 2 ^ 32]
    ++ dg
    ++ wordsBytes ([s.get UST_SVCUS_MICROS, s.get UST_LOSTUS_MICROS, s.get UST_EXCLUS_MICROS, s.get SEC_CMDCTR_CTR] ++ List.replicate 20 0)
  (body ++ padTo 4672 (Config.identitySign (sha3 body)), s'.bump SEC_REPORTS_SEQ)

/-- GET_REPORT (R437, R441). -/
def execGetReport (s : State) : Out := onMsg 0x02 s fun s p => let (b, s) := s.report p; (s, cOK, b)

/-- The operator key becomes `k`. -/
def State.setOpKey (s : State) (k : Bytes) : State :=
  ({ s with nv := { s.nv with opKey := k } }.put SEC_STATE_OPKEY (b2n !k.isEmpty)).put SEC_OPID_PREFIX (if k.isEmpty then 0 else leVal ((sha3 k).take 8))

/-- The facility key becomes `k`; the schedule in force stays (R329). -/
def State.setFacKey (s : State) (k : Bytes) : State :=
  ({ s with nv := { s.nv with facKey := k } }.put SEC_STATE_FACKEY (b2n !k.isEmpty)).put SEC_FACID_PREFIX (if k.isEmpty then 0 else leVal ((sha3 k).take 8))

/-- ENROL_OP (R437). -/
def execEnrolOp (s : State) : Out := onMsg 0x10 s fun s p => (s.setOpKey p, cOK, [])

/-- ENROL_FAC (R329, R437): check 5 of a schedule then compares with 0. -/
def execEnrolFac (s : State) : Out :=
  onMsg 0x11 s fun s p => ({ s.setFacKey p with env := { s.env with serialCmp := 0 } }, cOK, [])

/-- RELEASE_FAC (R437). -/
def execReleaseFac (s : State) : Out := onMsg 0x12 s fun s _ => (s.setFacKey [], cOK, [])

/-! ## Security state (R433, R438) -/

/-- The state fuse is blown; outside OPEN read-out is disabled (R390, R433). -/
def State.blowFuse (s : State) (st : Nat) : State := (s.put SEC_STATE_STATE st).put TAB_STAT_RDOUT 0

/-- SEAL (R433, R437). -/
def execSeal (s : State) : Out := onMsg 0x20 s fun s _ => (s.blowFuse 1, cOK, [])

/-- Every command ends with ABORTED: a lane's units stop at once, then the command completes. -/
def State.abortNow (s : State) (c : Cmd) : State :=
  if c.op = 1 ∧ c.phase ≠ .parked ∧ c.phase ≠ .starting then
    let s := (laneBays c.mask).foldl (fun s lb => if (s.bay (s.phys lb)).cid = some c.id then s.haltUnits (s.phys lb) else s) s
    s.refuseCmd c.id cABORTED
  else s.abortCmd c

/-- The running order stops and every entry is aborted (R304, R316, R438). -/
def State.stopAll (s : State) : State :=
  let s := s.ro.cmds.foldl State.abortNow s
  let s := (List.range 64).foldl State.abortEntry s
  if s.flag RUN_STAT_ACTIVE then s.stopEffect false else { s with ro := { s.ro with next := none } }.put RUN_STAT_PEND 0

/-- A curtain of all bays and green rooms, from its start to its end (R149 to R153). -/
def State.fullCurtain (s : State) : State :=
  let c : Curt := { bays := BitVec.allOnes 64, grm := 0xFF, keep := false }
  let s := { s with curt := some c, curtQ := none }.put RST_CURTSTAT_QUEUED 0
  let s := s.coveredBays.foldl State.curtainBay s
  let s := s.coveredBays.foldl (fun s p => s.zeroBay p false) s
  let s := { (s.zeroGreens c.grm).curtainSwaps c.bays with curt := none }
  ((s.put RST_CURTSTAT_BUSY 0).bumpWrap RST_CURTSTAT_DONE).event 4

/-- DDR is scrubbed (R196); the depots are invalidated first. -/
def State.fullScrub (s : State) : State :=
  let s := (List.range 4).foldl (fun s p => (s.modPort p fun x => { x with depot := { x.depot with lines := [], errs := [] } }).depotShow p) s
  s.put MEM_ZERO_BUSY 1 |>.scrubDone

/-- DECOMMISSION (R438), its six steps as one; it waits while the compute clocks stand. The nonce of its report is not
stated: free bytes. -/
def execDecommission (s : State) : Out :=
  if s.clocked then
    onMsg 0x21 s fun s _ =>
      let s := ((s.stopAll.fullCurtain.fullScrub.setFacKey []).setOpKey []).blowFuse 2
      let (nonce, s) := s.freeBytes 8
      let (b, s) := s.report nonce
      (s, cOK, b)
  else .next s

/-! ## Updates (R439, R440) -/

/-- The slot an update of a target writes: that of an image that boot did not take, the certificate or playbill slot
that is invalid or of lower SERIAL (R439). -/
def State.inactiveSlot (s : State) (target : Nat) : Nat :=
  if target ≤ 4 then
    let run := s.get RST_IMG_SLOT 0 target
    if run < 2 then 1 - run else 1 - Tab.get 0 s.flash.active target
  else
    let ok (bs : Bytes) : Bool := if target = 14 then certOk bs else playbillOk s.fwKey bs
    let a := s.slotBytes target 0
    let b := s.slotBytes target 1
    if !ok a then 0 else if !ok b then 1 else if fld (numAt a 8 8) 63 32 < fld (numAt b 8 8) 63 32 then 0 else 1

/-- A flash slot is written, or erased to hold nothing. -/
def State.setSlot (s : State) (target slot : Nat) (bs : Bytes) : State :=
  { s with flash := { s.flash with slots := Tab.set none s.flash.slots (2 * target + slot) (some bs) } }

/-- UPDATE_BEGIN (R439): the inactive slot is erased; an update in progress is abandoned. -/
def State.updateBegin (s : State) (p : Bytes) : State :=
  let t := beginTarget p
  let k := s.inactiveSlot t
  ({ s.setSlot t k [] with trust := { s.trust with update := some { target := t, slot := k, total := beginTotal p } } }.put SEC_STATE_UPD 1).markExcl

/-- UPDATE_BEGIN (R437, R439). -/
def execUpdateBegin (s : State) : Out := onMsg 0x30 s fun s p => (s.updateBegin p, cOK, [])

/-- The bytes of an update as received. -/
def Update.bytes (u : Update) : Bytes := u.data.readN 0 u.total

/-- UPDATE_DATA (R439): data beyond the declared length, or with no update in progress, is DESC_BAD. -/
def execUpdateData (s : State) : Out :=
  onMsg 0x31 s fun s p =>
    let o := numAt p 0 8
    let d := p.drop 8
    match s.trust.update with
    | none => (s, cDESC_BAD, [])
    | some u =>
      if u.total < o + d.length then (s, cDESC_BAD, [])
      else
        let u := { u with data := u.data.writeN o d, got := u.got ++ [(o, d.length)] }
        ({ s.setSlot u.target u.slot u.bytes with trust := { s.trust with update := some u } }, cOK, [])

/-- Every byte below `total` lies in a range. -/
def covered (total : Nat) (got : List (Nat × Nat)) : Bool :=
  (List.range total).all fun i => got.any fun r => decide (r.1 ≤ i) && decide (i < r.1 + r.2)

/-- Check 2 of R439. -/
def updateHeadOk (target : Nat) (bs : Bytes) : Bool :=
  let magic := fld (numAt bs 0 8) 63 32
  if target = 14 then magic == 0x43455231 else if target = 15 then magic == 0x504C4231 else imageHeadOk target bs

/-- Check 3 of R439. -/
def State.updateSigned (s : State) (target : Nat) (bs : Bytes) : Bool :=
  if target = 14 then certOk bs else if target = 15 then playbillOk s.fwKey bs else imageOk s.fwKey target bs

/-- R440 on an update: an image's VERSION is not below its floor, a SERIAL is above the one in use. -/
def State.floorMet (s : State) (u : Update) (bs : Bytes) : Bool :=
  let serial := fld (numAt bs 8 8) 63 32
  if u.target ≤ 4 then decide (s.get SEC_FLOOR_VERSION 0 u.target ≤ imageVersion bs)
  else if u.target = 15 then decide (s.get RST_PLAYBILL_SERIAL < serial)
  else
    let other := s.slotBytes 14 (1 - u.slot)
    !certOk other || decide (fld (numAt other 8 8) 63 32 < serial)

/-- The code of UPDATE_END's checks, in order (R439). -/
def State.updateCode (s : State) (u : Update) (digest : Bytes) : Nat :=
  let bs := u.bytes
  if !covered u.total u.got || sha3 bs != digest then cSIG_BAD
  else if !updateHeadOk u.target bs then cDESC_BAD
  else if !s.updateSigned u.target bs then cSIG_BAD
  else if s.get SEC_STATE_STATE = 1 ∧ s.floorMet u bs = false then cSTATE_DENIED
  else cOK

/-- UPDATE_END (R439): an accepted image becomes active from the next reset; a refused update leaves its slot erased. -/
def execUpdateEnd (s : State) : Out :=
  onMsg 0x32 s fun s p =>
    match s.trust.update with
    | none => (s, cDESC_BAD, [])
    | some u =>
      let code := s.updateCode u p
      let s := ({ s with trust := { s.trust with update := none } }.put SEC_STATE_UPD 0).markExcl
      if code = cOK then
        let s := if u.target ≤ 4 then { s with flash := { s.flash with active := Tab.set 0 s.flash.active u.target u.slot } } else s
        (s, cOK, [])
      else (s.setSlot u.target u.slot [], code, [])

end Sys2Proof.Machine
end

