-- ==== Sys2Proof/Machine/Mgmt.lean ====
section
/-! DEFINITION. The management port (R464, R465): its private writes, its results, and what they do. -/

namespace Sys2Proof.Machine

/-- The port acknowledges from stage COLVEL on (R464). -/
def onMgmt (s : State) (f : State → State) : Out := .next (if s.colvelUp then f s else s)

/-- A result of one code byte. -/
def State.mgmtCode (s : State) (cmd code : Nat) : State := s.mgmtResult cmd [BitVec.ofNat 8 code]

/-- MGMT_REG_READ (R465): 8 B at an aligned offset; at a 4 B-aligned one its 4 B, zero-extended; any other offset
breaks R447 and is answered DESC_BAD with free bytes. -/
def execMgmtRegRead (off : Nat) (s : State) : Out :=
  onMgmt s fun s =>
    if off % 8 = 0 then s.mgmtResult 0x01 (0 :: leBytes 8 (s.read8 off))
    else if off % 4 = 0 then s.mgmtResult 0x01 (0 :: leBytes 8 (s.read4 off))
    else
      let (b, s) := s.freeBytes 1
      s.mgmtResult 0x01 (BitVec.ofNat 8 cDESC_BAD :: b)

/-- MGMT_SHED (R336, R465): writes ENV_CTL.SHED; an argument above 1 is answered DESC_BAD. -/
def execMgmtShed (arg : Byte) (s : State) : Out :=
  onMgmt s fun s =>
    if 1 < arg.toNat then s.mgmtCode 0x02 cDESC_BAD
    else ((s.put ENV_CTL_SHED arg.toNat).shedUpdate).mgmtCode 0x02 cOK

/-- MGMT_COLD (R408, R465): a cold reset with cause MGMT. -/
def execMgmtCold (guardValue : W32) (s : State) : Out :=
  onMgmt s fun s =>
    if guardValue = 0x434F4C44 then (s.doReset .cold 3 false).mgmtCode 0x03 cOK else s.mgmtCode 0x03 cDESC_BAD

/-- MGMT_CURTAIN (R150, R465): a curtain of the masks given; the BAR0 curtain registers keep their values. -/
def execMgmtCurtain (bays : W64) (grm keep : Byte) (s : State) : Out :=
  onMgmt s fun s =>
    if 1 < keep.toNat then s.mgmtCode 0x04 cDESC_BAD
    else (s.requestCurtain { bays := bays, grm := grm, keep := keep == 1 }).mgmtCode 0x04 cOK

/-- SCHED_DATA (R465): data at an offset in 64 B of the port's 5,760 B schedule buffer. -/
def execSchedData (off64 : Nat) (data : Bytes) (s : State) : Out :=
  onMgmt s fun s =>
    if 5760 < 64 * off64 + data.length then s.mgmtCode 0x10 cDESC_BAD
    else
      { s with mgmt := { s.mgmt with buf := s.mgmt.buf.writeN (64 * off64) data, have_ := s.mgmt.have_ ++ [(64 * off64, data.length)] } }.mgmtCode 0x10 cOK

/-- SCHED_SUBMIT (R327, R465): the buffer, written whole since the last submission, is verified; a submission while
one is being verified is answered NOT_READY. -/
def execSchedSubmit (s : State) : Out :=
  onMgmt s fun s =>
    if s.flag ENV_STAT_LBUSY then s.mgmtCode 0x11 cNOT_READY
    else
      let whole := covered 5760 s.mgmt.have_
      let bs := s.mgmt.buf.readN 0 5760
      let s := { s with mgmt := { s.mgmt with have_ := [] } }
      if whole then { s with env := { s.env with load := some (.mgmt bs) } }.put ENV_STAT_LBUSY 1
      else s.mgmtCode 0x11 cDESC_BAD

/-- METER_READ (R343, R465): 256 B of the metered-minute store. -/
def execMeterRead (off : Nat) (s : State) : Out :=
  onMgmt s fun s => s.mgmtResult 0x20 (0 :: (List.range 256).map fun i => s.storeByte (off + i))

/-- MSG_DATA (R452, R465): a fragment of a trust message; one out of order discards the message. -/
def execMsgData (more : Bool) (off : Nat) (data : Bytes) (s : State) : Out :=
  onMgmt s fun s =>
    let part (bs : Bytes) : State := { s with trust := { s.trust with mgmtPart := bs } }
    if off ≠ s.trust.mgmtPart.length then (part []).mgmtCode 0x30 cDESC_BAD
    else
      let bs := s.trust.mgmtPart ++ data
      if more then (part bs).mgmtCode 0x30 cOK
      else ({ part [] with trust := { s.trust with mgmtPart := [], mgmtOut := [] } }.enqueue { port := true, bytes := bs }).mgmtCode 0x30 cOK

/-- MSG_READ (R465): a fragment of the response, with its FRAG; NOT_READY while there is none. -/
def execMsgRead (off : Nat) (s : State) : Out :=
  onMgmt s fun s =>
    let r := s.trust.mgmtOut
    if r.isEmpty then s.mgmtCode 0x31 cNOT_READY
    else if r.length ≤ off then s.mgmtCode 0x31 cDESC_BAD
    else
      let d := (r.drop off).take 252
      s.mgmtResult 0x31 (0 :: leBytes 4 (b2n (decide (off + d.length < r.length)) * 2 ^ 31 + off) ++ d)

/-- STATUS (R403, R465): RST_BOOTSTAT and ENV_STAT, from stage COLVEL on and while boot is halted at CLOCK. -/
def execStatus (s : State) : Out :=
  .next (
    if s.colvelUp || (s.powered && s.boot.halted) then
      s.mgmtResult 0x3F (0 :: leBytes 4 (s.raw ⟨.RST_BOOTSTAT, 0, 0⟩).toNat ++ leBytes 4 (s.raw ⟨.ENV_STAT, 0, 0⟩).toNat)
    else s)

/-- MGMT_RESULT_READ (R465): the pending result, or the single byte NOT_READY. -/
def execMgmtResultRead (s : State) : Out :=
  .next (
    if s.colvelUp || (s.powered && s.boot.halted) then
      { s with mgmt := { s.mgmt with result := none, lastRead := s.mgmt.result.getD [BitVec.ofNat 8 cNOT_READY] } }
    else s)

/-- MGMT_MSG_TIMEOUT (R465): 10 s have passed without a fragment; the half-sent message is discarded. -/
def execMgmtMsgTimeout (s : State) : Out := onMgmt s fun s => { s with trust := { s.trust with mgmtPart := [] } }

end Sys2Proof.Machine
end

