-- ==== Sys2Proof/Machine/Dispatch.lean ====
section
/-! DEFINITION. One arm per command of Syntax.lean: each a direct call of its meaning. -/

namespace Sys2Proof.Machine

/-- The effect of a command on everything but the queue of waiting commands. -/
def exec (i : Instr) (s : State) : Host.Outcome State Fault Refusal :=
  match i with
  | .set lb => Sys2Proof.Machine.execSet lb s
  | .loadw lb => Sys2Proof.Machine.execLoadw lb s
  | .feed lb => Sys2Proof.Machine.execFeed lb s
  | .drain lb => Sys2Proof.Machine.execDrain lb s
  | .move lb => Sys2Proof.Machine.execMove lb s
  | .ringOpen lb => Sys2Proof.Machine.execRingOpen lb s
  | .ringClose lb => Sys2Proof.Machine.execRingClose lb s
  | .ringAcq lb => Sys2Proof.Machine.execRingAcq lb s
  | .ringFill lb => Sys2Proof.Machine.execRingFill lb s
  | .ringTake lb => Sys2Proof.Machine.execRingTake lb s
  | .ringFree lb => Sys2Proof.Machine.execRingFree lb s
  | .wait lb => Sys2Proof.Machine.execWait lb s
  | .post lb => Sys2Proof.Machine.execPost lb s
  | .loop lb => Sys2Proof.Machine.execLoop lb s
  | .endl lb => Sys2Proof.Machine.execEndl lb s
  | .mark lb => Sys2Proof.Machine.execMark lb s
  | .exit lb => Sys2Proof.Machine.execExit lb s
  | .promptFirst lb => Sys2Proof.Machine.execPromptFirst lb s
  | .promptNext lb => Sys2Proof.Machine.execPromptNext lb s
  | .promptSelect lb => Sys2Proof.Machine.execPromptSelect lb s
  | .matchAssoc lb => Sys2Proof.Machine.execMatchAssoc lb s
  | .matchBitmap lb => Sys2Proof.Machine.execMatchBitmap lb s
  | .walk lb => Sys2Proof.Machine.execWalk lb s
  | .halt lb => Sys2Proof.Machine.execHalt lb s
  | .haltRetire lb => Sys2Proof.Machine.execHaltRetire lb s
  | .cueAccept lb => Sys2Proof.Machine.execCueAccept lb s
  | .loadwEnd lb arr => Sys2Proof.Machine.execLoadwEnd lb arr s
  | .feedEnd lb arr => Sys2Proof.Machine.execFeedEnd lb arr s
  | .drainRowRead lb => Sys2Proof.Machine.execDrainRowRead lb s
  | .drainRowStore lb => Sys2Proof.Machine.execDrainRowStore lb s
  | .waitSatisfied lb => Sys2Proof.Machine.execWaitSatisfied lb s
  | .postDelivery lb => Sys2Proof.Machine.execPostDelivery lb s
  | .revolveCredit lb => Sys2Proof.Machine.execRevolveCredit lb s
  | .schedOverrun lb => Sys2Proof.Machine.execSchedOverrun lb s
  | .crossbarGrant lb => Sys2Proof.Machine.execCrossbarGrant lb s
  | .crossbarAge lb => Sys2Proof.Machine.execCrossbarAge lb s
  | .sheetLoadDone cid => Sys2Proof.Machine.execSheetLoadDone cid s
  | .stopReceive lb => Sys2Proof.Machine.execStopReceive lb s
  | .bayStopDone lb => Sys2Proof.Machine.execBayStopDone lb s
  | .stashSaveDone lb => Sys2Proof.Machine.execStashSaveDone lb s
  | .exitLate cid => Sys2Proof.Machine.execExitLate cid s
  | .curtainGo v => Sys2Proof.Machine.execCurtainGo v s
  | .curtainStart => Sys2Proof.Machine.execCurtainStart s
  | .curtainDone => Sys2Proof.Machine.execCurtainDone s
  | .streamAccept eng => Sys2Proof.Machine.execStreamAccept eng s
  | .runaheadRequest eng => Sys2Proof.Machine.execRunaheadRequest eng s
  | .streamDeliver eng => Sys2Proof.Machine.execStreamDeliver eng s
  | .staleRefetch eng => Sys2Proof.Machine.execStaleRefetch eng s
  | .moveDone eng => Sys2Proof.Machine.execMoveDone eng s
  | .strWinctlCommit => Sys2Proof.Machine.execStrWinctlCommit s
  | .windowApply => Sys2Proof.Machine.execWindowApply s
  | .patrolScrub granule => Sys2Proof.Machine.execPatrolScrub granule s
  | .refresh chan => Sys2Proof.Machine.execRefresh chan s
  | .memZeroGo => Sys2Proof.Machine.execMemZeroGo s
  | .memZeroDone => Sys2Proof.Machine.execMemZeroDone s
  | .memRetireGo v => Sys2Proof.Machine.execMemRetireGo v s
  | .migrateGranule => Sys2Proof.Machine.execMigrateGranule s
  | .chanRetired => Sys2Proof.Machine.execChanRetired s
  | .channelAutoRetire chan => Sys2Proof.Machine.execChannelAutoRetire chan s
  | .depCtlFlush pd => Sys2Proof.Machine.execDepCtlFlush pd s
  | .depCtlDisable pd => Sys2Proof.Machine.execDepCtlDisable pd s
  | .gatherCommand cid => Sys2Proof.Machine.execGatherCommand cid s
  | .gatherJobDone pd => Sys2Proof.Machine.execGatherJobDone pd s
  | .chkGo e v => Sys2Proof.Machine.execChkGo e v s
  | .chkPause e covered => Sys2Proof.Machine.execChkPause e covered s
  | .chkScanDone e => Sys2Proof.Machine.execChkScanDone e s
  | .runCommand cid => Sys2Proof.Machine.execRunCommand cid s
  | .milepostCommand cid => Sys2Proof.Machine.execMilepostCommand cid s
  | .snapshotCommand cid => Sys2Proof.Machine.execSnapshotCommand cid s
  | .snapshotComplete cid => Sys2Proof.Machine.execSnapshotComplete cid s
  | .milepostOpen => Sys2Proof.Machine.execMilepostOpen s
  | .contribReceive f => Sys2Proof.Machine.execContribReceive f s
  | .deadlineD0 => Sys2Proof.Machine.execDeadlineD0 s
  | .sumReceive f => Sys2Proof.Machine.execSumReceive f s
  | .deadlineD1 => Sys2Proof.Machine.execDeadlineD1 s
  | .deadlineD2 => Sys2Proof.Machine.execDeadlineD2 s
  | .paramReceive f => Sys2Proof.Machine.execParamReceive f s
  | .deadlineDp => Sys2Proof.Machine.execDeadlineDp s
  | .resyncReceive f => Sys2Proof.Machine.execResyncReceive f s
  | .preqReceive f => Sys2Proof.Machine.execPreqReceive f s
  | .snapReceive f => Sys2Proof.Machine.execSnapReceive f s
  | .lackReceive f => Sys2Proof.Machine.execLackReceive f s
  | .replayTimeout port => Sys2Proof.Machine.execReplayTimeout port s
  | .eackReceive f => Sys2Proof.Machine.execEackReceive f s
  | .retxTimeout dst seq => Sys2Proof.Machine.execRetxTimeout dst seq s
  | .helloReceive f => Sys2Proof.Machine.execHelloReceive f s
  | .timeExchange => Sys2Proof.Machine.execTimeExchange s
  | .timeFrameReceive f => Sys2Proof.Machine.execTimeFrameReceive f s
  | .holdover => Sys2Proof.Machine.execHoldover s
  | .fabTimesetWrite ns => Sys2Proof.Machine.execFabTimesetWrite ns s
  | .ppsInEdge => Sys2Proof.Machine.execPpsInEdge s
  | .ppsOut => Sys2Proof.Machine.execPpsOut s
  | .laneLoss port lane => Sys2Proof.Machine.execLaneLoss port lane s
  | .linkDown port => Sys2Proof.Machine.execLinkDown port s
  | .linkUp port => Sys2Proof.Machine.execLinkUp port s
  | .runCtlGo v => Sys2Proof.Machine.execRunCtlGo v s
  | .runCtlStop v => Sys2Proof.Machine.execRunCtlStop v s
  | .imageTakeEffect => Sys2Proof.Machine.execImageTakeEffect s
  | .slotBoundary => Sys2Proof.Machine.execSlotBoundary s
  | .budgetExpiry cid => Sys2Proof.Machine.execBudgetExpiry cid s
  | .runAbortGo v => Sys2Proof.Machine.execRunAbortGo v s
  | .internalFault kind => Sys2Proof.Machine.execInternalFault kind s
  | .marginCheckDone lb margin => Sys2Proof.Machine.execMarginCheckDone lb margin s
  | .ustSwapGo v => Sys2Proof.Machine.execUstSwapGo v s
  | .understudyCheckDone d margin => Sys2Proof.Machine.execUnderstudyCheckDone d margin s
  | .swapCopyDone d => Sys2Proof.Machine.execSwapCopyDone d s
  | .wireRemap d cwy group => Sys2Proof.Machine.execWireRemap d cwy group s
  | .phaseFail rail => Sys2Proof.Machine.execPhaseFail rail s
  | .heartbeatMiss p2failed p3failed => Sys2Proof.Machine.execHeartbeatMiss p2failed p3failed s
  | .envCtlLoad v => Sys2Proof.Machine.execEnvCtlLoad v s
  | .scheduleVerifyDone => Sys2Proof.Machine.execScheduleVerifyDone s
  | .envelopeTick p vin iin dt => Sys2Proof.Machine.execEnvelopeTick p vin iin dt s
  | .envCtlShed v => Sys2Proof.Machine.execEnvCtlShed v s
  | .shedNFall => Sys2Proof.Machine.execShedNFall s
  | .shedNRise => Sys2Proof.Machine.execShedNRise s
  | .sagBegin vin => Sys2Proof.Machine.execSagBegin vin s
  | .sagEnd vin => Sys2Proof.Machine.execSagEnd vin s
  | .dropout vin => Sys2Proof.Machine.execDropout vin s
  | .darkStop bulk => Sys2Proof.Machine.execDarkStop bulk s
  | .surge vin => Sys2Proof.Machine.execSurge vin s
  | .surgeTimeout vin => Sys2Proof.Machine.execSurgeTimeout vin s
  | .pwrEnRise => Sys2Proof.Machine.execPwrEnRise s
  | .pwrEnLow => Sys2Proof.Machine.execPwrEnLow s
  | .thermLimit die temp => Sys2Proof.Machine.execThermLimit die temp s
  | .thermtrip die => Sys2Proof.Machine.execThermtrip die s
  | .coolantAlert flow inlet outlet => Sys2Proof.Machine.execCoolantAlert flow inlet outlet s
  | .meteredMinute m => Sys2Proof.Machine.execMeteredMinute m s
  | .dumpCapture => Sys2Proof.Machine.execDumpCapture s
  | .bwWindow n => Sys2Proof.Machine.execBwWindow n s
  | .photocallDone lb => Sys2Proof.Machine.execPhotocallDone lb s
  | .evtIoEdge => Sys2Proof.Machine.execEvtIoEdge s
  | .obsEvtWrite v => Sys2Proof.Machine.execObsEvtWrite v s
  | .obsStepctlInc => Sys2Proof.Machine.execObsStepctlInc s
  | .obsRingEnable n v => Sys2Proof.Machine.execObsRingEnable n v s
  | .tableauPin => Sys2Proof.Machine.execTableauPin s
  | .tabCtlFreeze v => Sys2Proof.Machine.execTabCtlFreeze v s
  | .tableauClockStop => Sys2Proof.Machine.execTableauClockStop s
  | .tableauFrozen => Sys2Proof.Machine.execTableauFrozen s
  | .tabCtlResume v => Sys2Proof.Machine.execTabCtlResume v s
  | .tableauThawDone => Sys2Proof.Machine.execTableauThawDone s
  | .pllLock refok => Sys2Proof.Machine.execPllLock refok s
  | .pllLockLoss pll => Sys2Proof.Machine.execPllLockLoss pll s
  | .perstNFall => Sys2Proof.Machine.execPerstNFall s
  | .perstNRise => Sys2Proof.Machine.execPerstNRise s
  | .rstCtlCold => Sys2Proof.Machine.execRstCtlCold s
  | .bootImageCheck => Sys2Proof.Machine.execBootImageCheck s
  | .spdCheck sockets => Sys2Proof.Machine.execSpdCheck sockets s
  | .memTrain failing readback => Sys2Proof.Machine.execMemTrain failing readback s
  | .selfTest failed => Sys2Proof.Machine.execSelfTest failed s
  | .bootDdrZero => Sys2Proof.Machine.execBootDdrZero s
  | .bootReady => Sys2Proof.Machine.execBootReady s
  | .memLatchOpen => Sys2Proof.Machine.execMemLatchOpen s
  | .doeFragment more off data => Sys2Proof.Machine.execDoeFragment more off data s
  | .doeAbort => Sys2Proof.Machine.execDoeAbort s
  | .getCert => Sys2Proof.Machine.execGetCert s
  | .getReport => Sys2Proof.Machine.execGetReport s
  | .enrolOp => Sys2Proof.Machine.execEnrolOp s
  | .enrolFac => Sys2Proof.Machine.execEnrolFac s
  | .releaseFac => Sys2Proof.Machine.execReleaseFac s
  | .seal => Sys2Proof.Machine.execSeal s
  | .decommission => Sys2Proof.Machine.execDecommission s
  | .updateBegin => Sys2Proof.Machine.execUpdateBegin s
  | .updateData => Sys2Proof.Machine.execUpdateData s
  | .updateEnd => Sys2Proof.Machine.execUpdateEnd s
  | .mgmtRegRead off => Sys2Proof.Machine.execMgmtRegRead off s
  | .mgmtShed arg => Sys2Proof.Machine.execMgmtShed arg s
  | .mgmtCold guardValue => Sys2Proof.Machine.execMgmtCold guardValue s
  | .mgmtCurtain bays grm keep => Sys2Proof.Machine.execMgmtCurtain bays grm keep s
  | .schedData off64 data => Sys2Proof.Machine.execSchedData off64 data s
  | .schedSubmit => Sys2Proof.Machine.execSchedSubmit s
  | .meterRead off => Sys2Proof.Machine.execMeterRead off s
  | .msgData more off data => Sys2Proof.Machine.execMsgData more off data s
  | .msgRead off => Sys2Proof.Machine.execMsgRead off s
  | .status => Sys2Proof.Machine.execStatus s
  | .mgmtResultRead => Sys2Proof.Machine.execMgmtResultRead s
  | .mgmtMsgTimeout => Sys2Proof.Machine.execMgmtMsgTimeout s
  | .bar2Read off len => Sys2Proof.Machine.execBar2Read off len s
  | .bar2Write off data poisoned => Sys2Proof.Machine.execBar2Write off data poisoned s
  | .bar2Resize log2 => Sys2Proof.Machine.execBar2Resize log2 s
  | .powerStateChange d3 => Sys2Proof.Machine.execPowerStateChange d3 s
  | .hstEvstatClear v => Sys2Proof.Machine.execHstEvstatClear v s
  | .cueRndctlClr p v => Sys2Proof.Machine.execCueRndctlClr p v s
  | .cueArrctlEclr p => Sys2Proof.Machine.execCueArrctlEclr p s
  | .cueSeqctlCclr p => Sys2Proof.Machine.execCueSeqctlCclr p s
  | .wngCtlEclr p => Sys2Proof.Machine.execWngCtlEclr p s
  | .grmCtlEclr d => Sys2Proof.Machine.execGrmCtlEclr d s
  | .strCtlCclr eng => Sys2Proof.Machine.execStrCtlCclr eng s
  | .memChctlEclr chan => Sys2Proof.Machine.execMemChctlEclr chan s
  | .gthCtlCclr pd => Sys2Proof.Machine.execGthCtlCclr pd s
  | .sprCtlCclr p => Sys2Proof.Machine.execSprCtlCclr p s
  | .prmCtlCclr d => Sys2Proof.Machine.execPrmCtlCclr d s
  | .tlhUpdctlCclr pd => Sys2Proof.Machine.execTlhUpdctlCclr pd s
  | .fabPortctlCclr port v => Sys2Proof.Machine.execFabPortctlCclr port v s
  | .fabCntctlCclr pd => Sys2Proof.Machine.execFabCntctlCclr pd s
  | .runCntctlCclr => Sys2Proof.Machine.execRunCntctlCclr s
  | .envCtlCclr v => Sys2Proof.Machine.execEnvCtlCclr v s
  | .obsBctlCclr blk v => Sys2Proof.Machine.execObsBctlCclr blk v s
  | .obsCctlCclr => Sys2Proof.Machine.execObsCctlCclr s
  | .hstCtlCclr => Sys2Proof.Machine.execHstCtlCclr s
  | .registerWrite bar off size value => Sys2Proof.Machine.execRegisterWrite bar off size value s
  | .promptEnd d => Sys2Proof.Machine.execPromptEnd d s
  | .matchEnd lb => Sys2Proof.Machine.execMatchEnd lb s
  | .walkEnd lb => Sys2Proof.Machine.execWalkEnd lb s
  | .depotFlushDone pd => Sys2Proof.Machine.execDepotFlushDone pd s
  | .inputReturn vin => Sys2Proof.Machine.execInputReturn vin s
  | .bulkDepleted => Sys2Proof.Machine.execBulkDepleted s
  | .hostLinkRetrain rate width up => Sys2Proof.Machine.execHostLinkRetrain rate width up s

end Sys2Proof.Machine
end

