-- ==== Sys2Proof/Safety.lean ====
section
/-! DEFINITION. What counts as a safe step and a safe run: no fault and no refusal. -/

namespace Sys2Proof.Safety

open Sys2Proof.Machine

/-- The step from `s` answers a next state. -/
def SafeStep (s : State) : Prop := ∃ t, step s = .next t

/-- `n` steps from `s` all answer next states. -/
def SafeRun : Nat → State → Prop
  | 0, _ => True
  | n + 1, s => ∃ t, step s = .next t ∧ SafeRun n t

end Sys2Proof.Safety
end

