-- ==== Sys2Proof/WellFormed.lean ====
section
/-! DEFINITION. Which commands the surroundings can send: every operand names a unit the module has and
fits the width the manual gives it. -/

namespace Sys2Proof

/-- A frame's fields fit the header of R265. -/
def Frame.ok (f : Frame) : Bool :=
  decide (f.port < 16) && decide (f.etype < 65536) && decide (f.ver < 16) && decide (f.typ < 16) && decide (f.level < 4)
  && decide (f.part < 16) && decide (f.src < 4096) && decide (f.dst < 4096) && decide (f.seq < 2 ^ 24) && decide (f.ack < 2 ^ 24)
  && decide (f.len < 2 ^ 14) && decide (f.shard < 2 ^ 24) && decide (f.milepost < 2 ^ 32) && decide (f.bundle < 2 ^ 18)
  && decide (f.ncontr < 2 ^ 14) && decide (f.rev < 65536) && decide (f.satf < 65536) && decide (f.smallf < 65536)

/-- The PLL is one the module has (R403). -/
def Pll.ok : Pll → Bool
  | .root => true
  | .memory => true
  | .pcie => true
  | .felsyn port => decide (port < 16)

/-- The command is well formed. -/
def Instr.wf : Instr → Bool
  | .set lb => decide (lb < 64)
  | .loadw lb => decide (lb < 64)
  | .feed lb => decide (lb < 64)
  | .drain lb => decide (lb < 64)
  | .move lb => decide (lb < 64)
  | .ringOpen lb => decide (lb < 64)
  | .ringClose lb => decide (lb < 64)
  | .ringAcq lb => decide (lb < 64)
  | .ringFill lb => decide (lb < 64)
  | .ringTake lb => decide (lb < 64)
  | .ringFree lb => decide (lb < 64)
  | .wait lb => decide (lb < 64)
  | .post lb => decide (lb < 64)
  | .loop lb => decide (lb < 64)
  | .endl lb => decide (lb < 64)
  | .mark lb => decide (lb < 64)
  | .exit lb => decide (lb < 64)
  | .promptFirst lb => decide (lb < 64)
  | .promptNext lb => decide (lb < 64)
  | .promptSelect lb => decide (lb < 64)
  | .matchAssoc lb => decide (lb < 64)
  | .matchBitmap lb => decide (lb < 64)
  | .walk lb => decide (lb < 64)
  | .halt lb => decide (lb < 64)
  | .haltRetire lb => decide (lb < 64)
  | .cueAccept lb => decide (lb < 64)
  | .loadwEnd lb arr => decide (lb < 64) && decide (arr < 3)
  | .feedEnd lb arr => decide (lb < 64) && decide (arr < 3)
  | .drainRowRead lb => decide (lb < 64)
  | .drainRowStore lb => decide (lb < 64)
  | .waitSatisfied lb => decide (lb < 64)
  | .postDelivery lb => decide (lb < 64)
  | .revolveCredit lb => decide (lb < 64)
  | .schedOverrun lb => decide (lb < 64)
  | .crossbarGrant lb => decide (lb < 64)
  | .crossbarAge lb => decide (lb < 64)
  | .sheetLoadDone _ => true
  | .stopReceive lb => decide (lb < 64)
  | .bayStopDone lb => decide (lb < 64)
  | .stashSaveDone lb => decide (lb < 64)
  | .exitLate _ => true
  | .curtainGo _ => true
  | .curtainStart => true
  | .curtainDone => true
  | .streamAccept eng => decide (eng < 104)
  | .runaheadRequest eng => decide (eng < 104)
  | .streamDeliver eng => decide (eng < 104)
  | .staleRefetch eng => decide (eng < 104)
  | .moveDone eng => decide (eng < 104)
  | .strWinctlCommit => true
  | .windowApply => true
  | .patrolScrub granule => decide (granule < 4398046511104)
  | .refresh chan => decide (chan < 32)
  | .memZeroGo => true
  | .memZeroDone => true
  | .memRetireGo _ => true
  | .migrateGranule => true
  | .chanRetired => true
  | .channelAutoRetire chan => decide (chan < 32)
  | .depCtlFlush pd => decide (pd < 4)
  | .depCtlDisable pd => decide (pd < 4)
  | .gatherCommand _ => true
  | .gatherJobDone pd => decide (pd < 4)
  | .chkGo e _ => decide (e < 8)
  | .chkPause e _ => decide (e < 8)
  | .chkScanDone e => decide (e < 8)
  | .runCommand _ => true
  | .milepostCommand _ => true
  | .snapshotCommand _ => true
  | .snapshotComplete _ => true
  | .milepostOpen => true
  | .contribReceive f => f.ok
  | .deadlineD0 => true
  | .sumReceive f => f.ok
  | .deadlineD1 => true
  | .deadlineD2 => true
  | .paramReceive f => f.ok
  | .deadlineDp => true
  | .resyncReceive f => f.ok
  | .preqReceive f => f.ok
  | .snapReceive f => f.ok
  | .lackReceive f => f.ok
  | .replayTimeout port => decide (port < 16)
  | .eackReceive f => f.ok
  | .retxTimeout dst seq => decide (dst < 4096) && decide (seq < 16777216)
  | .helloReceive f => f.ok
  | .timeExchange => true
  | .timeFrameReceive f => f.ok
  | .holdover => true
  | .fabTimesetWrite _ => true
  | .ppsInEdge => true
  | .ppsOut => true
  | .laneLoss port lane => decide (port < 16) && decide (lane < 4)
  | .linkDown port => decide (port < 16)
  | .linkUp port => decide (port < 16)
  | .runCtlGo _ => true
  | .runCtlStop _ => true
  | .imageTakeEffect => true
  | .slotBoundary => true
  | .budgetExpiry _ => true
  | .runAbortGo _ => true
  | .internalFault _ => true
  | .marginCheckDone lb margin => decide (lb < 64) && decide (margin < 256)
  | .ustSwapGo _ => true
  | .understudyCheckDone d margin => decide (d < 8) && decide (margin < 256)
  | .swapCopyDone d => decide (d < 8)
  | .wireRemap d cwy _ => decide (d < 8) && decide (cwy < 4)
  | .phaseFail _ => true
  | .heartbeatMiss _ _ => true
  | .envCtlLoad _ => true
  | .scheduleVerifyDone => true
  | .envelopeTick _ _ _ _ => true
  | .envCtlShed _ => true
  | .shedNFall => true
  | .shedNRise => true
  | .sagBegin _ => true
  | .sagEnd _ => true
  | .dropout _ => true
  | .darkStop _ => true
  | .surge _ => true
  | .surgeTimeout _ => true
  | .pwrEnRise => true
  | .pwrEnLow => true
  | .thermLimit die temp => decide (die < 12) && decide (temp < 256)
  | .thermtrip die => decide (die < 12)
  | .coolantAlert flow inlet outlet => decide (flow < 65536) && decide (inlet < 256) && decide (outlet < 256)
  | .meteredMinute _ => true
  | .dumpCapture => true
  | .bwWindow n => decide (n < 8)
  | .photocallDone lb => decide (lb < 64)
  | .evtIoEdge => true
  | .obsEvtWrite _ => true
  | .obsStepctlInc => true
  | .obsRingEnable n _ => decide (n < 4)
  | .tableauPin => true
  | .tabCtlFreeze _ => true
  | .tableauClockStop => true
  | .tableauFrozen => true
  | .tabCtlResume _ => true
  | .tableauThawDone => true
  | .pllLock _ => true
  | .pllLockLoss pll => pll.ok
  | .perstNFall => true
  | .perstNRise => true
  | .rstCtlCold => true
  | .bootImageCheck => true
  | .spdCheck sockets => decide (sockets.length = 32)
  | .memTrain _ _ => true
  | .selfTest failed => failed.all (· < 72)
  | .bootDdrZero => true
  | .bootReady => true
  | .memLatchOpen => true
  | .doeFragment _ off data => decide (off < 2147483648) && decide (data.length ≤ 1048564)
  | .doeAbort => true
  | .getCert => true
  | .getReport => true
  | .enrolOp => true
  | .enrolFac => true
  | .releaseFac => true
  | .seal => true
  | .decommission => true
  | .updateBegin => true
  | .updateData => true
  | .updateEnd => true
  | .mgmtRegRead off => decide (off < 4294967296)
  | .mgmtShed _ => true
  | .mgmtCold _ => true
  | .mgmtCurtain _ _ _ => true
  | .schedData off64 data => decide (off64 < 65536) && decide (data.length ≤ 256)
  | .schedSubmit => true
  | .meterRead off => decide (off < 4294967296)
  | .msgData _ off data => decide (off < 2147483648) && decide (data.length ≤ 252)
  | .msgRead off => decide (off < 4294967296)
  | .status => true
  | .mgmtResultRead => true
  | .mgmtMsgTimeout => true
  | .bar2Read off len => decide (0 < len) && decide (off % 4096 + len ≤ 4096)
  | .bar2Write off data _ => !data.isEmpty && decide (off % 4096 + data.length ≤ 4096)
  | .bar2Resize log2 => decide (34 ≤ log2) && decide (log2 ≤ 43)
  | .powerStateChange _ => true
  | .hstEvstatClear _ => true
  | .cueRndctlClr p _ => decide (p < 72)
  | .cueArrctlEclr p => decide (p < 72)
  | .cueSeqctlCclr p => decide (p < 72)
  | .wngCtlEclr p => decide (p < 72)
  | .grmCtlEclr d => decide (d < 8)
  | .strCtlCclr eng => decide (eng < 104)
  | .memChctlEclr chan => decide (chan < 32)
  | .gthCtlCclr pd => decide (pd < 4)
  | .sprCtlCclr p => decide (p < 72)
  | .prmCtlCclr d => decide (d < 8)
  | .tlhUpdctlCclr pd => decide (pd < 4)
  | .fabPortctlCclr port _ => decide (port < 16)
  | .fabCntctlCclr pd => decide (pd < 4)
  | .runCntctlCclr => true
  | .envCtlCclr _ => true
  | .obsBctlCclr blk _ => decide (blk < 84)
  | .obsCctlCclr => true
  | .hstCtlCclr => true
  | .registerWrite bar _ size _ => (bar == 0 || bar == 4) && decide (0 < size) && decide (size ≤ 8)
  | .promptEnd d => decide (d < 8)
  | .matchEnd lb => decide (lb < 64)
  | .walkEnd lb => decide (lb < 64)
  | .depotFlushDone pd => decide (pd < 4)
  | .inputReturn _ => true
  | .bulkDepleted => true
  | .hostLinkRetrain rate width _ => decide (rate < 6) && (width == 1 || width == 2 || width == 4 || width == 8 || width == 16)

end Sys2Proof
end

