-- ==== Sys2Proof/Certificates/Slice0/Obligations.lean ====
section
/-! DEFINITION. The statements for the provers: what each command does and leaves, what every step keeps.
A statement about a command says `∃ t, exec … = .next t ∧ …` under conditions on the state and the operands. -/

namespace Sys2Proof.Claims

open Sys2Proof.Machine

/-- Registers outside `gone` keep their content. -/
def KeepsRegs (gone : Reg → Prop) (s t : State) : Prop := ∀ r, ¬ gone r → t.raw r = s.raw r

/-- A register of one name and unit. -/
def named (n : RegName) (u : Nat) (r : Reg) : Prop := r.name = n ∧ r.unit = u

/-- A write by the host reaches register `r`: the link and function are up, and no reset, tableau or power
domain holds the write back (R388, R415, R444, R447). -/
def HostWrites (s : State) (r : Reg) : Prop := s.hostUp = true ∧ s.host.d3 = false ∧ s.reaches r = true

/-- A counter after `n` more: it stops at its largest value (R8). -/
def counted (f : Fld) (v n : Nat) : Nat := min (v + n) (2 ^ f.w - 1)

/-- No access to DDR meets an error: no granule, no line of a depot and no transfer of the bus has one (R192, R193, R203). -/
def ddrSound (s : State) : Prop := s.memErr = [] ∧ s.busErr = [] ∧ ∀ x ∈ s.ports, x.2.depot.errs = []

end Sys2Proof.Claims

/-! ## Clearing bits of the register blocks -/

namespace Sys2Proof.Claims

open Sys2Proof.Machine

/-- `c` writes 1 to the clearing bit of the write-only register `w` of a unit below `n`: the registers of
`gone` return to their reset values, every other register and all other state stays. -/
def ClearsOnly (c : Instr) (w : Reg) (n : Nat) (gone : Reg → Prop) : Prop :=
  ∀ s, w.unit < n → HostWrites s w → ∃ t, exec c s = .next t ∧
    (∀ r, gone r → t.raw r = r.name.reset) ∧ KeepsRegs gone s t ∧ t = { s with regs := t.regs }

end Sys2Proof.Claims

open Sys2Proof Sys2Proof.Machine Sys2Proof.Claims

/-- R72, R106, R154, R155, R183, R216, R217: the clearing bits of the bay, green-room, stream, memory and gather blocks. -/
def Sys2Proof.Claims.UnitClearBits : Prop :=
  (∀ p, ClearsOnly (.cueArrctlEclr p) ⟨.CUE_ARRCTL, p, 0⟩ 72 fun r => r = ⟨.CUE_ARRECC, p, 0⟩)
  ∧ (∀ p, ClearsOnly (.cueSeqctlCclr p) ⟨.CUE_SEQCTL, p, 0⟩ 72 fun r => r = ⟨.CUE_STOPCNT, p, 0⟩)
  ∧ (∀ d, ClearsOnly (.grmCtlEclr d) ⟨.GRM_CTL, d, 0⟩ 8 fun r => r = ⟨.GRM_ECC, d, 0⟩)
  ∧ (∀ e, ClearsOnly (.strCtlCclr e) ⟨.STR_CTL, e, 0⟩ 104 fun r =>
      r = ⟨.STR_FAULT, e, 0⟩ ∨ r = ⟨.STR_BOUND, e, 0⟩ ∨ r = ⟨.STR_PADG, e, 0⟩ ∨ r = ⟨.STR_RADROP, e, 0⟩ ∨ r = ⟨.STR_STALE, e, 0⟩)
  ∧ (∀ c, ClearsOnly (.memChctlEclr c) ⟨.MEM_CHCTL, c, 0⟩ 32 fun r => r = ⟨.MEM_ECC, c, 0⟩ ∨ r = ⟨.MEM_ERRADDR, c, 0⟩)
  ∧ (∀ q, ClearsOnly (.gthCtlCclr q) ⟨.GTH_CTL, q, 0⟩ 4 fun r => r = ⟨.GTH_OOB, q, 0⟩)
  ∧ (∀ p, ClearsOnly (.sprCtlCclr p) ⟨.SPR_CTL, p, 0⟩ 72 fun r =>
      r = ⟨.SPR_OVERFULL, p, 0⟩ ∨ r = ⟨.SPR_METADUP, p, 0⟩ ∨ r = ⟨.SPR_IDXOOB, p, 0⟩)
  ∧ (∀ p s, p < 72 → HostWrites s ⟨.WNG_CTL, p, 0⟩ → Tab.wf {} (s.bay p).rings = true → ∃ t, exec (.wngCtlEclr p) s = .next t ∧
      t.raw ⟨.WNG_ECC, p, 0⟩ = RegName.reset .WNG_ECC ∧ KeepsRegs (· = ⟨.WNG_ECC, p, 0⟩) s t ∧
      (∀ rv, (t.bay p).ring rv = { (s.bay p).ring rv with stall := 0 }) ∧
      t.bay p = { s.bay p with rings := (t.bay p).rings } ∧ (∀ q, q ≠ p → t.bay q = s.bay q) ∧
      t = { s with regs := t.regs, bays := t.bays })

/-- R237, R238, R252, R297, R324, R370, R392, R456, R45: the clearing bits of the other blocks. -/
def Sys2Proof.Claims.ModuleClearBits : Prop :=
  (∀ d, ClearsOnly (.prmCtlCclr d) ⟨.PRM_CTL, d, 0⟩ 8 fun r => named .PRM_AUD d r ∨ r = ⟨.PRM_DROP, d, 0⟩)
  ∧ (∀ q, ClearsOnly (.tlhUpdctlCclr q) ⟨.TLH_UPDCTL, q, 0⟩ 4 fun r => r = ⟨.TLH_SKIP, q, 0⟩ ∨ r = ⟨.TLH_SNAPHOLD, q, 0⟩)
  ∧ (∀ q, ClearsOnly (.fabCntctlCclr q) ⟨.FAB_CNTCTL, q, 0⟩ 4 fun r =>
      r = ⟨.FAB_LATE, q, 0⟩ ∨ r = ⟨.FAB_STALE, q, 0⟩ ∨ r = ⟨.FAB_BACKUP, q, 0⟩ ∨ r = ⟨.FAB_SAT, q, 0⟩
      ∨ r = ⟨.FAB_RXDROP, q, 0⟩ ∨ r = ⟨.FAB_E2ELOST, q, 0⟩ ∨ r = ⟨.FAB_RESYNC, q, 0⟩)
  ∧ ClearsOnly .runCntctlCclr ⟨.RUN_CNTCTL, 0, 0⟩ 1 (fun r => r = ⟨.RUN_MISS, 0, 0⟩ ∨ r = ⟨.RUN_OVERBUD, 0, 0⟩
      ∨ r = ⟨.RUN_PREEMPT, 0, 0⟩ ∨ r = ⟨.RUN_MAKEUP, 0, 0⟩ ∨ r = ⟨.RUN_OVERRUN, 0, 0⟩)
  ∧ ClearsOnly .hstCtlCclr ⟨.HST_CTL, 0, 0⟩ 1 (· = ⟨.HST_ERR, 0, 0⟩)
  ∧ (∀ s, HostWrites s ⟨.OBS_CCTL, 0, 0⟩ → ∃ t, exec .obsCctlCclr s = .next t ∧
      t.raw ⟨.OBS_SAMPDROP, 0, 0⟩ = RegName.reset .OBS_SAMPDROP ∧
      (∀ n, n < 4 → t.get OBS_RINGSTAT_LOST n = 0 ∧ t.get OBS_RINGSTAT_CODE n = s.get OBS_RINGSTAT_CODE n) ∧
      KeepsRegs (fun r => r = ⟨.OBS_SAMPDROP, 0, 0⟩ ∨ (r.name = .OBS_RINGSTAT ∧ r.unit < 4)) s t ∧ t = { s with regs := t.regs })
  ∧ (∀ blk (v : W32) s, blk < 84 → v.getLsbD 31 = true → HostWrites s ⟨.OBS_BCTL, blk, 0⟩ →
      ∃ t, exec (.obsBctlCclr blk v) s = .next t ∧ (∀ r, named .OBS_CNT blk r → t.raw r = r.name.reset) ∧
      t.get OBS_BCTL_LOFS blk = (if blk < 80 ∧ blk % 10 < 9 then bits v.toNat 0 17 else 0) ∧
      KeepsRegs (fun r => named .OBS_CNT blk r ∨ r = ⟨.OBS_BCTL, blk, 0⟩) s t ∧ t = { s with regs := t.regs })
  ∧ (∀ p (v : W32) s, p < 72 → v.getLsbD 1 = true → HostWrites s ⟨.CUE_RNDCTL, p, 0⟩ →
      ∃ t, exec (.cueRndctlClr p v) s = .next t ∧
      t.raw ⟨.CUE_NUMSAT, p, 0⟩ = RegName.reset .CUE_NUMSAT ∧ t.raw ⟨.CUE_NUMNAN, p, 0⟩ = RegName.reset .CUE_NUMNAN ∧
      t.get CUE_RNDCTL_FIXED p = b2n (v.getLsbD 0) ∧
      KeepsRegs (fun r => r = ⟨.CUE_NUMSAT, p, 0⟩ ∨ r = ⟨.CUE_NUMNAN, p, 0⟩ ∨ r = ⟨.CUE_RNDCTL, p, 0⟩) s t ∧
      t = { s with regs := t.regs })
  ∧ (∀ (v : W32) s, HostWrites s ⟨.HST_EVSTAT, 0, 0⟩ → ∃ t, exec (.hstEvstatClear v) s = .next t ∧
      (∀ i, i < 12 → (t.get HST_EVSTAT_EVENTS).testBit i = ((s.get HST_EVSTAT_EVENTS).testBit i && !v.getLsbD i)) ∧
      KeepsRegs (· = ⟨.HST_EVSTAT, 0, 0⟩) s t ∧ t = { s with regs := t.regs })

/-- The clearing bits of every register block, and write-1-to-clear event status. -/
def Obligations.ClearingBitsClear : Prop :=
  Sys2Proof.Claims.UnitClearBits ∧ Sys2Proof.Claims.ModuleClearBits

/-! ## Cues -/

namespace Sys2Proof.Claims

open Sys2Proof.Machine

/-- Bay `lb` issues cue `q` now (R83, R85): its clocks run, its sequencer may issue and `q` stands at its PC.
No cue sample is taken (R379). -/
structure Issues (s : State) (lb : Nat) (q : Cue) : Prop where
  bay    : lb < 64
  clocks : s.clocked = true
  may    : s.mayIssue (s.phys lb) = true
  cue    : s.cueAt (s.phys lb) = some q
  plain  : s.flag OBS_SAMPCTL_EN = false ∧ (s.bay (s.phys lb)).samples = []

/-- What a cue of bay `p` leaves: all registers but `out` and the block counters, every other bay, the wings of
its own, and all that is neither a register, a bay nor the bandwidth units' counts. -/
structure CueFrame (s t : State) (p : Nat) (out : Reg → Prop) : Prop where
  regs  : ∀ r, ¬ out r → r.name ≠ .OBS_CNT → t.raw r = s.raw r
  bays  : ∀ q, q ≠ p → t.bay q = s.bay q
  wings : (t.bay p).wings = (s.bay p).wings
  rest  : t = { s with regs := t.regs, bays := t.bays, obs := { s.obs with bwCount := t.obs.bwCount } }

/-- The sequencer stands at `pc`, in the same state and loop depth. -/
structure SeqAt (s t : State) (p pc : Nat) : Prop where
  pc    : t.get CUE_SEQSTAT_PC p = pc % 2 ^ 14
  state : t.get CUE_SEQSTAT_STATE p = s.get CUE_SEQSTAT_STATE p
  depth : t.get CUE_SEQSTAT_LDEPTH p = s.get CUE_SEQSTAT_LDEPTH p

/-- A bay whose cue at the PC has retired: it is in no stall, its stalls are reckoned anew and the next cue is one on. -/
def retired (b : Bay) : Bay := { b with stall := none, wait := none, waited := [], ord := b.ord + 1 }

/-- The sequencer's status register. -/
def seqstat (p : Nat) : Reg := ⟨.CUE_SEQSTAT, p, 0⟩

end Sys2Proof.Claims

/-- R88, R112: SET writes BASE, or one dimension's extent and stride, of one generator and zeroes its indices. -/
def Obligations.SetWritesItsGenerator : Prop :=
  ∀ s lb kind ag dim ext base stride, Issues s lb (.set kind ag dim ext base stride) → dim < 5 →
    let p := s.phys lb
    ∃ t, exec (.set lb) s = .next t ∧
      (kind = 0 → t.get CUE_AGBASE_BASE p ag = base % 2 ^ 48) ∧
      (kind ≠ 0 → t.get CUE_AGDIM_EXTM1 p (5 * ag + dim) = ext % 2 ^ 16 ∧ t.get CUE_AGDIM_STRIDE p (5 * ag + dim) = stride % 2 ^ 32) ∧
      (∀ j, j < 5 → t.get CUE_AGDIM_INDEX p (5 * ag + j) = 0) ∧
      (∀ j, j < 5 → (kind = 0 ∨ j ≠ dim) →
        t.get CUE_AGDIM_EXTM1 p (5 * ag + j) = s.get CUE_AGDIM_EXTM1 p (5 * ag + j) ∧
        t.get CUE_AGDIM_STRIDE p (5 * ag + j) = s.get CUE_AGDIM_STRIDE p (5 * ag + j)) ∧
      SeqAt s t p (s.get CUE_SEQSTAT_PC p + 1) ∧ t.bay p = retired (s.bay p) ∧
      CueFrame s t p fun r => r = seqstat p ∨ (kind = 0 ∧ r = ⟨.CUE_AGBASE, p, ag⟩)
        ∨ (∃ j, j < 5 ∧ r = ⟨.CUE_AGDIM, p, 5 * ag + j⟩)

/-- R91, R97, R93: a satisfied WAIT subtracts N, EXIT sets the live set in force, POST sends its addition with
its fence; each retires at once. -/
def Sys2Proof.Claims.WaitExitPostRetire : Prop :=
  (∀ s lb sem n, Issues s lb (.wait sem n) → n ≤ s.get CUE_SEM_VALUE (s.phys lb) sem →
    let p := s.phys lb
    ∃ t, exec (.wait lb) s = .next t ∧ t.get CUE_SEM_VALUE p sem = s.get CUE_SEM_VALUE p sem - n ∧
      SeqAt s t p (s.get CUE_SEQSTAT_PC p + 1) ∧ t.bay p = retired (s.bay p) ∧
      CueFrame s t p fun r => r = seqstat p ∨ r = ⟨.CUE_SEM, p, sem⟩)
  ∧ (∀ s lb mask, Issues s lb (.exit mask) → (s.bay (s.phys lb)).stop ≠ .live →
    let p := s.phys lb
    ∃ t, exec (.exit lb) s = .next t ∧ t.get CUE_LIVEMASK_MASK p = mask % 2 ^ 16 ∧
      SeqAt s t p (s.get CUE_SEQSTAT_PC p + 1) ∧ t.bay p = retired (s.bay p) ∧
      CueFrame s t p fun r => r = seqstat p ∨ r = ⟨.CUE_LIVEMASK, p, 0⟩)
  ∧ (∀ s lb nofence bay sem n, Issues s lb (.post nofence bay sem n) →
    let p := s.phys lb
    ∃ t m, exec (.post lb) s = .next t ∧ (t.bay p).posts = (s.bay p).posts ++ [m] ∧
      m.bay = bay ∧ m.sem = sem ∧ m.n = n ∧
      (nofence = true → m.drains = [] ∧ m.moves = []) ∧
      (nofence = false → m.moves = (s.bay p).moves ∧
        ∀ o, o ∈ m.drains ↔ (∃ d ∈ (s.bay p).dq, d.ord = o) ∨ (∃ r ∈ (s.bay p).drows, r.ord = o)) ∧
      SeqAt s t p (s.get CUE_SEQSTAT_PC p + 1) ∧
      t.bay p = { retired (s.bay p) with posts := (t.bay p).posts } ∧
      CueFrame s t p (· = seqstat p))

/-- R91, R98: an unsatisfied WAIT waits; a pending LIVE stop takes effect at WAIT and at EXIT. -/
def Sys2Proof.Claims.WaitWaitsAndLiveStopsTakeEffect : Prop :=
  (∀ s lb sem n, Issues s lb (.wait sem n) → s.get CUE_SEM_VALUE (s.phys lb) sem < n → (s.bay (s.phys lb)).stop ≠ .live →
    let p := s.phys lb
    ∃ t, exec (.wait lb) s = .next t ∧ t.get CUE_SEQSTAT_STATE p = 4 ∧ t.get CUE_SEQSTAT_PC p = s.get CUE_SEQSTAT_PC p ∧
      t.bay p = (s.bay p).waitFor s.clk.ca 2 ∧ CueFrame s t p (· = seqstat p))
  ∧ (∀ s lb sem n, Issues s lb (.wait sem n) → s.get CUE_SEM_VALUE (s.phys lb) sem < n → (s.bay (s.phys lb)).stop = .live →
    let p := s.phys lb
    ∃ t, exec (.wait lb) s = .next t ∧ t.get CUE_SEQSTAT_STATE p = 6 ∧ t.get CUE_SEQSTAT_PC p = s.get CUE_SEQSTAT_PC p ∧
      t.bay p = { s.bay p with saving := true, stop := .live } ∧ CueFrame s t p (· = seqstat p))
  ∧ (∀ s lb mask, Issues s lb (.exit mask) → (s.bay (s.phys lb)).stop = .live →
    let p := s.phys lb
    ∃ t, exec (.exit lb) s = .next t ∧ t.get CUE_SEQSTAT_STATE p = 6 ∧ t.get CUE_LIVEMASK_MASK p = mask % 2 ^ 16 ∧
      t.get CUE_SEQSTAT_PC p = (s.get CUE_SEQSTAT_PC p + 1) % 2 ^ 14 ∧
      t.bay p = { retired (s.bay p) with saving := true, stop := .live } ∧
      CueFrame s t p fun r => r = seqstat p ∨ r = ⟨.CUE_LIVEMASK, p, 0⟩)

/-- WAIT, EXIT and POST at issue. -/
def Obligations.WaitExitAndPost : Prop :=
  Sys2Proof.Claims.WaitExitPostRetire ∧ Sys2Proof.Claims.WaitWaitsAndLiveStopsTakeEffect

/-- R87: LOOP opens a counted loop; ENDL branches to the body while the count exceeds 1 and then closes it. -/
def Sys2Proof.Claims.LoopsCountTheirBodies : Prop :=
  (∀ s lb n, Issues s lb (.loop n) → s.get CUE_SEQSTAT_LDEPTH (s.phys lb) < 4 →
    let p := s.phys lb
    let d := s.get CUE_SEQSTAT_LDEPTH p
    ∃ t, exec (.loop lb) s = .next t ∧ t.get CUE_LOOP_REMAIN p d = (n + 1) % 2 ^ 17 ∧
      t.get CUE_SEQSTAT_LDEPTH p = d + 1 ∧ t.get CUE_SEQSTAT_STATE p = s.get CUE_SEQSTAT_STATE p ∧
      t.get CUE_SEQSTAT_PC p = (s.get CUE_SEQSTAT_PC p + 1) % 2 ^ 14 ∧
      Tab.get 0 (t.bay p).loopBody d = s.get CUE_SEQSTAT_PC p + 1 ∧
      (∀ e, e ≠ d → Tab.get 0 (t.bay p).loopBody e = Tab.get 0 (s.bay p).loopBody e) ∧
      t.bay p = { retired (s.bay p) with loopBody := (t.bay p).loopBody } ∧
      CueFrame s t p fun r => r = seqstat p ∨ r = ⟨.CUE_LOOP, p, d⟩)
  ∧ (∀ s lb d, Issues s lb .endl → s.get CUE_SEQSTAT_LDEPTH (s.phys lb) = d + 1 → 1 < s.get CUE_LOOP_REMAIN (s.phys lb) d →
    let p := s.phys lb
    ∃ t, exec (.endl lb) s = .next t ∧ t.get CUE_LOOP_REMAIN p d = s.get CUE_LOOP_REMAIN p d - 1 ∧
      SeqAt s t p (Tab.get 0 (s.bay p).loopBody d) ∧ t.bay p = retired (s.bay p) ∧
      CueFrame s t p fun r => r = seqstat p ∨ r = ⟨.CUE_LOOP, p, d⟩)
  ∧ (∀ s lb d, Issues s lb .endl → s.get CUE_SEQSTAT_LDEPTH (s.phys lb) = d + 1 → s.get CUE_LOOP_REMAIN (s.phys lb) d ≤ 1 →
    let p := s.phys lb
    ∃ t, exec (.endl lb) s = .next t ∧ t.get CUE_LOOP_REMAIN p d = 0 ∧ t.get CUE_SEQSTAT_LDEPTH p = d ∧
      t.get CUE_SEQSTAT_STATE p = s.get CUE_SEQSTAT_STATE p ∧ t.get CUE_SEQSTAT_PC p = (s.get CUE_SEQSTAT_PC p + 1) % 2 ^ 14 ∧
      t.bay p = retired (s.bay p) ∧
      CueFrame s t p fun r => r = seqstat p ∨ r = ⟨.CUE_LOOP, p, d⟩)

/-- The model's choice (log entry 100): the loader refuses a part with a fifth open loop (R87); a LOOP that would open one all the
same is the run-time fault LOOP_DEPTH, with its PC in CUE_FAULT. -/
def Sys2Proof.Claims.FifthLoopFaults : Prop :=
  ∀ s lb n, Issues s lb (.loop n) → 4 ≤ s.get CUE_SEQSTAT_LDEPTH (s.phys lb) →
    ∃ t, exec (.loop lb) s = .next t ∧ t.get CUE_FAULT_CODE (s.phys lb) = cLOOP_DEPTH ∧
      t.get CUE_FAULT_PC (s.phys lb) = s.get CUE_SEQSTAT_PC (s.phys lb)

/-- LOOP and ENDL at issue; what a fifth LOOP would do is the model's choice (log entry 100). -/
def Obligations.LoopsCountAndNestToFour : Prop :=
  Sys2Proof.Claims.LoopsCountTheirBodies ∧ Sys2Proof.Claims.FifthLoopFaults

namespace Sys2Proof.Claims

open Sys2Proof.Machine

/-- A queue's LOADWs without the marks that the first has started and presented its reads. -/
def loads (b : Bay) (a : Nat) : List LoadOp := (b.arr a).lq.map fun l => { l with started := false, asked := false }

/-- An entry of a FEED queue without the marks that it has started and presented its reads. -/
def unstarted : FqEntry → FqEntry
  | .feed f => .feed { f with started := false, asked := false }
  | e => e

/-- A FEED queue without the marks of what has started. -/
def feeds (b : Bay) (a : Nat) : List FqEntry := (b.arr a).fq.map unstarted

/-- What the issue of an array cue leaves of bay `p` and of all else: only the status register, generators that
step and the queues' own bay change; accumulators and wings stay. -/
structure ArrayFrame (s t : State) (p : Nat) : Prop where
  cue  : CueFrame s t p fun r => r = seqstat p ∨ (r.name = .CUE_AGDIM ∧ r.unit = p)
  own  : t.bay p = { retired (s.bay p) with arrs := (t.bay p).arrs, rings := (t.bay p).rings, xreqs := (t.bay p).xreqs, dq := (t.bay p).dq }
  acc  : ∀ a, ((t.bay p).arr a).acc = ((s.bay p).arr a).acc
  seq  : SeqAt s t p (s.get CUE_SEQSTAT_PC p + 1)

end Sys2Proof.Claims

/-- R51, R85, R90, R115: with room in the array's LOADW queue and its operands in range, LOADW joins the queue, records
the tile's format and retires. -/
def Sys2Proof.Claims.LoadwJoinsItsQueue : Prop :=
  ∀ s lb arr fmt sp dense ovf col ktm1 ntm1 src side i o j so,
    Issues s lb (.loadw arr fmt sp dense ovf col ktm1 ntm1 src side) →
    let p := s.phys lb
    let ord := (s.bay p).ord
    ((s.bay p).arr arr).lq.length < 2 →
    Issue.wop { s := s } p src (loadwExtent fmt sp dense col (ktm1 + 1) (ntm1 + 1)) (if col then loadwGroups fmt sp dense (ktm1 + 1) else 0) false ord = .ok (i, o) →
    i.wop p side (sideExtent fmt sp dense (ktm1 + 1) (ntm1 + 1)) 0 false ord = .ok (j, so) →
    ∃ t, exec (.loadw lb) s = .next t ∧
      loads (t.bay p) arr = loads (s.bay p) arr ++ [{ fmt := fmt, sp := sp, dense := dense, ovf := ovf, col := col, kt := ktm1 + 1, nt := ntm1 + 1, src := o, side := so.ofs, pc := s.get CUE_SEQSTAT_PC p, ord := ord }] ∧
      ((t.bay p).arr arr).recS = some { fmt := fmt, sp := sp } ∧
      (∀ a, a ≠ arr → loads (t.bay p) a = loads (s.bay p) a ∧ ((t.bay p).arr a).recS = ((s.bay p).arr a).recS) ∧
      (∀ a, feeds (t.bay p) a = feeds (s.bay p) a) ∧ (t.bay p).dq = (s.bay p).dq ∧ ArrayFrame s t p

/-- R55, R63, R90, R115: a FEED whose formats agree with the tile record and whose operands are in range joins the
array's FEED queue and retires; SWAP makes the shadow record the active one; SHARE also joins BW's LOADW queue. -/
def Sys2Proof.Claims.FeedJoinsItsQueue : Prop :=
  ∀ s lb arr fmt wfmt sp swap acc share col mm1 a0 src i row j o,
    Issues s lb (.feed arr fmt wfmt sp swap acc share col mm1 a0 src) →
    let p := s.phys lb
    let ord := (s.bay p).ord
    ((s.bay p).arr arr).fq.length < 2 → (share = true → ((s.bay p).arr 2).lq.length < 2) →
    ((s.bay p).arr arr).record swap = some { fmt := wfmt, sp := sp } →
    Issue.aop { s := s } p a0 = .ok (i, row) →
    i.wop p src (feedExtent fmt wfmt sp col (mm1 + 1)) (if col then feedGroups fmt wfmt sp (mm1 + 1) else 0) false ord = .ok (j, o) →
    ∃ t, exec (.feed lb) s = .next t ∧
      feeds (t.bay p) arr = feeds (s.bay p) arr ++ [.feed { fmt := fmt, wfmt := wfmt, sp := sp, swap := swap, acc := acc, share := share, col := col, m := mm1 + 1, a0 := row, src := o, pc := s.get CUE_SEQSTAT_PC p, ord := ord }] ∧
      ((t.bay p).arr arr).recA = some { fmt := wfmt, sp := sp } ∧
      (∀ a, a ≠ arr → feeds (t.bay p) a = feeds (s.bay p) a ∧ ((t.bay p).arr a).recA = ((s.bay p).arr a).recA) ∧
      (share = true → loads (t.bay p) 2 = loads (s.bay p) 2 ++ [{ share := true, fmt := fmt, sp := false, kt := mm1 + 1, nt := 128, src := o, pc := s.get CUE_SEQSTAT_PC p, ord := ord }]
        ∧ ((t.bay p).arr 2).recS = some { fmt := fmt, sp := false }) ∧
      (∀ a, (share = false ∨ a ≠ 2) → loads (t.bay p) a = loads (s.bay p) a) ∧ (t.bay p).dq = (s.bay p).dq ∧ ArrayFrame s t p

/-- R64, R90, R116, R126, R49: DRAIN joins the drain queue and WALK the FEED queues of every array it names, when there
is room and the operands are in range; both retire. -/
def Sys2Proof.Claims.DrainAndWalkJoinTheirQueues : Prop :=
  (∀ s lb arr fmt rnd sat act bias ztap deriv sp24 add clear dsc lay a0 rdm1 ndm1 dfn dst bsrc zadr i row j d k bo l zo,
    Issues s lb (.drain arr fmt rnd sat act bias ztap deriv sp24 add clear dsc lay a0 rdm1 ndm1 dfn dst bsrc zadr) →
    let p := s.phys lb
    let ord := (s.bay p).ord
    (s.bay p).dq.length < 2 →
    Issue.aop { s := s } p a0 = .ok (i, row) →
    i.wop p dst (drainExtent fmt lay sp24 (rdm1 + 1) (ndm1 + 1)) (if lay = 2 then drainGroups fmt (rdm1 + 1) else 0) true ord = .ok (j, d) →
    j.wop p bsrc (if bias then 4 * (ndm1 + 1) else 0) 0 false ord = .ok (k, bo) →
    k.wop p zadr (if ztap || deriv then 256 * (rdm1 + 1) else 0) 0 false ord = .ok (l, zo) →
    ∃ t, exec (.drain lb) s = .next t ∧
      (t.bay p).dq = (s.bay p).dq ++ [{ arr := arr, fmt := fmt, rnd := rnd, sat := sat, act := act, dfn := dfn, bias := bias, ztap := ztap, deriv := deriv, sp24 := sp24, add := add, clear := clear, lay := lay, a0 := row, rd := rdm1 + 1, nd := ndm1 + 1, dst := d, bsrc := bo.ofs, zadr := zo.ofs, dsc := dsc, pc := s.get CUE_SEQSTAT_PC p, ord := ord }] ∧
      (∀ a, feeds (t.bay p) a = feeds (s.bay p) a ∧ loads (t.bay p) a = loads (s.bay p) a) ∧ ArrayFrame s t p)
  ∧ (∀ s lb arrm duty durm1, Issues s lb (.walk arrm duty durm1) →
    let p := s.phys lb
    (∀ a, a < 3 → arrm.testBit a = true → ((s.bay p).arr a).fq.length < 2) →
    ∃ t, exec (.walk lb) s = .next t ∧
      (∀ a, feeds (t.bay p) a = feeds (s.bay p) a ++
        (if a < 3 ∧ arrm.testBit a = true then [.walk durm1 duty (s.get CUE_SEQSTAT_PC p) (s.bay p).ord] else [])) ∧
      (∀ a, loads (t.bay p) a = loads (s.bay p) a) ∧ (t.bay p).dq = (s.bay p).dq ∧ ArrayFrame s t p)

/-- LOADW, FEED, DRAIN and WALK at issue. -/
def Obligations.ArrayCuesJoinTheirQueues : Prop :=
  Sys2Proof.Claims.LoadwJoinsItsQueue ∧ Sys2Proof.Claims.FeedJoinsItsQueue ∧ Sys2Proof.Claims.DrainAndWalkJoinTheirQueues

/-- R117, R118, R85: MOVE is presented to the bay's own engine or a green-room queue and waits in issue stall; HALT waits for
every earlier cue. -/
def Obligations.MoveAndHaltWait : Prop :=
  (∀ s lb eng sen sstep sag den dstep dag done dsem desc, Issues s lb (.move eng sen sstep sag den dstep dag done dsem desc) →
    let p := s.phys lb
    ∃ t m, exec (.move lb) s = .next t ∧
      t.bay p = { (s.bay p).waitFor s.clk.ca 6 with present := some m, stall := some 6 } ∧
      m.eng = (if eng = 0 then p else 72 + 4 * (p / 9) + (eng - 4)) ∧ m.desc = desc ∧
      m.srcAg = (if sen then some (s.agAddr p sag) else none) ∧ m.dstAg = (if den then some (s.agAddr p dag) else none) ∧
      m.done = (if done then some dsem else none) ∧ m.steps = (if sstep then [sag] else []) ++ (if dstep then [dag] else []) ∧ m.seq = s.nextMove ∧ m.pc = s.get CUE_SEQSTAT_PC p ∧
      (∀ q, q ≠ p → t.bay q = s.bay q) ∧ t = { s with bays := t.bays, nextMove := s.nextMove + 1 })
  ∧ (∀ s lb, Issues s lb .halt →
    let p := s.phys lb
    ∃ t, exec (.halt lb) s = .next t ∧ t.bay p = { s.bay p with halted := true } ∧
      (∀ q, q ≠ p → t.bay q = s.bay q) ∧ t = { s with bays := t.bays })

/-- R145, R146, R148: RING OPEN and CLOSE. -/
def Obligations.RingOpenAndClose : Prop :=
  (∀ s lb rv role peer prv n z base, Issues s lb (.ring 0 rv role peer prv n z base) →
    let p := s.phys lb
    ((s.bay p).ring rv).opened = false →
    ∃ t, exec (.ringOpen lb) s = .next t ∧
      (t.bay p).ring rv = { opened := true, consumer := role, peer := peer, prv := prv, nsl := n + 1, slsz := 256 * (z + 1), base := base, stall := ((s.bay p).ring rv).stall } ∧
      (t.bay (s.phys peer)).credits = (s.bay (s.phys peer)).credits ++ (if role then List.replicate (n + 1) (prv, false) else []) ∧
      (∀ q, q ≠ p → q ≠ s.phys peer → t.bay q = s.bay q) ∧ (∀ q, (t.bay q).wings = (s.bay q).wings) ∧
      (∀ q v, (q ≠ p ∨ v ≠ rv) → (t.bay q).ring v = (s.bay q).ring v) ∧
      SeqAt s t p (s.get CUE_SEQSTAT_PC p + 1) ∧ (∀ r, r ≠ seqstat p → r.name ≠ .OBS_CNT → t.raw r = s.raw r))
  ∧ (∀ s lb rv role peer prv n z base, Issues s lb (.ring 1 rv role peer prv n z base) →
    let p := s.phys lb
    ((s.bay p).ring rv).opened = true →
    ∃ t, exec (.ringClose lb) s = .next t ∧
      ((t.bay p).ring rv).opened = false ∧ ((t.bay p).ring rv).waiting = [] ∧
      (∀ v, v ≠ rv → (t.bay p).ring v = (s.bay p).ring v) ∧
      SeqAt s t p (s.get CUE_SEQSTAT_PC p + 1) ∧ CueFrame s t p (· = seqstat p))

namespace Sys2Proof.Claims

open Sys2Proof.Machine

/-- A bay whose end `rv` has counted the whole CK_A cycles that the cue at the PC stalled on it (R154). -/
def stalled (b : Bay) (rv now : Nat) : Bay :=
  let n := Tab.get 0 (b.waitEnd now).waited 3 / 2
  if n = 0 then b else b.setRing rv { b.ring rv with stall := min ((b.ring rv).stall + n) (2 ^ 32 - 1) }

end Sys2Proof.Claims

/-- R146: ACQ and TAKE retire once their end's count is at least 1; FILL and FREE, with nothing waiting before them
through their end, take a slot from the count, go to the next slot and send the other end its credit. -/
def Obligations.RingSlotsPassBetweenTheEnds : Prop :=
  (∀ s lb rv role peer prv n z base, Issues s lb (.ring 2 rv role peer prv n z base) →
    let p := s.phys lb
    ((s.bay p).ring rv).opened = true → ((s.bay p).ring rv).consumer = false → 1 ≤ ((s.bay p).ring rv).count →
    ∃ t, exec (.ringAcq lb) s = .next t ∧ SeqAt s t p (s.get CUE_SEQSTAT_PC p + 1) ∧
      t.bay p = retired (stalled (s.bay p) rv s.clk.ca) ∧ CueFrame s t p (· = seqstat p))
  ∧ (∀ s lb rv role peer prv n z base, Issues s lb (.ring 4 rv role peer prv n z base) →
    let p := s.phys lb
    ((s.bay p).ring rv).opened = true → ((s.bay p).ring rv).consumer = true → 1 ≤ ((s.bay p).ring rv).count →
    ∃ t, exec (.ringTake lb) s = .next t ∧ SeqAt s t p (s.get CUE_SEQSTAT_PC p + 1) ∧
      t.bay p = retired (stalled (s.bay p) rv s.clk.ca) ∧ CueFrame s t p (· = seqstat p))
  ∧ (∀ s lb c rop rv role peer prv n z base, Issues s lb (.ring rop rv role peer prv n z base) →
    (c = .ringFill lb ∧ rop = 3 ∨ c = .ringFree lb ∧ rop = 5) →
    let p := s.phys lb
    let r := (s.bay p).ring rv
    r.opened = true → (r.consumer = true ↔ rop = 5) → 1 ≤ r.count → 0 < r.nsl → r.waiting = [] → r.fills = [] →
    ∃ t, exec c s = .next t ∧
      (t.bay p).ring rv = { r with count := r.count - 1, index := (r.index + 1) % r.nsl, cursor := 0, icursor := 0, iindex := (r.iindex + 1) % r.nsl } ∧
      (t.bay (s.phys r.peer)).credits = (s.bay (s.phys r.peer)).credits ++ [(r.prv, decide (rop = 3))] ∧
      (∀ q, q ≠ p → q ≠ s.phys r.peer → t.bay q = s.bay q) ∧ (∀ q, (t.bay q).wings = (s.bay q).wings) ∧
      SeqAt s t p (s.get CUE_SEQSTAT_PC p + 1) ∧ (∀ x, x ≠ seqstat p → x.name ≠ .OBS_CNT → t.raw x = s.raw x))

namespace Sys2Proof.Claims

open Sys2Proof.Machine

/-- A PROMPT of logical bay `lb` finds its die's prompter free: no PROMPT, no held column move, no pending audit, no
green-room error, no curtain over the green room, and the bay serves `lb` on its own die. -/
structure PrompterFree (s : State) (lb : Nat) : Prop where
  serves : s.logical (s.phys lb) = some lb ∧ s.phys lb / 9 = lb / 8
  queue  : (s.die (lb / 8)).prompts = [] ∧ (s.die (lb / 8)).colMove = none
  clean  : (s.ctx lb).audits = [] ∧ (s.die (lb / 8)).greenErr = []
  open_  : s.greenHeld (s.phys lb) (lb / 8) = false

/-- The predictor header at 4 KiB unit `pred - 1` of die `d`'s green room (R228). -/
def headerAt (s : State) (d pred : Nat) : List W64 :=
  (List.range 16).map fun i => BitVec.ofNat 64 (leVal (s.greenBytes d (4096 * (pred - 1) + 8 * i) 8))

/-- What a PROMPT's issue leaves: storage of every bay and die, and the registers of other units. -/
structure PromptFrame (s t : State) (p lb : Nat) : Prop where
  wings : ∀ q, (t.bay q).wings = (s.bay q).wings
  green : ∀ d, (t.die d).green = (s.die d).green
  mem   : t.mem = s.mem ∧ t.memErr = s.memErr
  bays  : ∀ q, q ≠ p → t.bay q = s.bay q
  dies  : ∀ d, d ≠ lb / 8 → t.die d = s.die d
  others : ∀ l, l < 8 → l ≠ lb % 8 → t.ctx (8 * (lb / 8) + l) = s.ctx (8 * (lb / 8) + l)
  regs  : ∀ r, r ≠ seqstat p → ¬ named .CUE_AGDIM p r → r ≠ ⟨.PRM_STAT, lb / 8, 0⟩ → r ≠ ⟨.PRM_CTX, lb / 8, lb % 8⟩ →
    r ≠ ⟨.CUE_NUMSAT, p, 0⟩ → r.name ≠ .OBS_CNT → t.raw r = s.raw r
  seq   : SeqAt s t p (s.get CUE_SEQSTAT_PC p + 1)

end Sys2Proof.Claims

/-- R124, R228, R229: issued to a free prompter, FIRST loads its header as the bay's context and replaces its sums by the products,
NEXT adds its products; the saturations are counted. -/
def Sys2Proof.Claims.PromptFirstAndNextFormSums : Prop :=
  (∀ s lb sel ntile pred kval src dst i o, Issues s lb (.prompt 0 sel ntile pred kval src dst) → PrompterFree s lb →
    let p := s.phys lb
    let d := lb / 8
    let c : PCtx := { header := headerAt s d pred }
    let q : PromptOp := { lbay := lb, stg := 0, sel := sel, ntile := ntile, pred := pred, kval := kval, src := o.ofs, dst := .wings 0, pc := s.get CUE_SEQSTAT_PC p, ord := (s.bay p).ord, started := true }
    c.bad = false → c.misaligned = false → ntile % c.q = 0 →
    Issue.wop { s := s } p src (promptSrcLen ntile c.q) 0 false (s.bay p).ord = .ok (i, o) →
    ∃ t, exec (.promptFirst lb) s = .next t ∧ (t.die d).prompts = [q] ∧
      (t.ctx lb).header = c.header ∧ (t.ctx lb).valid = true ∧ (t.ctx lb).sums = (s.promptSums p d q c.q []).1 ∧
      t.get PRM_CTX_NEXTN d (lb % 8) = 0 ∧ t.get PRM_CTX_VALID d (lb % 8) = 1 ∧
      t.get PRM_STAT_BUSY d = 1 ∧ t.get PRM_STAT_BAY d = lb % 8 ∧ t.get PRM_STAT_STG d = 0 ∧
      t.get CUE_NUMSAT_COUNT p = min (s.get CUE_NUMSAT_COUNT p + (s.promptSums p d q c.q []).2) (2 ^ 32 - 1) ∧ PromptFrame s t p lb)
  ∧ (∀ s lb sel ntile pred kval src dst i o, Issues s lb (.prompt 1 sel ntile pred kval src dst) → PrompterFree s lb →
    let p := s.phys lb
    let d := lb / 8
    let c := s.ctx lb
    let q : PromptOp := { lbay := lb, stg := 1, sel := sel, ntile := ntile, pred := pred, kval := kval, src := o.ofs, dst := .wings 0, pc := s.get CUE_SEQSTAT_PC p, ord := (s.bay p).ord, started := true }
    c.valid = true → ntile % c.q = 0 →
    Issue.wop { s := s } p src (promptSrcLen ntile c.q) 0 false (s.bay p).ord = .ok (i, o) →
    ∃ t, exec (.promptNext lb) s = .next t ∧ (t.die d).prompts = [q] ∧
      t.ctx lb = { c with sums := (s.promptSums p d q c.q c.sums).1 } ∧
      t.get PRM_STAT_BUSY d = 1 ∧ t.get PRM_STAT_BAY d = lb % 8 ∧ t.get PRM_STAT_STG d = 1 ∧
      t.get CUE_NUMSAT_COUNT p = min (s.get CUE_NUMSAT_COUNT p + (s.promptSums p d q c.q c.sums).2) (2 ^ 32 - 1) ∧
      t.raw ⟨.PRM_CTX, d, lb % 8⟩ = s.raw ⟨.PRM_CTX, d, lb % 8⟩ ∧ PromptFrame s t p lb)

/-- R124, R230, R232: SELECT is issued to a free prompter and starts; with LIST_IN it reads its list, whose accesses find the crossbar
free and no word with an error. -/
def Sys2Proof.Claims.PromptSelectStarts : Prop :=
  ∀ s lb sel ntile pred kval src dst i o, Issues s lb (.prompt 2 sel ntile pred kval src dst) → PrompterFree s lb →
    let p := s.phys lb
    let d := lb / 8
    let c := s.ctx lb
    c.valid = true → ntile % c.q = 0 → (c.listIn = true → (s.bay p).xreqs = [] ∧ (s.bay p).wingsErr = []) →
    Issue.wop { s := s } p dst (promptDstLen ntile c.q) 0 (!c.listIn) (s.bay p).ord = .ok (i, .wings o) →
    ∃ t, exec (.promptSelect lb) s = .next t ∧
      (t.die d).prompts = [{ lbay := lb, stg := 2, sel := sel, ntile := ntile, pred := pred, kval := kval, src := 0, dst := .wings o, pc := s.get CUE_SEQSTAT_PC p, ord := (s.bay p).ord, started := true, list := if c.listIn then (s.bay p).entries o (ntile / c.q * 64) else [] }] ∧
      t.ctx lb = c ∧ t.get PRM_STAT_BUSY d = 1 ∧ t.get PRM_STAT_BAY d = lb % 8 ∧ t.get PRM_STAT_STG d = 2 ∧
      t.raw ⟨.PRM_CTX, d, lb % 8⟩ = s.raw ⟨.PRM_CTX, d, lb % 8⟩ ∧ PromptFrame s t p lb

/-- The three stages of PROMPT at issue. -/
def Obligations.PromptStagesStart : Prop :=
  Sys2Proof.Claims.PromptFirstAndNextFormSums ∧ Sys2Proof.Claims.PromptSelectStarts

namespace Sys2Proof.Claims

open Sys2Proof.Machine

/-- The matcher queue without the mark that its first MATCH has presented its reads. -/
def matches_ (b : Bay) : List MatchOp := b.matchQ.map fun m => { m with asked := false }

end Sys2Proof.Claims

/-- R125: with room in the matcher queue and its operands in range, a MATCH of either mode joins the queue and retires. -/
def Obligations.MatchJoinsTheMatcherQueue : Prop :=
  ∀ s lb c mode iof lam1 lbm1 opn sa sb dd i oa j ob k od, Issues s lb (.matcher mode iof lam1 lbm1 opn sa sb dd) →
    (c = .matchAssoc lb ∧ mode = 0 ∨ c = .matchBitmap lb ∧ mode = 1) →
    let p := s.phys lb
    let ord := (s.bay p).ord
    (s.bay p).matchQ.length < 2 →
    Issue.wop { s := s } p sa (matchLenA lam1) 0 false ord = .ok (i, oa) →
    i.wop p sb (matchLenB mode lam1 lbm1) 0 false ord = .ok (j, ob) →
    j.wop p dd (matchLenD mode lam1 lbm1) 0 true ord = .ok (k, od) →
    ∃ t, exec c s = .next t ∧
      matches_ (t.bay p) = matches_ (s.bay p) ++ [{ bitmap := mode == 1, iof := iof, la := lam1 + 1, lb := lbm1 + 1, opn := if opn = 0 then 65536 else opn, srca := oa, srcb := ob, dst := od, pc := s.get CUE_SEQSTAT_PC p, ord := ord }] ∧
      t.bay p = { retired (s.bay p) with matchQ := (t.bay p).matchQ, rings := (t.bay p).rings, xreqs := (t.bay p).xreqs } ∧
      SeqAt s t p (s.get CUE_SEQSTAT_PC p + 1) ∧
      CueFrame s t p fun r => r = seqstat p ∨ (r.name = .CUE_AGDIM ∧ r.unit = p)

/-- R123, R371, R385: MARK with LATCH latches its bay's counters, its tag and the odometer, STROBE pulses EVT_IO for 100 ns where it is an
enabled output, a pulse that overlaps the last lengthening it, and the cue retires. -/
def Obligations.MarkLatchesAndStrobes : Prop :=
  ∀ s lb latch strobe lenm1 tag src, Issues s lb (.mark latch false strobe lenm1 tag src) → s.flag OBS_USER_EN_EN = false →
    let p := s.phys lb
    let out := strobe && s.flag OBS_EVT_STROBE && !s.flag OBS_EVT_TRIG
    ∃ t, exec (.mark lb) s = .next t ∧
      (latch = true → t.get OBS_LATCHTAG_TAG p = tag % 2 ^ 32 ∧ t.get OBS_LATCHODO_CYCLES p = s.clk.odo % 2 ^ 64 ∧
        ∀ i, i < 8 → t.get OBS_LATCHCNT_COUNT p i = s.get OBS_CNT_COUNT (bayBlk p) i) ∧
      t.obs.strobe = (if out = true ∧ s.obs.strobeEnd ≤ s.clk.el then s.obs.strobe + 1 else s.obs.strobe) ∧
      t.obs.strobeEnd = (if out = true then s.clk.el + 100 else s.obs.strobeEnd) ∧
      t.obs = { s.obs with bwCount := t.obs.bwCount, strobe := t.obs.strobe, strobeEnd := t.obs.strobeEnd } ∧
      SeqAt s t p (s.get CUE_SEQSTAT_PC p + 1) ∧ t.bay p = retired (s.bay p) ∧
      (∀ q, q ≠ p → t.bay q = s.bay q) ∧
      (∀ r, r ≠ seqstat p → r.name ≠ .OBS_CNT →
        (latch = false ∨ (r ≠ ⟨.OBS_LATCHTAG, p, 0⟩ ∧ r ≠ ⟨.OBS_LATCHODO, p, 0⟩ ∧ ¬ named .OBS_LATCHCNT p r)) → t.raw r = s.raw r) ∧
      t = { s with regs := t.regs, bays := t.bays, obs := t.obs }

/-! ## What a bay's units do -/

namespace Sys2Proof.Claims

open Sys2Proof.Machine

/-- An event reaches bay `lb` while its clocks run and no shed is in force. -/
def BayRuns (s : State) (lb : Nat) : Prop := lb < 64 ∧ s.clocked = true ∧ s.shed = false

/-- Only bay `p` of the bays changed, and no storage or engine outside it. -/
structure OtherBaysKept (s t : State) (p : Nat) : Prop where
  bays : ∀ q, q ≠ p → t.bay q = s.bay q
  mem  : t.mem = s.mem ∧ t.memErr = s.memErr
  dies : t.dies = s.dies ∧ t.engines = s.engines ∧ t.ports = s.ports

/-- The array holds no word with an error. -/
def ArrClean (s : State) (p a : Nat) : Prop := ((s.bay p).arr a).errs = []

end Sys2Proof.Claims

/-- R51, R54, R220: a LOADW at the head of its queue, with its reads granted, ends: the shadow registers hold its tile, the
array has a pending tile and the queue its next entry. -/
def Obligations.LoadwEndWritesTheTile : Prop :=
  ∀ s lb arr l rest o, BayRuns s lb →
    let p := s.phys lb
    let b := s.bay p
    (b.arr arr).lq = l :: rest → l.share = false → l.started = true → l.asked = true → l.sp = false → l.src = .wings o →
    b.granted (whoLoad arr).2 l.ord = true → (b.arr arr).fq = [] →
    ∃ t, exec (.loadwEnd lb arr) s = .next t ∧ loads (t.bay p) arr = rest.map (fun x => { x with started := false, asked := false }) ∧
      ((t.bay p).arr arr).pend = true ∧
      (∀ k n, k < 128 → n < 128 →
        Tab.get {} ((t.bay p).arr arr).wshd (wKey k n) = (b.loadCol o l.side l n).cells.getD k {}) ∧
      ((t.bay p).arr arr).wact = (b.arr arr).wact ∧ (∀ a, ((t.bay p).arr a).acc = (b.arr a).acc) ∧
      (t.bay p).wings = b.wings ∧ OtherBaysKept s t p ∧ (∀ r, t.raw r = s.raw r)

/-- R57, R59, R31: a FEED at the head of its queue that has its rows ends: each accumulator row that it has yet to add to takes the
row's sums, added under ACC and in place otherwise; every other row stays. -/
def Obligations.FeedEndAddsItsRows : Prop :=
  ∀ s lb arr f o, BayRuns s lb →
    let p := s.phys lb
    let b := s.bay p
    (b.arr arr).fq = [.feed f] → f.started = true → f.asked = true → f.share = false → f.src = .wings o → f.m ≤ 1024 → f.a0 < 1024 → ArrClean s p arr →
    b.granted (whoFeed arr).2 f.ord = true →
    ∃ t, exec (.feedEnd lb arr) s = .next t ∧ ((t.bay p).arr arr).fq = [] ∧
      (∀ i n, f.added ≤ i → i < f.m → n < 128 →
        let old := Tab.get 0 (b.arr arr).acc (accKey ((f.a0 + i) % 1024) n)
        let sum := colSum f.wfmt f.sp (b.rowVals o f.fmt (feedK f.fmt f.wfmt f.sp) f.col f.m i) ((List.range 128).map fun k => Tab.get {} (b.arr arr).wact (wKey k n))
        Tab.get 0 ((t.bay p).arr arr).acc (accKey ((f.a0 + i) % 1024) n) = if f.acc then fadd old sum else sum) ∧
      (∀ row n, row < 1024 → n < 128 → f.owes row = false →
        Tab.get 0 ((t.bay p).arr arr).acc (accKey row n) = Tab.get 0 (b.arr arr).acc (accKey row n)) ∧
      ((t.bay p).arr arr).wact = (b.arr arr).wact ∧ (∀ a, a ≠ arr → ((t.bay p).arr a).acc = (b.arr a).acc) ∧
      (t.bay p).wings = b.wings ∧ OtherBaysKept s t p ∧
      (∀ r, r.name ≠ .OBS_CNT → r ≠ ⟨.CUE_ARRECC, p, 0⟩ → t.raw r = s.raw r)

/-- R60, R61, R64, R68: with none of its accesses held up, the drain reads the next row of the DRAIN at the head of its queue; under CLEAR the row's accumulators become
zero; an FP32 row without the optional stages carries each accumulator times the scale. -/
def Sys2Proof.Claims.DrainReadsItsNextRow : Prop :=
  ∀ s lb d rest, BayRuns s lb →
    let p := s.phys lb
    let b := s.bay p
    let row := (d.a0 + d.row) % 1024
    b.dq = d :: rest → d.nd ≤ 128 → ArrClean s p d.arr → b.feedHolds d = false → b.drainLate = false → b.drows.length < d.inFlight →
    ∃ t out, exec (.drainRowRead lb) s = .next t ∧ (t.bay p).drows = b.drows ++ [out] ∧
      out.dst = d.dst ∧ out.row = d.row ∧ out.add = d.add ∧ out.last = (d.row + 1 == d.rd) ∧ out.ord = d.ord ∧
      (d.row + 1 = d.rd → (t.bay p).dq = rest) ∧
      (d.row + 1 ≠ d.rd → ∃ d' : DrainOp, (t.bay p).dq = d' :: rest ∧ d' = { d with row := d.row + 1, scale := d'.scale } ∧
        (d.row = 0 → d'.scale = BitVec.ofNat 32 (s.get CUE_DSCALE_VALUE p d.dsc)) ∧ (d.row ≠ 0 → d'.scale = d.scale)) ∧
      (∀ r n, r < 1024 → n < 128 → Tab.get 0 ((t.bay p).arr d.arr).acc (accKey r n) =
        if d.clear = true ∧ r = row then 0 else Tab.get 0 (b.arr d.arr).acc (accKey r n)) ∧
      (d.fmt = 0 → d.act = 0 → d.bias = false → d.ztap = false → d.deriv = false → d.sp24 = false → d.lay = 0 →
        out.bytes = (List.range d.nd).flatMap fun n => runAt (256 * ((d.nd + 63) / 64) * d.row + 4 * n)
          (leBytes 4 (fmul (if d.row = 0 then BitVec.ofNat 32 (s.get CUE_DSCALE_VALUE p d.dsc) else d.scale) (Tab.get 0 (b.arr d.arr).acc (accKey row n))).toNat)) ∧
      (t.bay p).wings = b.wings ∧ OtherBaysKept s t p

/-- R68, R45: the first drained row, its accesses granted, is stored at its destination in the wings: the row's bytes and no others change,
and what it saturated, and its infinities and NaNs, are counted. -/
def Sys2Proof.Claims.DrainedRowIsStored : Prop :=
  ∀ s lb r rest o, BayRuns s lb →
    let p := s.phys lb
    let b := s.bay p
    b.drows = r :: rest → r.dst = .wings o → r.add = false → r.zbytes = [] → b.photo = none → b.wingsErr = [] →
    r.asked = true → b.granted 0 r.key = true → (r.bytes.map (·.1)).Nodup →
    ∃ t, exec (.drainRowStore lb) s = .next t ∧ (t.bay p).drows = rest ∧
      (∀ x ∈ r.bytes, (t.bay p).wings.read (o + x.1) = x.2) ∧
      (∀ a, (∀ x ∈ r.bytes, a ≠ o + x.1) → (t.bay p).wings.read a = b.wings.read a) ∧
      t.get CUE_NUMSAT_COUNT p = counted CUE_NUMSAT_COUNT (s.get CUE_NUMSAT_COUNT p) r.sat ∧
      t.get CUE_NUMNAN_INF p = counted CUE_NUMNAN_INF (s.get CUE_NUMNAN_INF p) r.inf ∧
      t.get CUE_NUMNAN_NAN p = counted CUE_NUMNAN_NAN (s.get CUE_NUMNAN_NAN p) r.nan ∧
      t.bay p = { b with drows := rest, wings := (t.bay p).wings } ∧ OtherBaysKept s t p ∧
      KeepsRegs (fun q => q = ⟨.CUE_NUMSAT, p, 0⟩ ∨ q = ⟨.CUE_NUMNAN, p, 0⟩) s t

/-- A DRAIN reads its rows and stores them. -/
def Obligations.DrainReadsAndStoresRows : Prop :=
  Sys2Proof.Claims.DrainReadsItsNextRow ∧ Sys2Proof.Claims.DrainedRowIsStored

/-- R126, R136, R137: the oldest WALK that heads FEED queues leaves those it heads; a grant serves the best requester's access and every
other waits one cycle more; requesters that have waited 64 cycles are raised. -/
def Obligations.WalkEndsAndCrossbarServes : Prop :=
  (∀ s lb o, BayRuns s lb →
    let p := s.phys lb
    (s.bay p).walkDone = some o → (s.bay p).cid.isSome = true →
    ∃ t, exec (.walkEnd lb) s = .next t ∧
      (∀ a, a < 3 → feeds (t.bay p) a = match (s.bay p).arr a |>.fq with
        | .walk d u c x :: r => if x = o then r.map unstarted else unstarted (.walk d u c x) :: r.map unstarted
        | l => l.map unstarted) ∧
      (∀ a, ((t.bay p).arr a).acc = ((s.bay p).arr a).acc) ∧ (t.bay p).wings = (s.bay p).wings ∧
      OtherBaysKept s t p ∧ ∀ r, t.raw r = s.raw r)
  ∧ (∀ s lb x y a ra c rc, BayRuns s lb →
    let p := s.phys lb
    let u := s.present p
    (u.bay p).xreqs = [x, y] → (u.bay p).wingsErr = [] → x.lines = a :: ra → y.lines = c :: rc → x.who ≠ y.who → x.ord ≠ y.ord →
    accessBlock a = accessBlock c → (a.1 ≠ c.1 ∨ a.2.1 ≠ c.2.1) → x.before y = true → y.before x = false →
    ∃ t, exec (.crossbarGrant lb) s = .next t ∧
      (t.bay p).xreqs = (if ra = [] then [] else [{ x with lines := ra, waited := 0, aged := false }]) ++ [{ y with waited := y.waited + 1 }] ∧
      (t.bay p).xdone = (u.bay p).xdone ++ (if x.note = true ∧ ra = [] then [(x.who, x.ord)] else []) ∧
      (t.bay p).wings = (s.bay p).wings ∧ OtherBaysKept u t p ∧ ∀ r, r.name ≠ .OBS_CNT → t.raw r = s.raw r)
  ∧ (∀ s lb, lb < 64 → s.clocked = true →
    let p := s.phys lb
    ∃ t, exec (.crossbarAge lb) s = .next t ∧ (t.bay p).xreqs.length = (s.bay p).xreqs.length ∧
      (∀ (i : Nat) (x : XReq), (s.bay p).xreqs[i]? = some x → (t.bay p).xreqs[i]? = some { x with aged := x.aged || decide (64 ≤ x.waited) }) ∧
      t.bay p = { s.bay p with xreqs := (t.bay p).xreqs } ∧ OtherBaysKept s t p ∧ ∀ r, t.raw r = s.raw r)

/-- R91, R93, R146, R147: a waiting WAIT that its semaphore satisfies retires, a POST whose fence is met reaches its semaphore, a
credit raises its end's count. -/
def Obligations.SemaphoresAndCreditsArrive : Prop :=
  (∀ s lb sem n, BayRuns s lb →
    let p := s.phys lb
    s.get CUE_SEQSTAT_STATE p = 4 → s.cueAt p = some (.wait sem n) → n ≤ s.get CUE_SEM_VALUE p sem → (s.bay p).samples = [] →
    ∃ t, exec (.waitSatisfied lb) s = .next t ∧ t.get CUE_SEM_VALUE p sem = s.get CUE_SEM_VALUE p sem - n ∧
      t.get CUE_SEQSTAT_STATE p = 3 ∧ t.get CUE_SEQSTAT_PC p = (s.get CUE_SEQSTAT_PC p + 1) % 2 ^ 14 ∧
      t.bay p = retired (s.bay p) ∧ CueFrame s t p fun r => r = seqstat p ∨ r = ⟨.CUE_SEM, p, sem⟩)
  ∧ (∀ s lb m, BayRuns s lb →
    let p := s.phys lb
    (s.bay p).posts = [m] → (s.bay p).fenceMet m = true → s.get CUE_SEM_VALUE (s.phys m.bay) m.sem + m.n ≤ 65535 →
    ∃ t, exec (.postDelivery lb) s = .next t ∧ (t.bay p).posts = [] ∧
      t.get CUE_SEM_VALUE (s.phys m.bay) m.sem = s.get CUE_SEM_VALUE (s.phys m.bay) m.sem + m.n ∧
      t.bay p = { s.bay p with posts := [] } ∧ OtherBaysKept s t p ∧
      ∀ r, r ≠ ⟨.CUE_SEM, s.phys m.bay, m.sem⟩ → t.raw r = s.raw r)
  ∧ (∀ s lb rv full rest, BayRuns s lb →
    let p := s.phys lb
    (s.bay p).credits = (rv, full) :: rest → ((s.bay p).ring rv).opened = true → ((s.bay p).ring rv).consumer = full → (s.bay p).stall ≠ some 3 → s.get CUE_SEQSTAT_STATE p ≠ 6 →
    ∃ t, exec (.revolveCredit lb) s = .next t ∧ (t.bay p).credits = rest ∧
      (t.bay p).ring rv = { (s.bay p).ring rv with count := ((s.bay p).ring rv).count + 1 } ∧
      (∀ v, v ≠ rv → (t.bay p).ring v = (s.bay p).ring v) ∧
      (∀ a, feeds (t.bay p) a = feeds (s.bay p) a ∧ loads (t.bay p) a = loads (s.bay p) a ∧ ((t.bay p).arr a).acc = ((s.bay p).arr a).acc) ∧
      t.bay p = { s.bay p with credits := rest, rings := (t.bay p).rings, arrs := (t.bay p).arrs, xreqs := (t.bay p).xreqs } ∧
      OtherBaysKept s t p ∧ ∀ r, t.raw r = s.raw r)

/-- R85, R91, R146: a WALK that waits in issue stall is accepted once the queues it names have room, an ACQ once its end's count
is at least 1. -/
def Obligations.WaitingCueIsAccepted : Prop :=
  (∀ s lb arrm duty durm1, BayRuns s lb →
    let p := s.phys lb
    s.get CUE_SEQSTAT_STATE p = 3 → (s.bay p).saving = false → (s.bay p).stall = some 1 → (s.bay p).present = none →
    s.cueAt p = some (.walk arrm duty durm1) → (s.bay p).samples = [] →
    (∀ a, a < 3 → arrm.testBit a = true → ((s.bay p).arr a).fq.length < 2) →
    ∃ t, exec (.cueAccept lb) s = .next t ∧ (t.bay p).stall = none ∧
      (∀ a, feeds (t.bay p) a = feeds (s.bay p) a ++
        (if a < 3 ∧ arrm.testBit a = true then [.walk durm1 duty (s.get CUE_SEQSTAT_PC p) (s.bay p).ord] else [])) ∧
      (∀ a, ((t.bay p).arr a).acc = ((s.bay p).arr a).acc) ∧
      SeqAt s t p (s.get CUE_SEQSTAT_PC p + 1) ∧ CueFrame s t p (· = seqstat p))
  ∧ (∀ s lb rv role peer prv n z base, BayRuns s lb →
    let p := s.phys lb
    s.get CUE_SEQSTAT_STATE p = 3 → (s.bay p).saving = false → (s.bay p).stall = some 3 → (s.bay p).present = none →
    s.cueAt p = some (.ring 2 rv role peer prv n z base) → (s.bay p).samples = [] →
    ((s.bay p).ring rv).opened = true → ((s.bay p).ring rv).consumer = false → 1 ≤ ((s.bay p).ring rv).count →
    ∃ t, exec (.cueAccept lb) s = .next t ∧ t.bay p = retired (stalled (s.bay p) rv s.clk.ca) ∧
      SeqAt s t p (s.get CUE_SEQSTAT_PC p + 1) ∧ CueFrame s t p (· = seqstat p))

namespace Sys2Proof.Claims

open Sys2Proof.Machine

/-- A drained row that goes to the wings themselves, not through a revolve. -/
def toWings (r : DRow) : Bool := match r.dst with
  | .wings _ => true
  | .ring _ _ _ _ => false

end Sys2Proof.Claims

/-- R75, R85, R94, R315: HALT retires once every earlier cue has completed and the bay is DONE while another bay of its lane is not;
under HOLD_LANE an overrun is counted and put in the command's status. -/
def Sys2Proof.Claims.HaltRetiresAndOverrunsCount : Prop :=
  (∀ s lb id c lb', BayRuns s lb →
    let p := s.phys lb
    (s.bay p).halted = true → s.quiet p = true → s.get CUE_SEQSTAT_STATE p = 3 → (s.bay p).stop ≠ .pointers → (s.bay p).samples = [] →
    (s.bay p).cid = some id → s.cmd id = some c → c.phase = .running →
    lb' ∈ laneBays c.mask → s.phys lb' ≠ p → s.get CUE_SEQSTAT_STATE (s.phys lb') ≠ 7 →
    ∃ t, exec (.haltRetire lb) s = .next t ∧ t.get CUE_SEQSTAT_STATE p = 7 ∧ t.get CUE_SEQSTAT_PC p = s.get CUE_SEQSTAT_PC p ∧
      t.bay p = { retired (s.bay p) with halted := false } ∧ CueFrame s t p (· = seqstat p))
  ∧ (∀ s lb id c, lb < 64 → s.clocked = true →
    let p := s.phys lb
    (s.bay p).cid = some id → s.cmd id = some c → s.waits p = true → (c.phase = .running ∨ c.phase = .stopping) → c.ovr = 0 →
    ∃ t, exec (.schedOverrun lb) s = .next t ∧
      t.get RUN_OVERRUN_COUNT = min (s.get RUN_OVERRUN_COUNT + 1) (2 ^ RUN_OVERRUN_COUNT.w - 1) ∧
      t.cmd id = some (c.addS cSCHED_OVERRUN) ∧ (∀ i, i ≠ id → t.cmd i = s.cmd i) ∧
      (∀ r, r ≠ ⟨.RUN_OVERRUN, 0, 0⟩ → t.raw r = s.raw r) ∧
      t = { s with regs := t.regs, ro := { s.ro with cmds := t.ro.cmds } })

/-- R75: with the lane's last HALT the command ends. -/
def Sys2Proof.Claims.LastHaltEndsTheCommand : Prop :=
  ∀ s lb id c, BayRuns s lb →
    let p := s.phys lb
    (s.bay p).halted = true → s.quiet p = true → s.get CUE_SEQSTAT_STATE p = 3 → (s.bay p).stop ≠ .pointers → (s.bay p).samples = [] →
    (s.bay p).cid = some id → s.cmd id = some c →
    (∀ lb' ∈ laneBays c.mask, s.phys lb' ≠ p → s.get CUE_SEQSTAT_STATE (s.phys lb') = 7) →
    ∃ t, exec (.haltRetire lb) s = .next t ∧ t.cmd id = none

/-- HALT retires; the last of a lane ends the command. -/
def Obligations.HaltEndsItsBayAndTheCommand : Prop :=
  Sys2Proof.Claims.HaltRetiresAndOverrunsCount ∧ Sys2Proof.Claims.LastHaltEndsTheCommand

/-- R96, R98: a POINTERS stop that reaches a running or waiting bay stops its units and discards what is queued; a LIVE stop is
noted until the next WAIT or EXIT; a stopped bay whose units are released is idle and its revolves are closed. -/
def Obligations.StopsReachTheirBay : Prop :=
  (∀ s lb, lb < 64 → s.clocked = true →
    let p := s.phys lb
    (s.bay p).stopReq = .pointers → (s.get CUE_SEQSTAT_STATE p = 3 ∨ s.get CUE_SEQSTAT_STATE p = 4) →
    ∃ t, exec (.stopReceive lb) s = .next t ∧ t.get CUE_SEQSTAT_STATE p = 5 ∧ (t.bay p).stop = .pointers ∧
      (t.bay p).posts = [] ∧ (t.bay p).dq = [] ∧ (t.bay p).halted = false ∧ (t.bay p).stall = none ∧ (t.bay p).present = none)
  ∧ (∀ s lb, lb < 64 → s.clocked = true →
    let p := s.phys lb
    (s.bay p).stopReq = .live → s.get CUE_SEQSTAT_STATE p = 3 →
    ∃ t, exec (.stopReceive lb) s = .next t ∧ t.bay p = { s.bay p with stopReq := .none, stop := .live } ∧
      (∀ q, q ≠ p → t.bay q = s.bay q) ∧ t = { s with bays := t.bays })
  ∧ (∀ s lb id c lb', lb < 64 → s.clocked = true →
    let p := s.phys lb
    s.get CUE_SEQSTAT_STATE p = 5 → s.unitsReleased p = true → Tab.wf {} (s.bay p).rings = true →
    (s.bay p).cid = some id → s.cmd id = some c → lb' ∈ laneBays c.mask → s.phys lb' ≠ p → s.get CUE_SEQSTAT_STATE (s.phys lb') = 5 →
    ∃ t, exec (.bayStopDone lb) s = .next t ∧ t.get CUE_SEQSTAT_STATE p = 1 ∧ (t.bay p).credits = [] ∧
      (∀ v, (t.bay p).ring v = { stall := ((s.bay p).ring v).stall }) ∧
      t.bay p = { s.bay p with rings := (t.bay p).rings, drows := (s.bay p).drows.filter toWings, credits := [] } ∧ OtherBaysKept s t p ∧
      (∀ r, r ≠ seqstat p → t.raw r = s.raw r))

/-- R98, R99: a bay with no live range that has finished its earlier work writes its record into its stash and parks; a LIVE stop not in
effect within EXIT_GAP is counted on every bay of the lane, reported, and becomes a POINTERS stop. -/
def Obligations.LiveSaveParksOrFallsBack : Prop :=
  (∀ s lb id c lb', lb < 64 → s.clocked = true →
    let p := s.phys lb
    let a := s.stashAddr lb
    (s.bay p).saving = true → s.get CUE_SEQSTAT_STATE p = 6 → s.quiet p = true → (s.bay p).credits = [] →
    (s.bay p).granted whoLive.2 id = true → (s.bay p).cid = some id → s.cmd id = some c → liveRanges (s.bay p).part.ranges (s.get CUE_LIVEMASK_MASK p) = [] →
    s.unpermitted a 1024 true = none → s.place a = .ddr → 1024 ≤ s.stashSize →
    lb' ∈ laneBays c.mask → s.phys lb' ≠ p → s.get CUE_SEQSTAT_STATE (s.phys lb') = 3 →
    ∃ t, exec (.stashSaveDone lb) s = .next t ∧ (t.bay p).saving = false ∧
      t.get CUE_STOPCNT_PARKS p = min (s.get CUE_STOPCNT_PARKS p + 1) (2 ^ CUE_STOPCNT_PARKS.w - 1) ∧
      (∃ x, (lb, x) ∈ t.stashes ∧ x.valid = true ∧ x.sheet = s.get CUE_SHEETNO_SHEET p ∧ x.pc = s.get CUE_SEQSTAT_PC p ∧
        x.ldepth = s.get CUE_SEQSTAT_LDEPTH p ∧ x.sems = (List.range 64).map fun i => s.get CUE_SEM_VALUE p i) ∧
      (∀ x, (x < a ∨ a + 1024 ≤ x) → t.mem.read x = s.mem.read x) ∧ (∀ q, q ≠ p → t.bay q = s.bay q))
  ∧ (∀ s id c, s.clocked = true → s.cmd id = some c → c.phase = .stopping → c.liveStop = true →
    (∃ lb ∈ laneBays c.mask, s.get CUE_SEQSTAT_STATE (s.phys lb) ≠ 6) →
    (laneBays c.mask).Pairwise (fun x y => s.phys x ≠ s.phys y) →
    ∃ t, exec (.exitLate id) s = .next t ∧ t.cmd id = some { c.addS cEXIT_LATE with liveStop := false } ∧
      (∀ lb ∈ laneBays c.mask, t.get CUE_STOPCNT_EXITLATE (s.phys lb) = min (s.get CUE_STOPCNT_EXITLATE (s.phys lb) + 1) (2 ^ CUE_STOPCNT_EXITLATE.w - 1)) ∧
      (∀ lb ∈ laneBays c.mask, (s.bay (s.phys lb)).cid.isSome = true → (s.bay (s.phys lb)).stop ≠ .pointers →
        (s.get CUE_SEQSTAT_STATE (s.phys lb) = 3 ∨ s.get CUE_SEQSTAT_STATE (s.phys lb) = 4) → (t.bay (s.phys lb)).stopReq = .pointers) ∧
      (∀ q, (t.bay q).wings = (s.bay q).wings) ∧ t.mem = s.mem ∧
      (∀ r, r.name ≠ .CUE_STOPCNT → t.raw r = s.raw r))

/-- R125, R225 to R227: the MATCH at the head of the queue, with its reads granted and no fault, writes its list into the wings, counts
the indices out of bounds and frees its place. -/
def Sys2Proof.Claims.MatchEndWritesItsList : Prop :=
  ∀ s lb m rest x y z, BayRuns s lb →
    let p := s.phys lb
    let b := s.bay p
    b.matchQ = m :: rest → m.srca = .wings x → m.srcb = .wings y → m.dst = .wings z → b.granted whoMatch.2 m.ord = true →
    m.asked = true → b.xreqs = [] → (b.matched m).bad = false → b.wingsErr = [] → b.photo = none →
    let bs := listBytes (if m.bitmap then 2 else 4) m.lenD (b.matched m).out
    ∃ t, exec (.matchEnd lb) s = .next t ∧ matches_ (t.bay p) = rest.map (fun x => { x with asked := false }) ∧
      (∀ (i : Nat) v, bs[i]? = some v → (t.bay p).wings.read (z + i) = v) ∧
      (∀ a, (a < z ∨ z + bs.length ≤ a) → (t.bay p).wings.read a = b.wings.read a) ∧
      t.get SPR_IDXOOB_COUNT p = min (s.get SPR_IDXOOB_COUNT p + (b.matched m).oob) (2 ^ SPR_IDXOOB_COUNT.w - 1) ∧
      (∀ a, feeds (t.bay p) a = feeds b a ∧ loads (t.bay p) a = loads b a ∧ ((t.bay p).arr a).acc = (b.arr a).acc) ∧ OtherBaysKept s t p ∧ (∀ r, r ≠ ⟨.SPR_IDXOOB, p, 0⟩ → t.raw r = s.raw r)

/-- R124, R230, R232: a PROMPT that ends frees the prompter; a SELECT stores its list, or with LIST_IN takes the listed one, and moves
NEXTN past its span. -/
def Sys2Proof.Claims.PromptEndFreesThePrompter : Prop :=
  (∀ s d q, d < 8 → s.clocked = true → s.shed = false → (s.die d).prompts = [q] → (s.die d).colMove = none → q.started = true → q.stg ≠ 2 →
    (s.bay (s.phys q.lbay)).granted whoPrompt.2 q.ord = true →
    ∃ t, exec (.promptEnd d) s = .next t ∧ (t.die d).prompts = [] ∧ t.get PRM_STAT_BUSY d = 0 ∧
      t.die d = { s.die d with prompts := [] } ∧ t.bays = s.bays ∧ t.mem = s.mem ∧ (∀ e, e ≠ d → t.die e = s.die e) ∧
      (∀ r, r ≠ ⟨.PRM_STAT, d, 0⟩ → r.name ≠ .OBS_CNT → t.raw r = s.raw r))
  ∧ (∀ s d q o, d < 8 → s.clocked = true → s.shed = false → (s.die d).prompts = [q] → (s.die d).colMove = none → q.started = true → q.stg = 2 →
    q.lbay / 8 = d → q.dst = .wings o →
    let p := s.phys q.lbay
    let c := s.ctx q.lbay
    let span := q.ntile / c.q * 64
    (s.bay p).granted whoPrompt.2 q.ord = true → s.greenHeld p d = false → c.listIn = true → c.fop = 0 →
    ∃ t, exec (.promptEnd d) s = .next t ∧ (t.die d).prompts = [] ∧ t.get PRM_STAT_BUSY d = 0 ∧
      t.get PRM_CTX_NEXTN d (q.lbay % 8) = (s.get PRM_CTX_NEXTN d (q.lbay % 8) + span) % 2 ^ 16 ∧
      t.get PRM_CTX_LASTCNT d (q.lbay % 8) = (q.list.filter (· != 0xFFFF)).length % 2 ^ 16 ∧
      t.ctx q.lbay = { c with ord := c.ord + 1 } ∧ t.bays = s.bays ∧ t.mem = s.mem)
  ∧ (∀ s d q o, d < 8 → s.clocked = true → s.shed = false → (s.die d).prompts = [q] → (s.die d).colMove = none → q.started = true → q.stg = 2 →
    q.lbay / 8 = d → q.dst = .wings o →
    let p := s.phys q.lbay
    let c := s.ctx q.lbay
    let span := q.ntile / c.q * 64
    (s.bay p).granted whoPrompt.2 q.ord = true → s.greenHeld p d = false → (s.bay p).xreqs = [] → c.listIn = false → c.fop = 0 →
    (s.die d).greenErr = [] → (s.bay p).wingsErr = [] → (s.bay p).photo = none →
    let kept := (s.select d q c (s.get PRM_CTX_NEXTN d (q.lbay % 8)) span).1.take c.cap
    let bs := listBytes 2 (up256 (2 * span)) kept
    ∃ t, exec (.promptEnd d) s = .next t ∧ (t.die d).prompts = [] ∧ t.get PRM_STAT_BUSY d = 0 ∧
      (∀ (i : Nat) v, bs[i]? = some v → (t.bay p).wings.read (o + i) = v) ∧
      (∀ a, (a < o ∨ o + bs.length ≤ a) → (t.bay p).wings.read a = (s.bay p).wings.read a) ∧
      t.get PRM_CTX_LASTCNT d (q.lbay % 8) = kept.length % 2 ^ 16 ∧
      t.get PRM_CTX_NEXTN d (q.lbay % 8) = (s.get PRM_CTX_NEXTN d (q.lbay % 8) + span) % 2 ^ 16 ∧
      t.ctx q.lbay = { c with ord := c.ord + 1 } ∧ (∀ q', q' ≠ p → t.bay q' = s.bay q') ∧ t.mem = s.mem)

/-- The ends of MATCH and PROMPT. -/
def Obligations.MatcherAndPrompterEnd : Prop :=
  Sys2Proof.Claims.MatchEndWritesItsList ∧ Sys2Proof.Claims.PromptEndFreesThePrompter

/-- R374, R383, R384: a photocall whose reads are granted ends: its record goes to ring 3 with the source range as its data, the bay's die is
no longer busy, and a torn copy is counted. -/
def Sys2Proof.Claims.PhotocallWritesItsRecord : Prop :=
  ∀ s lb x, lb < 64 → s.clocked = true →
    let p := s.phys lb
    (s.bay p).photo = some x → ((s.bay p).xreqs.any fun y => y.who == whoPhoto.2) = false →
    ∃ u rec_, exec (.photocallDone lb) s = .next (u.ringWrite 3 rec_) ∧ rec_.length = 64 + (x.data.length + (256 * x.lines - x.data.length)) ∧
      leVal (rec_.take 8) = recWord0 4 (1 + 4 * x.lines) x.tag ∧
      rec_.drop 64 = x.data ++ (s.bay p).bytes (x.src + x.data.length) (256 * x.lines - x.data.length) ∧
      u.bay p = { s.bay p with photo := none } ∧ u.get OBS_PHOTOSTAT_BUSY (p / 9) = 0 ∧
      (x.torn = true → u.get OBS_PHOTOSTAT_TORN (p / 9) = min (s.get OBS_PHOTOSTAT_TORN (p / 9) + 1) (2 ^ OBS_PHOTOSTAT_TORN.w - 1)) ∧
      OtherBaysKept s u p ∧ (∀ r, r ≠ ⟨.OBS_PHOTOSTAT, p / 9, 0⟩ → u.raw r = s.raw r)

/-- R373, R374: a record that fits in its ring and that the windows permit is written at WR in device memory; WR moves past it and
nothing else in memory changes. -/
def Sys2Proof.Claims.RingRecordIsWrittenAtWr : Prop :=
  ∀ (s : State) n rec_, s.flag OBS_RINGCTL_EN n = true →
    let base := s.get OBS_RINGBASE_BASE n * 4096
    let size := s.get OBS_RINGCTL_SIZE n * 4096
    let wr := s.get OBS_RINGWR_WR n
    let rd := s.get OBS_RINGRD_RD n
    rd < size → wr + rec_.length ≤ size → rec_.length + 64 ≤ size - (wr + size - rd) % size →
    s.unpermitted (base + wr) rec_.length true = none → s.place (base + wr) = .ddr → ddrSound s →
    (s.ringWrite n rec_).get OBS_RINGWR_WR n = (wr + rec_.length) % size % 2 ^ OBS_RINGWR_WR.w ∧
    (∀ (i : Nat) v, rec_[i]? = some v → (s.ringWrite n rec_).mem.read (base + wr + i) = v) ∧
    (∀ a, (a < base + wr ∨ base + wr + rec_.length ≤ a) → (s.ringWrite n rec_).mem.read a = s.mem.read a) ∧
    (s.ringWrite n rec_).get OBS_RINGRD_RD n = rd ∧
    (∀ q, ((s.ringWrite n rec_).bay q) = s.bay q)

/-- A photocall ends in a record, and a record enters its ring. -/
def Obligations.PhotocallsReachTheirRing : Prop :=
  Sys2Proof.Claims.PhotocallWritesItsRecord ∧ Sys2Proof.Claims.RingRecordIsWrittenAtWr

/-! ## Streams and windows -/

namespace Sys2Proof.Claims

open Sys2Proof.Machine

/-- Engine `e` works: it exists, the clocks run and no curtain is in force. -/
def EngineRuns (s : State) (e : Nat) : Prop := e < 104 ∧ s.clocked = true ∧ s.curt = none

/-- The near side of a descriptor without a revolve, as device addresses. -/
def nearDevice (d : Desc) (p : Nat) : Nat := if d.nkind = 0 then d.near % 2 ^ 48 else wingsDev p d.near

/-- A granule a MOVE holds once the refetch of `f` has returned: what DDR holds now is in place of `f`'s bytes (R177). -/
def refreshed (s : State) (f x : Fetched) : Fetched :=
  if x.granule = f.granule ∧ x.bad = false then { f with bytes := s.ddrBytes (64 * f.granule) 64, watched := false, stale := false, refetch := false } else x

end Sys2Proof.Claims

/-- R117, R118, R158 to R162, R85, R320: with room in its queue, and no shed, an engine accepts the MOVE presented earliest, whose
descriptor passes every check and whose sides do not overlap: the MOVE joins the queue, its cue retires, only now do generators it steps
move, and the bay counts it as outstanding. -/
def Obligations.StreamAcceptTakesTheMove : Prop :=
  ∀ s e p r d, e < 104 → s.clocked = true → s.shed = false → (s.eng e).q.length < engineDepth e → s.presented e = some (p, r) → s.heldMove e = none →
    (s.bay p).samples = [] → (s.bay p).wingsErr = [] → s.acceptDesc p r = (s, .ok d) → d.nkind ≠ 2 →
    (∀ f, d.farExtent p = some f → meets f (nearDevice d p, nearDevice d p + d.nearLen - 1) = false) →
    ∃ t m, exec (.streamAccept e) s = .next t ∧ (t.eng e).q = (s.eng e).q ++ [m] ∧
      m.id = r.seq ∧ m.phys = p ∧ m.desc = some d ∧ m.done = r.done ∧ m.m = 0 ∧ m.copying = .plain ∧ m.cid = (s.bay p).cid ∧
      m.acc = s.accepted ∧ t.accepted = s.accepted + 1 ∧
      t.bay p = { retired (s.bay p) with present := none, moves := (s.bay p).moves ++ [r.seq] } ∧
      SeqAt s t p (s.get CUE_SEQSTAT_PC p + 1) ∧ (∀ x, x ≠ e → t.eng x = s.eng x) ∧
      (∀ x, x ≠ seqstat p → x.name ≠ .OBS_CNT → (r.steps = [] ∨ x.name ≠ .CUE_AGDIM ∨ x.unit ≠ p) → t.raw x = s.raw x) ∧ t.mem = s.mem

/-- R171, R173, R174: an element read from permitted device memory is delivered to the bay's own wings, and no other byte changes; one that
no window permits stops the MOVE: the engine records WINDOW, the descriptor and the element, STR_WINFAULT the address. -/
def Obligations.StreamDeliversOneElement : Prop :=
  (∀ s e m rest h a p o, EngineRuns s e → (s.eng e).q = m :: rest → m.m + 1 = m.count → m.ring = none → m.copying = .plain → m.reqs = [] →
    m.kept = [] → m.wbuf = [] → (m.desc.any fun d => d.watch) = false → s.behind e m = false →
    s.elemAt m m.m = { h := h, src := some (.dev a, false), dst := some (.own p o, false) } → (h = 2 ∨ h = 4 ∨ h = 8) →
    a % (h / 2) = 0 → o % (h / 2) = 0 → s.place a = .ddr → s.place (a / 64 * 64) = .ddr → s.permits a false = true → ddrSound s →
    o + h / 2 ≤ wingsSize → (s.bay p).wingsErr = [] → (s.bay p).photo = none → (s.bay p).xreqs = [] →
    ∃ t m', exec (.streamDeliver e) s = .next t ∧ (t.eng e).q = m' :: rest ∧ m'.m = m.m + 1 ∧ m'.id = m.id ∧
      (∀ i, i < h / 2 → (t.bay p).wings.read (o + i) = s.mem.read (a + i)) ∧
      (∀ x, (x < o ∨ o + h / 2 ≤ x) → (t.bay p).wings.read x = (s.bay p).wings.read x) ∧
      t.mem = s.mem ∧ (∀ q, q ≠ p → t.bay q = s.bay q) ∧ (∀ x, x ≠ e → t.eng x = s.eng x))
  ∧ (∀ s e m rest el a, EngineRuns s e → (s.eng e).q = m :: rest → m.m < m.count → m.ring = none → m.copying = .plain → m.wbuf = [] →
    s.behind e m = false → s.elemAt m m.m = el → el.src = some (.dev a, false) → s.permits a false = false →
    ∃ u, exec (.streamDeliver e) s = .next (if s.moveLive m then u.fault m.phys cWINDOW m.pc else u) ∧
      u.get STR_FAULT_CODE e = cWINDOW ∧ u.get STR_FAULT_DESC e = m.descNo % 2 ^ STR_FAULT_DESC.w ∧ u.get STR_FAULT_ELEM e = m.m % 2 ^ STR_FAULT_ELEM.w ∧
      u.get STR_WINFAULT_ADDR = a % 2 ^ STR_WINFAULT_ADDR.w ∧ u.get STR_WINFAULT_WR = 0 ∧
      (∀ x ∈ (u.eng e).q, x.id ≠ m.id) ∧ u.mem = s.mem ∧ (∀ q, (u.bay q).wings = (s.bay q).wings))

/-- R174, R177, R117, R176: a run-ahead request fetches the permitted granules of its 256 B block and drops and counts the others; a stale
granule's refetch replaces its bytes; the end of a MOVE frees its place and adds 1 to its DONE semaphore. -/
def Obligations.RunaheadRefetchAndDone : Prop :=
  (∀ s e m i j a ls, EngineRuns s e → runMove (s.eng e).q = some m → (s.eng e).inflight < 64 → i = s.nextSrc m (m.count - max m.m m.ra) (max m.m m.ra) → i < m.count →
    (s.elemAt m i).src = some (.dev a, false) → s.runFrom m (a / 256) (512 / (s.elemAt m i).h) i = (j, ls) → m.missing ls = [.dev a] →
    s.watches m (a / 64) = false → s.place a = .ddr → s.place (a / 64 * 64) = .ddr → ddrSound s →
    ∃ t, exec (.runaheadRequest e) s = .next t ∧
      (t.eng e).q = (s.eng e).q.map (fun x => if x.id = m.id then { m with ra := j, reqs := m.reqs ++ [{ m0 := i, m1 := j, gs :=
        [if s.permits a false = true then { granule := a / 64, bytes := s.ddrBytes (a / 64 * 64) 64 } else { granule := a / 64, bad := true }] }] } else x) ∧
      (s.permits a false = false →
        t.get STR_RADROP_COUNT e = min (s.get STR_RADROP_COUNT e + 1) (2 ^ STR_RADROP_COUNT.w - 1) ∧ t.ports = s.ports) ∧
      t.mem = s.mem ∧ t.bays = s.bays ∧ (∀ x, x ≠ e → t.eng x = s.eng x))
  ∧ (∀ s e m rest f, EngineRuns s e → (s.eng e).q = m :: rest → (m.holding.find? fun x => x.refetch) = some f →
    (m.fetched f.granule).isSome = true → s.place (64 * f.granule) = .ddr → ddrSound s →
    ∃ t m', exec (.staleRefetch e) s = .next t ∧ (t.eng e).q = m' :: rest ∧ m' = { m with reqs := m'.reqs, kept := m'.kept } ∧
      m'.reqs = m.reqs.map (fun r => { r with gs := r.gs.map (refreshed s f) }) ∧ m'.kept = m.kept.map (refreshed s f) ∧
      t.get STR_STALE_REFETCH e = min (s.get STR_STALE_REFETCH e + 1) (2 ^ STR_STALE_REFETCH.w - 1) ∧
      t.mem = s.mem ∧ t.bays = s.bays ∧ (∀ x, x ≠ e → t.eng x = s.eng x))
  ∧ (∀ s e m rest sem, e < 104 → s.clocked = true → (s.eng e).q = m :: rest → m.count ≤ m.m → m.done = some sem →
    s.get CUE_SEM_VALUE m.phys sem + 1 ≤ 65535 →
    ∃ t, exec (.moveDone e) s = .next t ∧ (t.eng e).q = (m :: rest).filter (fun x => x.id != m.id) ∧
      t.get CUE_SEM_VALUE m.phys sem = s.get CUE_SEM_VALUE m.phys sem + 1 ∧
      t.bay m.phys = { s.bay m.phys with moves := (s.bay m.phys).moves.erase m.id } ∧ (∀ l ∈ t.ledger, l ∈ s.ledger ∧ l.move ≠ m.id) ∧
      (∀ r, r ≠ ⟨.CUE_SEM, m.phys, sem⟩ → t.raw r = s.raw r) ∧ t.mem = s.mem ∧ (∀ q, q ≠ m.phys → t.bay q = s.bay q) ∧ (∀ x, x ≠ e → t.eng x = s.eng x))

/-- R172: COMMIT marks the windows as staged; with no running order in force they take effect by themselves, and a granule is permitted
exactly where a window in force holds it with that permission. -/
def Obligations.WindowsAreCommittedAndApplied : Prop :=
  (∀ s, HostWrites s ⟨.STR_WINCTL, 0, 0⟩ → ∃ t, exec .strWinctlCommit s = .next t ∧ t.get STR_WINCTL_PEND = 1 ∧
      (∃ w, t.winPend = some w ∧ ∀ n, n < 64 → (s.flag STR_WINW0_RD 0 n = true ∨ s.flag STR_WINW0_W 0 n = true) →
        Tab.get {} w n = { base := s.get STR_WINW0_BASE 0 n, limit := s.get STR_WINW1_LIMIT 0 n, rd := s.flag STR_WINW0_RD 0 n, w := s.flag STR_WINW0_W 0 n }) ∧
      KeepsRegs (· = ⟨.STR_WINCTL, 0, 0⟩) s t ∧ t = { s with regs := t.regs, winPend := t.winPend })
  ∧ (∀ s w, s.clocked = true → s.flag RUN_STAT_ACTIVE = false → s.winPend = some w →
      ∃ t, exec .windowApply s = .next t ∧ t.windows = w ∧ t.winPend = none ∧ t.get STR_WINCTL_PEND = 0 ∧
        (∀ a wr, t.permits a wr = true ↔ s.place a ≠ .none ∧ ∃ x ∈ w, x.2.base ≤ a / 64 ∧ a / 64 ≤ x.2.limit ∧ (if wr then x.2.w else x.2.rd) = true) ∧
        KeepsRegs (· = ⟨.STR_WINCTL, 0, 0⟩) s t ∧ t = { s with regs := t.regs, windows := w, winPend := none })

/-! ## Main memory -/

namespace Sys2Proof.Claims

open Sys2Proof.Machine

/-- The module event `n` has its bit set (R450). -/
def eventSet (t : State) (n : Nat) : Prop := (t.get HST_EVSTAT_EVENTS).testBit n = true

/-- Registers that an event of the module may touch: event status and the pending bits of its vector. -/
def eventReg (r : Reg) : Prop := r = ⟨.HST_EVSTAT, 0, 0⟩ ∨ named .MSIX_PBA 0 r

end Sys2Proof.Claims

/-- R192, R194, R195: patrol corrects, counts and records a correctable granule, counts and records an uncorrectable one, which stays poisoned and
raises event MEMORY; refresh changes nothing. -/
def Sys2Proof.Claims.PatrolAndRefresh : Prop :=
  (∀ s g, s.ddrServed = true → 64 * g < s.ddrSize →
    let c := s.chanOf (64 * g)
    s.get MEM_PATROL_HOURS c ≠ 0 → markOf s.memErr g = some .corr →
    ∃ t, exec (.patrolScrub g) s = .next t ∧ markOf t.memErr g = none ∧ (∀ x, x ≠ g → markOf t.memErr x = markOf s.memErr x) ∧
      t.get MEM_ECC_CORR c = counted MEM_ECC_CORR (s.get MEM_ECC_CORR c) 1 ∧
      t.get MEM_ERRADDR_VALID c = 1 ∧ t.get MEM_ERRADDR_UNC c = 0 ∧ t.get MEM_ERRADDR_ADDR c = 64 * g % 2 ^ 48 ∧
      KeepsRegs (fun r => r = ⟨.MEM_ECC, c, 0⟩ ∨ r = ⟨.MEM_ERRADDR, c, 0⟩) s t ∧ t = { s with regs := t.regs, memErr := t.memErr })
  ∧ (∀ s g, s.ddrServed = true → 64 * g < s.ddrSize →
    let c := s.chanOf (64 * g)
    s.get MEM_PATROL_HOURS c ≠ 0 → markOf s.memErr g = some .uncorr →
    ∃ t, exec (.patrolScrub g) s = .next t ∧ t.memErr = s.memErr ∧ t.mem = s.mem ∧
      t.get MEM_ECC_UNCORR c = counted MEM_ECC_UNCORR (s.get MEM_ECC_UNCORR c) 1 ∧
      t.get MEM_ERRADDR_VALID c = 1 ∧ t.get MEM_ERRADDR_UNC c = 1 ∧ t.get MEM_ERRADDR_ADDR c = 64 * g % 2 ^ 48 ∧ eventSet t 6 ∧
      KeepsRegs (fun r => r = ⟨.MEM_ECC, c, 0⟩ ∨ r = ⟨.MEM_ERRADDR, c, 0⟩ ∨ eventReg r) s t ∧ t = { s with regs := t.regs, host := t.host })
  ∧ (∀ s c, c < 32 → exec (.refresh c) s = .next s)

/-- R196: MEM_ZERO.GO with no running order active and no channel migrating starts a scrub, which first invalidates the depots; in any other condition it
sets REFUSED. A scrub's end leaves every byte of DDR zero and readable, and raises event MEMORY. -/
def Sys2Proof.Claims.MemoryScrubZeroesDdr : Prop :=
  (∀ s, HostWrites s ⟨.MEM_ZERO, 0, 0⟩ → s.flag RUN_STAT_ACTIVE = false → s.retire.chan = none →
    ∃ t, exec .memZeroGo s = .next t ∧ t.get MEM_ZERO_BUSY = 1 ∧ t.get MEM_ZERO_REFUSED = 0 ∧
      (∀ p, p < 4 → (t.port p).depot.lines = [] ∧ (t.port p).depot.errs = [] ∧ t.get DEP_STAT_DIRTY p = 0) ∧
      KeepsRegs (fun r => r = ⟨.MEM_ZERO, 0, 0⟩ ∨ r.name = .DEP_STAT) s t ∧ t = { s with regs := t.regs, ports := t.ports })
  ∧ (∀ s, HostWrites s ⟨.MEM_ZERO, 0, 0⟩ → (s.flag RUN_STAT_ACTIVE = true ∨ s.retire.chan.isSome = true) →
    ∃ t, exec .memZeroGo s = .next t ∧ t.get MEM_ZERO_REFUSED = 1 ∧ t.get MEM_ZERO_BUSY = s.get MEM_ZERO_BUSY ∧
      KeepsRegs (· = ⟨.MEM_ZERO, 0, 0⟩) s t ∧ t = { s with regs := t.regs })
  ∧ (∀ s, s.clocked = true → s.flag MEM_ZERO_BUSY = true → s.host.waiting = [] →
    ∃ t, exec .memZeroDone s = .next t ∧ (∀ a, t.ddrByte a = 0) ∧ t.get MEM_ZERO_BUSY = 0 ∧ eventSet t 6 ∧
      KeepsRegs (fun r => r = ⟨.MEM_ZERO, 0, 0⟩ ∨ eventReg r) s t ∧ t = { s with regs := t.regs, mem := [], memErr := [], host := t.host })

/-- Patrol, refresh and the whole-memory scrub. -/
def Obligations.PatrolRefreshAndScrub : Prop :=
  Sys2Proof.Claims.PatrolAndRefresh ∧ Sys2Proof.Claims.MemoryScrubZeroesDdr

/-- R197, R198, R361: a request to retire a channel is accepted, or refused without a change to a migration in progress; the automatic policy makes it a candidate for the host or requests it. -/
def Sys2Proof.Claims.ChannelRetirementIsRequested : Prop :=
  (∀ s (v : W32), HostWrites s ⟨.MEM_RETIRE, 0, 0⟩ → v.getLsbD 31 = true → s.boot.reserve = true → s.flag MEM_INFO_RETIRED = false →
    s.retire.chan = none → s.flag MEM_ZERO_BUSY = false → s.flag UST_STAT_CHANV = false →
    let x := bits v.toNat 0 5
    ∃ t, exec (.memRetireGo v) s = .next t ∧ t.get MEM_RETIRE_STATE = 1 ∧ t.get MEM_RETIRE_CHAN = x ∧ t.get MEM_CHSTAT_STATE x = 1 ∧
      t.get MEM_MIGPOS_GRANULES = 0 ∧ t.retire.chan = some x ∧ (∀ l ∈ (t.port (x / 8)).depot.lines, chanHash (256 * l.1) ≠ x) ∧
      (∀ l ∈ (s.port (x / 8)).depot.lines, chanHash (256 * l.1) ≠ x → l ∈ (t.port (x / 8)).depot.lines) ∧ t.mem = s.mem ∧
      KeepsRegs (fun r => r = ⟨.MEM_RETIRE, 0, 0⟩ ∨ r = ⟨.MEM_CHSTAT, x, 0⟩ ∨ r = ⟨.MEM_MIGPOS, 0, 0⟩ ∨ r = ⟨.DEP_STAT, x / 8, 0⟩ ∨ r = ⟨.DEP_ECC, x / 8, 0⟩ ∨ r.name = .OBS_CNT) s t)
  ∧ (∀ s (v : W32), HostWrites s ⟨.MEM_RETIRE, 0, 0⟩ → v.getLsbD 31 = true →
    (s.boot.reserve = false ∨ s.flag MEM_INFO_RETIRED = true ∨ s.retire.chan.isSome = true ∨ s.flag MEM_ZERO_BUSY = true) →
    ∃ t, exec (.memRetireGo v) s = .next t ∧ t.get MEM_RETIRE_STATE = 3 ∧ KeepsRegs (· = ⟨.MEM_RETIRE, 0, 0⟩) s t ∧ t = { s with regs := t.regs })
  ∧ (∀ s x, x < 32 → s.ddrServed = true → s.flag UST_CFG_CHANAUTO = false →
    ∃ t, exec (.channelAutoRetire x) s = .next t ∧ t.get UST_STAT_CHANV = 1 ∧ t.get UST_STAT_CHAN = x ∧ t.pins.alertN = false ∧
      (s.pins.alertN = true → eventSet t 0) ∧ KeepsRegs (fun r => r = ⟨.UST_STAT, 0, 0⟩ ∨ eventReg r) s t ∧
      t = { s with regs := t.regs, pins := t.pins, host := t.host })

/-- R197 to R199: in best-effort time migration remaps the channel's live granules one by one to surviving channels, each to the reserve
granule the rule names; the last turns the channel off and raises event MEMORY. -/
def Sys2Proof.Claims.ChannelMigratesAndRetires : Prop :=
  (∀ s x, s.clocked = true → s.retire.chan = some x →
    let g := s.get MEM_MIGPOS_GRANULES
    s.beSlot = true → g < s.liveGranules → g < 2 ^ 32 - 1 → (s.ledger.any fun l => l.granule / 32 == granuleAddr x g / 2048) = false → ddrSound s →
    ∃ t, exec .migrateGranule s = .next t ∧ t.get MEM_MIGPOS_GRANULES = g + 1 ∧ t.mem = s.mem ∧
      (∀ a, chanHash a = x → localGranule a = g → s.flag MEM_INFO_RETIRED = false → t.homeOf a = (survivor x (g % 31), s.reserveBase / 65536 + g / 31)) ∧
      KeepsRegs (fun r => r = ⟨.MEM_MIGPOS, 0, 0⟩ ∨ r = ⟨.DEP_STAT, x / 8, 0⟩ ∨ r.name = .OBS_CNT) s t ∧
      t = { s with regs := t.regs, ports := t.ports, obs := t.obs })
  ∧ (∀ s x, s.clocked = true → s.retire.chan = some x → s.liveGranules ≤ s.get MEM_MIGPOS_GRANULES → x < 32 →
    ∃ t, exec .chanRetired s = .next t ∧ t.get MEM_RETIRE_STATE = 2 ∧ t.get MEM_CHSTAT_STATE x = 2 ∧ t.get MEM_INFO_RETIRED = 1 ∧ t.get MEM_INFO_RCHAN = x ∧
      (t.get PWR_DOMSTAT_ON (8 + x / 8)).testBit (x % 8) = false ∧ t.retire.chan = none ∧ eventSet t 6 ∧
      (∀ a, chanHash a = x → t.homeOf a = (survivor x (localGranule a % 31), s.reserveBase / 65536 + localGranule a / 31)) ∧ t.mem = s.mem ∧
      KeepsRegs (fun r => r = ⟨.MEM_RETIRE, 0, 0⟩ ∨ r = ⟨.MEM_CHSTAT, x, 0⟩ ∨ r = ⟨.MEM_INFO, 0, 0⟩ ∨ r = ⟨.PWR_DOMSTAT, 8 + x / 8, 0⟩ ∨ eventReg r) s t)

/-- A channel is retired: request, migration, end. -/
def Obligations.ChannelsAreRetired : Prop :=
  Sys2Proof.Claims.ChannelRetirementIsRequested ∧ Sys2Proof.Claims.ChannelMigratesAndRetires

/-- R202: FLUSH, and clearing ENABLE, start a write-back of the depot; when it completes no line is dirty, and after a cleared ENABLE the depot is empty. Memory is unchanged. -/
def Obligations.DepotIsWrittenBack : Prop :=
  (∀ s p, p < 4 → HostWrites s ⟨.DEP_CTL, p, 0⟩ →
    ∃ t, exec (.depCtlFlush p) s = .next t ∧ t.get DEP_STAT_FLUSHING p = 1 ∧ t.get DEP_CTL_ENABLE p = s.get DEP_CTL_ENABLE p ∧
      (t.port p).depot.lines = (s.port p).depot.lines ∧ (∀ q, q ≠ p → t.port q = s.port q) ∧
      KeepsRegs (fun r => r = ⟨.DEP_CTL, p, 0⟩ ∨ r = ⟨.DEP_STAT, p, 0⟩) s t ∧ t = { s with regs := t.regs, ports := t.ports })
  ∧ (∀ s p, p < 4 → HostWrites s ⟨.DEP_CTL, p, 0⟩ → s.get DEP_CTL_ENABLE p = 1 →
    ∃ t, exec (.depCtlDisable p) s = .next t ∧ t.get DEP_STAT_FLUSHING p = 1 ∧ t.get DEP_CTL_ENABLE p = 0 ∧
      (t.port p).depot = { (s.port p).depot with disabling := true } ∧ (∀ q, q ≠ p → t.port q = s.port q) ∧
      KeepsRegs (fun r => r = ⟨.DEP_CTL, p, 0⟩ ∨ r = ⟨.DEP_STAT, p, 0⟩) s t ∧ t = { s with regs := t.regs, ports := t.ports })
  ∧ (∀ s p, p < 4 → s.clocked = true → s.flag DEP_STAT_FLUSHING p = true →
    ∃ t, exec (.depotFlushDone p) s = .next t ∧ t.get DEP_STAT_FLUSHING p = 0 ∧ t.get DEP_STAT_DIRTY p = 0 ∧
      ((s.port p).depot.disabling = false → (t.port p).depot.lines = (s.port p).depot.lines.map fun l => (l.1, false)) ∧
      ((s.port p).depot.disabling = true → (t.port p).depot = {}) ∧ t.mem = s.mem ∧ (∀ q, q ≠ p → t.port q = s.port q) ∧
      KeepsRegs (fun r => r = ⟨.DEP_STAT, p, 0⟩ ∨ r = ⟨.DEP_ECC, p, 0⟩ ∨ r.name = .OBS_CNT) s t)

/-- R210, R212, R213: with no access to DDR in error GO starts a scan of a range of DDR from the initial value or the value in force, or is refused with WINDOW; the scan's end, and a PAUSE on a
64 B boundary, leave in CHK_RUN the running value over the bytes covered. Data are not changed. -/
def Obligations.HostScansRunTheirCheckValue : Prop :=
  (∀ s e (v : W32), e < 8 → HostWrites s ⟨.CHK_CTL, e, 0⟩ → v.getLsbD 2 = true → v.getLsbD 3 = false → s.flag CHK_STAT_BUSY e = false →
    s.get CHK_START_ADDR e + s.get CHK_LEN_BYTES e ≤ (if s.boot.reserve then s.reserveBase else s.ddrSize) →
    ∃ t, exec (.chkGo e v) s = .next t ∧ t.get CHK_STAT_BUSY e = 1 ∧ t.get CHK_STAT_PAUSED e = 0 ∧ t.get CHK_POS_BYTES e = 0 ∧
      t.scan e = some { start := s.get CHK_START_ADDR e, len := s.get CHK_LEN_BYTES e, alg := b2n (v.getLsbD 0) } ∧
      t.get CHK_RUN_VALUE e = (if v.getLsbD 1 then crcOnes (b2n (v.getLsbD 0)) else s.get CHK_RUN_VALUE e) ∧ t.mem = s.mem ∧
      t.get CHK_RESULT_VALUE e = (t.get CHK_RUN_VALUE e % (crcOnes (b2n (v.getLsbD 0)) + 1) ^^^ crcOnes (b2n (v.getLsbD 0))) % 2 ^ 64 ∧
      KeepsRegs (fun r => r = ⟨.CHK_CTL, e, 0⟩ ∨ r = ⟨.CHK_STAT, e, 0⟩ ∨ r = ⟨.CHK_POS, e, 0⟩ ∨ r = ⟨.CHK_RUN, e, 0⟩ ∨ r = ⟨.CHK_RESULT, e, 0⟩) s t)
  ∧ (∀ s e (v : W32), e < 8 → HostWrites s ⟨.CHK_CTL, e, 0⟩ → v.getLsbD 2 = true → v.getLsbD 3 = false → s.flag CHK_STAT_BUSY e = false →
    (if s.boot.reserve then s.reserveBase else s.ddrSize) < s.get CHK_START_ADDR e + s.get CHK_LEN_BYTES e →
    ∃ t, exec (.chkGo e v) s = .next t ∧ t.get CHK_STAT_CODE e = cWINDOW ∧ t.get CHK_STAT_BUSY e = 0 ∧ t = { s with regs := t.regs })
  ∧ (∀ s e x, e < 8 → s.clocked = true → s.scan e = some x → ddrSound s → x.start + x.len ≤ s.ddrSize → s.boot.reserve = false →
    ∃ t, exec (.chkScanDone e) s = .next t ∧ t.get CHK_STAT_BUSY e = 0 ∧ t.get CHK_STAT_CODE e = cOK ∧ t.scan e = none ∧
      t.get CHK_RUN_VALUE e = crcRun (crcPoly x.alg) (s.get CHK_RUN_VALUE e % (crcOnes x.alg + 1)) (s.mem.readN x.start x.len) % 2 ^ 64 ∧
      t.get CHK_POS_BYTES e = x.len % 2 ^ 41 ∧ t.mem = s.mem ∧ ddrSound t)
  ∧ (∀ s e covered x, e < 8 → HostWrites s ⟨.CHK_CTL, e, 0⟩ → s.scan e = some x → ddrSound s → x.start + x.len ≤ s.ddrSize → s.boot.reserve = false →
    let n := (covered + 63) / 64 * 64
    n < x.len →
    ∃ t, exec (.chkPause e covered) s = .next t ∧ t.get CHK_STAT_BUSY e = 0 ∧ t.get CHK_STAT_PAUSED e = 1 ∧ t.scan e = none ∧
      t.get CHK_RUN_VALUE e = crcRun (crcPoly x.alg) (s.get CHK_RUN_VALUE e % (crcOnes x.alg + 1)) (s.mem.readN x.start n) % 2 ^ 64 ∧
      t.get CHK_POS_BYTES e = n % 2 ^ 41 ∧ t.mem = s.mem)

/-! ## The running order -/

namespace Sys2Proof.Claims

open Sys2Proof.Machine

/-- A register of one of some names. -/
def touches (ns : List RegName) (r : Reg) : Prop := r.name ∈ ns

/-- Registers that the end of a command may touch besides its unit's own (R75, R141, R310, R315, R450). -/
def endRegs : List RegName := [.GRM_STAGE, .CUE_SEQSTAT, .CUE_SHEETNO, .RUN_TABLE, .HST_EVSTAT, .MSIX_PBA, .RST_CURTSTAT]

/-- No ring of the central reader is enabled, so no record is written. -/
def ringsOff (s : State) : Prop := ∀ n, n < 4 → s.flag OBS_RINGCTL_EN n = false

/-- Device addresses `a` to `a + n - 1` lie in DDR outside the reserve. -/
def inDdr (s : State) (a n : Nat) : Prop := ∀ k, k < n → s.place (a + k) = .ddr

/-- The lane's logical bays have physical bays of their own. -/
def laneApart (s : State) (mask : W64) : Prop := (laneBays mask).Pairwise fun x y => s.phys x ≠ s.phys y

end Sys2Proof.Claims

/-- R205 to R209, R311: a GATHER command starts its job on the free engine of its port die; a DIRECT job of one index in range copies that row; the
job's end writes CODE and UCOUNT into word 7 of the record and ends the command. -/
def Obligations.GatherJobRunsAndEnds : Prop :=
  (∀ s id c, s.clocked = true → s.cmd id = some c → c.op = 2 → c.phase = .starting → (s.port c.port).gather = none → s.mayStart = true →
    let r := ((s.put GTH_JOB_ADDR c.arg c.port).takeWays c.port).runJob c.arg
    r.1.stop ≠ some .held →
    ∃ t, exec (.gatherCommand id) s = .next t ∧
      (t.port c.port).gather = some { cid := id, recAddr := c.arg, notify := r.2.2.2.1, code := r.2.1, ucount := r.2.2.1, reduce := r.2.2.2.2 == 2 } ∧
      (t.cmd id).map (·.phase) = some .running ∧ t.get GTH_STAT_STATE c.port ∈ gatherPhases r.2.2.2.2 ∧ t.mem = r.1.s.mem ∧ t.bays = r.1.s.bays)
  ∧ (∀ (j : Job) (r : JobRec) i, j.stop = none → r.count = 1 → 0 < r.rl → r.rl ≤ 4096 → r.rl % 64 = 0 → r.src % 64 = 0 → r.idx % 64 = 0 → r.dst % 64 = 0 →
    j.s.curt = none → ddrSound j.s → leVal (j.s.ddrBytes r.idx 4) = i → i < r.nrows →
    inDdr j.s r.idx 4 → inDdr j.s (r.src + i * r.rl) r.rl → inDdr j.s r.dst r.rl →
    j.s.unpermitted r.idx 4 false = none → j.s.unpermitted (r.src + i * r.rl) r.rl false = none → j.s.unpermitted r.dst r.rl true = none →
    let m := (j.direct r).1.s.mem
    (j.direct r).1.stop = none ∧ (∀ k, k < r.rl → m.read (r.dst + k) = j.s.mem.read (r.src + i * r.rl + k)) ∧
      (∀ a, (a < r.dst ∨ r.dst + r.rl ≤ a) → m.read a = j.s.mem.read a))
  ∧ (∀ s pd x c, pd < 4 → s.clocked = true → ringsOff s → (s.port pd).gather = some x → s.curt = none → x.code = cOK → x.ucount < 2 ^ 21 → x.recAddr % 64 = 0 → x.notify = none →
    s.cmd x.cid = some c → c.mask = 0 → inDdr s (x.recAddr + 56) 8 → s.unpermitted (x.recAddr + 56) 8 true = none → ddrSound s → s.ledger = [] →
    ∃ t, exec (.gatherJobDone pd) s = .next t ∧ (t.port pd).gather = none ∧ t.cmd x.cid = none ∧
      t.get GTH_STAT_STATE pd = 0 ∧ t.get GTH_STAT_CODE pd = cOK ∧ t.get GTH_STAT_UCOUNT pd = x.ucount ∧ t.get DEP_STAT_GTHWAYS pd = 0 ∧
      (∀ (i : Nat) v, (wordsBytes [cOK * 2 ^ 56 + x.ucount])[i]? = some v → t.mem.read (x.recAddr + 56 + i) = v) ∧
      (∀ a, (a < x.recAddr + 56 ∨ x.recAddr + 64 ≤ a) → t.mem.read a = s.mem.read a) ∧
      KeepsRegs (fun r => r = ⟨.GTH_STAT, pd, 0⟩ ∨ touches [.DEP_STAT, .OBS_CNT] r ∨ touches endRegs r) s t)

/-- R75, R80 to R82, R84, R309: a RUN command whose parts are all resident issues the first cue of each part at its BASE on every bay of its lane together;
otherwise its bays load. -/
def Sys2Proof.Claims.RunCommandStartsItsSheet : Prop :=
  (∀ s u id c hdr, s.clocked = true → ringsOff s → s.cmd id = some c → c.op = 1 → c.phase = .starting → c.resume = false → c.staged = some true →
    s.laneFree c = true → s.mayStart = true → s.ro.seedPending = false → (s.noteStart id).sheetFor c = (u, .ok (hdr, none)) → hdr < 2 ^ 32 → laneApart s c.mask →
    ∃ t, exec (.runCommand id) s = .next t ∧ (t.cmd id).map (·.phase) = some .running ∧
      (∀ lb ∈ laneBays c.mask, let p := s.phys lb
        t.get CUE_SEQSTAT_STATE p = 3 ∧ t.get CUE_SEQSTAT_PC p = u.get CUE_RESTAB_LO_BASE p ((u.residentEntry p c.sheet hdr).getD 0) ∧
        (t.bay p).cid = some id ∧ t.get CUE_SHEETNO_ACTIVE p = 1) ∧
      (∀ q, (∀ lb ∈ laneBays c.mask, s.phys lb ≠ q) → t.bay q = u.bay q) ∧ t.mem = s.mem)
  ∧ (∀ s u id c hdr pl, s.clocked = true → ringsOff s → s.cmd id = some c → c.op = 1 → c.phase = .starting → c.resume = false → c.staged = some true →
    s.laneFree c = true → s.mayStart = true → (s.noteStart id).sheetFor c = (u, .ok (hdr, some pl)) → laneApart s c.mask →
    ∃ t, exec (.runCommand id) s = .next t ∧ (t.cmd id).map (fun x => (x.phase, x.plan)) = some (.loading, some pl) ∧
      (∀ lb ∈ laneBays c.mask, let p := s.phys lb
        t.get CUE_SEQSTAT_STATE p = (if pl.rows.any fun r => r.bay == lb && !r.resident then 2 else 1) ∧ (t.bay p).cid = some id ∧
        (t.bay p).wings = (u.bay p).wings ∧ (t.bay p).cueMem = (u.bay p).cueMem) ∧ t.mem = s.mem)

/-- R80, R82: when the body of a one-bay sheet has arrived and passed every check, its part takes an entry of the resident-sheet table and its lane issues the
part's first cue; a body that fails a check ends the command with that code. -/
def Sys2Proof.Claims.SheetLoadEndsInTheFirstCue : Prop :=
  (∀ s u id c pl r lb, s.clocked = true → ringsOff s → s.cmd id = some c → c.phase = .loading → c.resume = false → c.plan = some pl → pl.rows = [r] → r.resident = false →
    laneBays c.mask = [lb] → r.bay = lb → s.loadBody c pl (s.sheetOpens pl c.sheet) r = (u, cOK) → c.hdrcrc = pl.hdrcrc → pl.hdrcrc < 2 ^ 32 → c.sheet < 4096 → r.base < 2 ^ 14 →
    let p := s.phys lb
    u.residentEntry p c.sheet pl.hdrcrc = none → (∃ e, e < 32 ∧ u.flag CUE_RESTAB_LO_VALID p e = false) →
    ∃ t, exec (.sheetLoadDone id) s = .next t ∧ (t.cmd id).map (·.phase) = some .running ∧ t.get CUE_SEQSTAT_STATE p = 3 ∧ t.get CUE_SEQSTAT_PC p = r.base ∧
      (t.residentEntry p c.sheet pl.hdrcrc).isSome = true ∧ (t.bay p).cueMem = (u.bay p).cueMem ∧ t.mem = s.mem)
  ∧ (∀ s u id c pl r code, s.clocked = true → ringsOff s → s.cmd id = some c → c.phase = .loading → c.plan = some pl → pl.rows = [r] → r.resident = false →
    s.loadBody c pl (s.sheetOpens pl c.sheet) r = (u, code) → code ≠ cOK →
    ∃ t, exec (.sheetLoadDone id) s = .next t ∧ t.cmd id = none ∧ t.mem = s.mem ∧ (∀ lb ∈ laneBays c.mask, (u.bay (s.phys lb)).cid = some id → t.get CUE_SEQSTAT_STATE (s.phys lb) = 1))

/-- A RUN command starts or loads its sheet. -/
def Obligations.RunCommandsLoadAndStart : Prop :=
  Sys2Proof.Claims.RunCommandStartsItsSheet ∧ Sys2Proof.Claims.SheetLoadEndsInTheFirstCue

/-- R279, R256, R259: a milepost command before its open time sets FAB_MPSTAT and waits; a snapshot command with a sound request begins to stream; a snapshot whose
records have all been streamed ends its command. -/
def Obligations.MilepostAndSnapshotCommands : Prop :=
  (∀ s id c, s.clocked = true → s.cmd id = some c → c.op = 3 → c.phase = .starting → s.mp.cid = none → s.mayStart = true → s.clk.sys < c.tk → s.mp.prev = none →
    s.get FAB_DLINE_MICROS 0 0 < s.get FAB_DLINE_MICROS 0 1 → s.get FAB_DLINE_MICROS 0 1 < s.get FAB_DLINE_MICROS 0 2 →
    s.get FAB_DLINE_MICROS 0 2 < s.get FAB_DLINE_MICROS 0 3 →
    ∃ t, exec (.milepostCommand id) s = .next t ∧ t.get FAB_MPSTAT_MILEPOST = c.k % 2 ^ 32 ∧ t.get FAB_MPSTAT_OPEN = 0 ∧ t.get FAB_MPSTAT_PDONE = 0 ∧
      t.mp.cid = some id ∧ t.mp.k = c.k ∧ t.mp.tk = c.tk ∧ t.mp.opened = false ∧ (t.cmd id).map (·.phase) = some .running ∧
      KeepsRegs (fun r => r = ⟨.FAB_MPSTAT, 0, 0⟩ ∨ r.name = .TLH_UPDSTAT) s t ∧ t = { s with regs := t.regs, fab := { s.fab with mp := t.mp }, ro := { s.ro with cmds := t.ro.cmds } })
  ∧ (∀ s u id c bs, s.clocked = true → s.cmd id = some c → c.op = 4 → c.phase = .starting → (s.port c.port).snap = none → s.mayStart = true → c.arg % 64 = 0 →
    s.readFor (some id) c.arg 64 = (u, .ok bs) →
    let w := recWord bs
    fld (w 0) 61 44 = 0 → fld (w 2) 63 45 = 0 → fld (w 2) 31 12 = 0 → (∀ i, 4 ≤ i → i < 8 → w i = 0) → 1 ≤ fld (w 2) 44 32 → fld (w 2) 44 32 ≤ 4096 →
    fld (w 2) 11 0 + fld (w 2) 44 32 ≤ s.get TLH_SHARDCNT_COUNT c.port → w 1 % 4096 = 0 → w 3 % 4096 = 0 →
    ∃ t, exec (.snapshotCommand id) s = .next t ∧ t.get TLH_UPDSTAT_SNAP c.port = 1 ∧ (t.cmd id).map (·.phase) = some .running ∧
      (t.port c.port).snap = some
        { cid := id, dest1 := bit (w 0) 63, peer := fld (w 0) 43 32, manifest := bit (w 0) 62, milepost := fld (w 0) 31 0, daddr := w 1, first := fld (w 2) 11 0, nshard := fld (w 2) 44 32, maddr := w 3, next := fld (w 2) 11 0, addr := w 1 } ∧ t.mem = s.mem)
  ∧ (∀ s id c x, s.clocked = true → ringsOff s → s.cmd id = some c → (s.port c.port).snap = some x → x.cid = id → x.code = none → x.next = x.first + x.nshard → x.manifest = false →
    ∃ t, exec (.snapshotComplete id) s = .next t ∧ t.get TLH_UPDSTAT_SNAP c.port = 0 ∧ (t.port c.port).snap = none ∧ t.cmd id = none ∧
      t.host.writes = s.host.writes ∧ t.fab = s.fab ∧ t.mem = s.mem ∧ KeepsRegs (fun r => r = ⟨.TLH_UPDSTAT, c.port, 0⟩ ∨ touches endRegs r) s t)

/-- R302, R304: GO with an image that passes every check makes it wait for a frame start; STOP waits for the next slot boundary; the waiting image takes effect
at its time, and is a seed point for the first command. -/
def Obligations.RunningOrderImageTakesEffect : Prop :=
  (∀ s u (v : W32) im, HostWrites s ⟨.RUN_CTL, 0, 0⟩ → v.getLsbD 0 = true → v.getLsbD 1 = false → s.get SEC_STATE_STATE ≠ 2 →
    (s.writeFields ⟨.RUN_CTL, 0, 0⟩ v.toNat).readImage (s.get RUN_BASE_ADDR) = (u, .ok im) →
    ∃ t, exec (.runCtlGo v) s = .next t ∧ t.get RUN_STAT_CODE = cOK ∧ t.get RUN_STAT_PEND = 1 ∧ t.get RUN_FRAME_FRAMES = 0 ∧ eventSet t 3 ∧
      t.ro.next = some im ∧ t.ro.image = s.ro.image ∧
      (s.flag RUN_STAT_ACTIVE = false → t.ro.nextAt = ceilDiv (s.clk.sys + 20000) im.period * im.period) ∧
      (∀ old, s.flag RUN_STAT_ACTIVE = true → s.ro.image = some old → t.ro.nextAt = ceilDiv (max (s.clk.sys + 1) s.ro.noneBefore) old.period * old.period) ∧ t.mem = s.mem)
  ∧ (∀ s u (v : W32) code, HostWrites s ⟨.RUN_CTL, 0, 0⟩ → v.getLsbD 0 = true → v.getLsbD 1 = false → s.get SEC_STATE_STATE ≠ 2 →
    (s.writeFields ⟨.RUN_CTL, 0, 0⟩ v.toNat).readImage (s.get RUN_BASE_ADDR) = (u, .error code) → code < 256 →
    ∃ t, exec (.runCtlGo v) s = .next t ∧ t.get RUN_STAT_CODE = code ∧ eventSet t 3 ∧ t.ro = s.ro ∧ t.mem = s.mem)
  ∧ (∀ s (v : W32), HostWrites s ⟨.RUN_CTL, 0, 0⟩ → v.getLsbD 1 = true → v.getLsbD 0 = false → s.flag RUN_STAT_ACTIVE = true →
    ∃ t, exec (.runCtlStop v) s = .next t ∧ (∀ r, t.raw r = s.raw r) ∧ t = { s with regs := t.regs, ro := { s.ro with stopping := true } })
  ∧ (∀ s im, s.clocked = true → s.ro.next = some im → s.ro.stopping = false → s.ro.nextAt ≤ s.clk.sys →
    ∃ t, exec .imageTakeEffect s = .next t ∧ t.get RUN_STAT_ACTIVE = 1 ∧ t.get RUN_STAT_REH = b2n im.reh ∧ t.get RUN_STAT_PEND = 0 ∧
      t.ro.image = some im ∧ t.ro.next = none ∧ t.ro.noneBefore = max s.ro.noneBefore s.ro.nextAt ∧ t.ro.seedPending = true ∧ t.ro.cmds = s.ro.cmds ∧
      KeepsRegs (fun r => touches [.RUN_STAT, .UST_SVCUS, .UST_LOSTUS, .UST_EXCLUS, .UST_LOSTEV] r) s t ∧ t = { s with regs := t.regs, ro := t.ro })

/-- R299, R306, R310, R395: a slot boundary shows act and slot once; during a shed it accepts a READY entry that R306 does not refuse and starts nothing; a TABLE slot
whose units are free creates its command; a waiting STOP ends the running order. -/
def Sys2Proof.Claims.SlotBoundaryServesItsSlot : Prop :=
  (∀ s im n j b e, s.clocked = true → s.ro.next = none → s.flag RUN_STAT_ACTIVE = true → s.ro.image = some im → s.ro.stopping = false → im.slotOf s.clk.sys = (n, j, b) → s.ro.noneBefore ≤ b →
    s.shed = true → (∀ d, d < 8 → (s.die d).swap = none) → im.nact ≤ 8 → 0 < im.nact → e < 64 → bit ((s.board e).word 0) 31 = true → (s.board e).state = stFREE → s.boardBusy e = false →
    ({ s.board e with copy := (s.board e).words.filter fun x => decide (x.1 < 28) } : Board).callBad = none → s.flag RST_BOOTSTAT_REH = false →
    ∃ t, exec .slotBoundary s = .next t ∧ t.get RUN_STAT_ACT = n % im.nact ∧ t.get RUN_STAT_SLOT = j ∧ t.ro.noneBefore = b + 1 ∧ t.ro.lastEl = s.clk.el ∧
      (t.board e).state = stQUEUED ∧ (t.board e).eligible = true ∧ (t.board e).copy = (s.board e).words.filter (fun x => decide (x.1 < 28)) ∧
      bit ((t.board e).word 0) 31 = false ∧ t.ro.cmds = s.ro.cmds ∧ t.mem = s.mem ∧ t.bays = s.bays)
  ∧ (∀ s im n j b x, s.clocked = true → s.ro.next = none → s.flag RUN_STAT_ACTIVE = true → s.ro.image = some im → s.ro.stopping = false → im.slotOf s.clk.sys = (n, j, b) → s.ro.noneBefore ≤ b →
    s.shed = false → (∀ d, d < 8 → (s.die d).swap = none) → s.curt = none → s.ro.cmds = [] → s.boards = [] → ringsOff s → Tab.get {} im.slots (64 * (n % im.nact) + j) = x → x.kind = 1 → x.be = false → x.op = 1 →
    ∃ t c, exec .slotBoundary s = .next t ∧ t.ro.cmds = [c] ∧ c.id = s.ro.nextId ∧ t.ro.nextId = s.ro.nextId + 1 ∧ c.src = .table (64 * (n % im.nact) + j) ∧ c.op = 1 ∧ c.sheet = x.sheet ∧
      c.mask = x.lanemask ∧ c.be = false ∧ c.slack = x.slack ∧ c.budget = x.budget ∧ c.born = s.clk.el ∧ c.phase = .starting ∧ t.mem = s.mem)
  ∧ (∀ s im n j b, s.clocked = true → s.ro.next = none → s.flag RUN_STAT_ACTIVE = true → s.ro.image = some im → s.ro.stopping = true → im.slotOf s.clk.sys = (n, j, b) → s.ro.noneBefore ≤ b →
    s.ro.cmds = [] → (∀ d, d < 8 → (s.die d).swap = none) →
    ∃ t, exec .slotBoundary s = .next t ∧ t.get RUN_STAT_ACTIVE = 0 ∧ t.get RUN_STAT_PEND = 0 ∧ t.get RUN_STAT_REH = 0 ∧ t.ro.stopping = false ∧ eventSet t 3 ∧
      KeepsRegs (fun r => touches [.RUN_STAT, .UST_SVCUS, .UST_LOSTUS, .UST_EXCLUS, .UST_LOSTEV] r ∨ eventReg r) s t ∧
      t = { s with regs := t.regs, ro := t.ro, host := t.host, boot := t.boot })

/-- R313, R316, R305: a command past its budget is marked and counted; RUN_ABORT.GO of a queued entry without a command completes it with ABORTED. -/
def Sys2Proof.Claims.BudgetsAndAborts : Prop :=
  (∀ s id c, s.clocked = true → s.cmd id = some c → c.noted = true → c.overbud = false → c.phase ≠ .parked → c.start + 1000 * c.budget ≤ s.clk.el →
    ∃ t, exec (.budgetExpiry id) s = .next t ∧ t.cmd id = some { c with overbud := true } ∧ (∀ i, i ≠ id → t.cmd i = s.cmd i) ∧
      t.get RUN_OVERBUD_COUNT = counted RUN_OVERBUD_COUNT (s.get RUN_OVERBUD_COUNT) 1 ∧ KeepsRegs (· = ⟨.RUN_OVERBUD, 0, 0⟩) s t ∧
      t = { s with regs := t.regs, ro := { s.ro with cmds := t.ro.cmds } })
  ∧ (∀ s (v : W32), HostWrites s ⟨.RUN_ABORT, 0, 0⟩ → v.getLsbD 31 = true → v.getLsbD 30 = false →
    let e := bits v.toNat 0 6
    (s.board e).state = stQUEUED → (s.board e).cmd < 8 → (s.board e).fcode = none → s.boardBusy e = false →
    ∃ t, exec (.runAbortGo v) s = .next t ∧ (t.board e).state = stDONE ∧ bits ((t.board e).word 28) 16 8 = cABORTED ∧ bits ((t.board e).word 28) 13 3 = (s.board e).cmd ∧
      bits ((t.board e).word 28) 32 32 = bits ((s.board e).own 0) 32 32 ∧ (∀ x, x ≠ e → t.board x = s.board x) ∧ t.ro.cmds = s.ro.cmds ∧
      KeepsRegs (fun r => r = ⟨.RUN_ABORT, 0, 0⟩ ∨ named .MSIX_PBA 0 r) s t ∧ t = { s with regs := t.regs, ro := t.ro, boards := t.boards, host := t.host })

/-- Slot boundaries, budgets and aborts. -/
def Obligations.SlotsBudgetsAndAborts : Prop :=
  Sys2Proof.Claims.SlotBoundaryServesItsSlot ∧ Sys2Proof.Claims.BudgetsAndAborts

/-! ## Curtains and the understudy -/

/-- R149 to R153: GO records a request with the masks in force; a curtain starts when none runs, and leaves storage as it is; when every covered bay has
stopped it ends with the covered storage zero, everything else as it was, and event CURTAIN. -/
def Obligations.CurtainsRunToZeroStorage : Prop :=
  (∀ s (v : W32), HostWrites s ⟨.RST_CURTCTL, 0, 0⟩ → v.getLsbD 9 = true → s.curtQ = none →
    ∃ t, exec (.curtainGo v) s = .next t ∧
      t.curtQ = some { bays := BitVec.ofNat 64 (s.get RST_CURTBAY_BAYS), grm := BitVec.ofNat 8 (bits v.toNat 0 8), keep := v.getLsbD 8 } ∧
      t.get RST_CURTSTAT_QUEUED = 1 ∧ KeepsRegs (fun r => r = ⟨.RST_CURTCTL, 0, 0⟩ ∨ r = ⟨.RST_CURTSTAT, 0, 0⟩) s t ∧
      t = { s with regs := t.regs, curtQ := t.curtQ })
  ∧ (∀ s c, s.clocked = true → s.curt = none → s.curtQ = some c → s.ro.cmds = [] →
    ∃ t, exec .curtainStart s = .next t ∧ t.curt = some c ∧ t.curtQ = none ∧ t.get RST_CURTSTAT_BUSY = 1 ∧ t.get RST_CURTSTAT_QUEUED = 0 ∧
      t.ro.frameExcl = true ∧ (∀ p, (t.bay p).wings = (s.bay p).wings) ∧ t.mem = s.mem)
  ∧ (∀ s c, s.clocked = true → s.curt = some c → s.curtainReady = true → c.keep = false →
    ∃ t, exec .curtainDone s = .next t ∧ t.curt = none ∧ t.get RST_CURTSTAT_BUSY = 0 ∧
      t.get RST_CURTSTAT_DONE = (s.get RST_CURTSTAT_DONE + 1) % 2 ^ RST_CURTSTAT_DONE.w ∧ eventSet t 4 ∧
      (∀ p, p < 72 → s.covers p = true → (t.bay p).wings = [] ∧ (t.bay p).wingsErr = [] ∧ (t.bay p).arrs = [] ∧ (t.bay p).cueMem = [] ∧ (t.bay p).held = []) ∧
      (∀ p, s.covers p = false → t.bay p = s.bay p) ∧ (∀ d, d < 8 → (t.die d).green = if c.grm.getLsbD d then [] else (s.die d).green) ∧ t.mem = s.mem)

/-- R350, R351, R355, R357: a margin check records its margin; a second low one in a row makes the bay the candidate and ALERT_N falls; UST_SWAP.GO powers the
die's understudy for its check. -/
def Sys2Proof.Claims.MarginChecksFindCandidates : Prop :=
  (∀ s lb margin, lb < 64 → s.clocked = true →
    let p := s.phys lb
    (s.bay p).check = true → (s.bay p).bankFix = [] → (s.bay p).rowFix = [] → s.get UST_CFG_MARGIN ≤ margin → margin < 256 →
    ∃ t, exec (.marginCheckDone lb margin) s = .next t ∧ t.bay p = { s.bay p with check := false } ∧ t.get UST_MARGIN_LAST 0 p = margin ∧
      t.get UST_MARGIN_MIN 0 p = min margin (s.get UST_MARGIN_MIN 0 p) ∧ t.get UST_MARGIN_LOWRUN 0 p = 0 ∧
      (∀ q, q ≠ p → t.bay q = s.bay q) ∧ KeepsRegs (· = ⟨.UST_MARGIN, 0, p⟩) s t ∧ t = { s with regs := t.regs, bays := t.bays })
  ∧ (∀ s lb margin b, lb < 64 → s.clocked = true →
    let p := s.phys lb
    (s.bay p).check = true → (s.bay p).bankFix = [] → (s.bay p).rowFix = [] → margin < s.get UST_CFG_MARGIN → s.get UST_MARGIN_LOWRUN 0 p = 1 →
    s.flag UST_CFG_AUTO = false → s.understudyOf (lb / 8) = some b → (s.die (lb / 8)).swap = none →
    ∃ t, exec (.marginCheckDone lb margin) s = .next t ∧ t.get UST_STAT_CAND = 1 ∧ t.get UST_STAT_CBAY = lb ∧ t.pins.alertN = false ∧
      t.get UST_MARGIN_LOWRUN 0 p = 2 ∧ t.dies = s.dies ∧ KeepsRegs (fun r => r = ⟨.UST_MARGIN, 0, p⟩ ∨ r = ⟨.UST_STAT, 0, 0⟩ ∨ eventReg r) s t)
  ∧ (∀ s (v : W32) b, HostWrites s ⟨.UST_SWAP, 0, 0⟩ → v.getLsbD 31 = true →
    let lb := bits v.toNat 0 6
    s.understudyOf (lb / 8) = some b → (s.die (lb / 8)).swap = none → s.flag UST_STAT_CAND = false →
    ∃ t, exec (.ustSwapGo v) s = .next t ∧ (t.die (lb / 8)).swap = some { lbay := lb } ∧ t.get UST_SWAP_STATE = 1 ∧
      (t.get PWR_DOMSTAT_ON (lb / 8)).testBit b = true ∧ t.bays = s.bays ∧
      KeepsRegs (fun r => r = ⟨.UST_SWAP, 0, 0⟩ ∨ r = ⟨.PWR_DOMSTAT, lb / 8, 0⟩) s t ∧ t = { s with regs := t.regs, dies := t.dies })

/-- R357 to R360: an understudy that passes its own check waits for its frame, or with no running order active goes on to the copy at once; one that fails is retired and the swap refused; with no running order active the end of
the copy gives the logical bay its understudy with the old bay's wings, and the old bay is retired. -/
def Sys2Proof.Claims.UnderstudyTakesTheBay : Prop :=
  (∀ s d margin w b, d < 8 → s.clocked = true → (s.die d).swap = some w → w.checked = false → s.understudyOf d = some b → s.get UST_CFG_MARGIN ≤ margin →
    s.flag RUN_STAT_ACTIVE = true →
    ∃ t, exec (.understudyCheckDone d margin) s = .next t ∧ (t.die d).swap = some { w with checked := true } ∧ t.get UST_SWAP_STATE = 2 ∧ t.bays = s.bays ∧
      KeepsRegs (fun r => r = ⟨.UST_MARGIN, 0, 9 * d + b⟩ ∨ r = ⟨.UST_SWAP, 0, 0⟩) s t ∧ t = { s with regs := t.regs, dies := t.dies })
  ∧ (∀ s d margin w b, d < 8 → s.clocked = true → (s.die d).swap = some w → w.checked = false → s.understudyOf d = some b → s.get UST_CFG_MARGIN ≤ margin →
    s.flag RUN_STAT_ACTIVE = false → s.frozen = none → s.flag FAB_MPSTAT_OPEN = false → s.shed = false → w.inF0 = false → s.beHolders [w.lbay] = [] →
    (s.bay (s.phys w.lbay)).check = false → (∀ x, x < 8 → x ≠ d → (s.die x).swap = none) →
    ∃ t, exec (.understudyCheckDone d margin) s = .next t ∧ (t.die d).swap = some { w with checked := true, inF0 := true, f0 := 0 } ∧ t.get UST_SWAP_STATE = 3 ∧ t.bays = s.bays ∧
      KeepsRegs (fun r => r = ⟨.UST_MARGIN, 0, 9 * d + b⟩ ∨ r = ⟨.UST_SWAP, 0, 0⟩) s t ∧ t = { s with regs := t.regs, dies := t.dies })
  ∧ (∀ s d margin w b, d < 8 → s.clocked = true → (s.die d).swap = some w → w.checked = false → s.understudyOf d = some b → margin < s.get UST_CFG_MARGIN →
    ∃ t, exec (.understudyCheckDone d margin) s = .next t ∧ (t.die d).swap = none ∧ t.get UST_SWAP_STATE = 5 ∧ bits (t.get UST_BAYST_STATE 0 d) (2 * b) 2 = 2 ∧
      (t.get UST_STAT_SPARE).testBit d = false ∧ t.get UST_STAT_SERVICE = 1 ∧ t.pins.alertN = false ∧ (t.get PWR_DOMSTAT_ON d).testBit b = false ∧ eventSet t 5 ∧ t.bays = s.bays)
  ∧ (∀ s d w b, d < 8 → s.clocked = true → s.flag RUN_STAT_ACTIVE = false → (s.die d).swap = some w → w.inF0 = true → w.copied = false → w.lbay / 8 = d →
    s.understudyOf d = some b → s.phys w.lbay ≠ 9 * d + b → s.phys w.lbay / 9 = d → s.bayAtRest (s.phys w.lbay) = true →
    ∃ t, exec (.swapCopyDone d) s = .next t ∧ t.phys w.lbay = 9 * d + b ∧ (t.die d).swap = none ∧
      (t.bay (9 * d + b)).wings = ((s.bay (s.phys w.lbay)).repairWords fun _ => true).wings ∧ (t.bay (9 * d + b)).held = (s.bay (s.phys w.lbay)).held ∧
      t.bay (s.phys w.lbay) = {} ∧ t.get UST_LOSTEV_SWAPS = counted UST_LOSTEV_SWAPS (s.get UST_LOSTEV_SWAPS) 1 ∧
      bits (t.get UST_BAYST_STATE 0 d) (2 * b) 2 = 0 ∧ bits (t.get UST_BAYST_STATE 0 d) (2 * (s.phys w.lbay % 9)) 2 = 2 ∧
      (∀ q, q ≠ s.phys w.lbay → q ≠ 9 * d + b → t.bay q = s.bay q) ∧ t.mem = s.mem)

/-- R353, R354, R362: the first two failed wires of a group are remapped and the third halves it; the third failed phase of a rail holds the throttle level at 10
or above; after a missed heartbeat the standby core is primary and the failover counts. -/
def Sys2Proof.Claims.WiresPhasesAndCoresFail : Prop :=
  (∀ s d cwy group, d < 8 → s.clocked = true →
    let key := (group * 8 + d) * 4 + cwy
    ∃ t, exec (.wireRemap d cwy group) s = .next t ∧ (Tab.get 0 s.nv.wires key ≤ 2 → Tab.get 0 t.nv.wires key = Tab.get 0 s.nv.wires key + 1) ∧
      (Tab.get 0 s.nv.wires key < 2 → t.get UST_CWY_WIRES = counted UST_CWY_WIRES (s.get UST_CWY_WIRES) 1 ∧ t.get UST_CWY_HALF = s.get UST_CWY_HALF) ∧
      (Tab.get 0 s.nv.wires key = 2 → t.get UST_CWY_HALF = 1 ∧ t.get UST_STAT_SERVICE = 1 ∧ t.pins.alertN = false) ∧
      (2 < Tab.get 0 s.nv.wires key → t.nv = s.nv) ∧
      KeepsRegs (fun r => r = ⟨.UST_CWY, 0, 0⟩ ∨ r = ⟨.UST_STAT, 0, 0⟩ ∨ eventReg r ∨ r.name = .OBS_CNT) s t)
  ∧ (∀ s rail, s.powered = true → Tab.get 0 s.env.phases rail = 2 →
    ∃ t, exec (.phaseFail rail) s = .next t ∧ Tab.get 0 t.env.phases rail = 3 ∧ t.get UST_VRM_LIMIT = 1 ∧ t.get UST_VRM_PHASES = counted UST_VRM_PHASES (s.get UST_VRM_PHASES) 1 ∧
      t.get ENV_STAT_LEVEL = max 10 (s.get ENV_STAT_LEVEL) ∧ t.get UST_STAT_SERVICE = 1 ∧ t.pins.alertN = false)
  ∧ (∀ s rail, s.powered = true → Tab.get 0 s.env.phases rail < 2 →
    ∃ t, exec (.phaseFail rail) s = .next t ∧ Tab.get 0 t.env.phases rail = Tab.get 0 s.env.phases rail + 1 ∧
      t.get UST_VRM_PHASES = counted UST_VRM_PHASES (s.get UST_VRM_PHASES) 1 ∧ KeepsRegs (· = ⟨.UST_VRM, 0, 0⟩) s t ∧ t = { s with regs := t.regs, env := t.env })
  ∧ (∀ s a b, s.powered = true → s.flag UST_COLVEL_NOSTBY = false →
    ∃ t, exec (.heartbeatMiss a b) s = .next t ∧ t.get UST_COLVEL_PRIMARY = s.get UST_COLVEL_STANDBY ∧
      t.get UST_COLVEL_FAILOVERS = counted UST_COLVEL_FAILOVERS (s.get UST_COLVEL_FAILOVERS) 1 ∧
      (s.get UST_COLVEL_STANDBY < 2 → a = false → t.get UST_COLVEL_STANDBY = 2 ∧ t.get UST_COLVEL_NOSTBY = 0) ∧ t.mem = s.mem ∧ t.bays = s.bays)

/-- Margin checks, understudies, spare wires, phases and cores. -/
def Obligations.UnderstudiesAndSpares : Prop :=
  Sys2Proof.Claims.MarginChecksFindCandidates ∧ Sys2Proof.Claims.UnderstudyTakesTheBay ∧ Sys2Proof.Claims.WiresPhasesAndCoresFail

/-! ## The fabric -/

namespace Sys2Proof.Claims

open Sys2Proof.Machine

/-- The registers that count a frame sent on port `p`. -/
def txRegs (p : Nat) (r : Reg) : Prop := r = ⟨.FAB_PORTTX, p, 0⟩ ∨ r.name = .OBS_CNT

/-- The registers that count a frame accepted on port `p`. -/
def rxRegs (p : Nat) (r : Reg) : Prop := r = ⟨.FAB_PORTRX, p, 0⟩ ∨ r.name = .OBS_CNT

/-- A frame of type `typ` arrives, passes the checks of its port (which leave `u`), and names a bundle of an exchange entry that may be
read (which leaves `v`). -/
structure Arrives (s : State) (f : Frame) (typ : Nat) (u v : State) : Prop where
  port   : f.port < 16
  clocks : s.clocked = true
  typ    : f.typ = typ
  taken  : s.receive f = (u, true)
  shard  : f.shard < u.get FAB_XTCNT_COUNT
  entry  : u.entryAccess f.shard = (v, true)
  bundle : v.shardOk f = true

end Sys2Proof.Claims

/-- R261 to R263, R270, R295: a port that trains with a partner of its own kind comes UP on four lanes, on a cable once the right peer's
HELLO has named it; with any other partner it stays DOWN; it loses one lane and goes on, goes down and trains again; a HELLO of the right peer names it;
CCLR clears the port's counters. -/
def Sys2Proof.Claims.FelsynPortsComeUpAndGoDown : Prop :=
  (∀ s p, p < 16 → s.clocked = true → s.portRuns p = true → s.portUp p = false → s.partner p ≠ .other →
    (s.isTroupe p = true → (s.fport p).peerPort.isSome = true ∧ s.peerRight p (s.get FAB_PORTSTAT_PEERDEV p) = true) →
    ∃ t, exec (.linkUp p) s = .next t ∧ t.get FAB_PORTSTAT_STATE p = 2 ∧ t.get FAB_PORTSTAT_LANES p = 15 ∧ t.fport p = { peerPort := (s.fport p).peerPort } ∧ eventSet t 7 ∧
      (∀ q, q ≠ p → t.fport q = s.fport q) ∧ KeepsRegs (fun r => r = ⟨.FAB_PORTSTAT, p, 0⟩ ∨ r = ⟨.FAB_TOPO, 0, 0⟩ ∨ eventReg r) s t ∧ t = { s with regs := t.regs, fab := t.fab, host := t.host })
  ∧ (∀ s p, p < 16 → s.clocked = true → s.portRuns p = true → s.portUp p = false → s.partner p = .other →
    ∃ t, exec (.linkUp p) s = .next t ∧ t.get FAB_PORTSTAT_STATE p = 0 ∧ KeepsRegs (· = ⟨.FAB_PORTSTAT, p, 0⟩) s t ∧ t = { s with regs := t.regs })
  ∧ (∀ s p, p < 16 → s.clocked = true → s.portUp p = true → s.portRuns p = true → s.isTroupe p = false →
    ∃ t, exec (.linkDown p) s = .next t ∧ t.get FAB_PORTSTAT_STATE p = 1 ∧ t.get FAB_PORTSTAT_LANES p = 0 ∧ t.fport p = {} ∧ t.fab.tx = s.fab.tx ∧
      t.get FAB_PORTERR_DOWNS p = counted FAB_PORTERR_DOWNS (s.get FAB_PORTERR_DOWNS p) 1 ∧ eventSet t 7 ∧
      KeepsRegs (fun r => r = ⟨.FAB_PORTSTAT, p, 0⟩ ∨ r = ⟨.FAB_PORTERR, p, 0⟩ ∨ eventReg r) s t)
  ∧ (∀ s p lane, p < 16 → s.clocked = true → s.get FAB_PORTSTAT_STATE p = 2 → lane < 4 → (s.get FAB_PORTSTAT_LANES p).testBit lane = true →
    ∃ t, exec (.laneLoss p lane) s = .next t ∧ t.get FAB_PORTSTAT_STATE p = 3 ∧ t.get FAB_PORTSTAT_LANES p = s.get FAB_PORTSTAT_LANES p - 2 ^ lane ∧ eventSet t 7 ∧
      KeepsRegs (fun r => r = ⟨.FAB_PORTSTAT, p, 0⟩ ∨ eventReg r) s t ∧ t = { s with regs := t.regs, host := t.host })
  ∧ (∀ s (f : Frame), f.port < 16 → s.clocked = true → f.typ = tHELLO → s.frameGood f = (s, true) → s.isTroupe f.port = true → s.portRuns f.port = true → s.portUp f.port = false →
    s.peerRight f.port f.src = true → f.src < 4096 →
    ∃ t, exec (.helloReceive f) s = .next t ∧ t.get FAB_PORTSTAT_PEERPOS f.port = f.src % 8 ∧ t.get FAB_PORTSTAT_PEERDEV f.port = f.src ∧
      (t.fport f.port).peerPort = some (leVal ((f.payload.drop 4).take 4)) ∧ KeepsRegs (fun r => r = ⟨.FAB_PORTSTAT, f.port, 0⟩ ∨ rxRegs f.port r) s t ∧
      t = { s with regs := t.regs, fab := t.fab, obs := t.obs })
  ∧ (∀ s p (v : W32), p < 16 → HostWrites s ⟨.FAB_PORTCTL, p, 0⟩ → v.getLsbD 0 = true → bits v.toNat 29 2 ≠ 3 → bits v.toNat 26 6 = bits (s.raw ⟨.FAB_PORTCTL, p, 0⟩).toNat 26 6 →
    ∃ t, exec (.fabPortctlCclr p v) s = .next t ∧ t.raw ⟨.FAB_PORTERR, p, 0⟩ = RegName.reset .FAB_PORTERR ∧ t.raw ⟨.FAB_PORTTX, p, 0⟩ = RegName.reset .FAB_PORTTX ∧
      t.raw ⟨.FAB_PORTRX, p, 0⟩ = RegName.reset .FAB_PORTRX ∧
      KeepsRegs (fun r => r = ⟨.FAB_PORTERR, p, 0⟩ ∨ r = ⟨.FAB_PORTTX, p, 0⟩ ∨ r = ⟨.FAB_PORTRX, p, 0⟩ ∨ r = ⟨.FAB_PORTCTL, p, 0⟩ ∨ r = ⟨.PWR_DOMSTAT, 8 + p / 4, 0⟩) s t ∧ t = { s with regs := t.regs })

/-- R270, R271: an LACK or an EACK removes the acknowledged frames of its sender; a timeout on a cable replays the unacknowledged frame; a retransmission takes the
next plane, and after eight the frame is abandoned and counted. -/
def Sys2Proof.Claims.FramesAreAcknowledgedAndResent : Prop :=
  (∀ s (f : Frame), f.port < 16 → s.clocked = true → f.typ = tLACK → s.portUp f.port = true → s.frameGood f = (s, true) → s.isTroupe f.port = true → f.part = 0 →
    (s.fport f.port).waiting = [] →
    ∃ t, exec (.lackReceive f) s = .next t ∧ t.fport f.port = { s.fport f.port with unacked := (s.fport f.port).unacked.filter fun g => !seqBefore g.seq f.ack } ∧
      (∀ q, q ≠ f.port → t.fport q = s.fport q) ∧ t.fab.flows = s.fab.flows ∧ t.fab.tx = s.fab.tx ∧ KeepsRegs (rxRegs f.port) s t ∧
      t = { s with regs := t.regs, fab := t.fab, obs := t.obs })
  ∧ (∀ s (f : Frame), f.port < 16 → s.clocked = true → f.typ = tEACK → s.portUp f.port = true → s.frameGood f = (s, true) → s.isSwitch f.port = true → (s.flow f.src).waiting = [] →
    ∃ t, exec (.eackReceive f) s = .next t ∧ (t.flow f.src).unacked = (s.flow f.src).unacked.filter (fun u => !(seqBefore u.1.seq f.ack
        || (List.range 64).any fun i => (leVal (f.payload.take 8)).testBit i && u.1.seq == (f.ack + 1 + i) % 2 ^ 24)) ∧
      (∀ d, d ≠ f.src → t.flow d = s.flow d) ∧ t.fab.ports = s.fab.ports ∧ t.fab.tx = s.fab.tx ∧ KeepsRegs (rxRegs f.port) s t ∧
      t = { s with regs := t.regs, fab := t.fab, obs := t.obs })
  ∧ (∀ s p f, p < 16 → s.clocked = true → s.isTroupe p = true → s.portUp p = true → (s.fport p).unacked = [f] →
    ∃ t g, exec (.replayTimeout p) s = .next t ∧ t.fab.tx = s.fab.tx ++ [g] ∧ g.seq = f.seq ∧ g.retx = true ∧ g.port = p ∧ g.typ = f.typ ∧ g.payload = f.payload ∧
      g.ack = (s.fport p).rxSeq ∧
      g.crc = BitVec.ofNat 32 (frameCheck g) ∧ g.fcs = BitVec.ofNat 32 (frameFcs g) ∧ g.srcMac = BitVec.ofNat 48 (s.macOf s.devno p) ∧
      (∀ n, (s.fport p).peerPort = some n → g.dstMac = BitVec.ofNat 48 (s.macOf f.dst n)) ∧ t.get FAB_PORTERR_REPLAY p = counted FAB_PORTERR_REPLAY (s.get FAB_PORTERR_REPLAY p) 1 ∧ t.fport p = s.fport p ∧
      KeepsRegs (fun r => r = ⟨.FAB_PORTERR, p, 0⟩ ∨ txRegs p r) s t ∧ t = { s with regs := t.regs, fab := t.fab, obs := t.obs, free := t.free })
  ∧ (∀ s d q f n p, s.clocked = true → ((s.flow d).unacked.find? fun u => u.1.seq == q) = some (f, n) → (n < 8 ∨ f.typ = tSNAP) → s.nextPlane f.port = some p →
    ∃ t g, exec (.retxTimeout d q) s = .next t ∧ t.fab.tx = s.fab.tx ++ [g] ∧ g.seq = q ∧ g.retx = true ∧ g.port = p ∧ g.payload = f.payload ∧ g.ack = (s.flow d).rxCum ∧
      (t.flow d).unacked = (s.flow d).unacked.map (fun u => if u.1.seq = q then ({ f with port := p, retx := true, ack := (s.flow d).rxCum }, n + 1) else u) ∧
      KeepsRegs (txRegs p) s t ∧ t = { s with regs := t.regs, fab := t.fab, obs := t.obs, free := t.free })
  ∧ (∀ s d q f n, s.clocked = true → ((s.flow d).unacked.find? fun u => u.1.seq == q) = some (f, n) → 8 ≤ n → f.typ ≠ tSNAP → (s.flow d).waiting = [] →
    ∃ t, exec (.retxTimeout d q) s = .next t ∧ (t.flow d).unacked = (s.flow d).unacked.filter (fun u => u.1.seq != q) ∧ t.fab.tx = s.fab.tx ∧
      t.get FAB_E2ELOST_COUNT (f.port / 4) = counted FAB_E2ELOST_COUNT (s.get FAB_E2ELOST_COUNT (f.port / 4)) 1 ∧ KeepsRegs (· = ⟨.FAB_E2ELOST, f.port / 4, 0⟩) s t)

/-- Felsyn ports and the frames they carry. -/
def Obligations.PortsAndFrames : Prop :=
  Sys2Proof.Claims.FelsynPortsComeUpAndGoDown ∧ Sys2Proof.Claims.FramesAreAcknowledgedAndResent

/-- R273 to R275, R300, R461: a joined device asks its parent each millisecond; four stamps correct its time, up to 1 µs by slewing, else by a
step; without an exchange it is in
holdover; on the root a PPS edge sets the time written or slews toward the second; PPS_OUT pulses. -/
def Obligations.TimeIsExchangedAndSet : Prop :=
  (∀ s d p, s.clocked = true → s.flag FAB_TOPO_JOINED = true → s.parent = some d → s.timePort d = some p →
    ∃ t g, exec .timeExchange s = .next t ∧ t.fab.tx = s.fab.tx ++ [g] ∧ g.typ = tTIME ∧ g.dst = d ∧ g.src = s.devno ∧ g.port = p ∧ g.payload = List.replicate 32 0 ∧
      KeepsRegs (txRegs p) s t ∧ t = { s with regs := t.regs, fab := t.fab, obs := t.obs, free := t.free })
  ∧ (∀ s (f : Frame), f.port < 16 → s.clocked = true → f.typ = tTIME → s.portUp f.port = true → s.frameGood f = (s, true) → s.parent = some f.src →
    let st (i : Nat) : Int := leVal ((f.payload.drop (8 * i)).take 8)
    let off : Int := ((st 1 - st 0) - (st 3 - st 2)) / 2
    st 3 ≠ 0 → -1000 ≤ off → off ≤ 1000 →
    ∃ t, exec (.timeFrameReceive f) s = .next t ∧ t.clk = { s.clk with slew := -off * 47000000000, rate := t.clk.rate } ∧ t.get FAB_TIMESTAT_OFFSET = (off % 2 ^ 16).toNat ∧
      t.get FAB_TIMESTAT_LOCKED = 1 ∧ t.get FAB_TIMESTAT_HOLDOVER = 0 ∧ t.fab = { s.fab with lastExchange := s.clk.el } ∧
      KeepsRegs (fun r => r = ⟨.FAB_TIMESTAT, 0, 0⟩ ∨ rxRegs f.port r) s t ∧ t = { s with regs := t.regs, fab := t.fab, clk := t.clk, obs := t.obs })
  ∧ (∀ s (f : Frame), f.port < 16 → s.clocked = true → f.typ = tTIME → s.portUp f.port = true → s.frameGood f = (s, true) → s.parent = some f.src →
    let st (i : Nat) : Int := leVal ((f.payload.drop (8 * i)).take 8)
    let off : Int := ((st 1 - st 0) - (st 3 - st 2)) / 2
    st 3 ≠ 0 → (off < -1000 ∨ 1000 < off) → -32768 ≤ off → off < 32768 → off ≤ s.clk.sys →
    ∃ t, exec (.timeFrameReceive f) s = .next t ∧ t.clk = { s.clk with sys := ((s.clk.sys : Int) - off).toNat, slew := 0, rate := t.clk.rate } ∧
      t.get FAB_TIMESTAT_OFFSET = (off % 2 ^ 16).toNat ∧ t.get FAB_TIMESTAT_LOCKED = 1 ∧ t.get FAB_TIMESTAT_HOLDOVER = 0 ∧ t.env.acc.clockstep = true ∧
      t.fab = { s.fab with lastExchange := s.clk.el } ∧ KeepsRegs (fun r => r = ⟨.FAB_TIMESTAT, 0, 0⟩ ∨ rxRegs f.port r) s t ∧
      t = { s with regs := t.regs, fab := t.fab, clk := t.clk, obs := t.obs, env := t.env, ro := t.ro })
  ∧ (∀ s d, s.clocked = true → s.flag FAB_TOPO_JOINED = true → s.parent = some d → s.fab.lastExchange + 10000000 ≤ s.clk.el →
    ∃ t, exec .holdover s = .next t ∧ t.get FAB_TIMESTAT_HOLDOVER = 1 ∧ t.env.acc.holdover = true ∧ KeepsRegs (· = ⟨.FAB_TIMESTAT, 0, 0⟩) s t ∧ t = { s with regs := t.regs, env := t.env })
  ∧ (∀ s (ns : W64), HostWrites s ⟨.FAB_TIMESET, 0, 0⟩ → s.devno = 0 →
    ∃ t, exec (.fabTimesetWrite ns) s = .next t ∧ t.fab = { s.fab with timeSet := some (ns.toNat, s.clk.el) } ∧ t.clk = s.clk ∧ (∀ r, t.raw r = s.raw r))
  ∧ (∀ s v e, s.powered = true → s.devno = 0 → s.fab.timeSet = some (v, e) →
    ∃ t, exec .ppsInEdge s = .next t ∧ t.clk.sys = (v + (s.clk.el - e) + 500000000) / 1000000000 * 1000000000 ∧ t.clk.timeKnown = true ∧ t.fab.timeSet = none ∧
      t.clk.el = s.clk.el ∧ (∀ r, t.raw r = s.raw r))
  ∧ (∀ s, s.powered = true → s.devno = 0 → s.fab.timeSet = none →
    let d : Int := ((s.clk.sys + 500000000) / 1000000000 * 1000000000 : Nat) - (s.clk.sys : Int)
    ∃ t, exec .ppsInEdge s = .next t ∧ t.clk = { s.clk with slew := max (-10000) (min 10000 d) * 47000000000 } ∧ (∀ r, t.raw r = s.raw r))
  ∧ (∀ s, s.powered = true → exec .ppsOut s = .next { s with pins := { s.pins with ppsOut := s.pins.ppsOut + 1 } })

/-- R249, R280, R292: on an unjoined module without shard records a milepost opens at its time, reports that the sums have been read, and completes; its completion is a seed
point for the next command. R291: at T_k + DP a device that owns a bundle without its parts completes with MILEPOST_MISS. -/
def Obligations.MilepostsOpenAndComplete : Prop :=
  (∀ s id c, s.clocked = true → ringsOff s → s.mp.cid = some id → s.cmd id = some c → c.phase = .running → c.scodes = [] → c.fcode = none → c.op = 3 → s.mp.opened = false → s.mp.tk ≤ s.clk.sys →
    (∀ e i, c.src = .board e i → (s.board e).scodes = []) →
    s.flag FAB_TOPO_JOINED = false → (∀ p, p < 4 → s.get TLH_SHARDCNT_COUNT p = 0) →
    ∃ t, exec .milepostOpen s = .next t ∧ t.get FAB_MPSTAT_PDONE = 1 ∧ t.get FAB_MPSTAT_OPEN = 0 ∧ t.get FAB_MPSTAT_CODE = cOK ∧ (∀ p, p < 4 → t.get TLH_UPDSTAT_SUMSREAD p = 1) ∧
      t.mp.cid = none ∧ t.mp.opened = true ∧ t.mp.jobs = [] ∧ t.ro.seedPending = true ∧ t.cmd id = none ∧ t.mem = s.mem)
  ∧ (∀ s id c, s.clocked = true → ringsOff s → s.mp.cid = some id → s.cmd id = some c → c.scodes = [] → c.fcode = none → s.deadlineDue 3 = true → s.get FAB_XTCNT_COUNT = 1 →
    let x := s.xent 0
    x.bundles = 1 → s.owns x = true → (∃ q ∈ x.paramParts, s.mp.parts.contains (0, 0, q) = false) →
    ∃ t, exec .deadlineDp s = .next t ∧ t.get FAB_MPSTAT_CODE = cMILEPOST_MISS ∧ t.get FAB_MPSTAT_OPEN = 0 ∧ t.mp.cid = none ∧ t.ro.seedPending = true ∧ t.cmd id = none ∧ t.mem = s.mem)

/-- R281, R284, R285: a CONTRIB for the milepost in hand that is in time is added to its bundle; one of another milepost is dropped and counted late; at the deadlines the
open bundles of each level close. -/
def Obligations.ContributionsAreAddedAndBundlesClose : Prop :=
  (∀ s u v (f : Frame) backup, Arrives s f tCONTRIB u v → ringsOff s → v.takesPart = true →
    let x := v.xent f.shard
    v.role0 x = some backup → f.milepost = s.mp.k → f.rev = s.mp.k % 65536 → (s.bundle0 f.shard f.bundle backup).from_.contains f.src = false → s.mp.tk ≤ s.clk.sys + 1000 →
    s.clk.sys ≤ s.deadline 0 → v.unpermitted (x.work + 32768 * f.bundle) 32768 true = none →
    v.unpermitted (x.work + 32768 * x.bundles + 64 * f.bundle) 64 true = none → (s.bundle0 f.shard f.bundle backup).closed = false → (s.bundle0 f.shard f.bundle backup).from_.length < 7 →
    ∃ t, exec (.contribReceive f) s = .next t ∧
      t.bundle0 f.shard f.bundle backup = { (s.bundle0 f.shard f.bundle backup).add f.payload (x.elems f.bundle) with from_ := (s.bundle0 f.shard f.bundle backup).from_ ++ [f.src] } ∧
      (∀ sh b y, (sh, b, y) ≠ (f.shard, f.bundle, backup) → t.bundle0 sh b y = s.bundle0 sh b y) ∧
      (∀ a, (a < x.work + 32768 * f.bundle ∨ x.work + 32768 * f.bundle + 32768 ≤ a) →
        (a < x.work + 32768 * x.bundles + 64 * f.bundle ∨ x.work + 32768 * x.bundles + 64 * f.bundle + 64 ≤ a) → t.mem.read a = s.mem.read a))
  ∧ (∀ s u v (f : Frame) backup, Arrives s f tCONTRIB u v → v.takesPart = true → v.allParts = false →
    let x := v.xent f.shard
    v.role0 x = some backup → f.milepost ≠ s.mp.k →
    ∃ t, exec (.contribReceive f) s = .next t ∧ t.get FAB_LATE_COUNT x.tlh = counted FAB_LATE_COUNT (s.get FAB_LATE_COUNT x.tlh) 1 ∧ t.fab.mp = s.fab.mp ∧ t.mem = s.mem)
  ∧ (∀ s backup, s.clocked = true → s.deadlineDue 0 = true → s.get FAB_XTCNT_COUNT = 1 → (s.xent 0).bundles = 1 → s.role0 (s.xent 0) = some backup →
    ∃ t, exec .deadlineD0 s = .next t ∧ (t.bundle0 0 0 backup).closed = true)
  ∧ (∀ s backup, s.clocked = true → s.deadlineDue 1 = true → s.get FAB_XTCNT_COUNT = 1 → (s.xent 0).bundles = 1 → s.role1 (s.xent 0) = some backup →
    ∃ t, exec .deadlineD1 s = .next t ∧ t.isClosed 1 0 0 = true)
  ∧ (∀ s, s.clocked = true → s.deadlineDue 2 = true → s.get FAB_XTCNT_COUNT = 1 → (s.xent 0).bundles = 1 → s.owns (s.xent 0) = true →
    ∃ t, exec .deadlineD2 s = .next t ∧ t.isClosed 2 0 0 = true)

/-- R285, R288, R290, R293, R258: the first part of a SUM is kept until its copy is complete; a PARAM part that is not older than what stands is written in its place; a RESYNC
brings one PREQ; the owner answers a PREQ with every part; snapshot bytes of a stream whose header has arrived are written, but for its check values. -/
def Obligations.SumsParametersAndSnapshotsArrive : Prop :=
  (∀ s u v (f : Frame), Arrives s f tSUM u v → f.level = 1 →
    let x := v.xent f.shard
    (v.role1 x).isSome = true → f.part = 0 → f.milepost = s.mp.k → s.mp.cid.isSome = true → s.mp.opened = false → s.clk.sys ≤ s.deadline 1 → v.unpermitted (x.work + 32768 * f.bundle) 32768 true = none →
    v.unpermitted (x.work + 32768 * x.bundles + 64 * f.bundle) 64 true = none → s.mp.copies = [] →
    ∃ t c, exec (.sumReceive f) s = .next t ∧ t.mp.copies = [c] ∧ c.k = s.mp.k ∧ c.level = 1 ∧ c.shard = f.shard ∧ c.bundle = f.bundle ∧ c.source = devTroupe f.src ∧
      c.part0 = some (int16s f.payload) ∧ c.part1 = none ∧ c.taken = false ∧ c.ncontr = f.ncontr)
  ∧ (∀ s u v (f : Frame), Arrives s f tPARAM u v →
    let x := v.xent f.shard
    let pl := x.partPlace f.bundle f.milepost f.part
    let rev := x.scaleAddr f.bundle + 40
    x.paramParts.contains f.part = true → s.owns x = true → s.mp.opened = false → f.milepost = s.mp.k → ddrSound s →
    v.unpermitted (x.scaleAddr f.bundle) 64 false = none → inDdr s (x.scaleAddr f.bundle) 64 → notOlder f.milepost (scaleRev (v.ddrBytes (x.scaleAddr f.bundle) 64)) = true →
    pl.2 ≤ f.payload.length → v.unpermitted pl.1 pl.2 true = none → inDdr s pl.1 pl.2 →
    (f.part = 0 → v.unpermitted rev 2 true = none) →
    ∃ t, exec (.paramReceive f) s = .next t ∧
      (∀ (i : Nat) y, (f.payload.take pl.2)[i]? = some y → (f.part = 0 → pl.1 + i < rev ∨ rev + 2 ≤ pl.1 + i) → t.mem.read (pl.1 + i) = y) ∧
      (f.part = 0 → t.mem.read rev = BitVec.ofNat 8 (f.rev % 256) ∧ t.mem.read (rev + 1) = BitVec.ofNat 8 (f.rev / 256 % 256)) ∧
      (∀ a, (a < pl.1 ∨ pl.1 + pl.2 ≤ a) → (f.part = 0 → a < rev ∨ rev + 2 ≤ a) → t.mem.read a = s.mem.read a) ∧ (f.shard, f.bundle, f.part) ∈ t.mp.parts)
  ∧ (∀ s u v (f : Frame), Arrives s f tRESYNC u v → s.mp.preqs.contains (f.shard, f.bundle) = false →
    let x := v.xent f.shard
    ∃ t, exec (.resyncReceive f) s = .next t ∧ t.mp = { s.mp with preqs := (f.shard, f.bundle) :: s.mp.preqs } ∧
      t.get FAB_RESYNC_COUNT x.tlh = counted FAB_RESYNC_COUNT (s.get FAB_RESYNC_COUNT x.tlh) 1 ∧ t.mem = s.mem)
  ∧ (∀ s u v (f : Frame) p, Arrives s f tPREQ u v →
    let x := v.xent f.shard
    let k := revMilepost s.mp.k (scaleRev (v.devBytes (x.scaleAddr f.bundle) 64))
    s.flag FAB_TOPO_JOINED = true → ddrSound s → v.unpermitted (x.scaleAddr f.bundle) 64 false = none → inDdr s (x.scaleAddr f.bundle) 64 →
    (∀ q ∈ x.paramParts, v.unpermitted (x.partPlace f.bundle k q).1 (x.partPlace f.bundle k q).2 false = none ∧ inDdr s (x.partPlace f.bundle k q).1 (x.partPlace f.bundle k q).2) →
    v.owns x = true → u.inTroupe f.src = true → u.cable (devPos f.src) = some p → (u.fport p).waiting = [] → (u.fport p).unacked = [] →
    ∃ t, exec (.preqReceive f) s = .next t ∧ t.mem = s.mem ∧ t.mp = s.mp ∧
      (t.fab.tx.drop u.fab.tx.length).map (fun g => (g.typ, g.part, g.dst, g.shard, g.bundle, g.payload)) = x.paramParts.map fun q => (tPARAM, q, f.src, f.shard, f.bundle, v.paramPayload x f.bundle k q))
  ∧ (∀ s u (f : Frame), f.port < 16 → s.clocked = true → f.typ = tSNAP → s.receive f = (u, true) →
    let a := leVal (f.payload.take 8)
    let bs := f.payload.drop 8
    let m : Milepost := { s.mp with snapHave := (a, bs.length) :: s.mp.snapHave, snapRx := s.mp.snapRx.writeN a bs, snapWait := [(a, bs)] }
    let crcs := m.chunks.map fun c => (c.1 + c.2, 8)
    u.unpermitted a bs.length true = none → s.mp.snapWait = [] → (s.mp.snapHave.any fun r => decide (r.1 < a + bs.length) && decide (a < r.1 + r.2)) = false →
    (∀ i, i < bs.length → inRanges (m.headers.dedup.map (fun h => (h, 64)) ++ m.chunks ++ crcs) (a + i) = true) →
    ddrSound s → inDdr s a bs.length →
    ∃ t, exec (.snapReceive f) s = .next t ∧ t.mp.snapWait = [] ∧
      (∀ (i : Nat) y, bs[i]? = some y → t.mem.read (a + i) = if inRanges crcs (a + i) = true then s.mem.read (a + i) else y) ∧
      (∀ x, (x < a ∨ a + bs.length ≤ x) → t.mem.read x = s.mem.read x))

/-! ## The envelope, power and the tableau -/

namespace Sys2Proof.Claims

open Sys2Proof.Machine

/-- A shed is in force: it shows, walk-on has ended and CK_A runs at ÷24 (R336). -/
def Shedding (t : State) : Prop :=
  t.get ENV_STAT_SHED = 1 ∧ t.get RUN_STAT_SHED = 1 ∧ t.get ENV_STAT_WSTEPS = 0 ∧ t.get CLK_STAT_ADIV = 3

/-- The shed has lifted: level 19, no walk-on (R337). -/
def ShedLifted (t : State) : Prop :=
  t.get ENV_STAT_SHED = 0 ∧ t.get RUN_STAT_SHED = 0 ∧ t.get ENV_STAT_WSTEPS = 0 ∧ t.get ENV_STAT_LEVEL = 19 ∧ t.env.rFresh = true

/-- No bay changes but in the WALK cues of the envelope and in what is counted of the cue that waits (R334, R336, R380). -/
def BaysKeep (s t : State) : Prop :=
  ∀ p, t.bay p = { s.bay p with arrs := (t.bay p).arrs, wait := (t.bay p).wait, waited := (t.bay p).waited } ∧
    ∀ a, (t.bay p).arr a = { (s.bay p).arr a with fq := ((t.bay p).arr a).fq }

/-- No bay is being replaced by its understudy. -/
def noSwaps (s : State) : Prop := ∀ d, d < 8 → (s.die d).swap = none

/-- The shed stands as its conditions say, so nothing begins or lifts. -/
def shedSettled (s : State) : Prop := s.shedSources ≠ 0 ↔ s.shed = true

/-- Registers of the event log and of module events. -/
def logRegs (r : Reg) : Prop := touches [.ENV_EVLOG_LO, .ENV_EVLOG_HI, .ENV_EVHEAD] r ∨ eventReg r

end Sys2Proof.Claims

/-- R336 to R340: SHED_N, ENV_CTL.SHED, a sag, a dropout and a surge that lasts begin a shed, and it lifts when the last condition goes. -/
def Obligations.ShedsFollowTheirConditions : Prop :=
  (∀ s, s.powered = true → s.shed = false →
    ∃ t, exec .shedNFall s = .next t ∧ Shedding t ∧ t.get ENV_STAT_PIN = 1 ∧ t.pins.shedN = false ∧ t.ro.frameExcl = true ∧ t.mem = s.mem ∧ BaysKeep s t ∧
      (∀ c ∈ s.ro.cmds, c.phase ≠ .parked → ∃ c' ∈ t.ro.cmds, c'.id = c.id ∧ cSHED ∈ c'.scodes))
  ∧ (∀ s, s.powered = true → s.shed = true → s.get ENV_CTL_SHED = 0 → s.get ENV_STAT_SAG = 0 → s.get ENV_STAT_DROP = 0 → noSwaps s →
    ∃ t, exec .shedNRise s = .next t ∧ ShedLifted t ∧ t.get ENV_STAT_PIN = 0 ∧ t.pins.shedN = true ∧ t.get CLK_STAT_ADIV = 3 ∧ t.mem = s.mem ∧ BaysKeep s t)
  ∧ (∀ s (v : W32), HostWrites s ⟨.ENV_CTL, 0, 0⟩ → v.getLsbD 1 = true → v.getLsbD 0 = false → v.getLsbD 2 = false → s.shed = false →
    ∃ t, exec (.envCtlShed v) s = .next t ∧ Shedding t ∧ t.get ENV_CTL_SHED = 1 ∧ t.mem = s.mem ∧ BaysKeep s t)
  ∧ (∀ s vin, s.powered = true → s.shed = false → s.get ENV_STAT_SAG = 0 → vin < 4400 →
    ∃ t, exec (.sagBegin vin) s = .next t ∧ Shedding t ∧ t.get ENV_STAT_SAG = 1 ∧ t.get ENV_POWER_VIN = vin ∧ t.env.acc.sags = s.env.acc.sags + 1 ∧ t.mem = s.mem ∧ BaysKeep s t)
  ∧ (∀ s vin, s.powered = true → s.shed = true → s.get ENV_STAT_SAG = 1 → s.get ENV_STAT_DROP = 0 → s.get ENV_STAT_PIN = 0 → s.get ENV_CTL_SHED = 0 → 4500 ≤ vin → vin < 2 ^ 16 → noSwaps s →
    ∃ t, exec (.sagEnd vin) s = .next t ∧ ShedLifted t ∧ t.get ENV_STAT_SAG = 0 ∧ t.get ENV_POWER_VIN = vin ∧ t.mem = s.mem ∧ BaysKeep s t)
  ∧ (∀ s vin, s.powered = true → s.get ENV_STAT_DROP = 0 → vin < 3600 →
    ∃ t, exec (.dropout vin) s = .next t ∧ t.get ENV_STAT_SHED = 1 ∧ t.get ENV_STAT_DROP = 1 ∧ t.get ENV_STAT_SAG = 1 ∧ t.get ENV_POWER_VIN = vin ∧
      t.env.acc.drops = s.env.acc.drops + 1 ∧ t.mem = s.mem ∧ BaysKeep s t)
  ∧ (∀ s vin, s.powered = true → 5800 ≤ vin → vin ≤ 7200 →
    ∃ t, exec (.surge vin) s = .next t ∧ t.get ENV_POWER_VIN = vin ∧ t.env.acc.surges = s.env.acc.surges + 1 ∧ eventSet t 1 ∧
      KeepsRegs (fun r => r = ⟨.ENV_POWER, 0, 0⟩ ∨ logRegs r) s t ∧ t = { s with regs := t.regs, env := t.env, host := t.host })
  ∧ (∀ s vin, s.powered = true → s.get ENV_STAT_DROP = 0 → 5800 < vin → vin < 2 ^ 16 →
    ∃ t, exec (.surgeTimeout vin) s = .next t ∧ t.get ENV_STAT_SHED = 1 ∧ t.get ENV_STAT_DROP = 1 ∧ t.get ENV_STAT_SAG = 1 ∧ t.get ENV_POWER_VIN = vin ∧ t.env.acc.drops = s.env.acc.drops + 1 ∧ t.mem = s.mem ∧ BaysKeep s t)

/-- R327, R328, R331, R332, R341, R342, R347, R466: a submission is verified and its code shown; CCLR clears the loop's counters; with the entry in force standing the loop sets
the level and walk-on steps that R332 gives; limits and coolant show; a metered minute enters the store. -/
def Obligations.EnvelopeVerifiesActsAndMeters : Prop :=
  (∀ s (v : W32), HostWrites s ⟨.ENV_CTL, 0, 0⟩ → v.getLsbD 0 = true → v.getLsbD 2 = false → b2n (v.getLsbD 1) = s.get ENV_CTL_SHED → shedSettled s →
    s.get TAB_STAT_STATE = 0 → s.get ENV_STAT_LBUSY = 0 →
    ∃ t, exec (.envCtlLoad v) s = .next t ∧ t.get ENV_STAT_LBUSY = 1 ∧ t.env = { s.env with load := some (.host (s.get ENV_SCHEDBASE_ADDR)) } ∧
      KeepsRegs (fun r => r = ⟨.ENV_CTL, 0, 0⟩ ∨ r = ⟨.ENV_STAT, 0, 0⟩) s t ∧ t = { s with regs := t.regs, env := t.env })
  ∧ (∀ s (v : W32), HostWrites s ⟨.ENV_CTL, 0, 0⟩ → v.getLsbD 0 = false → v.getLsbD 2 = true → b2n (v.getLsbD 1) = s.get ENV_CTL_SHED → shedSettled s → s.get TAB_STAT_STATE = 0 →
    ∃ t, exec (.envCtlCclr v) s = .next t ∧ t.raw ⟨.ENV_CNT, 0, 0⟩ = RegName.reset .ENV_CNT ∧
      KeepsRegs (fun r => r = ⟨.ENV_CTL, 0, 0⟩ ∨ r = ⟨.ENV_CNT, 0, 0⟩) s t ∧ t = { s with regs := t.regs })
  ∧ (∀ s u src img, s.powered = true → s.env.load = some src → s.schedImage src = (u, img) →
    ∃ t, exec .scheduleVerifyDone s = .next t ∧ t.get ENV_STAT_LBUSY = 0 ∧ t.get ENV_STAT_LCODE = u.schedCode img ∧ t.env.load = none ∧
      (u.schedCode img ≠ cOK → t.env.accepted = s.env.accepted) ∧ (∀ bs, img = .ok bs → u.schedCode img = cOK → t.env.accepted = some (scheduleOf bs)) ∧ t.mem = s.mem)
  ∧ (∀ s p vin iin dt, s.powered = true → 0 < dt → dt ≤ 125000 → s.shed = false → s.frozen = none → s.env.accepted = none → s.env.cur = none → s.get ENV_STAT_THERM = 0 → vin < 2 ^ 16 → iin < 2 ^ 16 →
    let b := bounds (s.env.entry.getD SchedEntry.default) (s.get ENV_GUARD_WATTS) (s.get ENV_INFO_WALKMAX) (if s.env.rFresh then p * 10 ^ 6 else s.env.r) dt
    let avail := 16 * s.walkBays.length
    let a := b.act (p * 10 ^ 6) (s.get ENV_STAT_LEVEL) (min avail (s.get ENV_STAT_WSTEPS)) s.levelMin (s.get ENV_WALKCAL_MW * 10 ^ 6 * (4 - s.get CLK_STAT_ADIV) / 4) avail true
    ∃ t, exec (.envelopeTick p vin iin dt) s = .next t ∧ t.get ENV_STAT_LEVEL = max a.1 s.levelMin ∧
      t.get ENV_STAT_WSTEPS = (if s.levelMin < max a.1 s.levelMin then 0 else a.2) ∧ t.env.r = max b.lo (min b.hi (p * 10 ^ 6)) ∧ t.env.rFresh = false ∧
      t.get ENV_POWER_P100US = min (p / 1000) (2 ^ 16 - 1) ∧ t.get ENV_POWER_VIN = vin ∧ t.get ENV_POWER_IIN = iin ∧ t.mem = s.mem ∧ BaysKeep s t)
  ∧ (∀ s die temp, die < 12 → s.powered = true → s.get PWR_TEMP_NOW die < 95 → 95 ≤ temp → temp < 256 →
    ∃ t, exec (.thermLimit die temp) s = .next t ∧ t.get ENV_STAT_THERM = 1 ∧ t.get PWR_TEMP_NOW die = temp ∧ t.get PWR_TEMP_MAX die = max temp (s.get PWR_TEMP_MAX die) ∧
      t.ro = { s.ro with frameExcl := true } ∧ eventSet t 1 ∧ KeepsRegs (fun r => r = ⟨.PWR_TEMP, die, 0⟩ ∨ r = ⟨.ENV_STAT, 0, 0⟩ ∨ logRegs r) s t)
  ∧ (∀ s flow inlet outlet, s.powered = true → flow < 2 ^ 16 → inlet < 256 → outlet < 256 →
    ∃ t, exec (.coolantAlert flow inlet outlet) s = .next t ∧ t.get PWR_COOL_FLOW = flow ∧ t.get PWR_COOL_INLET = inlet ∧ t.get PWR_COOL_OUTLET = outlet ∧
      t.get PWR_COOL_LOWFLOW = b2n (decide (flow < 400)) ∧ t.get PWR_COOL_HOTIN = b2n (decide (40 < inlet)) ∧ t.pins.alertN = !t.alertSource ∧
      KeepsRegs (fun r => r = ⟨.PWR_COOL, 0, 0⟩ ∨ eventReg r) s t ∧ t = { s with regs := t.regs, pins := t.pins, host := t.host })
  ∧ (∀ s m, s.powered = true → s.nv.powerFail = none → s.get ENV_MMSTAT_COUNT ≤ 204 →
    let n := s.get ENV_MMSTAT_NEXTSEQ
    ∃ t body, exec (.meteredMinute m) s = .next t ∧ Tab.get [] t.nv.meters (n % 204) = signedRecord body ∧ numAt body 0 8 = 0x4D4D5231 * 2 ^ 32 + s.get FAB_DEVNO_DEVICE ∧
      numAt body 8 8 = (s.clk.sys / 60000000000 - 1) % 2 ^ 32 * 2 ^ 32 + n ∧ numAt body 16 8 = m.energy % 2 ^ 64 ∧ t.nv.prevDigest = sha3 body ∧
      (∀ i, i ≠ n % 204 → Tab.get [] t.nv.meters i = Tab.get [] s.nv.meters i) ∧ t.get ENV_MMSTAT_NEXTSEQ = (n + 1) % 2 ^ 32 ∧ t.get ENV_MMSTAT_HEAD = (n + 1) % 204 ∧
      t.get ENV_MMSTAT_COUNT = min 204 (s.get ENV_MMSTAT_COUNT + 1) ∧ eventSet t 2 ∧ KeepsRegs (fun r => r = ⟨.ENV_MMSTAT, 0, 0⟩ ∨ eventReg r) s t ∧ t.mem = s.mem)

/-- R339 to R341, R345, R411, R413, R414, R461, R464: a dropout that lasts, or a bulk below 40 V, stops the module dark with DDR kept; the bulk's end, PWR_EN, an opened latch and THERMTRIP_N power it off and lose DDR;
input and PWR_EN bring it back. -/
def Obligations.PowerFailsAndReturns : Prop :=
  (∀ s bulk, s.powered = true → (s.flag ENV_STAT_DROP = true ∨ bulk < 4000) →
    ∃ t, exec (.darkStop bulk) s = .next t ∧ t.boot.power = .dark ∧ t.pins.pwrOk = false ∧ t.frozen = none ∧ t.nv.powerFail.isSome = true ∧ t.mem = s.mem ∧
      (∀ d, d < 12 → t.get PWR_DOMSTAT_ON d = if d < 8 then 0x80000 else 0xC0000))
  ∧ (∀ s, s.boot.power = .dark →
    ∃ t, exec .bulkDepleted s = .next t ∧ t.boot = { s.boot with power := .off } ∧ t.mem = [] ∧ t.memErr = [] ∧ (∀ d, d < 12 → t.get PWR_DOMSTAT_ON d = 0) ∧
      KeepsRegs (fun r => r.name = .PWR_DOMSTAT) s t ∧ t = { s with regs := t.regs, mem := t.mem, memErr := t.memErr, boot := t.boot })
  ∧ (∀ s, s.powered = true → ∃ t, exec .pwrEnLow s = .next t ∧ t.boot.power = .off ∧ t.pins.pwrEn = false ∧ t.pins.pwrOk = false ∧ t.mem = [] ∧ t.boot.pwrLowAt = s.clk.el)
  ∧ (∀ s, s.powered = true → ∃ t, exec .memLatchOpen s = .next t ∧ t.boot.power = .off ∧ t.pins.pwrOk = false ∧ t.mem = [])
  ∧ (∀ s die, die < 12 → s.powered = true → ∃ t, exec (.thermtrip die) s = .next t ∧ t.boot.power = .tripped ∧ t.pins.thermtripN = false ∧ t.pins.pwrOk = false ∧ t.mem = [] ∧
      t.get PWR_TEMP_NOW die = 110)
  ∧ (∀ s vin, s.powered = true → s.flag ENV_STAT_DROP = true → s.get ENV_STAT_SAG = 1 → s.shed = true → 4400 ≤ vin → vin < 2 ^ 16 →
    ∃ t, exec (.inputReturn vin) s = .next t ∧ t.get ENV_STAT_DROP = 0 ∧ t.get ENV_STAT_SAG = 1 ∧ t.get ENV_STAT_SHED = 1 ∧ t.get ENV_POWER_VIN = vin ∧
      KeepsRegs (fun r => r = ⟨.ENV_STAT, 0, 0⟩ ∨ r = ⟨.ENV_POWER, 0, 0⟩) s t ∧ t = { s with regs := t.regs })
  ∧ (∀ s vin, s.boot.power = .dark → s.pins.pwrEn = true → 4400 ≤ vin →
    ∃ t, exec (.inputReturn vin) s = .next t ∧ t.boot.power = .on ∧ t.get RST_REASON_CAUSE = 6 ∧ t.get RST_BOOTSTAT_READY = 0 ∧ t.nv.powerFail = none ∧ t.bays = [] ∧ t.mem = s.mem)
  ∧ (∀ s, s.boot.power = .off →
    ∃ t, exec .pwrEnRise s = .next t ∧ t.boot.power = .on ∧ t.pins.pwrEn = true ∧ t.get RST_REASON_CAUSE = 0 ∧ t.get RST_BOOTSTAT_READY = 0 ∧ t.get RST_BOOTSTAT_STAGE = 0 ∧
      t.mem = [] ∧ t.bays = [] ∧ t.pending = s.pending)

/-- R373, R375, R378, R381, R385, R399: a capture becomes a DUMP record or is missed; a window's end shows its count and rate; an edge arms the PIN entries; OBS_EVT, OBS_STEP and a ring
that is enabled take their writes. -/
def Obligations.CentralReaderRecordsAndCounts : Prop :=
  (∀ s, s.clocked = true → s.flag OBS_DUMP_EN = true → s.flag OBS_RINGCTL_EN 0 = true →
    ∃ (u : State) (rec_ : Bytes), exec .dumpCapture s = .next (u.ringWrite 0 rec_) ∧ rec_.length = 64 * 106 ∧ leVal (rec_.take 8) = recWord0 1 106 s.obs.dumpSeq ∧
      u.obs = { s.obs with dumpSeq := (s.obs.dumpSeq + 1) % 2 ^ 32, missed := 0, gap := false } ∧ u = { s with obs := u.obs })
  ∧ (∀ s, s.powered = true → s.flag OBS_DUMP_EN = true → s.flag OBS_RINGCTL_EN 0 = false →
    exec .dumpCapture s = .next { s with obs := { s.obs with missed := s.obs.missed + 1, gap := true } })
  ∧ (∀ s n, n < 8 → s.clocked = true → s.flag OBS_BWSEL_EN 0 n = true →
    let c := Tab.get 0 s.obs.bwCount n
    ∃ t, exec (.bwWindow n) s = .next t ∧ t.get OBS_BW_COUNT 0 n = min c (2 ^ 40 - 1) ∧ t.get OBS_BW_MBPS 0 n = min (c * 64 / 2 ^ s.get OBS_BWSEL_K 0 n) (2 ^ 24 - 1) ∧
      Tab.get 0 t.obs.bwCount n = 0 ∧ KeepsRegs (· = ⟨.OBS_BW, 0, n⟩) s t ∧ t = { s with regs := t.regs, obs := t.obs })
  ∧ (∀ s, s.clocked = true → s.flag OBS_EVT_TRIG = true →
    ∃ t, exec .evtIoEdge s = .next t ∧ (∀ n, n ∈ t.obs.pinArmed ↔ n < 16 ∧ s.flag OBS_PHOTOCTL_EN 0 n = true ∧ s.get OBS_PHOTOCTL_MODE 0 n = 1) ∧ t = { s with obs := t.obs })
  ∧ (∀ s (v : W32), HostWrites s ⟨.OBS_EVT, 0, 0⟩ →
    ∃ t, exec (.obsEvtWrite v) s = .next t ∧ t.get OBS_EVT_TRIG = b2n (v.getLsbD 0) ∧ t.get OBS_EVT_STROBE = b2n (v.getLsbD 1) ∧
      t.get OBS_EVT_CONFLICT = b2n (v.getLsbD 0 && v.getLsbD 1) ∧ KeepsRegs (· = ⟨.OBS_EVT, 0, 0⟩) s t ∧ t = { s with regs := t.regs })
  ∧ (∀ s, HostWrites s ⟨.OBS_STEPCTL, 0, 0⟩ →
    ∃ t, exec .obsStepctlInc s = .next t ∧ t.get OBS_STEP_NOW = (s.get OBS_STEP_NOW + 1) % 2 ^ 32 ∧ KeepsRegs (· = ⟨.OBS_STEP, 0, 0⟩) s t ∧ t = { s with regs := t.regs })
  ∧ (∀ s n (v : W32), n < 4 → HostWrites s ⟨.OBS_RINGCTL, n, 0⟩ → v.getLsbD 31 = true →
    ∃ t, exec (.obsRingEnable n v) s = .next t ∧ t.get OBS_RINGCTL_EN n = 1 ∧ t.get OBS_RINGCTL_STOP n = b2n (v.getLsbD 30) ∧
      (s.flag OBS_RINGCTL_EN n = false → t.get OBS_RINGCTL_SIZE n = bits v.toNat 0 20 ∧ t.get OBS_RINGWR_WR n = 0 ∧ t.get OBS_RINGRD_RD n = 0) ∧
      (s.flag OBS_RINGCTL_EN n = true → t.get OBS_RINGCTL_SIZE n = s.get OBS_RINGCTL_SIZE n ∧ t.get OBS_RINGWR_WR n = s.get OBS_RINGWR_WR n) ∧
      KeepsRegs (fun r => r = ⟨.OBS_RINGCTL, n, 0⟩ ∨ r = ⟨.OBS_RINGWR, n, 0⟩ ∨ r = ⟨.OBS_RINGRD, n, 0⟩) s t ∧ t = { s with regs := t.regs })

/-- R365, R387, R388, R390, R391: pin and register trigger a tableau that stops the clocks, freezes with its contents kept, thaws after RESUME and restarts every stopped clock. -/
def Obligations.TableauFreezesAndThaws : Prop :=
  (∀ s, s.clocked = true → s.flag TAB_CTL_PINEN = true → s.get TAB_STAT_STATE = 0 →
    ∃ t, exec .tableauPin s = .next t ∧ t.get TAB_STAT_STATE = 1 ∧ t.get TAB_STAT_PIN = 1 ∧ t.get TAB_STAT_COUNT = counted TAB_STAT_COUNT (s.get TAB_STAT_COUNT) 1 ∧ t.obs.tabPin = true ∧
      t.pins.tableauN = false ∧ KeepsRegs (· = ⟨.TAB_STAT, 0, 0⟩) s t ∧ t = { s with regs := t.regs, obs := t.obs, pins := t.pins })
  ∧ (∀ s (v : W32), HostWrites s ⟨.TAB_CTL, 0, 0⟩ → v.getLsbD 1 = true → v.getLsbD 2 = false → s.get TAB_STAT_STATE = 0 →
    ∃ t, exec (.tabCtlFreeze v) s = .next t ∧ t.get TAB_STAT_STATE = 1 ∧ t.get TAB_STAT_COUNT = counted TAB_STAT_COUNT (s.get TAB_STAT_COUNT) 1 ∧ t.obs.tabPin = false ∧
      t.get TAB_CTL_PINEN = b2n (v.getLsbD 0) ∧ KeepsRegs (fun r => r = ⟨.TAB_CTL, 0, 0⟩ ∨ r = ⟨.TAB_STAT, 0, 0⟩) s t ∧ t = { s with regs := t.regs, obs := t.obs })
  ∧ (∀ s, s.powered = true → s.get TAB_STAT_STATE = 1 → s.frozen = none →
    ∃ t, exec .tableauClockStop s = .next t ∧ t.clocked = false ∧ t.frozen = some (s.clk.sys, s.clk.el, if s.obs.tabPin then 1 else 2) ∧ t.env.acc.tableau = true ∧
      t = { s with frozen := t.frozen, env := t.env })
  ∧ (∀ s, s.powered = true → s.get TAB_STAT_STATE = 1 → s.frozen.isSome = true →
    ∃ t, exec .tableauFrozen s = .next t ∧ t.get TAB_STAT_STATE = 2 ∧ t.get TAB_STAT_RDOUT = b2n (s.get SEC_STATE_STATE == 0) ∧ eventSet t 8 ∧ t.mem = s.mem ∧ t.bays = s.bays ∧ t.dies = s.dies)
  ∧ (∀ s (v : W32), HostWrites s ⟨.TAB_CTL, 0, 0⟩ → v.getLsbD 2 = true → v.getLsbD 1 = false → s.get TAB_STAT_STATE = 2 →
    ∃ t, exec (.tabCtlResume v) s = .next t ∧ t.get TAB_STAT_STATE = 3 ∧ t.get TAB_STAT_RDOUT = 0 ∧ t.get TAB_STAT_PIN = 0 ∧ t.frozen = s.frozen ∧
      KeepsRegs (fun r => r = ⟨.TAB_CTL, 0, 0⟩ ∨ r = ⟨.TAB_STAT, 0, 0⟩) s t ∧ t = { s with regs := t.regs, pins := t.pins })
  ∧ (∀ s sys el src, s.powered = true → s.get TAB_STAT_STATE = 3 → s.frozen = some (sys, el, src) → noSwaps s →
    ∃ t, exec .tableauThawDone s = .next t ∧ t.frozen = none ∧ t.get TAB_STAT_STATE = 0 ∧ t.get TAB_HOLD_MICROS = min ((s.clk.el - el) / 1000) (2 ^ 32 - 1) ∧ t.env.rFresh = true ∧ eventSet t 8 ∧
      t.bays = s.bays ∧ t.mem = s.mem ∧ KeepsRegs (fun r => touches [.TAB_STAT, .TAB_HOLD, .UST_EXCLUS, .UST_SVCUS, .UST_LOSTUS, .UST_LOSTEV] r ∨ eventReg r) s t)

/-! ## Resets and boot -/

namespace Sys2Proof.Claims

open Sys2Proof.Machine

/-- A cold reset with a cause (R409): storage, commands and links are gone and boot begins. -/
structure ColdReset (s t : State) (cause : Nat) : Prop where
  cause  : t.get RST_REASON_CAUSE = cause
  count  : t.get RST_REASON_COUNT = counted RST_REASON_COUNT (s.get RST_REASON_COUNT) 1
  boot   : t.get RST_BOOTSTAT_READY = 0 ∧ t.get RST_BOOTSTAT_STAGE = 0 ∧ t.boot.power = .on
  gone   : t.mem = [] ∧ t.bays = [] ∧ t.dies = [] ∧ t.engines = [] ∧ t.boards = [] ∧ t.windows = [] ∧ t.ro.cmds = []
  time   : t.clk = { s.clk with odo := 0, ca := 0 }
  kept   : t.nv = s.nv ∧ t.flash = s.flash ∧ t.pending = s.pending

/-- The boot logic runs: power is on and PERST_N is high. -/
def BootRuns (s : State) : Prop := s.powered = true ∧ s.pins.perstN = true

end Sys2Proof.Claims

/-- R407 to R412, R415: RST_CTL.COLD, an internal fault and a lost root PLL reset the module cold, each with its cause; PERST_N low resets it warm with DDR kept and holds it. -/
def Obligations.ResetsLeaveTheirState : Prop :=
  (∀ s, HostWrites s ⟨.RST_CTL, 0, 0⟩ → ∃ t, exec .rstCtlCold s = .next t ∧ ColdReset s t 2)
  ∧ (∀ s kind, s.powered = true → (kind = .noBoundary → s.flag RUN_STAT_ACTIVE = true) → ∃ t, exec (.internalFault kind) s = .next t ∧ ColdReset s t 4)
  ∧ (∀ s, s.powered = true → ∃ t, exec (.pllLockLoss .root) s = .next t ∧ ColdReset s t 5 ∧ t.get CLK_STAT_LOSSCNT = counted CLK_STAT_LOSSCNT (s.get CLK_STAT_LOSSCNT) 1)
  ∧ (∀ s, s.powered = true → s.pins.perstN = true →
    ∃ t, exec .perstNFall s = .next t ∧ t.pins.perstN = false ∧ t.clocked = false ∧ t.get RST_REASON_CAUSE = 1 ∧ t.get RST_BOOTSTAT_READY = 0 ∧ t.bays = [] ∧ t.ro.cmds = [] ∧
      t.mem = s.mem ∧ t.clk = s.clk ∧ t.nv = s.nv ∧ t.boot.keepDdr = s.ddrWhole)
  ∧ (∀ s, s.pins.perstN = false → exec .perstNRise s = .next { s with pins := { s.pins with perstN := true }, boot := { s.boot with start := s.clk.el } })

/-- R187, R188, R403, R404, R416 to R420, R422: each boot stage in turn: the clock, the images, the sockets, training, self-test, the zeroing of DDR, and READY; a stage that fails halts boot. -/
def Obligations.BootReachesReady : Prop :=
  (∀ s, BootRuns s → s.bootAt 0 = true →
    ∃ t, exec (.pllLock true) s = .next t ∧ t.get CLK_STAT_LOCK = 1 ∧ t.get CLK_STAT_REFOK = 1 ∧ t.get RST_BOOTSTAT_STAGE = 1 ∧
      KeepsRegs (fun r => r = ⟨.CLK_STAT, 0, 0⟩ ∨ r = ⟨.RST_BOOTSTAT, 0, 0⟩) s t ∧ t = { s with regs := t.regs })
  ∧ (∀ s, BootRuns s → s.bootAt 0 = true →
    ∃ t, exec (.pllLock false) s = .next t ∧ t.boot.halted = true ∧ t.get RST_BOOTSTAT_STAGE = 1 ∧ t.get RST_BOOTSTAT_CODE = cNOT_READY ∧ t.pins.alertN = false)
  ∧ (∀ s, BootRuns s → s.bootAt 1 = true → s.flag CLK_STAT_LOCK = true →
    ∃ t, exec .bootImageCheck s = .next t ∧ t.get RST_BOOTSTAT_STAGE = (if (s.selection.getD 0 none).isNone then 15 else 4) ∧
      t.boot.halted = (s.selection.getD 0 none).isNone ∧ t.get RST_BOOTSTAT_OUTCOME = s.outcome s.selection ∧ t.boot.measures = s.measureImages s.selection ∧ t.mem = s.mem)
  ∧ (∀ s xs, BootRuns s → s.bootAt 4 = true → populationOk xs (s.get MEM_CFG_RATEMAX) = true →
    ∃ t, exec (.spdCheck xs) s = .next t ∧ t.get RST_BOOTSTAT_STAGE = 5 ∧ t.boot.halted = false ∧ t.boot.rates = commonRates xs ∧
      (∀ c x, xs[c]? = some x → t.get MEM_CHSTAT_TEMP c = x.temp % 2 ^ MEM_CHSTAT_TEMP.w) ∧ t.mem = s.mem)
  ∧ (∀ s xs, BootRuns s → s.bootAt 4 = true → populationOk xs (s.get MEM_CFG_RATEMAX) = false →
    ∃ t, exec (.spdCheck xs) s = .next t ∧ t.boot.halted = true ∧ t.get RST_BOOTSTAT_STAGE = 5 ∧ t.get RST_BOOTSTAT_CODE = cMEM_POPULATION)
  ∧ (∀ s r rs, BootRuns s → s.bootAt 5 = true → s.boot.trained = false → s.get RST_IMG_SLOT 0 2 ≠ 3 → s.boot.keepDdr = false → s.retire.chan = none → s.trainRates = r :: rs → r ≤ 2 →
    ∃ t, exec (.memTrain [] false) s = .next t ∧ t.boot.trained = true ∧ t.get MEM_INFO_RATE = r ∧ t.get RST_BOOTSTAT_STAGE = 6 ∧
      t.boot.reserve = (s.flag MEM_CFG_RESERVE || s.flag MEM_INFO_RETIRED) ∧ t.mem = [] ∧ t.bays = s.bays)
  ∧ (∀ s f, BootRuns s → s.bootAt 5 = true → s.boot.trained = false → s.get RST_IMG_SLOT 0 2 ≠ 3 → s.boot.keepDdr = true → s.boot.trainedRate = s.get MEM_CFG_RATEMAX →
    ∃ t, exec (.memTrain f true) s = .next t ∧ t.boot.trained = true ∧ t.boot.zeroed = true ∧ t.get RST_REASON_DDRKEPT = 1 ∧ t.get RST_BOOTSTAT_STAGE = 6 ∧ t.mem = s.mem)
  ∧ (∀ s, BootRuns s → s.boot.halted = false → s.ready = false → s.boot.selftest = false → 5 ≤ s.get RST_BOOTSTAT_STAGE →
    ∃ t, exec (.selfTest []) s = .next t ∧ t.boot = { s.boot with selftest := true } ∧ t.get RST_BOOTSTAT_STAGE = max 7 (s.get RST_BOOTSTAT_STAGE) ∧ t.mem = s.mem ∧ t.bays = s.bays)
  ∧ (∀ s, BootRuns s → s.boot.halted = false → s.ready = false → s.boot.trained = true → s.boot.zeroed = false →
    ∃ t, exec .bootDdrZero s = .next t ∧ t.mem = [] ∧ t.memErr = [] ∧ t.boot = { s.boot with zeroed := true } ∧ t.get RST_BOOTSTAT_STAGE = max 8 (s.get RST_BOOTSTAT_STAGE) ∧ t.bays = s.bays)
  ∧ (∀ s, BootRuns s → s.boot.halted = false → s.ready = false → s.boot.trained = true → s.boot.zeroed = true → s.boot.selftest = true → s.get RST_IMG_SLOT 0 3 ≠ 3 → s.get RST_IMG_SLOT 0 4 ≠ 3 →
    ∃ t, exec .bootReady s = .next t ∧ t.ready = true ∧ t.get RST_BOOTSTAT_STAGE = 10 ∧ t.get RST_BOOTSTAT_CODE = cOK ∧ eventSet t 10 ∧ t.get RST_BOOTCFG_REHEARSE = 0 ∧
      t.get RST_BOOTSTAT_REH = b2n (s.get RST_BOOTSTAT_OUTCOME == 2 || (s.get RST_BOOTSTAT_OUTCOME == 1 && s.flag RST_BOOTCFG_STRICT) || s.flag RST_BOOTCFG_REHEARSE) ∧
      ((∀ lb, lb < 64 → s.phys lb % 9 = bits (s.get UST_MAP_PHYS 0 (lb / 8)) (4 * (lb % 8)) 4) → ∀ lb, lb < 64 → t.bayOn (s.phys lb) = true) ∧ t.mem = s.mem)

/-! ## Trust, management port, host port -/

namespace Sys2Proof.Claims

open Sys2Proof.Machine

/-- The only message that waits asks for operation `op`. -/
def Asked (s : State) (m : Msg) (op : Nat) : Prop := s.colvelUp = true ∧ s.trust.queue = [m] ∧ reqOp m.bytes = op

/-- The message is answered with a code and payload on the path it came on, and none waits (R435, R442). -/
structure Answers (t : State) (m : Msg) (code : Nat) (p : Bytes) : Prop where
  queue : t.trust.queue = [] ∧ t.get SEC_STATE_BUSY = 0
  out   : (if m.port then t.trust.mgmtOut else t.trust.doeOut) = responseOf m.bytes code p
  last  : t.get SEC_STATE_LCODE = code ∧ t.get SEC_STATE_LOP = reqOp m.bytes
  event : m.port = false → eventSet t 11

/-- A signed request that passes its checks moves the command counter on (R436). -/
def CounterMoves (s t : State) (m : Msg) : Prop :=
  t.get SEC_CMDCTR_CTR = if (s.reqCheck m.bytes).2 then (s.get SEC_CMDCTR_CTR + 1) % 2 ^ 64 else s.get SEC_CMDCTR_CTR

/-- The management port has a new result for `cmd`, and an in-band interrupt for it (R465). -/
def PortResult (s t : State) (cmd : Nat) (bs : Bytes) : Prop := t.mgmt.result = some bs ∧ t.mgmt.ibi = s.mgmt.ibi ++ [cmd]

/-- The host's link is up and the function in D0. -/
def HostTalks (s : State) : Prop := s.hostUp = true ∧ s.host.d3 = false

end Sys2Proof.Claims

/-- R434 to R438, R441, R452: messages arrive in fragments and wait their turn; a request is answered with the code of its checks; only one with code OK gives a report, changes a key or seals. -/
def Sys2Proof.Claims.TrustRequestsAreAnswered : Prop :=
  (∀ s off data, s.colvelUp = true → s.hostUp = true → s.trust.doeError = false → off = s.trust.doePart.length → data.length ≤ 1048564 →
    exec (.doeFragment true off data) s = .next { s with trust := { s.trust with doePart := s.trust.doePart ++ data } })
  ∧ (∀ s off data, s.colvelUp = true → s.hostUp = true → s.trust.doeError = false → off = s.trust.doePart.length → data.length ≤ 1048564 → s.trust.queue = [] → headed (s.trust.doePart ++ data) = true →
    ∃ t, exec (.doeFragment false off data) s = .next t ∧ t.trust.queue = [{ port := false, bytes := s.trust.doePart ++ data }] ∧ t.trust.doePart = [] ∧ t.trust.doeOut = [] ∧ t.get SEC_STATE_BUSY = 1 ∧
      KeepsRegs (· = ⟨.SEC_STATE, 0, 0⟩) s t)
  ∧ (∀ s, s.hostUp = true → (s.trust.queue.filter fun m => m.port) = [] →
    ∃ t, exec .doeAbort s = .next t ∧ t.trust = { s.trust with queue := [], doePart := [], doeOut := [], doeError := false } ∧ t.get SEC_STATE_BUSY = 0 ∧ KeepsRegs (· = ⟨.SEC_STATE, 0, 0⟩) s t)
  ∧ (∀ s m, Asked s m 0x01 → let c := (s.reqCheck m.bytes).1
    ∃ t, exec .getCert s = .next t ∧ CounterMoves s t m ∧ t.nv = s.nv ∧ t.mem = s.mem ∧
      Answers t m c (if c = cOK then (if (reqPayload m.bytes).getD 0 0 = 0 then Config.deviceCert else s.fwCert.getD (s.slotBytes 14 0)) else []))
  ∧ (∀ s m, Asked s m 0x02 → let c := (s.reqCheck m.bytes).1
    ∃ t, exec .getReport s = .next t ∧ t.nv = s.nv ∧ t.mem = s.mem ∧ Answers t m c (if c = cOK then (s.report (reqPayload m.bytes)).1 else []) ∧
      t.get SEC_REPORTS_SEQ = if c = cOK then counted SEC_REPORTS_SEQ (s.get SEC_REPORTS_SEQ) 1 else s.get SEC_REPORTS_SEQ)
  ∧ (∀ s m, Asked s m 0x10 → let c := (s.reqCheck m.bytes).1
    ∃ t, exec .enrolOp s = .next t ∧ CounterMoves s t m ∧ Answers t m c [] ∧ t.nv = (if c = cOK then { s.nv with opKey := reqPayload m.bytes } else s.nv) ∧
      (c = cOK → t.get SEC_STATE_OPKEY = 1 ∧ t.get SEC_OPID_PREFIX = leVal ((sha3 (reqPayload m.bytes)).take 8) % 2 ^ 64) ∧ t.mem = s.mem)
  ∧ (∀ s m, Asked s m 0x11 → let c := (s.reqCheck m.bytes).1
    ∃ t, exec .enrolFac s = .next t ∧ CounterMoves s t m ∧ Answers t m c [] ∧ t.nv = (if c = cOK then { s.nv with facKey := reqPayload m.bytes } else s.nv) ∧
      t.env = (if c = cOK then { s.env with serialCmp := 0 } else s.env) ∧ (c = cOK → t.get SEC_STATE_FACKEY = 1) ∧ t.mem = s.mem)
  ∧ (∀ s m, Asked s m 0x12 → let c := (s.reqCheck m.bytes).1
    ∃ t, exec .releaseFac s = .next t ∧ CounterMoves s t m ∧ Answers t m c [] ∧ t.nv = (if c = cOK then { s.nv with facKey := [] } else s.nv) ∧ t.env = s.env ∧
      (c = cOK → t.get SEC_STATE_FACKEY = 0 ∧ t.get SEC_FACID_PREFIX = 0) ∧ t.mem = s.mem)
  ∧ (∀ s m, Asked s m 0x20 → let c := (s.reqCheck m.bytes).1
    ∃ t, exec .seal s = .next t ∧ CounterMoves s t m ∧ Answers t m c [] ∧ t.get SEC_STATE_STATE = (if c = cOK then 1 else s.get SEC_STATE_STATE) ∧ (c = cOK → t.get TAB_STAT_RDOUT = 0) ∧
      t.nv = s.nv ∧ t.mem = s.mem)
  ∧ (∀ s m, Asked s m 0x21 → s.clocked = true → let c := (s.reqCheck m.bytes).1
    ∃ t, exec .decommission s = .next t ∧ CounterMoves s t m ∧ t.trust.queue = [] ∧ t.get SEC_STATE_LCODE = c ∧
      (c ≠ cOK → Answers t m c [] ∧ t.nv = s.nv ∧ t.mem = s.mem ∧ t.get SEC_STATE_STATE = s.get SEC_STATE_STATE) ∧
      (c = cOK → t.get SEC_STATE_STATE = 2 ∧ t.nv.opKey = [] ∧ t.nv.facKey = [] ∧ t.get SEC_STATE_OPKEY = 0 ∧ t.get SEC_STATE_FACKEY = 0 ∧ t.get RUN_STAT_ACTIVE = 0))

/-- R437, R439, R440: UPDATE_BEGIN erases the inactive slot, UPDATE_DATA writes its bytes into it, UPDATE_END makes an accepted image active from the next reset and erases the slot of a refused one. -/
def Sys2Proof.Claims.UpdatesWriteTheInactiveSlot : Prop :=
  (∀ s m, Asked s m 0x30 → let c := (s.reqCheck m.bytes).1; let tg := beginTarget (reqPayload m.bytes); let k := s.inactiveSlot tg
    ∃ t, exec .updateBegin s = .next t ∧ Answers t m c [] ∧ t.mem = s.mem ∧ (c ≠ cOK → t.flash = s.flash ∧ t.trust.update = s.trust.update) ∧
      (c = cOK → t.slotBytes tg k = [] ∧ t.get SEC_STATE_UPD = 1 ∧ t.flash.active = s.flash.active ∧ t.ro.frameExcl = true ∧
        t.trust.update = some { target := tg, slot := k, total := beginTotal (reqPayload m.bytes) } ∧
        (∀ g j, 2 * g + j ≠ 2 * tg + k → t.slotBytes g j = s.slotBytes g j)))
  ∧ (∀ s m u, Asked s m 0x31 → s.trust.update = some u →
    let p := reqPayload m.bytes
    let c := (s.reqCheck m.bytes).1
    let c' := if c ≠ cOK then c else if u.total < numAt p 0 8 + (p.drop 8).length then cDESC_BAD else cOK
    ∃ t, exec .updateData s = .next t ∧ Answers t m c' [] ∧ t.mem = s.mem ∧ (c' ≠ cOK → t.flash = s.flash ∧ t.trust.update = some u) ∧
      (c' = cOK → ∃ u', t.trust.update = some u' ∧ u'.data = u.data.writeN (numAt p 0 8) (p.drop 8) ∧ u'.total = u.total ∧ t.slotBytes u.target u.slot = u'.bytes ∧ t.flash.active = s.flash.active))
  ∧ (∀ s m u, Asked s m 0x32 → s.trust.update = some u →
    let c := (s.reqCheck m.bytes).1
    let c' := if c ≠ cOK then c else s.updateCode u (reqPayload m.bytes)
    ∃ t, exec .updateEnd s = .next t ∧ Answers t m c' [] ∧ t.mem = s.mem ∧ CounterMoves s t m ∧
      (c ≠ cOK → t.flash = s.flash ∧ t.trust.update = some u) ∧ (c = cOK → t.trust.update = none ∧ t.get SEC_STATE_UPD = 0) ∧
      (c' = cOK → u.target ≤ 4 → Tab.get 0 t.flash.active u.target = u.slot ∧ t.flash.slots = s.flash.slots) ∧
      (c = cOK → c' ≠ cOK → t.slotBytes u.target u.slot = [] ∧ t.flash.active = s.flash.active))

/-- Requests to the root of trust, updates among them. -/
def Obligations.TrustAndUpdates : Prop :=
  Sys2Proof.Claims.TrustRequestsAreAnswered ∧ Sys2Proof.Claims.UpdatesWriteTheInactiveSlot

/-- R403, R435, R452, R464, R465: each private write of the management port has its effect and leaves its result pending; a read takes the result, or NOT_READY where there is none. -/
def Obligations.ManagementPortAnswers : Prop :=
  (∀ s off, s.colvelUp = true → off % 8 = 0 →
    ∃ t, exec (.mgmtRegRead off) s = .next t ∧ PortResult s t 0x01 (0 :: leBytes 8 (s.read8 off)) ∧ t = { s with mgmt := t.mgmt })
  ∧ (∀ s (arg : Byte), s.colvelUp = true → arg.toNat ≤ 1 → (arg.toNat = 1 ↔ s.get ENV_CTL_SHED = 1) → shedSettled s →
    ∃ t, exec (.mgmtShed arg) s = .next t ∧ t.get ENV_CTL_SHED = arg.toNat ∧ PortResult s t 0x02 [BitVec.ofNat 8 cOK] ∧ KeepsRegs (· = ⟨.ENV_CTL, 0, 0⟩) s t ∧ t = { s with regs := t.regs, mgmt := t.mgmt })
  ∧ (∀ s, s.colvelUp = true → s.shed = false → ∃ t, exec (.mgmtShed 1) s = .next t ∧ Shedding t ∧ t.get ENV_CTL_SHED = 1 ∧ PortResult s t 0x02 [BitVec.ofNat 8 cOK])
  ∧ (∀ s, s.colvelUp = true → ∃ t, exec (.mgmtCold 0x434F4C44) s = .next t ∧ ColdReset s t 3 ∧ PortResult s t 0x03 [BitVec.ofNat 8 cOK])
  ∧ (∀ s bays grm (keep : Byte), s.colvelUp = true → s.curtQ = none → keep.toNat ≤ 1 →
    ∃ t, exec (.mgmtCurtain bays grm keep) s = .next t ∧ t.curtQ = some { bays := bays, grm := grm, keep := keep == 1 } ∧ t.get RST_CURTSTAT_QUEUED = 1 ∧ PortResult s t 0x04 [BitVec.ofNat 8 cOK] ∧
      KeepsRegs (· = ⟨.RST_CURTSTAT, 0, 0⟩) s t ∧ t = { s with regs := t.regs, curtQ := t.curtQ, mgmt := t.mgmt })
  ∧ (∀ s off data, s.colvelUp = true → 64 * off + data.length ≤ 5760 →
    ∃ t, exec (.schedData off data) s = .next t ∧ (∀ (i : Nat) v, data[i]? = some v → t.mgmt.buf.read (64 * off + i) = v) ∧
      (∀ a, (a < 64 * off ∨ 64 * off + data.length ≤ a) → t.mgmt.buf.read a = s.mgmt.buf.read a) ∧ PortResult s t 0x10 [BitVec.ofNat 8 cOK] ∧ t = { s with mgmt := t.mgmt })
  ∧ (∀ s, s.colvelUp = true → s.get ENV_STAT_LBUSY = 0 → covered 5760 s.mgmt.have_ = true →
    ∃ t, exec .schedSubmit s = .next t ∧ t.get ENV_STAT_LBUSY = 1 ∧ t.env = { s.env with load := some (.mgmt (s.mgmt.buf.readN 0 5760)) } ∧ t.mgmt = { s.mgmt with have_ := [] } ∧
      KeepsRegs (· = ⟨.ENV_STAT, 0, 0⟩) s t)
  ∧ (∀ s off, s.colvelUp = true → ∃ t, exec (.meterRead off) s = .next t ∧ PortResult s t 0x20 (0 :: (List.range 256).map fun i => s.storeByte (off + i)) ∧ t = { s with mgmt := t.mgmt })
  ∧ (∀ s off data, s.colvelUp = true → off = s.trust.mgmtPart.length →
    ∃ t, exec (.msgData true off data) s = .next t ∧ t.trust = { s.trust with mgmtPart := s.trust.mgmtPart ++ data } ∧ PortResult s t 0x30 [BitVec.ofNat 8 cOK] ∧
      t = { s with trust := t.trust, mgmt := t.mgmt })
  ∧ (∀ s off data, s.colvelUp = true → off = s.trust.mgmtPart.length → s.trust.queue = [] → headed (s.trust.mgmtPart ++ data) = true →
    ∃ t, exec (.msgData false off data) s = .next t ∧ t.trust.queue = [{ port := true, bytes := s.trust.mgmtPart ++ data }] ∧ t.trust.mgmtPart = [] ∧ t.trust.mgmtOut = [] ∧ t.get SEC_STATE_BUSY = 1)
  ∧ (∀ s off, s.colvelUp = true → off < s.trust.mgmtOut.length →
    let d := (s.trust.mgmtOut.drop off).take 252
    ∃ t, exec (.msgRead off) s = .next t ∧ PortResult s t 0x31 (0 :: leBytes 4 (b2n (decide (off + d.length < s.trust.mgmtOut.length)) * 2 ^ 31 + off) ++ d) ∧ t = { s with mgmt := t.mgmt })
  ∧ (∀ s, s.colvelUp = true → ∃ t, exec .status s = .next t ∧
      PortResult s t 0x3F (0 :: leBytes 4 (s.raw ⟨.RST_BOOTSTAT, 0, 0⟩).toNat ++ leBytes 4 (s.raw ⟨.ENV_STAT, 0, 0⟩).toNat) ∧ t = { s with mgmt := t.mgmt })
  ∧ (∀ s, s.colvelUp = true → exec .mgmtResultRead s = .next { s with mgmt := { s.mgmt with result := none, lastRead := s.mgmt.result.getD [BitVec.ofNat 8 cNOT_READY] } })
  ∧ (∀ s, s.colvelUp = true → exec .mgmtMsgTimeout s = .next { s with trust := { s.trust with mgmtPart := [] } })

/-- R8, R305, R443, R444, R446 to R449, R455: BAR2 reads and writes DDR at BAR2's base; a register write sets its writable fields and holds a lower half; call boards take their words; the function's
power state and the link change. -/
def Obligations.HostReachesMemoryAndRegisters : Prop :=
  (∀ s off len, HostTalks s → s.get TAB_STAT_STATE = 0 → s.ready = true → s.flag MEM_ZERO_BUSY = false → ddrSound s →
    let a := s.bar2Base + off
    inDdr s a len → 0 < len →
    ∃ t, exec (.bar2Read off len) s = .next t ∧ (∃ c, t.host.comps = s.host.comps ++ [c] ∧ c.data = s.mem.readN a len ∧ c.poisoned = false ∧ c.ur = false) ∧ t.mem = s.mem ∧ t.bays = s.bays)
  ∧ (∀ s off data, HostTalks s → s.get TAB_STAT_STATE = 0 → s.ready = true → s.flag MEM_ZERO_BUSY = false → ddrSound s →
    let a := s.bar2Base + off
    inDdr s a data.length → data ≠ [] →
    ∃ t, exec (.bar2Write off data false) s = .next t ∧ (∀ (i : Nat) v, data[i]? = some v → t.mem.read (a + i) = v) ∧
      (∀ x, (x < a ∨ a + data.length ≤ x) → t.mem.read x = s.mem.read x) ∧ t.bays = s.bays ∧ t.host = s.host)
  ∧ (∀ s off data, s.hostUp = true →
    ∃ t, exec (.bar2Write off data true) s = .next t ∧ t.get HST_ERR_UR = counted HST_ERR_UR (s.get HST_ERR_UR) 1 ∧ KeepsRegs (· = ⟨.HST_ERR, 0, 0⟩) s t ∧ t = { s with regs := t.regs })
  ∧ (∀ s n, s.hostUp = true → 34 ≤ n → n ≤ 43 → exec (.bar2Resize n) s = .next { s with host := { s.host with bar2log := n } })
  ∧ (∀ s, s.hostUp = true → s.host.d3 = false → exec (.powerStateChange true) s = .next { s with host := { s.host with d3 := true } })
  ∧ (∀ s, s.hostUp = true → s.host.d3 = true → s.host.owed = [] → exec (.powerStateChange false) s = .next { s with host := { s.host with d3 := false } })
  ∧ (∀ s rate width, s.hostUp = true → s.host.linked = true → rate < 8 → width < 32 →
    ∃ t, exec (.hostLinkRetrain rate width true) s = .next t ∧ t.get HST_LINK_UP = 1 ∧ t.get HST_LINK_RATE = rate ∧ t.get HST_LINK_WIDTH = width ∧ t.get HST_LINK_FLIT = b2n (rate == 5) ∧
      t.get HST_LINK_RETRAINS = counted HST_LINK_RETRAINS (s.get HST_LINK_RETRAINS) 1 ∧ KeepsRegs (· = ⟨.HST_LINK, 0, 0⟩) s t ∧ t = { s with regs := t.regs })
  ∧ (∀ s r off (v : W64), HostTalks s → off % 4 = 0 → regAt off = some r → r.name.spec.width = 32 → s.reaches r = true → s.storable r (v.toNat % 2 ^ 32) = v.toNat % 2 ^ 32 →
    (∀ u, State.wrEffect u r (s.raw r).toNat (v.toNat % 2 ^ 32) = u) →
    ∃ t, exec (.registerWrite 0 off 4 v) s = .next t ∧ t.raw r = BitVec.ofNat 64 (r.name.spec.fields.foldl (FSpec.apply s.open_ (v.toNat % 2 ^ 32)) (s.raw r).toNat) ∧
      KeepsRegs (· = r) s t ∧ t = { s with regs := t.regs })
  ∧ (∀ s r off (v : W64), HostTalks s → off % 4 = 0 → regAt off = some r → r.name.spec.width = 64 → r.name.dwords = false → off = r.offset → s.reaches r = true →
    ∃ t, exec (.registerWrite 0 off 4 v) s = .next t ∧ Tab.get none t.host.heldLow r.offset = some (v.toNat % 2 ^ 32) ∧ (∀ q, t.raw q = s.raw q) ∧ t = { s with host := t.host })
  ∧ (∀ s e i (v : W64), HostTalks s → s.ready = true → e < 64 → i < 28 →
    ∃ t, exec (.registerWrite 4 (256 * e + 8 * i) 8 v) s = .next t ∧ (t.board e).word i = v.toNat ∧ (∀ j, j ≠ i → (t.board e).word j = (s.board e).word j) ∧
      (∀ f, f ≠ e → t.board f = s.board f) ∧ t = { s with boards := t.boards })


/-! ## The queue, reset, cue words, addresses and seeds -/

namespace Sys2Proof.Claims

open Sys2Proof.Machine

/-- The three addressed stores are in canonical form: DDR, every bay's wings, every die's green room. -/
def StoresCanonical (s : State) : Prop :=
  Memory.wf s.mem = true ∧ (∀ p, Memory.wf (s.bay p).wings = true) ∧ (∀ d, Memory.wf (s.die d).green = true)

/-- The extent of dimension `j` of a generator (R88). -/
def agExtent (s : State) (p g j : Nat) : Nat := s.get CUE_AGDIM_EXTM1 p (5 * g + j) + 1
/-- The index of dimension `j` of a generator (R88). -/
def agIndex (s : State) (p g j : Nat) : Nat := s.get CUE_AGDIM_INDEX p (5 * g + j)

/-- The seed of R38, bit by bit: T with the device number in bits 63 to 52 and the source number in 51 to 44. -/
def IsSeed (seed t : W64) (device source : Nat) : Prop :=
  (∀ b, b < 44 → seed.getLsbD b = t.getLsbD b) ∧
  (∀ b, b < 8 → seed.getLsbD (44 + b) = (t.getLsbD (44 + b) ^^ source.testBit b)) ∧
  (∀ b, b < 12 → seed.getLsbD (52 + b) = (t.getLsbD (52 + b) ^^ device.testBit b))

/-- The value generator `i` loads from a seed (R38). -/
def loadedFrom (seed : W64) (i : Nat) : W64 :=
  let v := seed ^^^ BitVec.ofNat 64 (i * 0x9E3779B97F4A7C15 % 2 ^ 64)
  if v = 0 then 1 else v

end Sys2Proof.Claims

/-- The queue: a step runs the command at its front on the state with the rest of the queue; with an empty queue the step is
the passing of time: the clocks run, and an opened milepost takes the next step of its work on the sums (the model's choice, log entries 3 and 99). -/
def Obligations.StepRunsTheFrontCommand : Prop :=
  (∀ s c rest, s.pending = c :: rest → step s = exec c { s with pending := rest })
  ∧ (∀ s, s.pending = [] → step s = .next s.idle)
  ∧ (∀ s : State, s.mp.todo = [] → s.idle = s.tick)

/-- Every well-formed command completes in every state. A command that names a unit the module does not have stops with that unit's name:
a logical bay above 63, an engine above 103, a physical bay above 71, a die, channel, scan engine, Felsyn port or ring above the last. -/
def Obligations.CommandsCompleteOnUnitsThatExist : Prop :=
  (∀ c s, Instr.wf c = true → ∃ t, exec c s = .next t)
  ∧ (∀ lb a m s, 64 ≤ lb → ∀ c ∈ [Instr.set lb, .loadw lb, .feed lb, .drain lb, .move lb, .ringOpen lb, .ringClose lb, .ringAcq lb, .ringFill lb, .ringTake lb, .ringFree lb] ++
      [.wait lb, .post lb, .loop lb, .endl lb, .mark lb, .exit lb, .promptFirst lb, .promptNext lb, .promptSelect lb, .matchAssoc lb, .matchBitmap lb, .walk lb, .halt lb] ++
      [.haltRetire lb, .cueAccept lb, .loadwEnd lb a, .feedEnd lb a, .drainRowRead lb, .drainRowStore lb, .waitSatisfied lb, .postDelivery lb, .revolveCredit lb, .schedOverrun lb] ++
      [.crossbarGrant lb, .crossbarAge lb, .stopReceive lb, .bayStopDone lb, .stashSaveDone lb, .marginCheckDone lb m, .photocallDone lb, .matchEnd lb, .walkEnd lb],
      exec c s = .fault (.noSuchUnit lb))
  ∧ (∀ e s, 104 ≤ e → ∀ c ∈ [Instr.streamAccept e, .runaheadRequest e, .streamDeliver e, .staleRefetch e, .moveDone e, .strCtlCclr e], exec c s = .fault (.noSuchUnit e))
  ∧ (∀ p v s, 72 ≤ p → ∀ c ∈ [Instr.cueRndctlClr p v, .cueArrctlEclr p, .cueSeqctlCclr p, .wngCtlEclr p, .sprCtlCclr p], exec c s = .fault (.noSuchUnit p))
  ∧ (∀ x s, 32 ≤ x → ∀ c ∈ [Instr.refresh x, .channelAutoRetire x, .memChctlEclr x], exec c s = .fault (.noSuchUnit x))
  ∧ (∀ d m a g s, 8 ≤ d → ∀ c ∈ [Instr.understudyCheckDone d m, .swapCopyDone d, .wireRemap d a g, .grmCtlEclr d, .prmCtlCclr d, .promptEnd d], exec c s = .fault (.noSuchUnit d))
  ∧ (∀ p s, 4 ≤ p → ∀ c ∈ [Instr.depCtlFlush p, .depCtlDisable p, .gatherJobDone p, .gthCtlCclr p, .tlhUpdctlCclr p, .fabCntctlCclr p, .depotFlushDone p], exec c s = .fault (.noSuchUnit p))
  ∧ (∀ e v n s, 8 ≤ e → ∀ c ∈ [Instr.chkGo e v, .chkPause e n, .chkScanDone e, .bwWindow e], exec c s = .fault (.noSuchUnit e))
  ∧ (∀ p l v s, 16 ≤ p → ∀ c ∈ [Instr.replayTimeout p, .laneLoss p l, .linkDown p, .linkUp p, .fabPortctlCclr p v, .pllLockLoss (.felsyn p)], exec c s = .fault (.noSuchUnit p))
  ∧ (∀ (f : Frame) s, 16 ≤ f.port → ∀ c ∈ [Instr.contribReceive f, .sumReceive f, .paramReceive f, .resyncReceive f, .preqReceive f, .snapReceive f, .lackReceive f, .eackReceive f,
      .helloReceive f, .timeFrameReceive f], exec c s = .fault (.noSuchUnit f.port))
  ∧ (∀ d x s, 12 ≤ d → ∀ c ∈ [Instr.thermLimit d x, .thermtrip d], exec c s = .fault (.noSuchUnit d))
  ∧ (∀ n v s, 4 ≤ n → exec (.obsRingEnable n v) s = .fault (.noSuchUnit n))
  ∧ (∀ b v s, 84 ≤ b → exec (.obsBctlCclr b v) s = .fault (.noSuchUnit b))

/-- The reset values that the register tables of R72, R106, R216, R217, R296, R347, R366, R392, R393, R428 and R429 give, an idle sequencer of a bay not yet
powered by boot, no command waiting and all storage empty in canonical form. -/
def Obligations.ResetGivesTheTablesValues : Prop :=
  let s := State.reset
  (∀ r, s.raw r = r.name.reset) ∧ s.pending = [] ∧ StoresCanonical s ∧ s.ready = false ∧
  (∀ p, p < 72 → s.get CUE_SEQSTAT_STATE p = 1 ∧ s.get CUE_SEQSTAT_PC p = 0 ∧ s.get CUE_SEQSTAT_LDEPTH p = 0 ∧ s.get CUE_LIVEMASK_MASK p = 0 ∧
    s.get CUE_ID_LEVEL p = 0x0100 ∧ s.get CUE_ID_MINMAJOR p = 1 ∧ (∀ k, k < 4 → s.get CUE_DSCALE_VALUE p k = 0x3F800000) ∧ (∀ k, k < 64 → s.get CUE_SEM_VALUE p k = 0)) ∧
  (∀ c, c < 32 → s.get MEM_PATROL_HOURS c = 24) ∧ (∀ p, p < 4 → s.get DEP_CTL_ENABLE p = 1) ∧ (∀ e, e < 8 → s.get CHK_CTL_INIT e = 1) ∧
  s.get FAB_ETYPE_ETYPE = 0x88B5 ∧ s.get FAB_MACPFX_PREFIX = 0x02000000 ∧ s.get ENV_DEGLITCH_TENTHS = 10 ∧ s.get ENV_GUARD_WATTS = 40 ∧ s.get ENV_STAT_DEFAULT = 1 ∧
  s.get UST_CFG_ECCDAY = 64 ∧ s.get UST_CFG_MARGIN = 16 ∧ s.get UST_CFG_CHANAUTO = 1 ∧ s.get UST_CFG_AUTO = 1 ∧ (∀ i, i < 72 → s.get UST_MARGIN_MIN 0 i = 0xFF) ∧ s.get UST_COLVEL_STANDBY = 1 ∧
  s.get OBS_DUMP_K = 10 ∧ s.get TAB_CTL_PINEN = 1 ∧ s.get CLK_STAT_ADIV = 3 ∧ s.get CLK_FREQ_ROOT = 5640 ∧ s.get CLK_FREQ_CKA = 235 ∧ s.get RST_BOOTSTAT_CODE = 0xE4 ∧
  s.get RST_IDENT_PART = 0x7508 ∧ s.get RST_IDENT_STEPPING = 1 ∧ s.get RST_IDENT_NCDIE = 8 ∧ s.get RST_IDENT_NPDIE = 4 ∧ s.get RST_BAYS_ACTIVE = 64 ∧
  (∀ lb, lb < 64 → s.phys lb = 9 * (lb / 8) + lb % 8)

/-- R132, R135, R189: in every state whose stores are canonical, whatever command stands at the front of the queue, a step leaves the stores canonical and takes only that
command from the queue. -/
def Obligations.EveryStepKeepsTheStoresCanonical : Prop :=
  ∀ s t, StoresCanonical s → step s = .next t → StoresCanonical t ∧ t.pending = s.pending.tail

/-- R107, R108, R112 to R126: cue words and cues correspond. The words of a cue whose fields fit decode to that cue and have no reserved bit set; two words without a reserved
bit that decode to a cue are the words of that cue. -/
def Obligations.CueWordsAndCuesCorrespond : Prop :=
  (∀ q : Cue, q.fits = true → (cueEncode q).1 < 2 ^ 64 ∧ (cueEncode q).2 < 2 ^ 64 ∧
    cueDecode (cueEncode q).1 (cueEncode q).2 = some q ∧ cueReservedOk (cueEncode q).1 (cueEncode q).2 = true)
  ∧ (∀ w1 w0 q, w1 < 2 ^ 64 → w0 < 2 ^ 64 → cueReservedOk w1 w0 = true → cueDecode w1 w0 = some q → q.fits = true ∧ cueEncode q = (w1, w0))

/-- R89, R88: an operand that names a generator takes its address at issue; with STEP the generator advances once, however many of the cue's operands name it, and advances
in mixed radix from dimension 0. -/
def Obligations.GeneratorsAdvanceInMixedRadix : Prop :=
  (∀ (i j : Issue) p v ext groups store ord o step g, wOp v = .gen step g → i.wop p v ext groups store ord = .ok (j, o) →
    o = .wings (i.s.agAddr p g) ∧ j = { i with steps := if step then g :: i.steps else i.steps })
  ∧ (∀ (i j : Issue) p v row step g, aOp v = .gen step g → i.aop p v = .ok (j, row) →
    row = i.s.agAddr p g ∧ j = { i with steps := if step then g :: i.steps else i.steps })
  ∧ (∀ s p g n, ({ s := s, steps := List.replicate (n + 1) g } : Issue).done p = s.agStep p g)
  ∧ (∀ s p g k, let u := s.agStep p g
      k < 5 → (∀ j, j < k → agExtent s p g j ≤ agIndex s p g j + 1) → agIndex s p g k + 1 < agExtent s p g k →
      (∀ j, j < k → agIndex u p g j = 0) ∧ agIndex u p g k = agIndex s p g k + 1 ∧ (∀ j, k < j → j < 5 → agIndex u p g j = agIndex s p g j))
  ∧ (∀ s p g, (∀ j, j < 5 → agExtent s p g j ≤ agIndex s p g j + 1) → ∀ j, j < 5 → agIndex (s.agStep p g) p g j = 0)
  ∧ (∀ s p g, let u := s.agStep p g
      (∀ j, j < 5 → agExtent u p g j = agExtent s p g j ∧ u.get CUE_AGDIM_STRIDE p (5 * g + j) = s.get CUE_AGDIM_STRIDE p (5 * g + j)) ∧
      KeepsRegs (fun r => ∃ j, j < 5 ∧ r = ⟨.CUE_AGDIM, p, 5 * g + j⟩) s u ∧ u = { s with regs := u.regs })

/-- R38: the seed of a unit, the value of each of its generators, and a seed point's loading of the generators of bays that run no sheet and of tollhouses from the
system time; a bay that runs a sheet holds the seed for its next start. -/
def Obligations.SeedsAreFormedFromTime : Prop :=
  (∀ t device source i, device < 4096 → source < 256 → ∃ seed, IsSeed seed t device source ∧ lfsrSeed t device source i = loadedFrom seed i)
  ∧ (∀ (s : State) lb, lb < 64 → (∀ l, l < 64 → l ≠ lb → s.phys l ≠ s.phys lb) → (s.bay (s.phys lb)).cid = none → s.flag CUE_RNDCTL_FIXED (s.phys lb) = false →
      ∃ seed, IsSeed seed (BitVec.ofNat 64 s.clk.sys) s.deviceNo lb ∧ ∀ i, i < 129 → Tab.get 0 (s.seedPoint.bay (s.phys lb)).lfsr i = loadedFrom seed i)
  ∧ (∀ (s : State) lb, lb < 64 → (∀ l, l < 64 → l ≠ lb → s.phys l ≠ s.phys lb) → (s.bay (s.phys lb)).cid.isSome = true → s.flag CUE_RNDCTL_FIXED (s.phys lb) = false →
      ∃ seed, IsSeed seed (BitVec.ofNat 64 s.clk.sys) s.deviceNo lb ∧ (s.seedPoint.bay (s.phys lb)).reseed = some seed ∧ (s.seedPoint.bay (s.phys lb)).lfsr = (s.bay (s.phys lb)).lfsr ∧
        Tab.get 0 s.seedPoint.ro.seeds lb = seed)
  ∧ (∀ (s : State) p, p < 4 → s.flag TLH_RNDCTL_FIXED p = false →
      ∃ seed, IsSeed seed (BitVec.ofNat 64 s.clk.sys) s.deviceNo (64 + p) ∧ ∀ i, i < 64 → Tab.get 0 (s.seedPoint.port p).lfsr i = loadedFrom seed i)

/-- R191: the channel of an address and its place there; the 32 granules of an aligned 64 KiB block fall in 32 channels, each channel holds one in 32 of any aligned range, and
channel, granule and byte determine the address. R132: bank and word of a wings offset; a row access and a column access touch each bank of their block once. -/
def Obligations.AddressesSpreadOverChannelsAndBanks : Prop :=
  (∀ a, chanHash a = a / 2 ^ 11 % 32 ^^^ a / 2 ^ 16 % 32 ^^^ a / 2 ^ 21 % 32 ∧ localGranule a = a / 2 ^ 16 % 2 ^ 32)
  ∧ (∀ b i j, i < 32 → j < 32 → chanHash (65536 * b + 2048 * i) = chanHash (65536 * b + 2048 * j) → i = j)
  ∧ (∀ g k, k < 2048 → chanHash (2048 * g + k) = chanHash (2048 * g) ∧ chanHash (2048 * g) < 32)
  ∧ (∀ b n c, c < 32 → ((List.range (32 * n)).filter fun i => chanHash (65536 * b + 2048 * i) == c).length = n)
  ∧ (∀ a b, a < 2 ^ 48 → b < 2 ^ 48 → chanHash a = chanHash b → localGranule a = localGranule b → a % 2048 = b % 2048 → a = b)
  ∧ (∀ o, wingsBank (o / 2) = o / 2 ^ 23 % 4 * 128 + (o / 256 % 128 + o / 2 % 128) % 128 ∧ wingsRow (o / 2) = wingsBank (o / 2) * 32768 + o / 256 % 32768)
  ∧ (∀ o i j, o % 256 = 0 → i < 128 → j < 128 → wingsBank ((o + 2 * i) / 2) = wingsBank ((o + 2 * j) / 2) → i = j)
  ∧ (∀ o i j, o / 2 ^ 23 = (o + 256 * 127) / 2 ^ 23 → i < 128 → j < 128 → wingsBank ((o + 256 * i) / 2) = wingsBank ((o + 256 * j) / 2) → i = j)
end

