-- ==== Sys2Proof/Laws/State.lean ====
section
/-! SUPPORT. Each update of the state, field by field: what it leaves as it was. -/

namespace Sys2Proof.Laws

open Sys2Proof.Machine

variable (s : State)

@[simp] theorem setRaw_pending (r : Reg) (v : W64) : (s.setRaw r v).pending = s.pending := rfl
@[simp] theorem setRaw_clk (r : Reg) (v : W64) : (s.setRaw r v).clk = s.clk := rfl
@[simp] theorem setRaw_mem (r : Reg) (v : W64) : (s.setRaw r v).mem = s.mem := rfl
@[simp] theorem setRaw_memErr (r : Reg) (v : W64) : (s.setRaw r v).memErr = s.memErr := rfl
@[simp] theorem setRaw_busErr (r : Reg) (v : W64) : (s.setRaw r v).busErr = s.busErr := rfl
@[simp] theorem setRaw_partners (r : Reg) (v : W64) : (s.setRaw r v).partners = s.partners := rfl
@[simp] theorem setRaw_bays (r : Reg) (v : W64) : (s.setRaw r v).bays = s.bays := rfl
@[simp] theorem setRaw_engines (r : Reg) (v : W64) : (s.setRaw r v).engines = s.engines := rfl
@[simp] theorem setRaw_dies (r : Reg) (v : W64) : (s.setRaw r v).dies = s.dies := rfl
@[simp] theorem setRaw_ports (r : Reg) (v : W64) : (s.setRaw r v).ports = s.ports := rfl
@[simp] theorem setRaw_windows (r : Reg) (v : W64) : (s.setRaw r v).windows = s.windows := rfl
@[simp] theorem setRaw_winPend (r : Reg) (v : W64) : (s.setRaw r v).winPend = s.winPend := rfl
@[simp] theorem setRaw_ledger (r : Reg) (v : W64) : (s.setRaw r v).ledger = s.ledger := rfl
@[simp] theorem setRaw_nextMove (r : Reg) (v : W64) : (s.setRaw r v).nextMove = s.nextMove := rfl
@[simp] theorem setRaw_accepted (r : Reg) (v : W64) : (s.setRaw r v).accepted = s.accepted := rfl
@[simp] theorem setRaw_boards (r : Reg) (v : W64) : (s.setRaw r v).boards = s.boards := rfl
@[simp] theorem setRaw_ro (r : Reg) (v : W64) : (s.setRaw r v).ro = s.ro := rfl
@[simp] theorem setRaw_curt (r : Reg) (v : W64) : (s.setRaw r v).curt = s.curt := rfl
@[simp] theorem setRaw_curtQ (r : Reg) (v : W64) : (s.setRaw r v).curtQ = s.curtQ := rfl
@[simp] theorem setRaw_env (r : Reg) (v : W64) : (s.setRaw r v).env = s.env := rfl
@[simp] theorem setRaw_fab (r : Reg) (v : W64) : (s.setRaw r v).fab = s.fab := rfl
@[simp] theorem setRaw_obs (r : Reg) (v : W64) : (s.setRaw r v).obs = s.obs := rfl
@[simp] theorem setRaw_frozen (r : Reg) (v : W64) : (s.setRaw r v).frozen = s.frozen := rfl
@[simp] theorem setRaw_retire (r : Reg) (v : W64) : (s.setRaw r v).retire = s.retire := rfl
@[simp] theorem setRaw_flash (r : Reg) (v : W64) : (s.setRaw r v).flash = s.flash := rfl
@[simp] theorem setRaw_boot (r : Reg) (v : W64) : (s.setRaw r v).boot = s.boot := rfl
@[simp] theorem setRaw_nv (r : Reg) (v : W64) : (s.setRaw r v).nv = s.nv := rfl
@[simp] theorem setRaw_trust (r : Reg) (v : W64) : (s.setRaw r v).trust = s.trust := rfl
@[simp] theorem setRaw_mgmt (r : Reg) (v : W64) : (s.setRaw r v).mgmt = s.mgmt := rfl
@[simp] theorem setRaw_host (r : Reg) (v : W64) : (s.setRaw r v).host = s.host := rfl
@[simp] theorem setRaw_pins (r : Reg) (v : W64) : (s.setRaw r v).pins = s.pins := rfl
@[simp] theorem setRaw_stashes (r : Reg) (v : W64) : (s.setRaw r v).stashes = s.stashes := rfl
@[simp] theorem setRaw_free (r : Reg) (v : W64) : (s.setRaw r v).free = s.free := rfl

@[simp] theorem put_pending (f : Fld) (x u i : Nat) : (s.put f x u i).pending = s.pending := rfl
@[simp] theorem put_clk (f : Fld) (x u i : Nat) : (s.put f x u i).clk = s.clk := rfl
@[simp] theorem put_mem (f : Fld) (x u i : Nat) : (s.put f x u i).mem = s.mem := rfl
@[simp] theorem put_memErr (f : Fld) (x u i : Nat) : (s.put f x u i).memErr = s.memErr := rfl
@[simp] theorem put_busErr (f : Fld) (x u i : Nat) : (s.put f x u i).busErr = s.busErr := rfl
@[simp] theorem put_partners (f : Fld) (x u i : Nat) : (s.put f x u i).partners = s.partners := rfl
@[simp] theorem put_bays (f : Fld) (x u i : Nat) : (s.put f x u i).bays = s.bays := rfl
@[simp] theorem put_engines (f : Fld) (x u i : Nat) : (s.put f x u i).engines = s.engines := rfl
@[simp] theorem put_dies (f : Fld) (x u i : Nat) : (s.put f x u i).dies = s.dies := rfl
@[simp] theorem put_ports (f : Fld) (x u i : Nat) : (s.put f x u i).ports = s.ports := rfl
@[simp] theorem put_windows (f : Fld) (x u i : Nat) : (s.put f x u i).windows = s.windows := rfl
@[simp] theorem put_winPend (f : Fld) (x u i : Nat) : (s.put f x u i).winPend = s.winPend := rfl
@[simp] theorem put_ledger (f : Fld) (x u i : Nat) : (s.put f x u i).ledger = s.ledger := rfl
@[simp] theorem put_nextMove (f : Fld) (x u i : Nat) : (s.put f x u i).nextMove = s.nextMove := rfl
@[simp] theorem put_accepted (f : Fld) (x u i : Nat) : (s.put f x u i).accepted = s.accepted := rfl
@[simp] theorem put_boards (f : Fld) (x u i : Nat) : (s.put f x u i).boards = s.boards := rfl
@[simp] theorem put_ro (f : Fld) (x u i : Nat) : (s.put f x u i).ro = s.ro := rfl
@[simp] theorem put_curt (f : Fld) (x u i : Nat) : (s.put f x u i).curt = s.curt := rfl
@[simp] theorem put_curtQ (f : Fld) (x u i : Nat) : (s.put f x u i).curtQ = s.curtQ := rfl
@[simp] theorem put_env (f : Fld) (x u i : Nat) : (s.put f x u i).env = s.env := rfl
@[simp] theorem put_fab (f : Fld) (x u i : Nat) : (s.put f x u i).fab = s.fab := rfl
@[simp] theorem put_obs (f : Fld) (x u i : Nat) : (s.put f x u i).obs = s.obs := rfl
@[simp] theorem put_frozen (f : Fld) (x u i : Nat) : (s.put f x u i).frozen = s.frozen := rfl
@[simp] theorem put_retire (f : Fld) (x u i : Nat) : (s.put f x u i).retire = s.retire := rfl
@[simp] theorem put_flash (f : Fld) (x u i : Nat) : (s.put f x u i).flash = s.flash := rfl
@[simp] theorem put_boot (f : Fld) (x u i : Nat) : (s.put f x u i).boot = s.boot := rfl
@[simp] theorem put_nv (f : Fld) (x u i : Nat) : (s.put f x u i).nv = s.nv := rfl
@[simp] theorem put_trust (f : Fld) (x u i : Nat) : (s.put f x u i).trust = s.trust := rfl
@[simp] theorem put_mgmt (f : Fld) (x u i : Nat) : (s.put f x u i).mgmt = s.mgmt := rfl
@[simp] theorem put_host (f : Fld) (x u i : Nat) : (s.put f x u i).host = s.host := rfl
@[simp] theorem put_pins (f : Fld) (x u i : Nat) : (s.put f x u i).pins = s.pins := rfl
@[simp] theorem put_stashes (f : Fld) (x u i : Nat) : (s.put f x u i).stashes = s.stashes := rfl
@[simp] theorem put_free (f : Fld) (x u i : Nat) : (s.put f x u i).free = s.free := rfl

@[simp] theorem setBay_pending (p : Nat) (b : Bay) : (s.setBay p b).pending = s.pending := rfl
@[simp] theorem setBay_clk (p : Nat) (b : Bay) : (s.setBay p b).clk = s.clk := rfl
@[simp] theorem setBay_regs (p : Nat) (b : Bay) : (s.setBay p b).regs = s.regs := rfl
@[simp] theorem setBay_mem (p : Nat) (b : Bay) : (s.setBay p b).mem = s.mem := rfl
@[simp] theorem setBay_memErr (p : Nat) (b : Bay) : (s.setBay p b).memErr = s.memErr := rfl
@[simp] theorem setBay_busErr (p : Nat) (b : Bay) : (s.setBay p b).busErr = s.busErr := rfl
@[simp] theorem setBay_partners (p : Nat) (b : Bay) : (s.setBay p b).partners = s.partners := rfl
@[simp] theorem setBay_engines (p : Nat) (b : Bay) : (s.setBay p b).engines = s.engines := rfl
@[simp] theorem setBay_dies (p : Nat) (b : Bay) : (s.setBay p b).dies = s.dies := rfl
@[simp] theorem setBay_ports (p : Nat) (b : Bay) : (s.setBay p b).ports = s.ports := rfl
@[simp] theorem setBay_windows (p : Nat) (b : Bay) : (s.setBay p b).windows = s.windows := rfl
@[simp] theorem setBay_winPend (p : Nat) (b : Bay) : (s.setBay p b).winPend = s.winPend := rfl
@[simp] theorem setBay_ledger (p : Nat) (b : Bay) : (s.setBay p b).ledger = s.ledger := rfl
@[simp] theorem setBay_nextMove (p : Nat) (b : Bay) : (s.setBay p b).nextMove = s.nextMove := rfl
@[simp] theorem setBay_accepted (p : Nat) (b : Bay) : (s.setBay p b).accepted = s.accepted := rfl
@[simp] theorem setBay_boards (p : Nat) (b : Bay) : (s.setBay p b).boards = s.boards := rfl
@[simp] theorem setBay_ro (p : Nat) (b : Bay) : (s.setBay p b).ro = s.ro := rfl
@[simp] theorem setBay_curt (p : Nat) (b : Bay) : (s.setBay p b).curt = s.curt := rfl
@[simp] theorem setBay_curtQ (p : Nat) (b : Bay) : (s.setBay p b).curtQ = s.curtQ := rfl
@[simp] theorem setBay_env (p : Nat) (b : Bay) : (s.setBay p b).env = s.env := rfl
@[simp] theorem setBay_fab (p : Nat) (b : Bay) : (s.setBay p b).fab = s.fab := rfl
@[simp] theorem setBay_obs (p : Nat) (b : Bay) : (s.setBay p b).obs = s.obs := rfl
@[simp] theorem setBay_frozen (p : Nat) (b : Bay) : (s.setBay p b).frozen = s.frozen := rfl
@[simp] theorem setBay_retire (p : Nat) (b : Bay) : (s.setBay p b).retire = s.retire := rfl
@[simp] theorem setBay_flash (p : Nat) (b : Bay) : (s.setBay p b).flash = s.flash := rfl
@[simp] theorem setBay_boot (p : Nat) (b : Bay) : (s.setBay p b).boot = s.boot := rfl
@[simp] theorem setBay_nv (p : Nat) (b : Bay) : (s.setBay p b).nv = s.nv := rfl
@[simp] theorem setBay_trust (p : Nat) (b : Bay) : (s.setBay p b).trust = s.trust := rfl
@[simp] theorem setBay_mgmt (p : Nat) (b : Bay) : (s.setBay p b).mgmt = s.mgmt := rfl
@[simp] theorem setBay_host (p : Nat) (b : Bay) : (s.setBay p b).host = s.host := rfl
@[simp] theorem setBay_pins (p : Nat) (b : Bay) : (s.setBay p b).pins = s.pins := rfl
@[simp] theorem setBay_stashes (p : Nat) (b : Bay) : (s.setBay p b).stashes = s.stashes := rfl
@[simp] theorem setBay_free (p : Nat) (b : Bay) : (s.setBay p b).free = s.free := rfl

@[simp] theorem setEng_pending (e : Nat) (x : Engine) : (s.setEng e x).pending = s.pending := rfl
@[simp] theorem setEng_clk (e : Nat) (x : Engine) : (s.setEng e x).clk = s.clk := rfl
@[simp] theorem setEng_regs (e : Nat) (x : Engine) : (s.setEng e x).regs = s.regs := rfl
@[simp] theorem setEng_mem (e : Nat) (x : Engine) : (s.setEng e x).mem = s.mem := rfl
@[simp] theorem setEng_memErr (e : Nat) (x : Engine) : (s.setEng e x).memErr = s.memErr := rfl
@[simp] theorem setEng_busErr (e : Nat) (x : Engine) : (s.setEng e x).busErr = s.busErr := rfl
@[simp] theorem setEng_partners (e : Nat) (x : Engine) : (s.setEng e x).partners = s.partners := rfl
@[simp] theorem setEng_bays (e : Nat) (x : Engine) : (s.setEng e x).bays = s.bays := rfl
@[simp] theorem setEng_dies (e : Nat) (x : Engine) : (s.setEng e x).dies = s.dies := rfl
@[simp] theorem setEng_ports (e : Nat) (x : Engine) : (s.setEng e x).ports = s.ports := rfl
@[simp] theorem setEng_windows (e : Nat) (x : Engine) : (s.setEng e x).windows = s.windows := rfl
@[simp] theorem setEng_winPend (e : Nat) (x : Engine) : (s.setEng e x).winPend = s.winPend := rfl
@[simp] theorem setEng_ledger (e : Nat) (x : Engine) : (s.setEng e x).ledger = s.ledger := rfl
@[simp] theorem setEng_nextMove (e : Nat) (x : Engine) : (s.setEng e x).nextMove = s.nextMove := rfl
@[simp] theorem setEng_accepted (e : Nat) (x : Engine) : (s.setEng e x).accepted = s.accepted := rfl
@[simp] theorem setEng_boards (e : Nat) (x : Engine) : (s.setEng e x).boards = s.boards := rfl
@[simp] theorem setEng_ro (e : Nat) (x : Engine) : (s.setEng e x).ro = s.ro := rfl
@[simp] theorem setEng_curt (e : Nat) (x : Engine) : (s.setEng e x).curt = s.curt := rfl
@[simp] theorem setEng_curtQ (e : Nat) (x : Engine) : (s.setEng e x).curtQ = s.curtQ := rfl
@[simp] theorem setEng_env (e : Nat) (x : Engine) : (s.setEng e x).env = s.env := rfl
@[simp] theorem setEng_fab (e : Nat) (x : Engine) : (s.setEng e x).fab = s.fab := rfl
@[simp] theorem setEng_obs (e : Nat) (x : Engine) : (s.setEng e x).obs = s.obs := rfl
@[simp] theorem setEng_frozen (e : Nat) (x : Engine) : (s.setEng e x).frozen = s.frozen := rfl
@[simp] theorem setEng_retire (e : Nat) (x : Engine) : (s.setEng e x).retire = s.retire := rfl
@[simp] theorem setEng_flash (e : Nat) (x : Engine) : (s.setEng e x).flash = s.flash := rfl
@[simp] theorem setEng_boot (e : Nat) (x : Engine) : (s.setEng e x).boot = s.boot := rfl
@[simp] theorem setEng_nv (e : Nat) (x : Engine) : (s.setEng e x).nv = s.nv := rfl
@[simp] theorem setEng_trust (e : Nat) (x : Engine) : (s.setEng e x).trust = s.trust := rfl
@[simp] theorem setEng_mgmt (e : Nat) (x : Engine) : (s.setEng e x).mgmt = s.mgmt := rfl
@[simp] theorem setEng_host (e : Nat) (x : Engine) : (s.setEng e x).host = s.host := rfl
@[simp] theorem setEng_pins (e : Nat) (x : Engine) : (s.setEng e x).pins = s.pins := rfl
@[simp] theorem setEng_stashes (e : Nat) (x : Engine) : (s.setEng e x).stashes = s.stashes := rfl
@[simp] theorem setEng_free (e : Nat) (x : Engine) : (s.setEng e x).free = s.free := rfl

@[simp] theorem setDie_pending (d : Nat) (x : Die) : (s.setDie d x).pending = s.pending := rfl
@[simp] theorem setDie_clk (d : Nat) (x : Die) : (s.setDie d x).clk = s.clk := rfl
@[simp] theorem setDie_regs (d : Nat) (x : Die) : (s.setDie d x).regs = s.regs := rfl
@[simp] theorem setDie_mem (d : Nat) (x : Die) : (s.setDie d x).mem = s.mem := rfl
@[simp] theorem setDie_memErr (d : Nat) (x : Die) : (s.setDie d x).memErr = s.memErr := rfl
@[simp] theorem setDie_busErr (d : Nat) (x : Die) : (s.setDie d x).busErr = s.busErr := rfl
@[simp] theorem setDie_partners (d : Nat) (x : Die) : (s.setDie d x).partners = s.partners := rfl
@[simp] theorem setDie_bays (d : Nat) (x : Die) : (s.setDie d x).bays = s.bays := rfl
@[simp] theorem setDie_engines (d : Nat) (x : Die) : (s.setDie d x).engines = s.engines := rfl
@[simp] theorem setDie_ports (d : Nat) (x : Die) : (s.setDie d x).ports = s.ports := rfl
@[simp] theorem setDie_windows (d : Nat) (x : Die) : (s.setDie d x).windows = s.windows := rfl
@[simp] theorem setDie_winPend (d : Nat) (x : Die) : (s.setDie d x).winPend = s.winPend := rfl
@[simp] theorem setDie_ledger (d : Nat) (x : Die) : (s.setDie d x).ledger = s.ledger := rfl
@[simp] theorem setDie_nextMove (d : Nat) (x : Die) : (s.setDie d x).nextMove = s.nextMove := rfl
@[simp] theorem setDie_accepted (d : Nat) (x : Die) : (s.setDie d x).accepted = s.accepted := rfl
@[simp] theorem setDie_boards (d : Nat) (x : Die) : (s.setDie d x).boards = s.boards := rfl
@[simp] theorem setDie_ro (d : Nat) (x : Die) : (s.setDie d x).ro = s.ro := rfl
@[simp] theorem setDie_curt (d : Nat) (x : Die) : (s.setDie d x).curt = s.curt := rfl
@[simp] theorem setDie_curtQ (d : Nat) (x : Die) : (s.setDie d x).curtQ = s.curtQ := rfl
@[simp] theorem setDie_env (d : Nat) (x : Die) : (s.setDie d x).env = s.env := rfl
@[simp] theorem setDie_fab (d : Nat) (x : Die) : (s.setDie d x).fab = s.fab := rfl
@[simp] theorem setDie_obs (d : Nat) (x : Die) : (s.setDie d x).obs = s.obs := rfl
@[simp] theorem setDie_frozen (d : Nat) (x : Die) : (s.setDie d x).frozen = s.frozen := rfl
@[simp] theorem setDie_retire (d : Nat) (x : Die) : (s.setDie d x).retire = s.retire := rfl
@[simp] theorem setDie_flash (d : Nat) (x : Die) : (s.setDie d x).flash = s.flash := rfl
@[simp] theorem setDie_boot (d : Nat) (x : Die) : (s.setDie d x).boot = s.boot := rfl
@[simp] theorem setDie_nv (d : Nat) (x : Die) : (s.setDie d x).nv = s.nv := rfl
@[simp] theorem setDie_trust (d : Nat) (x : Die) : (s.setDie d x).trust = s.trust := rfl
@[simp] theorem setDie_mgmt (d : Nat) (x : Die) : (s.setDie d x).mgmt = s.mgmt := rfl
@[simp] theorem setDie_host (d : Nat) (x : Die) : (s.setDie d x).host = s.host := rfl
@[simp] theorem setDie_pins (d : Nat) (x : Die) : (s.setDie d x).pins = s.pins := rfl
@[simp] theorem setDie_stashes (d : Nat) (x : Die) : (s.setDie d x).stashes = s.stashes := rfl
@[simp] theorem setDie_free (d : Nat) (x : Die) : (s.setDie d x).free = s.free := rfl

@[simp] theorem setPort_pending (p : Nat) (x : Port) : (s.setPort p x).pending = s.pending := rfl
@[simp] theorem setPort_clk (p : Nat) (x : Port) : (s.setPort p x).clk = s.clk := rfl
@[simp] theorem setPort_regs (p : Nat) (x : Port) : (s.setPort p x).regs = s.regs := rfl
@[simp] theorem setPort_mem (p : Nat) (x : Port) : (s.setPort p x).mem = s.mem := rfl
@[simp] theorem setPort_memErr (p : Nat) (x : Port) : (s.setPort p x).memErr = s.memErr := rfl
@[simp] theorem setPort_busErr (p : Nat) (x : Port) : (s.setPort p x).busErr = s.busErr := rfl
@[simp] theorem setPort_partners (p : Nat) (x : Port) : (s.setPort p x).partners = s.partners := rfl
@[simp] theorem setPort_bays (p : Nat) (x : Port) : (s.setPort p x).bays = s.bays := rfl
@[simp] theorem setPort_engines (p : Nat) (x : Port) : (s.setPort p x).engines = s.engines := rfl
@[simp] theorem setPort_dies (p : Nat) (x : Port) : (s.setPort p x).dies = s.dies := rfl
@[simp] theorem setPort_windows (p : Nat) (x : Port) : (s.setPort p x).windows = s.windows := rfl
@[simp] theorem setPort_winPend (p : Nat) (x : Port) : (s.setPort p x).winPend = s.winPend := rfl
@[simp] theorem setPort_ledger (p : Nat) (x : Port) : (s.setPort p x).ledger = s.ledger := rfl
@[simp] theorem setPort_nextMove (p : Nat) (x : Port) : (s.setPort p x).nextMove = s.nextMove := rfl
@[simp] theorem setPort_accepted (p : Nat) (x : Port) : (s.setPort p x).accepted = s.accepted := rfl
@[simp] theorem setPort_boards (p : Nat) (x : Port) : (s.setPort p x).boards = s.boards := rfl
@[simp] theorem setPort_ro (p : Nat) (x : Port) : (s.setPort p x).ro = s.ro := rfl
@[simp] theorem setPort_curt (p : Nat) (x : Port) : (s.setPort p x).curt = s.curt := rfl
@[simp] theorem setPort_curtQ (p : Nat) (x : Port) : (s.setPort p x).curtQ = s.curtQ := rfl
@[simp] theorem setPort_env (p : Nat) (x : Port) : (s.setPort p x).env = s.env := rfl
@[simp] theorem setPort_fab (p : Nat) (x : Port) : (s.setPort p x).fab = s.fab := rfl
@[simp] theorem setPort_obs (p : Nat) (x : Port) : (s.setPort p x).obs = s.obs := rfl
@[simp] theorem setPort_frozen (p : Nat) (x : Port) : (s.setPort p x).frozen = s.frozen := rfl
@[simp] theorem setPort_retire (p : Nat) (x : Port) : (s.setPort p x).retire = s.retire := rfl
@[simp] theorem setPort_flash (p : Nat) (x : Port) : (s.setPort p x).flash = s.flash := rfl
@[simp] theorem setPort_boot (p : Nat) (x : Port) : (s.setPort p x).boot = s.boot := rfl
@[simp] theorem setPort_nv (p : Nat) (x : Port) : (s.setPort p x).nv = s.nv := rfl
@[simp] theorem setPort_trust (p : Nat) (x : Port) : (s.setPort p x).trust = s.trust := rfl
@[simp] theorem setPort_mgmt (p : Nat) (x : Port) : (s.setPort p x).mgmt = s.mgmt := rfl
@[simp] theorem setPort_host (p : Nat) (x : Port) : (s.setPort p x).host = s.host := rfl
@[simp] theorem setPort_pins (p : Nat) (x : Port) : (s.setPort p x).pins = s.pins := rfl
@[simp] theorem setPort_stashes (p : Nat) (x : Port) : (s.setPort p x).stashes = s.stashes := rfl
@[simp] theorem setPort_free (p : Nat) (x : Port) : (s.setPort p x).free = s.free := rfl

@[simp] theorem setBoard_pending (e : Nat) (b : Board) : (s.setBoard e b).pending = s.pending := rfl
@[simp] theorem setBoard_clk (e : Nat) (b : Board) : (s.setBoard e b).clk = s.clk := rfl
@[simp] theorem setBoard_regs (e : Nat) (b : Board) : (s.setBoard e b).regs = s.regs := rfl
@[simp] theorem setBoard_mem (e : Nat) (b : Board) : (s.setBoard e b).mem = s.mem := rfl
@[simp] theorem setBoard_memErr (e : Nat) (b : Board) : (s.setBoard e b).memErr = s.memErr := rfl
@[simp] theorem setBoard_busErr (e : Nat) (b : Board) : (s.setBoard e b).busErr = s.busErr := rfl
@[simp] theorem setBoard_partners (e : Nat) (b : Board) : (s.setBoard e b).partners = s.partners := rfl
@[simp] theorem setBoard_bays (e : Nat) (b : Board) : (s.setBoard e b).bays = s.bays := rfl
@[simp] theorem setBoard_engines (e : Nat) (b : Board) : (s.setBoard e b).engines = s.engines := rfl
@[simp] theorem setBoard_dies (e : Nat) (b : Board) : (s.setBoard e b).dies = s.dies := rfl
@[simp] theorem setBoard_ports (e : Nat) (b : Board) : (s.setBoard e b).ports = s.ports := rfl
@[simp] theorem setBoard_windows (e : Nat) (b : Board) : (s.setBoard e b).windows = s.windows := rfl
@[simp] theorem setBoard_winPend (e : Nat) (b : Board) : (s.setBoard e b).winPend = s.winPend := rfl
@[simp] theorem setBoard_ledger (e : Nat) (b : Board) : (s.setBoard e b).ledger = s.ledger := rfl
@[simp] theorem setBoard_nextMove (e : Nat) (b : Board) : (s.setBoard e b).nextMove = s.nextMove := rfl
@[simp] theorem setBoard_accepted (e : Nat) (b : Board) : (s.setBoard e b).accepted = s.accepted := rfl
@[simp] theorem setBoard_ro (e : Nat) (b : Board) : (s.setBoard e b).ro = s.ro := rfl
@[simp] theorem setBoard_curt (e : Nat) (b : Board) : (s.setBoard e b).curt = s.curt := rfl
@[simp] theorem setBoard_curtQ (e : Nat) (b : Board) : (s.setBoard e b).curtQ = s.curtQ := rfl
@[simp] theorem setBoard_env (e : Nat) (b : Board) : (s.setBoard e b).env = s.env := rfl
@[simp] theorem setBoard_fab (e : Nat) (b : Board) : (s.setBoard e b).fab = s.fab := rfl
@[simp] theorem setBoard_obs (e : Nat) (b : Board) : (s.setBoard e b).obs = s.obs := rfl
@[simp] theorem setBoard_frozen (e : Nat) (b : Board) : (s.setBoard e b).frozen = s.frozen := rfl
@[simp] theorem setBoard_retire (e : Nat) (b : Board) : (s.setBoard e b).retire = s.retire := rfl
@[simp] theorem setBoard_flash (e : Nat) (b : Board) : (s.setBoard e b).flash = s.flash := rfl
@[simp] theorem setBoard_boot (e : Nat) (b : Board) : (s.setBoard e b).boot = s.boot := rfl
@[simp] theorem setBoard_nv (e : Nat) (b : Board) : (s.setBoard e b).nv = s.nv := rfl
@[simp] theorem setBoard_trust (e : Nat) (b : Board) : (s.setBoard e b).trust = s.trust := rfl
@[simp] theorem setBoard_mgmt (e : Nat) (b : Board) : (s.setBoard e b).mgmt = s.mgmt := rfl
@[simp] theorem setBoard_host (e : Nat) (b : Board) : (s.setBoard e b).host = s.host := rfl
@[simp] theorem setBoard_pins (e : Nat) (b : Board) : (s.setBoard e b).pins = s.pins := rfl
@[simp] theorem setBoard_stashes (e : Nat) (b : Board) : (s.setBoard e b).stashes = s.stashes := rfl
@[simp] theorem setBoard_free (e : Nat) (b : Board) : (s.setBoard e b).free = s.free := rfl

@[simp] theorem modBay_pending (p : Nat) (f : Bay → Bay) : (s.modBay p f).pending = s.pending := rfl
@[simp] theorem modBay_clk (p : Nat) (f : Bay → Bay) : (s.modBay p f).clk = s.clk := rfl
@[simp] theorem modBay_regs (p : Nat) (f : Bay → Bay) : (s.modBay p f).regs = s.regs := rfl
@[simp] theorem modBay_mem (p : Nat) (f : Bay → Bay) : (s.modBay p f).mem = s.mem := rfl
@[simp] theorem modBay_memErr (p : Nat) (f : Bay → Bay) : (s.modBay p f).memErr = s.memErr := rfl
@[simp] theorem modBay_busErr (p : Nat) (f : Bay → Bay) : (s.modBay p f).busErr = s.busErr := rfl
@[simp] theorem modBay_partners (p : Nat) (f : Bay → Bay) : (s.modBay p f).partners = s.partners := rfl
@[simp] theorem modBay_engines (p : Nat) (f : Bay → Bay) : (s.modBay p f).engines = s.engines := rfl
@[simp] theorem modBay_dies (p : Nat) (f : Bay → Bay) : (s.modBay p f).dies = s.dies := rfl
@[simp] theorem modBay_ports (p : Nat) (f : Bay → Bay) : (s.modBay p f).ports = s.ports := rfl
@[simp] theorem modBay_windows (p : Nat) (f : Bay → Bay) : (s.modBay p f).windows = s.windows := rfl
@[simp] theorem modBay_winPend (p : Nat) (f : Bay → Bay) : (s.modBay p f).winPend = s.winPend := rfl
@[simp] theorem modBay_ledger (p : Nat) (f : Bay → Bay) : (s.modBay p f).ledger = s.ledger := rfl
@[simp] theorem modBay_nextMove (p : Nat) (f : Bay → Bay) : (s.modBay p f).nextMove = s.nextMove := rfl
@[simp] theorem modBay_accepted (p : Nat) (f : Bay → Bay) : (s.modBay p f).accepted = s.accepted := rfl
@[simp] theorem modBay_boards (p : Nat) (f : Bay → Bay) : (s.modBay p f).boards = s.boards := rfl
@[simp] theorem modBay_ro (p : Nat) (f : Bay → Bay) : (s.modBay p f).ro = s.ro := rfl
@[simp] theorem modBay_curt (p : Nat) (f : Bay → Bay) : (s.modBay p f).curt = s.curt := rfl
@[simp] theorem modBay_curtQ (p : Nat) (f : Bay → Bay) : (s.modBay p f).curtQ = s.curtQ := rfl
@[simp] theorem modBay_env (p : Nat) (f : Bay → Bay) : (s.modBay p f).env = s.env := rfl
@[simp] theorem modBay_fab (p : Nat) (f : Bay → Bay) : (s.modBay p f).fab = s.fab := rfl
@[simp] theorem modBay_obs (p : Nat) (f : Bay → Bay) : (s.modBay p f).obs = s.obs := rfl
@[simp] theorem modBay_frozen (p : Nat) (f : Bay → Bay) : (s.modBay p f).frozen = s.frozen := rfl
@[simp] theorem modBay_retire (p : Nat) (f : Bay → Bay) : (s.modBay p f).retire = s.retire := rfl
@[simp] theorem modBay_flash (p : Nat) (f : Bay → Bay) : (s.modBay p f).flash = s.flash := rfl
@[simp] theorem modBay_boot (p : Nat) (f : Bay → Bay) : (s.modBay p f).boot = s.boot := rfl
@[simp] theorem modBay_nv (p : Nat) (f : Bay → Bay) : (s.modBay p f).nv = s.nv := rfl
@[simp] theorem modBay_trust (p : Nat) (f : Bay → Bay) : (s.modBay p f).trust = s.trust := rfl
@[simp] theorem modBay_mgmt (p : Nat) (f : Bay → Bay) : (s.modBay p f).mgmt = s.mgmt := rfl
@[simp] theorem modBay_host (p : Nat) (f : Bay → Bay) : (s.modBay p f).host = s.host := rfl
@[simp] theorem modBay_pins (p : Nat) (f : Bay → Bay) : (s.modBay p f).pins = s.pins := rfl
@[simp] theorem modBay_stashes (p : Nat) (f : Bay → Bay) : (s.modBay p f).stashes = s.stashes := rfl
@[simp] theorem modBay_free (p : Nat) (f : Bay → Bay) : (s.modBay p f).free = s.free := rfl

@[simp] theorem modDie_pending (d : Nat) (f : Die → Die) : (s.modDie d f).pending = s.pending := rfl
@[simp] theorem modDie_clk (d : Nat) (f : Die → Die) : (s.modDie d f).clk = s.clk := rfl
@[simp] theorem modDie_regs (d : Nat) (f : Die → Die) : (s.modDie d f).regs = s.regs := rfl
@[simp] theorem modDie_mem (d : Nat) (f : Die → Die) : (s.modDie d f).mem = s.mem := rfl
@[simp] theorem modDie_memErr (d : Nat) (f : Die → Die) : (s.modDie d f).memErr = s.memErr := rfl
@[simp] theorem modDie_busErr (d : Nat) (f : Die → Die) : (s.modDie d f).busErr = s.busErr := rfl
@[simp] theorem modDie_partners (d : Nat) (f : Die → Die) : (s.modDie d f).partners = s.partners := rfl
@[simp] theorem modDie_bays (d : Nat) (f : Die → Die) : (s.modDie d f).bays = s.bays := rfl
@[simp] theorem modDie_engines (d : Nat) (f : Die → Die) : (s.modDie d f).engines = s.engines := rfl
@[simp] theorem modDie_ports (d : Nat) (f : Die → Die) : (s.modDie d f).ports = s.ports := rfl
@[simp] theorem modDie_windows (d : Nat) (f : Die → Die) : (s.modDie d f).windows = s.windows := rfl
@[simp] theorem modDie_winPend (d : Nat) (f : Die → Die) : (s.modDie d f).winPend = s.winPend := rfl
@[simp] theorem modDie_ledger (d : Nat) (f : Die → Die) : (s.modDie d f).ledger = s.ledger := rfl
@[simp] theorem modDie_nextMove (d : Nat) (f : Die → Die) : (s.modDie d f).nextMove = s.nextMove := rfl
@[simp] theorem modDie_accepted (d : Nat) (f : Die → Die) : (s.modDie d f).accepted = s.accepted := rfl
@[simp] theorem modDie_boards (d : Nat) (f : Die → Die) : (s.modDie d f).boards = s.boards := rfl
@[simp] theorem modDie_ro (d : Nat) (f : Die → Die) : (s.modDie d f).ro = s.ro := rfl
@[simp] theorem modDie_curt (d : Nat) (f : Die → Die) : (s.modDie d f).curt = s.curt := rfl
@[simp] theorem modDie_curtQ (d : Nat) (f : Die → Die) : (s.modDie d f).curtQ = s.curtQ := rfl
@[simp] theorem modDie_env (d : Nat) (f : Die → Die) : (s.modDie d f).env = s.env := rfl
@[simp] theorem modDie_fab (d : Nat) (f : Die → Die) : (s.modDie d f).fab = s.fab := rfl
@[simp] theorem modDie_obs (d : Nat) (f : Die → Die) : (s.modDie d f).obs = s.obs := rfl
@[simp] theorem modDie_frozen (d : Nat) (f : Die → Die) : (s.modDie d f).frozen = s.frozen := rfl
@[simp] theorem modDie_retire (d : Nat) (f : Die → Die) : (s.modDie d f).retire = s.retire := rfl
@[simp] theorem modDie_flash (d : Nat) (f : Die → Die) : (s.modDie d f).flash = s.flash := rfl
@[simp] theorem modDie_boot (d : Nat) (f : Die → Die) : (s.modDie d f).boot = s.boot := rfl
@[simp] theorem modDie_nv (d : Nat) (f : Die → Die) : (s.modDie d f).nv = s.nv := rfl
@[simp] theorem modDie_trust (d : Nat) (f : Die → Die) : (s.modDie d f).trust = s.trust := rfl
@[simp] theorem modDie_mgmt (d : Nat) (f : Die → Die) : (s.modDie d f).mgmt = s.mgmt := rfl
@[simp] theorem modDie_host (d : Nat) (f : Die → Die) : (s.modDie d f).host = s.host := rfl
@[simp] theorem modDie_pins (d : Nat) (f : Die → Die) : (s.modDie d f).pins = s.pins := rfl
@[simp] theorem modDie_stashes (d : Nat) (f : Die → Die) : (s.modDie d f).stashes = s.stashes := rfl
@[simp] theorem modDie_free (d : Nat) (f : Die → Die) : (s.modDie d f).free = s.free := rfl

@[simp] theorem modPort_pending (p : Nat) (f : Port → Port) : (s.modPort p f).pending = s.pending := rfl
@[simp] theorem modPort_clk (p : Nat) (f : Port → Port) : (s.modPort p f).clk = s.clk := rfl
@[simp] theorem modPort_regs (p : Nat) (f : Port → Port) : (s.modPort p f).regs = s.regs := rfl
@[simp] theorem modPort_mem (p : Nat) (f : Port → Port) : (s.modPort p f).mem = s.mem := rfl
@[simp] theorem modPort_memErr (p : Nat) (f : Port → Port) : (s.modPort p f).memErr = s.memErr := rfl
@[simp] theorem modPort_busErr (p : Nat) (f : Port → Port) : (s.modPort p f).busErr = s.busErr := rfl
@[simp] theorem modPort_partners (p : Nat) (f : Port → Port) : (s.modPort p f).partners = s.partners := rfl
@[simp] theorem modPort_bays (p : Nat) (f : Port → Port) : (s.modPort p f).bays = s.bays := rfl
@[simp] theorem modPort_engines (p : Nat) (f : Port → Port) : (s.modPort p f).engines = s.engines := rfl
@[simp] theorem modPort_dies (p : Nat) (f : Port → Port) : (s.modPort p f).dies = s.dies := rfl
@[simp] theorem modPort_windows (p : Nat) (f : Port → Port) : (s.modPort p f).windows = s.windows := rfl
@[simp] theorem modPort_winPend (p : Nat) (f : Port → Port) : (s.modPort p f).winPend = s.winPend := rfl
@[simp] theorem modPort_ledger (p : Nat) (f : Port → Port) : (s.modPort p f).ledger = s.ledger := rfl
@[simp] theorem modPort_nextMove (p : Nat) (f : Port → Port) : (s.modPort p f).nextMove = s.nextMove := rfl
@[simp] theorem modPort_accepted (p : Nat) (f : Port → Port) : (s.modPort p f).accepted = s.accepted := rfl
@[simp] theorem modPort_boards (p : Nat) (f : Port → Port) : (s.modPort p f).boards = s.boards := rfl
@[simp] theorem modPort_ro (p : Nat) (f : Port → Port) : (s.modPort p f).ro = s.ro := rfl
@[simp] theorem modPort_curt (p : Nat) (f : Port → Port) : (s.modPort p f).curt = s.curt := rfl
@[simp] theorem modPort_curtQ (p : Nat) (f : Port → Port) : (s.modPort p f).curtQ = s.curtQ := rfl
@[simp] theorem modPort_env (p : Nat) (f : Port → Port) : (s.modPort p f).env = s.env := rfl
@[simp] theorem modPort_fab (p : Nat) (f : Port → Port) : (s.modPort p f).fab = s.fab := rfl
@[simp] theorem modPort_obs (p : Nat) (f : Port → Port) : (s.modPort p f).obs = s.obs := rfl
@[simp] theorem modPort_frozen (p : Nat) (f : Port → Port) : (s.modPort p f).frozen = s.frozen := rfl
@[simp] theorem modPort_retire (p : Nat) (f : Port → Port) : (s.modPort p f).retire = s.retire := rfl
@[simp] theorem modPort_flash (p : Nat) (f : Port → Port) : (s.modPort p f).flash = s.flash := rfl
@[simp] theorem modPort_boot (p : Nat) (f : Port → Port) : (s.modPort p f).boot = s.boot := rfl
@[simp] theorem modPort_nv (p : Nat) (f : Port → Port) : (s.modPort p f).nv = s.nv := rfl
@[simp] theorem modPort_trust (p : Nat) (f : Port → Port) : (s.modPort p f).trust = s.trust := rfl
@[simp] theorem modPort_mgmt (p : Nat) (f : Port → Port) : (s.modPort p f).mgmt = s.mgmt := rfl
@[simp] theorem modPort_host (p : Nat) (f : Port → Port) : (s.modPort p f).host = s.host := rfl
@[simp] theorem modPort_pins (p : Nat) (f : Port → Port) : (s.modPort p f).pins = s.pins := rfl
@[simp] theorem modPort_stashes (p : Nat) (f : Port → Port) : (s.modPort p f).stashes = s.stashes := rfl
@[simp] theorem modPort_free (p : Nat) (f : Port → Port) : (s.modPort p f).free = s.free := rfl

end Sys2Proof.Laws
end

