-- ==== Sys2Proof/Laws/Tab.lean ====
section
/-! SUPPORT. Laws of the sparse tables and of byte storage: reading after writing, and the canonical form
kept by every operation. -/

namespace Sys2Proof.Laws

open Sys2Proof.Machine

variable {α : Type}

theorem get_erase_self (d : α) (t : Tab α) (i : Nat) : Tab.get d (Tab.erase t i) i = d := by
  induction t with
  | nil => rfl
  | cons x t ih =>
    obtain ⟨k, v⟩ := x
    by_cases h : k = i <;> simp [Tab.erase, Tab.get, h, ih]

theorem get_erase_ne (d : α) (t : Tab α) {i j : Nat} (h : j ≠ i) :
    Tab.get d (Tab.erase t i) j = Tab.get d t j := by
  induction t with
  | nil => rfl
  | cons x t ih =>
    obtain ⟨k, v⟩ := x
    by_cases hk : k = i
    · subst hk; simp [Tab.erase, Tab.get, ih, Ne.symm h]
    · by_cases hj : k = j
      · subst hj; simp [Tab.erase, Tab.get, hk]
      · simp [Tab.erase, Tab.get, hk, hj, ih]

theorem get_insert_self (d : α) (t : Tab α) (i : Nat) (v : α) (h : ∀ x ∈ t, x.1 ≠ i) :
    Tab.get d (Tab.insert t i v) i = v := by
  induction t with
  | nil => simp [Tab.insert, Tab.get]
  | cons x t ih =>
    obtain ⟨k, w⟩ := x
    have hk : k ≠ i := h (k, w) (by simp)
    have ht := ih fun x hx => h x (by simp [hx])
    by_cases hi : i < k <;> simp [Tab.insert, Tab.get, hi, hk, ht]

theorem get_insert_ne (d : α) (t : Tab α) {i j : Nat} (v : α) (h : j ≠ i) :
    Tab.get d (Tab.insert t i v) j = Tab.get d t j := by
  induction t with
  | nil => simp [Tab.insert, Tab.get, Ne.symm h]
  | cons x t ih =>
    obtain ⟨k, w⟩ := x
    by_cases hi : i < k
    · simp [Tab.insert, Tab.get, hi, Ne.symm h]
    · by_cases hk : k = j
      · subst hk; simp [Tab.insert, Tab.get, hi]
      · simp [Tab.insert, Tab.get, hi, hk, ih]

theorem erase_no_key (t : Tab α) (i : Nat) : ∀ x ∈ Tab.erase t i, x.1 ≠ i := by
  induction t with
  | nil => simp [Tab.erase]
  | cons x t ih =>
    obtain ⟨k, v⟩ := x
    by_cases h : k = i
    · simpa [Tab.erase, h] using ih
    · intro y hy
      rcases List.mem_cons.mp (by simpa [Tab.erase, h] using hy) with rfl | hy
      · exact h
      · exact ih y hy

/-- Reading the entry just written gives the value written. -/
@[simp] theorem get_set_self [DecidableEq α] (d : α) (t : Tab α) (i : Nat) (v : α) :
    Tab.get d (Tab.set d t i v) i = v := by
  unfold Tab.set
  split
  · next h => rw [get_erase_self, h]
  · exact get_insert_self d _ i v (erase_no_key t i)

/-- Writing one entry leaves every other as it was. -/
theorem get_set_ne [DecidableEq α] (d : α) (t : Tab α) {i j : Nat} (v : α) (h : j ≠ i) :
    Tab.get d (Tab.set d t i v) j = Tab.get d t j := by
  unfold Tab.set
  split
  · exact get_erase_ne d t h
  · rw [get_insert_ne d _ v h, get_erase_ne d t h]

/-! ## The canonical form -/

theorem wfFrom_mono [DecidableEq α] (d : α) (t : Tab α) {a b : Nat} (h : a ≤ b) (w : Tab.wfFrom d t b = true) :
    Tab.wfFrom d t a = true := by
  cases t with
  | nil => rfl
  | cons x t =>
    simp only [Tab.wfFrom, Bool.and_eq_true, decide_eq_true_eq] at w ⊢
    exact ⟨⟨by omega, w.1.2⟩, w.2⟩

theorem wfFrom_erase [DecidableEq α] (d : α) (t : Tab α) (i lo : Nat) (w : Tab.wfFrom d t lo = true) :
    Tab.wfFrom d (Tab.erase t i) lo = true := by
  induction t generalizing lo with
  | nil => rfl
  | cons x t ih =>
    obtain ⟨k, v⟩ := x
    simp only [Tab.wfFrom, Bool.and_eq_true, decide_eq_true_eq] at w
    by_cases h : k = i
    · simpa [Tab.erase, h] using wfFrom_mono d _ (by omega : lo ≤ k + 1) (ih _ w.2)
    · simp only [Tab.erase, h, if_false, Tab.wfFrom, Bool.and_eq_true, decide_eq_true_eq]
      exact ⟨w.1, ih _ w.2⟩

theorem wfFrom_insert [DecidableEq α] (d : α) (t : Tab α) (i lo : Nat) (v : α) (hv : v ≠ d) (hlo : lo ≤ i)
    (hk : ∀ x ∈ t, x.1 ≠ i) (w : Tab.wfFrom d t lo = true) : Tab.wfFrom d (Tab.insert t i v) lo = true := by
  induction t generalizing lo with
  | nil => simp [Tab.insert, Tab.wfFrom, hlo, hv]
  | cons x t ih =>
    obtain ⟨k, u⟩ := x
    have hki : k ≠ i := hk (k, u) (by simp)
    simp only [Tab.wfFrom, Bool.and_eq_true, decide_eq_true_eq] at w
    by_cases h : i < k
    · simp only [Tab.insert, h, if_true, Tab.wfFrom, Bool.and_eq_true, decide_eq_true_eq]
      exact ⟨⟨hlo, by simp [hv]⟩, ⟨by omega, w.1.2⟩, w.2⟩
    · simp only [Tab.insert, h, if_false, Tab.wfFrom, Bool.and_eq_true, decide_eq_true_eq]
      exact ⟨w.1, ih _ (by omega) (fun x hx => hk x (by simp [hx])) w.2⟩

/-- Writing an entry keeps a table canonical. -/
theorem wf_set [DecidableEq α] (d : α) (t : Tab α) (i : Nat) (v : α) (w : Tab.wf d t = true) :
    Tab.wf d (Tab.set d t i v) = true := by
  unfold Tab.set Tab.wf
  split
  · exact wfFrom_erase d t i 0 w
  · next h => exact wfFrom_insert d _ i 0 v h (Nat.zero_le i) (erase_no_key t i) (wfFrom_erase d t i 0 w)

theorem wf_erase [DecidableEq α] (d : α) (t : Tab α) (i : Nat) (w : Tab.wf d t = true) :
    Tab.wf d (Tab.erase t i) = true := wfFrom_erase d t i 0 w

theorem wfFrom_filter [DecidableEq α] (d : α) (t : Tab α) (p : Nat × α → Bool) (lo : Nat) (w : Tab.wfFrom d t lo = true) :
    Tab.wfFrom d (t.filter p) lo = true := by
  induction t generalizing lo with
  | nil => rfl
  | cons x t ih =>
    simp only [Tab.wfFrom, Bool.and_eq_true, decide_eq_true_eq] at w
    by_cases h : p x = true
    · simp only [List.filter_cons, h, if_true, Tab.wfFrom, Bool.and_eq_true, decide_eq_true_eq]
      exact ⟨w.1, ih _ w.2⟩
    · simpa [List.filter_cons, h] using wfFrom_mono d _ (by omega : lo ≤ x.1 + 1) (ih _ w.2)

/-! ## Byte storage -/

@[simp] theorem read_write_self (m : Memory) (a : Nat) (b : Byte) : (m.write a b).read a = b := get_set_self _ m a b

theorem read_write_ne (m : Memory) {a x : Nat} (b : Byte) (h : x ≠ a) : (m.write a b).read x = m.read x :=
  get_set_ne _ m b h

/-- Bytes outside a run keep their values. -/
theorem read_writeN_out (m : Memory) (a x : Nat) (bs : Bytes) (h : x < a ∨ a + bs.length ≤ x) :
    (m.writeN a bs).read x = m.read x := by
  induction bs generalizing m a with
  | nil => rfl
  | cons b bs ih =>
    simp only [List.length_cons] at h
    rw [Memory.writeN, ih _ _ (by omega), read_write_ne m b (by omega)]

/-- Bytes inside a run are the run's. -/
theorem read_writeN_in (m : Memory) (a i : Nat) (bs : Bytes) (h : i < bs.length) :
    (m.writeN a bs).read (a + i) = bs[i] := by
  induction bs generalizing m a i with
  | nil => simp at h
  | cons b bs ih =>
    cases i with
    | zero => rw [Memory.writeN, read_writeN_out _ _ _ _ (Or.inl (by omega))]; simp
    | succ i =>
      have := ih (m.write a b) (a + 1) i (by simpa using h)
      rw [Memory.writeN, show a + (i + 1) = a + 1 + i by omega, this]; rfl

theorem get_filter_of_true (d : α) (t : Tab α) (p : Nat → Bool) (i : Nat) (h : p i = true) :
    Tab.get d (t.filter fun x => p x.1) i = Tab.get d t i := by
  induction t with
  | nil => rfl
  | cons x t ih =>
    obtain ⟨k, v⟩ := x
    by_cases hp : p k = true
    · simp [hp, Tab.get, ih]
    · have : k ≠ i := fun e => hp (e ▸ h)
      simp [hp, Tab.get, this, ih]

theorem get_filter_of_false (d : α) (t : Tab α) (p : Nat → Bool) (i : Nat) (h : p i = false) :
    Tab.get d (t.filter fun x => p x.1) i = d := by
  induction t with
  | nil => rfl
  | cons x t ih =>
    obtain ⟨k, v⟩ := x
    by_cases hp : p k = true
    · have : k ≠ i := fun e => by simp [e, h] at hp
      simp [hp, Tab.get, this, ih]
    · simp [hp, ih]

/-- A zeroed run reads as zero, and bytes outside it keep their values. -/
theorem read_zero (m : Memory) (a n x : Nat) :
    (m.zero a n).read x = if a ≤ x ∧ x < a + n then 0 else m.read x := by
  unfold Memory.zero Memory.read
  split
  · next h => exact get_filter_of_false (0 : Byte) m (fun k => !(decide (a ≤ k) && decide (k < a + n))) x (by simp [h])
  · next h =>
    refine get_filter_of_true (0 : Byte) m (fun k => !(decide (a ≤ k) && decide (k < a + n))) x ?_
    simp only [Bool.not_eq_true', Bool.and_eq_false_imp, decide_eq_true_eq, decide_eq_false_iff_not]
    omega

theorem Memory_wf_write (m : Memory) (a : Nat) (b : Byte) (w : m.wf = true) : (m.write a b).wf = true := wf_set 0 m a b w

theorem Memory_wf_writeN (m : Memory) (a : Nat) (bs : Bytes) (w : m.wf = true) : (m.writeN a bs).wf = true := by
  induction bs generalizing m a with
  | nil => exact w
  | cons b bs ih => exact ih _ _ (Memory_wf_write m a b w)

theorem Memory_wf_zero (m : Memory) (a n : Nat) (w : m.wf = true) : (m.zero a n).wf = true := wfFrom_filter 0 m _ 0 w

end Sys2Proof.Laws
end

