-- ==== Sys2Proof/Laws/Regs.lean ====
section
/-! SUPPORT. Laws of the registers and of the unit tables: what is read after a write, what a write leaves. -/

namespace Sys2Proof.Laws

open Sys2Proof.Machine

variable (s : State)

/-! ## Bits -/

theorem testBit_bits (v lo w j : Nat) : (bits v lo w).testBit j = (decide (j < w) && v.testBit (lo + j)) := by
  simp [bits, Nat.testBit_mod_two_pow, Nat.testBit_div_two_pow, Nat.add_comm]

theorem putBits_eq (v lo w x : Nat) :
    putBits v lo w x = 2 ^ lo * (2 ^ w * (v / 2 ^ lo / 2 ^ w) + x % 2 ^ w) + v % 2 ^ lo := by
  have h1 := Nat.mod_add_div v (2 ^ lo)
  have h2 := Nat.mod_add_div (v / 2 ^ lo) (2 ^ w)
  have h3 : 2 ^ lo * (v / 2 ^ lo) = 2 ^ lo * (v / 2 ^ lo % 2 ^ w) + 2 ^ lo * (2 ^ w * (v / 2 ^ lo / 2 ^ w)) := by
    rw [← Nat.mul_add, h2]
  rw [putBits, bits, Nat.mul_add, Nat.mul_comm (v / 2 ^ lo % 2 ^ w), Nat.mul_comm (x % 2 ^ w)]
  omega

theorem testBit_putBits (v lo w x j : Nat) :
    (putBits v lo w x).testBit j = if lo ≤ j ∧ j < lo + w then x.testBit (j - lo) else v.testBit j := by
  rw [putBits_eq, Nat.testBit_two_pow_mul_add _ (Nat.mod_lt _ (Nat.two_pow_pos lo))]
  by_cases h : j < lo
  · rw [if_pos h, if_neg (by omega), Nat.testBit_mod_two_pow]; simp [h]
  · rw [if_neg h, Nat.testBit_two_pow_mul_add _ (Nat.mod_lt _ (Nat.two_pow_pos w))]
    by_cases h2 : j - lo < w
    · rw [if_pos h2, if_pos (by omega), Nat.testBit_mod_two_pow]; simp [h2]
    · rw [if_neg h2, if_neg (by omega), Nat.testBit_div_two_pow, Nat.testBit_div_two_pow,
        show j - lo - w + w + lo = j by omega]

theorem bits_putBits_self (v lo w x : Nat) : bits (putBits v lo w x) lo w = x % 2 ^ w := by
  refine Nat.eq_of_testBit_eq fun j => ?_
  rw [testBit_bits, testBit_putBits, Nat.testBit_mod_two_pow]
  by_cases h : j < w <;> simp [h]

theorem bits_putBits_disjoint (v lo w x lo' w' : Nat) (h : lo' + w' ≤ lo ∨ lo + w ≤ lo') :
    bits (putBits v lo w x) lo' w' = bits v lo' w' := by
  refine Nat.eq_of_testBit_eq fun j => ?_
  rw [testBit_bits, testBit_bits, testBit_putBits]
  by_cases hj : j < w'
  · rw [if_neg (by omega)]
  · simp [hj]

theorem putBits_lt (v lo w x : Nat) (hv : v < 2 ^ 64) (h : lo + w ≤ 64) : putBits v lo w x < 2 ^ 64 := by
  refine Nat.lt_pow_two_of_testBit _ fun j hj => ?_
  rw [testBit_putBits, if_neg (by omega)]
  exact Nat.testBit_lt_two_pow (Nat.lt_of_lt_of_le hv (Nat.pow_le_pow_right (by decide) hj))

theorem bits_lt (v lo w : Nat) : bits v lo w < 2 ^ w := Nat.mod_lt _ (Nat.two_pow_pos w)

/-! ## Registers -/

/-- A register written whole reads as written. -/
@[simp] theorem raw_setRaw_self (r : Reg) (v : W64) : (s.setRaw r v).raw r = v := by
  unfold State.setRaw State.raw
  by_cases h : v = r.name.reset
  · have : (s.regs.filter fun p => decide (p.1 ≠ r)).find? (fun p => decide (p.1 = r)) = none := by
      simp only [List.find?_eq_none, List.mem_filter]; rintro x ⟨_, hx⟩; simpa using hx
    simp only [h, if_true, this]
  · simp [h]

/-- Writing one register leaves every other as it was. -/
theorem raw_setRaw_ne {r q : Reg} (v : W64) (h : q ≠ r) : (s.setRaw r v).raw q = s.raw q := by
  have key : (s.regs.filter fun p => decide (p.1 ≠ r)).find? (fun p => decide (p.1 = q))
      = s.regs.find? (fun p => decide (p.1 = q)) := by
    rw [List.find?_filter]
    congr 1
    funext p
    by_cases hp : p.1 = q
    · simp [hp, h]
    · simp [hp]
  unfold State.setRaw State.raw
  by_cases hv : v = r.name.reset
  · simp only [hv, if_true, key]
  · have : decide (r = q) = false := by simpa using Ne.symm h
    simp only [hv, if_false, List.find?_cons, this, key]

theorem raw_setRaw (r q : Reg) (v : W64) : (s.setRaw r v).raw q = if q = r then v else s.raw q := by
  split
  · next h => subst h; exact raw_setRaw_self s q v
  · next h => exact raw_setRaw_ne s v h

/-- A field put changes its own register only. -/
theorem raw_put_ne (f : Fld) (x u i : Nat) {q : Reg} (h : q ≠ ⟨f.reg, u, i⟩) : (s.put f x u i).raw q = s.raw q :=
  raw_setRaw_ne s _ h

theorem raw_put_self (f : Fld) (x u i : Nat) :
    (s.put f x u i).raw ⟨f.reg, u, i⟩ = BitVec.ofNat 64 (putBits (s.raw ⟨f.reg, u, i⟩).toNat f.lo f.w x) :=
  raw_setRaw_self s _ _

theorem get_def (f : Fld) (u i : Nat) : s.get f u i = bits (s.raw ⟨f.reg, u, i⟩).toNat f.lo f.w := rfl

/-- A field just put reads as the value, cut to the field. -/
theorem get_put_self (f : Fld) (x u i : Nat) (h : f.lo + f.w ≤ 64) : (s.put f x u i).get f u i = x % 2 ^ f.w := by
  rw [get_def, raw_put_self, BitVec.toNat_ofNat, Nat.mod_eq_of_lt (putBits_lt _ _ _ _ (BitVec.isLt _) h), bits_putBits_self]

/-- A field put leaves the disjoint fields of its register. -/
theorem get_put_disjoint (f g : Fld) (x u i : Nat) (h : f.lo + f.w ≤ 64) (e : g.reg = f.reg)
    (d : g.lo + g.w ≤ f.lo ∨ f.lo + f.w ≤ g.lo) : (s.put f x u i).get g u i = s.get g u i := by
  rw [get_def, e, raw_put_self, BitVec.toNat_ofNat, Nat.mod_eq_of_lt (putBits_lt _ _ _ _ (BitVec.isLt _) h),
    bits_putBits_disjoint _ _ _ _ _ _ d, get_def, e]

/-- A field put leaves the fields of other registers. -/
theorem get_put_ne (f g : Fld) (x u i u' i' : Nat) (h : (⟨g.reg, u', i'⟩ : Reg) ≠ ⟨f.reg, u, i⟩) :
    (s.put f x u i).get g u' i' = s.get g u' i' := by
  rw [get_def, raw_put_ne s f x u i h, get_def]

@[simp] theorem raw_clear_self (n : RegName) (u i : Nat) : (s.clear n u i).raw ⟨n, u, i⟩ = n.reset := raw_setRaw_self s _ _

theorem raw_clear_ne (n : RegName) (u i : Nat) {q : Reg} (h : q ≠ ⟨n, u, i⟩) : (s.clear n u i).raw q = s.raw q :=
  raw_setRaw_ne s _ h

/-- Clearing a register name of one unit: its registers read their reset value, all others as before. -/
theorem raw_clearAll (n : RegName) (u : Nat) (q : Reg) :
    (s.clearAll n u).raw q = if q.name = n ∧ q.unit = u then q.name.reset else s.raw q := by
  by_cases h : q.name = n ∧ q.unit = u
  · have : (s.clearAll n u).regs.find? (fun p => decide (p.1 = q)) = none := by
      simp only [State.clearAll, List.find?_eq_none, List.mem_filter]
      rintro x ⟨_, hx⟩ hq
      have e : x.1 = q := by simpa using hq
      simp [e, h.1, h.2] at hx
    simp only [State.raw, this, h, and_self, if_true]
  · have : (s.clearAll n u).regs.find? (fun p => decide (p.1 = q)) = s.regs.find? (fun p => decide (p.1 = q)) := by
      simp only [State.clearAll, List.find?_filter]
      congr 1
      funext p
      by_cases hp : p.1 = q
      · subst hp; simpa [← not_and_or] using h
      · simp [hp]
    simp only [State.raw, this, h, if_false]

/-- Several registers cleared one after the other: they read their reset values, all others as before. -/
theorem raw_clears (l : List Reg) (q : Reg) :
    (l.foldl (fun s r => s.clear r.name r.unit r.idx) s).raw q = if q ∈ l then q.name.reset else s.raw q := by
  induction l generalizing s with
  | nil => simp
  | cons r l ih =>
    rw [List.foldl_cons, ih]
    by_cases hq : q ∈ l
    · simp [hq]
    · by_cases he : q = r
      · subst he; rw [if_neg hq, if_pos (by simp)]; exact raw_setRaw_self s q _
      · rw [if_neg hq, if_neg (by simp [hq, he])]; exact raw_setRaw_ne s _ he

/-- A counter raised: its own register changes, nothing else. -/
theorem raw_bump_ne (f : Fld) (n u i : Nat) {q : Reg} (h : q ≠ ⟨f.reg, u, i⟩) : (s.bump f n u i).raw q = s.raw q := by
  unfold State.bump
  split
  · rfl
  · exact raw_put_ne s _ _ _ _ h

/-- A counter raised by n reads n more, or its largest value. -/
theorem get_bump_self (f : Fld) (n u i : Nat) (h : f.lo + f.w ≤ 64) :
    (s.bump f n u i).get f u i = if s.get f u i + n < 2 ^ f.w then s.get f u i + n else 2 ^ f.w - 1 := by
  have hlt : s.get f u i < 2 ^ f.w := bits_lt _ _ _
  unfold State.bump
  split
  · next h0 => subst h0; simp [hlt]
  · rw [get_put_self _ _ _ _ _ h]
    split
    · next h1 => exact Nat.mod_eq_of_lt h1
    · exact Nat.mod_eq_of_lt (by have := Nat.two_pow_pos f.w; omega)

theorem bump_eq (f : Fld) (n u i : Nat) : s.bump f n u i = { s with regs := (s.bump f n u i).regs } := by
  unfold State.bump
  split <;> rfl

/-! ## Units -/

@[simp] theorem bay_setBay_self (p : Nat) (b : Bay) : (s.setBay p b).bay p = b := get_set_self _ _ _ _
theorem bay_setBay_ne {p q : Nat} (b : Bay) (h : q ≠ p) : (s.setBay p b).bay q = s.bay q := get_set_ne _ _ _ h
@[simp] theorem bay_modBay_self (p : Nat) (f : Bay → Bay) : (s.modBay p f).bay p = f (s.bay p) := bay_setBay_self s p _
theorem bay_modBay_ne {p q : Nat} (f : Bay → Bay) (h : q ≠ p) : (s.modBay p f).bay q = s.bay q := bay_setBay_ne s _ h
@[simp] theorem die_setDie_self (d : Nat) (x : Die) : (s.setDie d x).die d = x := get_set_self _ _ _ _
theorem die_setDie_ne {d q : Nat} (x : Die) (h : q ≠ d) : (s.setDie d x).die q = s.die q := get_set_ne _ _ _ h
@[simp] theorem die_modDie_self (d : Nat) (f : Die → Die) : (s.modDie d f).die d = f (s.die d) := die_setDie_self s d _
theorem die_modDie_ne {d q : Nat} (f : Die → Die) (h : q ≠ d) : (s.modDie d f).die q = s.die q := die_setDie_ne s _ h
@[simp] theorem eng_setEng_self (e : Nat) (x : Engine) : (s.setEng e x).eng e = x := get_set_self _ _ _ _
theorem eng_setEng_ne {e q : Nat} (x : Engine) (h : q ≠ e) : (s.setEng e x).eng q = s.eng q := get_set_ne _ _ _ h
@[simp] theorem port_setPort_self (p : Nat) (x : Port) : (s.setPort p x).port p = x := get_set_self _ _ _ _
theorem port_setPort_ne {p q : Nat} (x : Port) (h : q ≠ p) : (s.setPort p x).port q = s.port q := get_set_ne _ _ _ h
@[simp] theorem port_modPort_self (p : Nat) (f : Port → Port) : (s.modPort p f).port p = f (s.port p) := port_setPort_self s p _
theorem port_modPort_ne {p q : Nat} (f : Port → Port) (h : q ≠ p) : (s.modPort p f).port q = s.port q := port_setPort_ne s _ h
@[simp] theorem arr_setArr_self (b : Bay) (a : Nat) (x : Arr) : (b.setArr a x).arr a = x := get_set_self _ _ _ _
theorem arr_setArr_ne (b : Bay) {a q : Nat} (x : Arr) (h : q ≠ a) : (b.setArr a x).arr q = b.arr q := get_set_ne _ _ _ h
@[simp] theorem arr_modArr_self (b : Bay) (a : Nat) (f : Arr → Arr) : (b.modArr a f).arr a = f (b.arr a) := arr_setArr_self b a _
theorem arr_modArr_ne (b : Bay) {a q : Nat} (f : Arr → Arr) (h : q ≠ a) : (b.modArr a f).arr q = b.arr q := arr_setArr_ne b _ h
@[simp] theorem ring_setRing_self (b : Bay) (r : Nat) (x : RingEnd) : (b.setRing r x).ring r = x := get_set_self _ _ _ _
theorem ring_setRing_ne (b : Bay) {r q : Nat} (x : RingEnd) (h : q ≠ r) : (b.setRing r x).ring q = b.ring q := get_set_ne _ _ _ h
@[simp] theorem board_setBoard_self (e : Nat) (b : Board) : (s.setBoard e b).board e = b := get_set_self _ _ _ _
theorem board_setBoard_ne {e q : Nat} (b : Board) (h : q ≠ e) : (s.setBoard e b).board q = s.board q := get_set_ne _ _ _ h

/-! ## Registers across unit updates, units across register updates -/

@[simp] theorem raw_setBay (p : Nat) (b : Bay) (r : Reg) : (s.setBay p b).raw r = s.raw r := rfl
@[simp] theorem raw_modBay (p : Nat) (f : Bay → Bay) (r : Reg) : (s.modBay p f).raw r = s.raw r := rfl
@[simp] theorem raw_setDie (d : Nat) (x : Die) (r : Reg) : (s.setDie d x).raw r = s.raw r := rfl
@[simp] theorem raw_modDie (d : Nat) (f : Die → Die) (r : Reg) : (s.modDie d f).raw r = s.raw r := rfl
@[simp] theorem raw_setEng (e : Nat) (x : Engine) (r : Reg) : (s.setEng e x).raw r = s.raw r := rfl
@[simp] theorem raw_modPort (p : Nat) (f : Port → Port) (r : Reg) : (s.modPort p f).raw r = s.raw r := rfl
@[simp] theorem get_setBay (p : Nat) (b : Bay) (f : Fld) (u i : Nat) : (s.setBay p b).get f u i = s.get f u i := rfl
@[simp] theorem get_modBay (p : Nat) (g : Bay → Bay) (f : Fld) (u i : Nat) : (s.modBay p g).get f u i = s.get f u i := rfl
@[simp] theorem get_modDie (d : Nat) (g : Die → Die) (f : Fld) (u i : Nat) : (s.modDie d g).get f u i = s.get f u i := rfl
@[simp] theorem get_setEng (e : Nat) (x : Engine) (f : Fld) (u i : Nat) : (s.setEng e x).get f u i = s.get f u i := rfl
@[simp] theorem get_modPort (p : Nat) (g : Port → Port) (f : Fld) (u i : Nat) : (s.modPort p g).get f u i = s.get f u i := rfl
@[simp] theorem bay_setRaw (r : Reg) (v : W64) (p : Nat) : (s.setRaw r v).bay p = s.bay p := rfl
@[simp] theorem bay_put (f : Fld) (x u i p : Nat) : (s.put f x u i).bay p = s.bay p := rfl
@[simp] theorem die_put (f : Fld) (x u i d : Nat) : (s.put f x u i).die d = s.die d := rfl
@[simp] theorem eng_put (f : Fld) (x u i e : Nat) : (s.put f x u i).eng e = s.eng e := rfl
@[simp] theorem port_put (f : Fld) (x u i p : Nat) : (s.put f x u i).port p = s.port p := rfl
@[simp] theorem die_modBay (p : Nat) (f : Bay → Bay) (d : Nat) : (s.modBay p f).die d = s.die d := rfl
@[simp] theorem eng_modBay (p : Nat) (f : Bay → Bay) (e : Nat) : (s.modBay p f).eng e = s.eng e := rfl
@[simp] theorem port_modBay (p : Nat) (f : Bay → Bay) (d : Nat) : (s.modBay p f).port d = s.port d := rfl
@[simp] theorem bay_modDie (d : Nat) (f : Die → Die) (p : Nat) : (s.modDie d f).bay p = s.bay p := rfl
@[simp] theorem bay_setEng (e : Nat) (x : Engine) (p : Nat) : (s.setEng e x).bay p = s.bay p := rfl

end Sys2Proof.Laws
end

