-- ==== Sys2Proof/Laws/Host.lean ====
section
/-! SUPPORT. What a command on a unit, on the clocks and on a host register can do. -/

namespace Sys2Proof.Laws

open Sys2Proof.Machine

variable (s : State)

/-- A command on a unit that exists answers its next state. -/
theorem onUnit_lt {u n : Nat} (h : u < n) (f : State → State) : onUnit u n s f = .next (f s) := if_pos h

/-- A command on a unit that does not exist faults. -/
theorem onUnit_ge {u n : Nat} (h : n ≤ u) (f : State → State) : onUnit u n s f = .fault (.noSuchUnit u) :=
  if_neg (by omega)

/-- An event of the compute clocks acts while they run. -/
theorem onClock_run (h : s.clocked = true) (f : State → State) : onClock s f = .next (f s) := by
  simp only [onClock, h, if_true]

/-- While the compute clocks stand, an event of theirs changes nothing. -/
theorem onClock_stand (h : s.clocked = false) (f : State → State) : onClock s f = .next s := by
  simp only [onClock, h, Bool.false_eq_true, if_false]

theorem onPower_run (h : s.powered = true) (f : State → State) : onPower s f = .next (f s) := by
  simp only [onPower, h, if_true]

theorem onUnitClock_run {u n : Nat} (hu : u < n) (h : s.clocked = true) (f : State → State) :
    onUnitClock u n s f = .next (f s) := by
  simp only [onUnitClock, onUnit, hu, h, if_true]

theorem onBay_run {lb : Nat} (hl : lb < 64) (h : s.clocked = true) (f : Nat → State) :
    onBay lb s f = .next (f (s.phys lb)) := by
  simp only [onBay, hl, h, if_true]

/-- Commands on a bay answer a next state for every logical bay there is. -/
theorem onBay_next {lb : Nat} (hl : lb < 64) (f : Nat → State) : ∃ t, onBay lb s f = .next t :=
  ⟨_, if_pos hl⟩

/-- Writing a register's fields changes that register only. -/
theorem raw_writeFields_ne (r : Reg) (v : Nat) {q : Reg} (h : q ≠ r) : (s.writeFields r v).raw q = s.raw q :=
  raw_setRaw_ne s _ h

theorem writeFields_eq (r : Reg) (v : Nat) : s.writeFields r v = { s with regs := (s.writeFields r v).regs } := rfl

@[simp] theorem bay_writeFields (r : Reg) (v p : Nat) : (s.writeFields r v).bay p = s.bay p := rfl

/-- A register of write-only fields alone keeps its content. -/
theorem raw_writeFields_wo (n : RegName) (u i v : Nat) (q : Reg) (h : n.spec.fields.all (·.acc == .WO) = true) :
    (s.writeFields ⟨n, u, i⟩ v).raw q = s.raw q := by
  have key : ∀ (l : List FSpec) (w : Nat), l.all (·.acc == .WO) = true → l.foldl (FSpec.apply s.open_ v) w = w := by
    intro l
    induction l with
    | nil => intro w _; rfl
    | cons f l ih =>
      intro w hl
      simp only [List.all_cons, Bool.and_eq_true, beq_iff_eq] at hl
      have hf : FSpec.apply s.open_ v w f = w := by simp only [FSpec.apply, hl.1]
      rw [List.foldl_cons, hf]
      exact ih w hl.2
  unfold State.writeFields
  rw [key _ _ h, raw_setRaw]
  split
  · next e => subst e; simp
  · rfl

/-- A host write that reaches its register sets the fields and has its effect. -/
theorem hostSet_run {n : Nat} {r : Reg} (hu : r.unit < n) (h1 : s.hostUp = true) (h2 : s.host.d3 = false)
    (h3 : s.reaches r = true) (v : Nat) (f : State → State) :
    hostSet n r v s f = .next (f (s.writeFields r v)) := by
  simp [hostSet, onUnit, hu, State.hostWrite, h1, h2, h3]

end Sys2Proof.Laws
end

