-- ==== Sys2Proof/Laws/Cue.lean ====
section
/-! SUPPORT. What counting an event, issuing a cue and retiring one can do. -/

namespace Sys2Proof.Laws

open Sys2Proof.Machine

variable (s : State)

/-! ## Counters (R368, R369, R378) -/

/-- Counting an event changes the block counters and the bandwidth units' counts, and nothing else. -/
structure Counts (s t : State) : Prop where
  raw  : ∀ r, r.name ≠ .OBS_CNT → t.raw r = s.raw r
  rest : t = { s with regs := t.regs, obs := { s.obs with bwCount := t.obs.bwCount } }

theorem Counts.refl : Counts s s := ⟨fun _ _ => rfl, rfl⟩

theorem Counts.trans {s t u : State} (h : Counts s t) (k : Counts t u) : Counts s u := by
  refine ⟨fun r hr => (k.raw r hr).trans (h.raw r hr), ?_⟩
  rw [k.rest, h.rest]

theorem counts_bump (n blk k : Nat) : Counts s (s.bump OBS_CNT_COUNT n blk k) := by
  refine ⟨fun r hr => raw_bump_ne s _ _ _ _ fun e => hr (by rw [e]), ?_⟩
  rw [bump_eq]

theorem foldl_counts {α : Type} (f : State → α → State) (h : ∀ s a, Counts s (f s a)) (l : List α) :
    Counts s (l.foldl f s) := by
  induction l generalizing s with
  | nil => exact Counts.refl s
  | cons a l ih => exact (h s a).trans (ih _)

theorem count_counts (blk ev unit n : Nat) : Counts s (s.count blk ev unit n) := by
  unfold State.count
  split
  · exact Counts.refl s
  · refine (foldl_counts s _ (fun s k => ?_) (List.range 8)).trans (foldl_counts _ _ (fun s k => ?_) (List.range 8))
    · split
      · exact counts_bump s _ _ _
      · exact Counts.refl s
    · split
      · exact ⟨fun _ _ => rfl, rfl⟩
      · exact Counts.refl s

theorem Counts.get {s t : State} (h : Counts s t) (f : Fld) (u i : Nat) (hf : f.reg ≠ .OBS_CNT) :
    t.get f u i = s.get f u i := by rw [get_def, h.raw _ hf, get_def]

theorem Counts.bay {s t : State} (h : Counts s t) (p : Nat) : t.bay p = s.bay p := by rw [h.rest]; rfl

/-! ## Issue and retirement (R83, R85) -/

/-- A bay that takes no cue sample. -/
def Unsampled (s : State) (p : Nat) : Prop := s.flag OBS_SAMPCTL_EN = false ∧ (s.bay p).samples = []

theorem attempt_unsampled {p : Nat} (h : Unsampled s p) : s.attempt p = s := by
  unfold State.attempt
  split
  · rfl
  · simp [h.1]

/-- Where the sequencer may issue and the cue at the PC is `q`, the command answers what the cue's action gives. -/
theorem issueCue_run {lb : Nat} {q : Cue} (act : State → Nat → Cue → Option State) (hl : lb < 64) (hc : s.clocked = true)
    (hm : s.mayIssue (s.phys lb) = true) (hq : s.cueAt (s.phys lb) = some q) (hs : Unsampled s (s.phys lb)) :
    issueCue lb s act = .next ((act s (s.phys lb) q).getD s) := by
  simp only [issueCue, onBay, hl, hc, if_true, hm, hq, attempt_unsampled s hs]

theorem mayIssue_stall {p : Nat} (h : s.mayIssue p = true) : (s.bay p).stall = none := by
  unfold State.mayIssue at h
  simp only [Bool.and_eq_true, Option.isNone_iff_eq_none] at h
  exact h.1.1.1.2

/-- What the retirement of a cue at `pc` does in a bay without samples. -/
structure Retired (s t : State) (p pc : Nat) : Prop where
  raw   : ∀ r, r ≠ ⟨.CUE_SEQSTAT, p, 0⟩ → r.name ≠ .OBS_CNT → t.raw r = s.raw r
  pc    : t.get CUE_SEQSTAT_PC p = pc % 2 ^ 14
  state : t.get CUE_SEQSTAT_STATE p = s.get CUE_SEQSTAT_STATE p
  depth : t.get CUE_SEQSTAT_LDEPTH p = s.get CUE_SEQSTAT_LDEPTH p
  own   : t.bay p = { s.bay p with stall := none, wait := none, waited := [], samples := [], ord := (s.bay p).ord + 1 }
  bays  : ∀ q, q ≠ p → t.bay q = s.bay q
  rest  : t = { s with regs := t.regs, bays := t.bays, obs := { s.obs with bwCount := t.obs.bwCount } }

theorem retireTo_retired (p pc : Nat) (h : (s.bay p).samples = []) : Retired s (s.retireTo p pc) p pc := by
  unfold State.retireTo
  simp only [h, List.filter_nil, List.foldl_nil]
  generalize hu : (s.modBay p fun b => { b with
    stall := none, wait := none, waited := [], samples := b.samples.filter fun x => x.pc != s.get CUE_SEQSTAT_PC p, ord := b.ord + 1 }) = u
  have hur : ∀ r, u.raw r = s.raw r := fun r => by rw [← hu]; rfl
  have hug : ∀ f i j, u.get f i j = s.get f i j := fun f i j => by rw [← hu]; rfl
  have c := count_counts (u.put CUE_SEQSTAT_PC pc p) (bayBlk p) 0x02 0 1
  refine ⟨?_, ?_, ?_, ?_, ?_, ?_, ?_⟩
  · intro r hr hn
    rw [c.raw r hn, raw_put_ne u _ _ _ _ hr, hur]
  · rw [c.get _ _ _ (by decide), get_put_self _ _ _ _ _ (by decide)]
  · rw [c.get _ _ _ (by decide), get_put_disjoint u CUE_SEQSTAT_PC CUE_SEQSTAT_STATE _ _ _ (by decide) rfl (Or.inr (by decide)), hug]
  · rw [c.get _ _ _ (by decide), get_put_disjoint u CUE_SEQSTAT_PC CUE_SEQSTAT_LDEPTH _ _ _ (by decide) rfl (Or.inr (by decide)), hug]
  · rw [c.bay, bay_put, ← hu, bay_modBay_self]; simp [h]
  · intro q hq; rw [c.bay, bay_put, ← hu, bay_modBay_ne _ _ hq]
  · rw [c.rest, ← hu]; rfl

theorem retireCue_retired (p : Nat) (h : (s.bay p).samples = []) :
    Retired s (s.retireCue p) p (s.get CUE_SEQSTAT_PC p + 1) := retireTo_retired s p _ h

end Sys2Proof.Laws
end

