-- ==== Sys2Proof/Laws/Memory.lean ====
section
/-! SUPPORT. The three addressed stores (DDR, every bay's wings, every die's green room) stay canonical: the
lemmas for each operation that writes one of them, and the reset state's stores. -/

namespace Sys2Proof.Laws

open Sys2Proof.Machine

/-- The stores are canonical. -/
def StoresWf (s : State) : Prop :=
  Memory.wf s.mem = true ∧ (∀ p, Memory.wf (s.bay p).wings = true) ∧ (∀ d, Memory.wf (s.die d).green = true)

theorem storesWf_reset : StoresWf State.reset := ⟨rfl, fun _ => rfl, fun _ => rfl⟩

/-- A state with the same DDR, bays and dies has the same stores. -/
theorem storesWf_of_eq {s t : State} (h : StoresWf s) (hm : t.mem = s.mem) (hb : t.bays = s.bays) (hd : t.dies = s.dies) :
    StoresWf t := by
  simpa only [StoresWf, State.bay, State.die, hm, hb, hd] using h

/-- A fold of steps that keep the stores canonical keeps them canonical. -/
theorem storesWf_foldl {α : Type} (f : State → α → State) (hf : ∀ s a, StoresWf s → StoresWf (f s a)) (l : List α) :
    ∀ s, StoresWf s → StoresWf (l.foldl f s) := by
  induction l with
  | nil => exact fun _ h => h
  | cons a l ih => exact fun s h => ih _ (hf s a h)

/-- The same for a fold that carries a second value. -/
theorem storesWf_foldl_pair {α β : Type} (f : State × β → α → State × β) (hf : ∀ x a, StoresWf x.1 → StoresWf (f x a).1)
    (l : List α) : ∀ x, StoresWf x.1 → StoresWf (l.foldl f x).1 := by
  induction l with
  | nil => exact fun _ h => h
  | cons a l ih => exact fun x h => ih _ (hf x a h)

theorem storesWf_ite {c : Prop} [Decidable c] {t u : State} (ht : StoresWf t) (hu : StoresWf u) : StoresWf (if c then t else u) := by
  split <;> assumption

theorem storesWf_ite_pair {α : Type} {c : Prop} [Decidable c] {x y : State × α} (hx : StoresWf x.1) (hy : StoresWf y.1) :
    StoresWf (if c then x else y).1 := by
  split <;> assumption

/-! ## Updates that reach no store -/

variable {s : State}

theorem storesWf_put (h : StoresWf s) (f : Fld) (x u i : Nat) : StoresWf (s.put f x u i) := storesWf_of_eq h rfl rfl rfl
theorem storesWf_setRaw (h : StoresWf s) (r : Reg) (v : W64) : StoresWf (s.setRaw r v) := storesWf_of_eq h rfl rfl rfl
theorem storesWf_clear (h : StoresWf s) (n : RegName) (u i : Nat) : StoresWf (s.clear n u i) := storesWf_of_eq h rfl rfl rfl
theorem storesWf_clearAll (h : StoresWf s) (n : RegName) (u : Nat) : StoresWf (s.clearAll n u) := storesWf_of_eq h rfl rfl rfl
theorem storesWf_setEng (h : StoresWf s) (e : Nat) (x : Engine) : StoresWf (s.setEng e x) := storesWf_of_eq h rfl rfl rfl
theorem storesWf_modPort (h : StoresWf s) (p : Nat) (f : Port → Port) : StoresWf (s.modPort p f) := storesWf_of_eq h rfl rfl rfl
theorem storesWf_modCmd (h : StoresWf s) (id : Nat) (f : Cmd → Cmd) : StoresWf (s.modCmd id f) := storesWf_of_eq h rfl rfl rfl

theorem storesWf_bump (h : StoresWf s) (f : Fld) (n u i : Nat) : StoresWf (s.bump f n u i) := by
  unfold State.bump; split
  · exact h
  · exact storesWf_put h _ _ _ _

theorem storesWf_count (h : StoresWf s) (blk ev unit n : Nat) : StoresWf (s.count blk ev unit n) := by
  unfold State.count; split
  · exact h
  · refine storesWf_foldl _ (fun s k h => ?_) _ _ (storesWf_foldl _ (fun s k h => ?_) _ _ h)
    · split
      · exact storesWf_of_eq h rfl rfl rfl
      · exact h
    · split
      · exact storesWf_bump h _ _ _ _
      · exact h

theorem storesWf_sendVec (h : StoresWf s) (v : Nat) : StoresWf (s.sendVec v) := by
  unfold State.sendVec
  repeat' split
  all_goals exact storesWf_of_eq h rfl rfl rfl

theorem storesWf_event (h : StoresWf s) (n : Nat) : StoresWf (s.event n) := by
  unfold State.event; dsimp only
  repeat' split
  · exact h
  · exact storesWf_sendVec (storesWf_put h _ _ _ _) n
  · exact storesWf_put h _ _ _ _

theorem storesWf_poison (h : StoresWf s) (gs : List Nat) : StoresWf (s.poison gs) := storesWf_of_eq h rfl rfl rfl

theorem storesWf_depotBack (h : StoresWf s) (p : Nat) (sel : Nat → Bool) : StoresWf (s.depotBack p sel) :=
  storesWf_count (storesWf_put (storesWf_modPort (storesWf_poison (storesWf_bump (storesWf_bump h _ _ _ _) _ _ _ _) _) _ _) _ _ _ _) _ _ _ _

theorem storesWf_depotDrop (h : StoresWf s) (p : Nat) (sel : Nat → Bool) : StoresWf (s.depotDrop p sel) :=
  storesWf_modPort (storesWf_depotBack h p sel) _ _

theorem storesWf_depotErrs (h : StoresWf s) (p a : Nat) (w : Bool) : StoresWf (s.depotErrs p a w) := by
  unfold State.depotErrs
  exact storesWf_ite h (storesWf_ite (storesWf_depotDrop h p _) (storesWf_modPort (storesWf_ite h (storesWf_bump h _ _ _ _)) _ _))

/-- An access through a depot writes no store. -/
theorem storesWf_depotAccess (h : StoresWf s) (a : Nat) (w whole : Bool) : StoresWf (s.depotAccess a w whole) := by
  unfold State.depotAccess; dsimp only
  refine storesWf_ite (storesWf_count (storesWf_put (storesWf_modPort ?_ _ _) _ _ _ _) _ _ _ _) h
  have hs := storesWf_depotErrs h (s.chanOf a / 8) a whole
  split
  · exact storesWf_ite hs (storesWf_depotDrop hs _ _)
  · exact hs

theorem storesWf_busAccess (h : StoresWf s) (a : Nat) (hit : Bool) : StoresWf (s.busAccess a hit).1 := by
  unfold State.busAccess; dsimp only
  have hb := storesWf_bump (s := { s with busErr := Tab.erase s.busErr (a / 64) }) (storesWf_of_eq h rfl rfl rfl) MEM_ECC_BUS
    (if Tab.get 0 s.busErr (a / 64) < 4 then Tab.get 0 s.busErr (a / 64) else 4) (s.chanOf a) 0
  exact storesWf_ite_pair h (storesWf_ite_pair hb (storesWf_poison hb _))

theorem storesWf_modCmds (h : StoresWf s) (ro : RunOrder) : StoresWf { s with ro := ro } := storesWf_of_eq h rfl rfl rfl

theorem storesWf_cmdEcc (h : StoresWf s) (who : Option Nat) (e : EccSeen) : StoresWf (s.cmdEcc who e) := by
  unfold State.cmdEcc; split
  · exact h
  · exact storesWf_ite (storesWf_modCmd (storesWf_ite (storesWf_modCmd h _ _) h) _ _) (storesWf_ite (storesWf_modCmd h _ _) h)

theorem storesWf_errAddr (h : StoresWf s) (a : Nat) (u : Bool) : StoresWf (s.errAddr a u) := by
  unfold State.errAddr; dsimp only; split
  · exact storesWf_event (storesWf_put (storesWf_put (storesWf_put h _ _ _ _) _ _ _ _) _ _ _ _) _
  · exact storesWf_put (storesWf_put (storesWf_put h _ _ _ _) _ _ _ _) _ _ _ _

theorem storesWf_markStale (h : StoresWf s) (g : Nat) : StoresWf (s.markStale g) := by
  unfold State.markStale
  refine storesWf_foldl _ (fun s l h => ?_) _ _ h
  dsimp only
  repeat' split
  · exact storesWf_count (storesWf_bump (storesWf_setEng h _ _) _ _ _ _) _ _ _ _
  · exact h
  · exact h

/-! ## Bays and dies -/

/-- A changed bay keeps the stores canonical when its wings stay so. -/
theorem storesWf_modBay (h : StoresWf s) (p : Nat) (f : Bay → Bay)
    (hf : Memory.wf (s.bay p).wings = true → Memory.wf (f (s.bay p)).wings = true) : StoresWf (s.modBay p f) := by
  refine ⟨h.1, fun q => ?_, h.2.2⟩
  by_cases e : q = p
  · subst e
    have : (s.modBay q f).bay q = f (s.bay q) := get_set_self _ _ _ _
    rw [this]; exact hf (h.2.1 q)
  · have : (s.modBay p f).bay q = s.bay q := get_set_ne _ _ _ e
    rw [this]; exact h.2.1 q

/-- A change of a bay beside its wings. -/
theorem storesWf_modBay_rest (h : StoresWf s) (p : Nat) (f : Bay → Bay) (hf : (f (s.bay p)).wings = (s.bay p).wings) :
    StoresWf (s.modBay p f) := storesWf_modBay h p f (by rw [hf]; exact id)

/-- A changed die keeps the stores canonical when its green room stays so. -/
theorem storesWf_modDie (h : StoresWf s) (d : Nat) (f : Die → Die)
    (hf : Memory.wf (s.die d).green = true → Memory.wf (f (s.die d)).green = true) : StoresWf (s.modDie d f) := by
  refine ⟨h.1, h.2.1, fun q => ?_⟩
  by_cases e : q = d
  · subst e
    have : (s.modDie q f).die q = f (s.die q) := get_set_self _ _ _ _
    rw [this]; exact hf (h.2.2 q)
  · have : (s.modDie d f).die q = s.die q := get_set_ne _ _ _ e
    rw [this]; exact h.2.2 q

theorem Memory_wf_foldl {α : Type} (f : Memory → α → Memory) (hf : ∀ m a, m.wf = true → (f m a).wf = true) (l : List α) :
    ∀ m : Memory, m.wf = true → (l.foldl f m).wf = true := by
  induction l with
  | nil => exact fun _ h => h
  | cons a l ih => exact fun m h => ih _ (hf m a h)

/-! ## DDR -/

theorem storesWf_mem (h : StoresWf s) (m : Memory) (hm : m.wf = true) (e : Tab ErrMark) (n : Nat) :
    StoresWf { s with mem := m, memErr := e, free := n } := ⟨hm, h.2.1, h.2.2⟩

/-- Bytes put at their addresses keep a store canonical. -/
theorem Memory_wf_put (m : Memory) (bs : List (Nat × Byte)) (h : m.wf = true) : (m.put bs).wf = true :=
  Memory_wf_foldl _ (fun m _ hm => Memory_wf_write m _ _ hm) bs m h

/-- A store of one granule keeps the stores canonical. -/
theorem storesWf_granulePut (h : StoresWf s) (g : Nat) (bs : List (Nat × Byte)) : StoresWf (s.granulePut g bs).1 := by
  have hs := storesWf_markStale (storesWf_count (storesWf_busAccess (storesWf_depotAccess h g true (bs.length == 64)) g (s.depotHit g))
    (portBlk (s.chanOf g / 8)) 0x41 (s.chanOf g % 8) 1) g
  unfold State.granulePut; dsimp only
  refine storesWf_ite_pair (storesWf_errAddr (storesWf_bump hs _ _ _ _) _ _) ?_
  split
  · exact hs
  · exact storesWf_errAddr (storesWf_bump (storesWf_mem hs _ (Memory_wf_put _ bs hs.1) _ _) _ _ _ _) _ _
  · exact storesWf_mem hs _ (Memory_wf_put _ bs hs.1) _ _
  · exact storesWf_mem hs _ (Memory_wf_put _ bs hs.1) _ _

theorem storesWf_granuleWrite (h : StoresWf s) (a : Nat) (bs : Bytes) : StoresWf (s.granuleWrite a bs).1 :=
  storesWf_ite_pair h (storesWf_granulePut h _ _)

theorem storesWf_ddrWriteGo (fuel : Nat) : ∀ {s : State}, StoresWf s → ∀ a bs, StoresWf (State.ddrWriteGo fuel s a bs).1 := by
  induction fuel with
  | zero => exact fun h _ _ => h
  | succ n ih =>
    intro s h a bs
    unfold State.ddrWriteGo
    split
    · exact h
    · exact ih (storesWf_granuleWrite h a _) _ _

/-- Every write of DDR keeps the stores canonical. -/
theorem storesWf_ddrWrite (h : StoresWf s) (a : Nat) (bs : Bytes) : StoresWf (s.ddrWrite a bs).1 :=
  storesWf_ddrWriteGo _ h a bs

/-! ## Swap candidates -/

theorem storesWf_alert (h : StoresWf s) : StoresWf s.alert := by
  unfold State.alert; dsimp only; split
  · exact storesWf_event (s := { s with pins := { s.pins with alertN := !s.alertSource } }) (storesWf_of_eq h rfl rfl rfl) 0
  · exact storesWf_of_eq h rfl rfl rfl

theorem storesWf_service (h : StoresWf s) : StoresWf s.service := storesWf_alert (storesWf_put h _ _ _ _)

theorem storesWf_requestSwap (h : StoresWf s) (lb : Nat) : StoresWf (s.requestSwap lb) := by
  unfold State.requestSwap State.setDomain; dsimp only; split
  · have := storesWf_put (storesWf_put (storesWf_modDie h (lb / 8) (fun x => { x with swap := some { lbay := lb } }) id)
      ⟨.PWR_DOMSTAT, ‹Nat›, 1⟩ (b2n true) (lb / 8) 0) UST_SWAP_STATE 1 0 0
    split
    · exact storesWf_alert (storesWf_put this _ _ _ _)
    · exact this
  · exact storesWf_event (storesWf_put h _ _ _ _) 5

theorem storesWf_recordCandidate (h : StoresWf s) (lb : Nat) : StoresWf (s.recordCandidate lb) :=
  storesWf_alert (storesWf_put (storesWf_put h _ _ _ _) _ _ _ _)

theorem storesWf_swapCandidate (h : StoresWf s) (lb : Nat) : StoresWf (s.swapCandidate lb) := by
  unfold State.swapCandidate
  have this := storesWf_ite (c := s.flag UST_CFG_AUTO = true) (storesWf_requestSwap h lb) h
  generalize (if s.flag UST_CFG_AUTO = true then s.requestSwap lb else s) = t at this
  have hr := storesWf_ite (c := (!(s.die (lb / 8)).swap.isSome && t.flag UST_CFG_AUTO) = true) this (storesWf_recordCandidate this lb)
  exact storesWf_ite this (storesWf_ite (storesWf_service hr) hr)

theorem storesWf_poolCheck (h : StoresWf s) : StoresWf s.poolCheck := storesWf_ite (storesWf_service h) h

theorem storesWf_bayTrigger (h : StoresWf s) (p : Nat) : StoresWf (s.bayTrigger p) := by
  unfold State.bayTrigger; split
  · exact storesWf_swapCandidate h _
  · exact h

/-! ## Wings -/

theorem storesWf_needBank (h : StoresWf s) (p k : Nat) : StoresWf (s.needBank p k) := by
  unfold State.needBank; dsimp only
  repeat' split
  · exact h
  · exact storesWf_bayTrigger (storesWf_modBay_rest h p _ rfl) p
  · exact storesWf_modBay_rest h p _ rfl

theorem storesWf_needRow (h : StoresWf s) (p r : Nat) : StoresWf (s.needRow p r) := by
  unfold State.needRow; dsimp only
  repeat' split
  · exact h
  · exact storesWf_needBank h _ _
  · exact storesWf_modBay_rest h p _ rfl

theorem storesWf_wordCorrected (h : StoresWf s) (p w : Nat) : StoresWf (s.wordCorrected p w) := by
  unfold State.wordCorrected; dsimp only; split
  · exact storesWf_needRow (storesWf_modBay_rest h p _ rfl) _ _
  · exact storesWf_modBay_rest h p _ rfl

theorem storesWf_wingsSeen (h : StoresWf s) (p : Nat) (ws : List Nat) : StoresWf (s.wingsSeen p ws).1 := by
  unfold State.wingsSeen
  refine storesWf_foldl_pair _ (fun x w h => ?_) _ _ h
  split
  · exact h
  · exact storesWf_bump (storesWf_wordCorrected h _ _) _ _ _ _
  · exact storesWf_bump (storesWf_needBank h _ _) _ _ _ _

/-- Every store into the wings keeps the stores canonical. -/
theorem storesWf_wingsPut (h : StoresWf s) (p : Nat) (bs : List (Nat × Byte)) : StoresWf (s.wingsPut p bs).1 := by
  unfold State.wingsPut
  refine storesWf_foldl_pair _ (fun x c h => ?_) _ _ h
  have put {t : State} (h : StoresWf t) : StoresWf (t.modBay p fun b => { b with wings := b.wings.write c.1 c.2 }) :=
    storesWf_modBay h p _ fun hm => Memory_wf_write _ _ _ hm
  split
  · exact put h
  · dsimp only
    refine storesWf_ite_pair (storesWf_ite (put h) (put (storesWf_modBay_rest h p _ (by rfl)))) ?_
    split
    · exact put (storesWf_bump (storesWf_wordCorrected h _ _) _ _ _ _)
    · exact h

/-- Copying words into a spare keeps the wings canonical. -/
theorem repairWords_wf (b : Bay) (sel : Nat → Bool) (h : b.wings.wf = true) : (b.repairWords sel).wings.wf = true :=
  Memory_wf_foldl _ (fun m _ hm => Memory_wf_writeN m _ _ hm) _ _ h

theorem storesWf_repairRow (h : StoresWf s) (p r : Nat) : StoresWf (s.repairRow p r) := by
  unfold State.repairRow
  exact storesWf_of_eq (storesWf_bump (storesWf_modBay h p _ fun hm => repairWords_wf _ (fun w => wingsRow w == r) hm) _ _ _ _) rfl rfl rfl

theorem storesWf_repairBank (h : StoresWf s) (p k : Nat) : StoresWf (s.repairBank p k) := by
  unfold State.repairBank
  refine storesWf_ite (storesWf_bayTrigger h p) (storesWf_poolCheck (storesWf_of_eq (storesWf_bump (storesWf_modBay h p (fun b => { b.repairWords
    (fun w => wingsBank w == k) with bankFix := b.bankFix.filter (fun x => x != k), rowFix := b.rowFix.filter fun x => x / 32768 != k })
    fun hm => repairWords_wf _ (fun w => wingsBank w == k) hm) UST_SRAM_WBANK 1 0 0) rfl rfl rfl))

theorem storesWf_copyBay (h : StoresWf s) (p q : Nat) : StoresWf (s.copyBay p q) := by
  have hb : StoresWf (s.setBay q ((s.bay p).copyFor s.free)) :=
    storesWf_modBay h q (fun _ => (s.bay p).copyFor s.free) fun _ => repairWords_wf _ (fun _ => true) (h.2.1 p)
  exact storesWf_of_eq hb rfl rfl rfl

theorem storesWf_applyKept (h : StoresWf s) (p : Nat) (token : W64) : StoresWf (s.applyKept p token) := by
  unfold State.applyKept; dsimp only
  repeat' split
  · exact h
  · exact storesWf_put h _ _ _ _
  · exact storesWf_put (storesWf_put (storesWf_modBay (storesWf_put h _ _ _ _) p _
      fun hm => Memory_wf_foldl _ (fun m r hm => Memory_wf_zero m _ _ hm) _ _ hm) _ _ _ _) _ _ _ _

/-- A curtain's zeroing of a bay keeps the stores canonical. -/
theorem storesWf_zeroBay (h : StoresWf s) (p : Nat) (keep : Bool) : StoresWf (s.zeroBay p keep) := by
  have all {t : State} (ht : StoresWf t) : StoresWf (((((((t.clearAll .CUE_AGBASE p).clearAll .CUE_AGDIM p).clearAll .CUE_SEM p).clearAll
      .CUE_LOOP p).clearAll .CUE_RESTAB_LO p).clearAll .CUE_RESTAB_HI p).clear .CUE_FAULT p |>.clear .CUE_LIVEMASK p) := storesWf_of_eq ht rfl rfl rfl
  have bay : ∀ g : Bay → Bay, (∃ f : Nat × Byte → Bool, (g (s.bay p)).wings = (s.bay p).wings.filter f) → StoresWf (s.modBay p g) :=
    fun g ⟨f, e⟩ => storesWf_modBay h p g fun hm => by rw [e]; exact wfFrom_filter 0 _ f 0 hm
  unfold State.zeroBay
  refine storesWf_ite (storesWf_clear (all (storesWf_ite (storesWf_put (bay _ ?_) _ _ _ _) (storesWf_clear (storesWf_clear (bay _ ?_) _ _ _) _ _ _))) _ _ _)
    (all (storesWf_ite (storesWf_put (bay _ ?_) _ _ _ _) (storesWf_clear (storesWf_clear (bay _ ?_) _ _ _) _ _ _)))
  all_goals exact ⟨_, rfl⟩

/-! ## Green rooms -/

/-- Copying words into a spare keeps a green room canonical. -/
theorem repairGreen_wf (x : Die) (sel : Nat → Bool) (h : x.green.wf = true) : (x.repairGreen sel).green.wf = true :=
  Memory_wf_foldl _ (fun m _ hm => Memory_wf_writeN m _ _ hm) _ _ h

theorem storesWf_greenPut (h : StoresWf s) (d : Nat) (bs : List (Nat × Byte)) : StoresWf (s.greenPut d bs) :=
  storesWf_modDie h d _ fun hm => Memory_wf_put _ bs (repairGreen_wf _ _ hm)

theorem storesWf_greenWrite (h : StoresWf s) (d o : Nat) (bs : Bytes) : StoresWf (s.greenWrite d o bs) :=
  storesWf_greenPut h d (runAt o bs)

theorem storesWf_zeroGreen (h : StoresWf s) (d : Nat) : StoresWf (s.zeroGreen d) := storesWf_modDie h d _ fun _ => rfl

theorem storesWf_repairGreenBank (h : StoresWf s) (d k : Nat) : StoresWf (s.repairGreenBank d k) := by
  unfold State.repairGreenBank
  exact storesWf_ite (storesWf_service h) (storesWf_poolCheck (storesWf_of_eq (storesWf_bump (storesWf_modDie h d
    (fun x => x.repairGreen fun j => greenBank j == k) fun hm => repairGreen_wf _ _ hm) UST_SRAM_GBANK 1 0 0) rfl rfl rfl))

theorem storesWf_repairGreenRow (h : StoresWf s) (d k r : Nat) : StoresWf (s.repairGreenRow d k r) := by
  unfold State.repairGreenRow
  exact storesWf_ite (storesWf_repairGreenBank h d k) (storesWf_of_eq (storesWf_bump (storesWf_modDie h d
    (fun x => x.repairGreen fun j => greenBank j == k && greenRow j == r) fun hm => repairGreen_wf _ _ hm) UST_SRAM_ROWS 1 0 0) rfl rfl rfl)

theorem storesWf_greenCorrected (h : StoresWf s) (d k : Nat) : StoresWf (s.greenCorrected d k) := by
  unfold State.greenCorrected; dsimp only; split
  · exact storesWf_repairGreenRow (storesWf_modDie h d _ id) d _ _
  · exact storesWf_modDie h d _ id

theorem storesWf_greenRead (h : StoresWf s) (d o n : Nat) : StoresWf (s.greenRead d o n).1 := by
  unfold State.greenRead
  exact storesWf_foldl _ (fun s k h => storesWf_repairGreenBank h d k) _ _
    (storesWf_foldl _ (fun s k h => storesWf_greenCorrected h d k) _ _ (storesWf_bump (storesWf_bump h _ _ _ _) _ _ _ _))

/-! ## Device addresses -/

theorem storesWf_granuleRead (h : StoresWf s) (a : Nat) (e : EccSeen) : StoresWf (s.granuleRead a e).1 := by
  unfold State.granuleRead
  have hs := storesWf_count (storesWf_busAccess (storesWf_depotAccess h a false false) a (s.depotHit a)) (portBlk (s.chanOf a / 8)) 0x40 (s.chanOf a % 8) 1
  dsimp only
  split
  · exact hs
  · exact storesWf_errAddr (storesWf_bump hs _ _ _ _) _ _
  · exact storesWf_errAddr (storesWf_bump hs _ _ _ _) _ _

theorem storesWf_ddrRead (h : StoresWf s) (a n : Nat) : StoresWf (s.ddrRead a n).1 :=
  storesWf_foldl_pair _ (fun x g h => storesWf_granuleRead (s := x.1) h g x.2) _ _ h

/-- Every demand read of a device address keeps the stores canonical (a correction is written back). -/
theorem storesWf_devRead (h : StoresWf s) (a n : Nat) : StoresWf (s.devRead a n).1 := by
  unfold State.devRead
  generalize s.place a = pl
  cases pl with
  | ddr => exact storesWf_ddrRead h a n
  | wings p o =>
    have hw := storesWf_wingsSeen h p (wordsAt o n)
    dsimp only
    generalize s.wingsSeen p (wordsAt o n) = x at hw
    exact hw
  | green d o =>
    have hg := storesWf_greenRead h d o n
    dsimp only
    generalize s.greenRead d o n = x at hg
    exact hg
  | none => exact h

theorem storesWf_devReadAll (h : StoresWf s) (a n : Nat) : StoresWf (s.devReadAll a n).1 := by
  have hf := storesWf_foldl_pair (fun (x : State × EccSeen) g => ((x.1.devRead g 64).1, x.2.or (x.1.devRead g 64).2.2))
    (fun x g h => storesWf_devRead (s := x.1) h g 64) (granulesAt a n) (s, {}) h
  unfold State.devReadAll
  generalize hx : (granulesAt a n).foldl (fun (x : State × EccSeen) g => ((x.1.devRead g 64).1, x.2.or (x.1.devRead g 64).2.2)) (s, {}) = x at hf
  exact hf

/-- Every write of a device address keeps the stores canonical. -/
theorem storesWf_devWrite (h : StoresWf s) (a : Nat) (bs : Bytes) : StoresWf (s.devWrite a bs).1 := by
  unfold State.devWrite
  generalize s.place a = pl
  cases pl with
  | ddr => exact storesWf_ddrWrite h a bs
  | wings p o => exact storesWf_wingsPut h p _
  | green d o => exact storesWf_greenWrite h d o bs
  | none => exact h

/-! ## A tollhouse -/

theorem storesWf_tlhPermits (h : StoresWf s) (a n : Nat) (w : Bool) : StoresWf (s.tlhPermits a n w).1 := by
  unfold State.tlhPermits State.winFault; split
  · exact storesWf_put (storesWf_put h _ _ _ _) _ _ _ _
  · exact h

theorem storesWf_mpFault (h : StoresWf s) (code : Nat) : StoresWf (s.mpFault code) := by
  unfold State.mpFault; split
  · exact storesWf_modCmd h _ _
  · exact h

/-- A tollhouse's write keeps the stores canonical. -/
theorem storesWf_tlhPut (h : StoresWf s) (a : Nat) (bs : Bytes) : StoresWf (s.tlhPut a bs) := by
  unfold State.tlhPut
  exact storesWf_cmdEcc (storesWf_devWrite h a bs) _ _

/-- Free bytes in an area keep the stores canonical. -/
theorem storesWf_scribble (h : StoresWf s) (a n : Nat) : StoresWf (s.scribble a n).1 := by
  unfold State.scribble
  have hp := storesWf_tlhPermits h a n true
  split
  · next t e => rw [e] at hp; exact storesWf_mpFault hp _
  · next t e =>
    rw [e] at hp
    refine storesWf_foldl _ (fun s g h => ?_) _ _ hp
    exact storesWf_of_eq (storesWf_tlhPut h g _) rfl rfl rfl

end Sys2Proof.Laws
end

