-- ==== Sys2Proof/Tests/Slice0.lean ====
section
/-! SUPPORT. Tests of the model: ill-formed commands that WellFormed refuses, the manual's worked examples, and for
every obligation one theorem that shows a state and operands which meet the hypotheses of each of its clauses. -/

namespace Sys2Proof.Tests

open Sys2Proof Sys2Proof.Machine Sys2Proof.Claims

set_option Elab.async false
set_option maxRecDepth 100000

/-! ## Ill-formed commands -/

/-- Ill-formed: the unit number of a cue command, an engine, a channel, a port die, a check engine, a die, a register block, a link port, a rail group. -/
theorem test_illformed_unit :
    ([.set 64,
      .loadwEnd 0 3,
      .streamAccept 104,
      .refresh 32,
      .depCtlFlush 4,
      .chkGo 8 0,
      .retxTimeout 4096 0,
      .laneLoss 0 4,
      .wireRemap 0 4 0,
      .thermLimit 12 0,
      .bwWindow 8,
      .obsRingEnable 4 0,
      .pllLockLoss (.felsyn 16),
      .cueRndctlClr 72 0,
      .obsBctlCclr 84 0,
      .promptEnd 8,
      .selfTest [72]] : List Instr).all (fun i => !i.wf) = true := by decide +kernel

/-- Ill-formed: a field of a received frame. -/
theorem test_illformed_frame :
    ([.contribReceive { port := 16, typ := 1 },
      .sumReceive { port := 0, typ := 16 },
      .paramReceive { port := 0, typ := 3, dst := 4096 },
      .lackReceive { port := 0, typ := 5, seq := 16777216 }] : List Instr).all (fun i => !i.wf) = true := by decide +kernel

/-- Ill-formed: a value wider than the manual gives it. -/
theorem test_illformed_width :
    ([.patrolScrub 4398046511104,
      .marginCheckDone 0 256,
      .coolantAlert 65536 0 0,
      .doeFragment true 2147483648 [],
      .schedData 65536 [],
      .schedData 0 (List.replicate 257 0),
      .msgData true 0 (List.replicate 253 0),
      .meterRead 4294967296,
      .bar2Resize 44,
      .hostLinkRetrain 6 1 true] : List Instr).all (fun i => !i.wf) = true := by decide +kernel

/-- Ill-formed: a length or a count outside its range. -/
theorem test_illformed_count :
    ([.spdCheck [],
      .bar2Read 0 0,
      .bar2Write 4095 [0, 0] true,
      .registerWrite 1 0 4 0,
      .registerWrite 0 0 9 0,
      .hostLinkRetrain 0 3 true] : List Instr).all (fun i => !i.wf) = true := by decide +kernel

/-- Well-formed commands at the ends of the same ranges. -/
theorem test_wellformed :
    ([.set 63, .loadwEnd 63 2, .streamAccept 103, .refresh 31, .chkGo 7 0, .contribReceive { port := 15, typ := 1 },
      .patrolScrub 4398046511103, .bar2Resize 43, .bar2Read 4095 1, .registerWrite 4 0 8 0, .hostLinkRetrain 5 16 true] : List Instr).all Instr.wf = true := by decide +kernel

/-- No word spells a command: the table gives no bits. -/
theorem test_no_words : decodeTableWord 8 0 = none := rfl

/-- At reset no command waits, and the memory is canonical. -/
theorem test_reset_empty : State.reset.pending = [] ∧ Memory.wf State.reset.mem = true := by decide +kernel

/-! ## The manual's worked examples -/

/-- A decimal fraction n ÷ d as the FP32 value nearest to it. -/
def decimal (n : Int) (d : Nat) : FVal := fval (f32 ((FVal.ofInt n).div (FVal.ofInt d)))

/-- The words of "Worked example: one DRAIN" decode to its fields. -/
theorem test_drain_words_decode : cueDecode 0x2060A000C031FFF8 0x06000217FFE00000 =
    some (.drain 0 3 0 false 2 true false false false false false 0 0 0xC03 127 127 0 0x60002 0x17FFE 0) := by decide +kernel
/-- The fields of "Worked example: one DRAIN" give its words. -/
theorem test_drain_words_encode :
    cueEncode (.drain 0 3 0 false 2 true false false false false false 0 0 0xC03 127 127 0 0x60002 0x17FFE 0) = (0x2060A000C031FFF8, 0x06000217FFE00000) := by
  decide +kernel
/-- A generator loaded with 1 draws 0, and its state is then 0x1_0000 (the example under R36). -/
theorem test_lfsr_first_draw : lfsrDraw 1 = (0, 0x10000) := by decide +kernel
/-- The check value of "123456789" under ALG 0 (R210). -/
theorem test_crc32c_of_digits : crc32c [0x31, 0x32, 0x33, 0x34, 0x35, 0x36, 0x37, 0x38, 0x39] = 0xE3069283 := by decide +kernel
/-- The check value of "123456789" under ALG 1 (R210). -/
theorem test_crc64_of_digits : crc64 [0x31, 0x32, 0x33, 0x34, 0x35, 0x36, 0x37, 0x38, 0x39] = 0x995DC9BBDF1939FA := by decide +kernel
/-- Thirty-two zero bytes are followed by AA 36 91 8A (R211). -/
theorem test_crc32c_of_zeros : leBytes 4 (crc32c (List.replicate 32 0)) = [0xAA, 0x36, 0x91, 0x8A] := by decide +kernel
/-- Address 0x12_3456_7800 lies on channel 27; its granule moves to channel 11 when 27 is retired (R191, R197). -/
theorem test_channel_hash : chanHash 0x1234567800 = 27 ∧ localGranule 0x1234567800 = 1193046 ∧ survivor 27 (1193046 % 31) = 11 := by decide +kernel
/-- Offset 0x10_03FC lies in bank 1 (the example of R132). -/
theorem test_wings_bank : wingsBank (0x1003FC / 2) = 1 := by decide +kernel
/-- Three registers at the BAR0 offsets that R10 and their tables give. -/
theorem test_register_offsets : Reg.offset ⟨.CUE_SEQSTAT, 32, 0⟩ = 0x3600004 ∧ Reg.offset ⟨.ENV_STAT, 0, 0⟩ = 0xC020014 ∧ Reg.offset ⟨.FAB_TIME, 0, 0⟩ = 0x8040050 := by decide +kernel
/-- An offset names its register. -/
theorem test_register_at_offset : regAt 0x3600004 = some ⟨.CUE_SEQSTAT, 32, 0⟩ := by decide +kernel

/-- The read of the manual's five-dimensional example. -/
def projections : Desc :=
  descOf [2 ^ 61 * 2 + 2 ^ 59 + 4 * 2 ^ 56 + 3 * 2 ^ 53 + 1 * 2 ^ 50 + 2 * 2 ^ 47, 0x4000000000, 0x400000, 0, 0,
    2 * 65536 + 31, 32 * 2 ^ 32, 64 * 65536 + 7, 8 * 2 ^ 32, 512 * 65536 + 15, 12 * 2 ^ 32, 6144 * 65536 + 1, 2 * 2 ^ 32, 12288 * 65536 + 1, 2 * 2 ^ 32, 0]
/-- The element (20, 5, 7, 1, 1) of the five-dimensional read, its length, and token 12 out of bounds. -/
theorem test_five_dimensions : projections.coords 15092 = [20, 5, 7, 1, 1] ∧ projections.farAt (projections.coords 15092) = (0x4000005768, false)
    ∧ projections.nearLen = 32768 ∧ projections.cls [0, 0, 12, 0, 0] = .out := by decide +kernel
/-- The block of "Worked example: one MXFP4 block": scale code, codes, one saturation. -/
theorem test_mxfp4_block :
    (mxBlock 7 (List.replicate 32 .rne) ([decimal 29296875 1000000000, decimal 203125 10000000, decimal (-2734375) 1000000000, decimal 9375 10000000,
      decimal 9765625 1000000000, decimal 48828125 10000000000, decimal (-140625) 10000000] ++ List.replicate 25 (fval 0))).1 = 0x77
    ∧ (((mxBlock 7 (List.replicate 32 .rne) ([decimal 29296875 1000000000, decimal 203125 10000000, decimal (-2734375) 1000000000, decimal 9375 10000000,
      decimal 9765625 1000000000, decimal 48828125 10000000000, decimal (-140625) 10000000] ++ List.replicate 25 (fval 0))).2.take 8).map fun c => (c.code, c.sat))
      = [(7, true), (7, false), (9, false), (0, false), (4, false), (2, false), (14, false), (0, false)] := by decide +kernel
/-- The four contributions of the example with e = −10. -/
theorem test_contributions : (contribOf (f32 (decimal 437 10000)) (-10) 20000).1 = 45 ∧ (contribOf (f32 (decimal 437 10000)) (-10) 10000).1 = 44
    ∧ (contribOf (f32 (decimal (-21) 10000)) (-10) 61000).1 = -3 ∧ (contribOf (f32 (decimal 2 10)) (-10) 0).1 = 127 ∧ (contribOf (f32 (decimal 2 10)) (-10) 0).2.sat = true := by
  decide +kernel
/-- The units the two groups of "one drained row" keep. -/
theorem test_sp24_groups : keepTwo [[decimal 5 10], [fval 0], [fval 0], [fval 0]] = (0, 1, false)
    ∧ keepTwo [[decimal 3125 10000], [decimal (-175) 100], [fval 0], [decimal 175 100]] = (1, 3, true) := by decide +kernel
/-- The E4M3 values of that row. -/
theorem test_e4m3_codes : (e4m3.conv .rne false (decimal 5 10)).code = 0x30 ∧ (e4m3.conv .rne false (decimal (-175) 100)).code = 0xBE
    ∧ (e4m3.conv .rne false (decimal 175 100)).code = 0x3E ∧ (e4m3.conv .rne false (decimal 3 10)) = (e4m3.conv .rne false (decimal 3125 10000)) := by decide +kernel
/-- The unique in-range indices of "eight lookups". -/
theorem test_gather_unique : (⟨3, false, none, 8, 0, 4096, 256, 0, 0, 0, 0, 0⟩ : JobRec).unique [907, 12, 907, 44, 12, 5000, 3, 907] = [3, 12, 44, 907] := by decide +kernel

/-! ## States for the witnesses -/

/-- The module READY with every domain on. -/
def up : State :=
  (List.range 12).foldl (fun s d => s.put PWR_DOMSTAT_ON 0xFFFFF d) ((State.reset.put RST_BOOTSTAT_READY 1).put RST_BOOTSTAT_STAGE 10)
/-- Some fields written: field, value, unit, index. -/
def sets (s : State) (l : List (Fld × Nat × Nat × Nat)) : State := l.foldl (fun s x => s.put x.1 x.2.1 x.2.2.1 x.2.2.2) s
/-- Bay 0 of `up` runs, with cue `q` at PC 5. -/
def running (q : Cue) : State :=
  let w := cueEncode q
  { sets up [(CUE_SEQSTAT_STATE, 3, 0, 0), (CUE_SEQSTAT_PC, 5, 0, 0)] with
    bays := [(0, { cueMem := [(10, BitVec.ofNat 64 w.2), (11, BitVec.ofNat 64 w.1)] })] }
/-- Bay 0 changed. -/
def bay0 (s : State) (f : Bay → Bay) : State := s.modBay 0 f
/-- A predictor header of rank 64 without audit or column move. -/
def prompterHeader : List W64 := (List.range 16).map fun i => if i = 0 then 0x080000001000003F else 0
/-- The header in the green room of die 0, and a cue at bay 0. -/
def prompting (q : Cue) : State := { running q with dies := [(0, { green := [(0, 0x3F), (3, 0x10), (7, 0x08)] })] }
/-- A running command of the running order. -/
def theRun (id : Nat) : Cmd :=
  { id := id, src := .table 0, op := 1, sheet := 0, mask := 3, be := false, phase := .running, slack := 0, ovr := 1, curt := false, budget := 100, act := 0, slot := 0, start := 0 }
/-- A running order image without slots. -/
def theImage : ROImage := { tf := 20, live := false, reh := false, catbase := 0, catn := 0, stashbase := 1024, stashsz := 1024, nact := 1, slots := [] }
/-- One window over the whole memory. -/
def openWindow : Tab Window := [(0, { base := 0, limit := 2 ^ 42 - 1, rd := true, w := true })]
/-- Some registers holding 5. -/
def marks (s : State) (l : List Reg) : State := l.foldl (fun s r => s.setRaw r 0x500000005) s
/-- Little-endian 64-bit words as the cells of a memory. -/
def cells (o : Nat) (ws : List Nat) : Memory :=
  ws.zipIdx.flatMap fun x => (List.range 8).filterMap fun i =>
    let b := BitVec.ofNat 8 (x.1 >>> (8 * i))
    if b = 0 then none else some (o + 8 * x.2 + i, b)
/-- A descriptor that reads one FP32 element at far address `far` to wings offset 64. -/
def oneWord (far : Nat) : List Nat :=
  [3 * 2 ^ 61 + 2 ^ 59 + 4 * 2 ^ 56 + 3 * 2 ^ 53 + 2 * 2 ^ 50 + 2 ^ 47, far, 64, 0, 0, 4 * 2 ^ 16, 2 ^ 32, 0, 2 ^ 32, 0, 2 ^ 32, 0, 2 ^ 32, 0, 2 ^ 32, 0]
/-- A MOVE of that descriptor that engine 71 serves for bay 71. -/
def oneMove (far : Nat) : MoveOp := { id := 9, lbay := 63, phys := 71, cid := some 3, pc := 5, descNo := 2, desc := some (descOf (oneWord far)), done := some 63 }
/-- A running module with 144 GB of memory and a window over all of it. -/
def wide : State := { up with windows := openWindow, boot := { mr144 := true } }
/-- Sheet 7: one part for bay 5 at cue index 100 with the single cue HALT, image at 0x1000. -/
def sheetPart : List Nat := [5 * 2 ^ 50 + 100 * 2 ^ 14, 5 * 2 ^ 32 + 3230048658]
def sheetHead (crc : Nat) : List Nat := [0x4355453101000007, 0, 2 ^ 32, 6 * 2 ^ 32 + crc, 0, 0, 0, 0]
def sheetCrc : Nat := 2457069634
/-- Device memory with the catalogue at 0x800 and the image. -/
def sheetMem : Memory :=
  cells 0x870 [2 ^ 63 + 0x1000, sheetCrc] ++ cells 0x1000 (sheetHead sheetCrc ++ sheetPart ++ [(cueEncode .halt).2, (cueEncode .halt).1])
/-- A starting RUN command of sheet 7 on bay 5. -/
def startRun : Cmd := { theRun 3 with sheet := 7, mask := 32, phase := .starting, staged := some true }
/-- Bay 5 idle, the catalogue in force and sheet 7 in memory. -/
def stageReady : State :=
  { wide with mem := sheetMem, ro := { image := some { theImage with catbase := 0x800, catn := 8 }, cmds := [startRun], nextId := 4 } }.put CUE_SEQSTAT_STATE 1 5
/-- The plan of sheet 7. -/
def sheetPlan : SheetPlan :=
  { image := 0x1000, level := 0x0100, token := 0, exitGap := 0, hdrcrc := sheetCrc, rows := [partRow (sheetPart.getD 0 0) (sheetPart.getD 1 0)] }
/-- Memory with a DIRECT job record at 0x1000: one index (1, at 0x2000) into two 64 B rows at 0x4000, to 0x3000. -/
def gatherMem : Memory := cells 0x1000 [3 * 2 ^ 60 + 1, 0x4000, 2 * 2 ^ 32, 0x2000, 0x3000, 0, 0, 0] ++ cells 0x2000 [1] ++ [(0x3001, 9), (0x4000, 1), (0x4040, 2), (0x407F, 3), (0x4080, 4)]
/-- The record of that job. -/
def gatherRec : JobRec := { op := 3, iof := false, notify := none, count := 1, src := 0x4000, nrows := 2, rl := 64, idx := 0x2000, dst := 0x3000, map := 0, unq := 0, ucount := 0 }
/-- Memory permitted by the windows, with a running order and one command. -/
def ordered (c : Cmd) : State := { wide with ro := { image := some { theImage with catbase := 0x800, catn := 8 }, cmds := [c], nextId := c.id + 1 } }
/-- A running order header with one act, no slots, and its CRC. -/
def orderHead (crc : Nat) : List Nat := [0x524F523100000000 + 250, 0x800, 0, 8, 0, 0, 0, crc]
def orderMem : Memory := cells 0x10000 (orderHead 14297457)
/-- Device 4,088 of a full circuit: port 15 is the cable to position 7, port 14 goes to a plane, both UP;
the exchange table at 0x20000 has one shard of one bundle, owned by the device. -/
def cabled : State :=
  { sets wide [(FAB_DEVNO_DEVICE, 4088, 0, 0), (FAB_TOPO_NTRPM1, 15, 0, 0), (FAB_TOPO_NCIRCM1, 31, 0, 0), (FAB_TOPO_JOINED, 1, 0, 0),
      (FAB_XTCNT_COUNT, 1, 0, 0), (FAB_XTBASE_ADDR, 0x20000, 0, 0), (FAB_PORTCTL_ROLE, 1, 15, 0), (FAB_PORTCTL_EN, 1, 15, 0),
      (FAB_PORTCTL_PEERPOS, 7, 15, 0), (FAB_PORTSTAT_STATE, 2, 15, 0), (FAB_PORTSTAT_LANES, 15, 15, 0), (FAB_PORTSTAT_PEERDEV, 4095, 15, 0),
      (FAB_PORTCTL_ROLE, 2, 14, 0), (FAB_PORTCTL_EN, 1, 14, 0), (FAB_PORTSTAT_STATE, 2, 14, 0), (FAB_PORTSTAT_LANES, 15, 14, 0)] with
    mem := cells 0x20000 [256 * 2 ^ 32 + 2 ^ 28 + 4088 * 2 ^ 12, 0x100000, 0x30000, 0x40000, 0x50000, 0, 0x60000, 0x70000] }
/-- A frame to that device with its length and check value. -/
def framed (f : Frame) : Frame :=
  let f := { f with dst := 4088, len := f.payload.length }
  { f with crc := BitVec.ofNat 32 (frameCheck f) }
/-- `cabled` with a milepost in hand. -/
def milepost (m : Milepost) : State := { cabled with fab := { cabled.fab with mp := m }, ro := { cmds := [{ theRun 3 with op := 3, mask := 0 }], nextId := 4 } }
/-- A contribution from position 7 that arrives in time. -/
def contribF : Frame := framed { port := 15, typ := 1, src := 4095, milepost := 7, rev := 7, payload := (List.range 256).map (BitVec.ofNat 8) }
def contribS : State := milepost { cid := some 3, k := 7, tk := 1000 }
/-- The header of a snapshot stream of one FP32 element in one chunk. -/
def snapHead : Bytes := let h := wordsBytes [0x53504E31 * 2 ^ 32, 0, 2 ^ 32 + 1, 0, 0, 0, 0]; h ++ leBytes 8 (crc64 h)
/-- A frame with the data and the check value of that stream, whose header has arrived. -/
def snapF : Frame := framed { port := 15, typ := 4, src := 4095, milepost := 7, payload := [0x40, 0, 8, 0, 0, 0, 0, 0, 1, 2, 3, 4, 5, 6, 7, 8, 9, 10, 11, 12] }
def snapS : State :=
  { milepost { cid := some 3, k := 7, snapHave := [(0x80000, 64)], snapRx := (snapHead.zipIdx.filterMap fun x => if x.1 = 0 then none else some (0x80000 + x.2, x.1)) } with mem := cabled.mem ++ [(0x80045, 7), (0x8004C, 8)] }
/-- A trust request of operation `op` with `n` signatures of zeros. -/
def trustReq (op n ctr : Nat) (p : Bytes) : Bytes :=
  wordsBytes [0x54525131 * 2 ^ 32 + op * 2 ^ 24 + n * 2 ^ 16, p.length, ctr] ++ devid ++ List.replicate 24 0 ++ p ++ List.replicate (4672 * n) 0
/-- A request in the DOE mailbox of a running module with a counter. -/
def asked (m : Msg) : State := { up with trust := { up.trust with queue := [m] } }.put SEC_CMDCTR_CTR 9

/-! ## Witnesses of the obligations' hypotheses -/

theorem witness_UnitClearBits :
    (let p := 71; let s : State := marks up [⟨.CUE_ARRECC, 71, 0⟩, ⟨.CUE_ARRECC, 70, 0⟩]; (⟨.CUE_ARRCTL, p, 0⟩ : Reg).unit < 72 ∧ HostWrites s ⟨.CUE_ARRCTL, p, 0⟩) ∧
    (let p := 71; let s : State := marks up [⟨.CUE_STOPCNT, 71, 0⟩, ⟨.CUE_STOPCNT, 70, 0⟩]; (⟨.CUE_SEQCTL, p, 0⟩ : Reg).unit < 72 ∧ HostWrites s ⟨.CUE_SEQCTL, p, 0⟩) ∧
    (let d := 7; let s : State := marks up [⟨.GRM_ECC, 7, 0⟩, ⟨.GRM_ECC, 6, 0⟩]; (⟨.GRM_CTL, d, 0⟩ : Reg).unit < 8 ∧ HostWrites s ⟨.GRM_CTL, d, 0⟩) ∧
    (let e := 103; let s : State := marks up [⟨.STR_FAULT, 103, 0⟩, ⟨.STR_BOUND, 103, 0⟩, ⟨.STR_PADG, 103, 0⟩, ⟨.STR_RADROP, 103, 0⟩, ⟨.STR_STALE, 103, 0⟩, ⟨.STR_STALE, 102, 0⟩]; (⟨.STR_CTL, e, 0⟩ : Reg).unit < 104 ∧ HostWrites s ⟨.STR_CTL, e, 0⟩) ∧
    (let c := 31; let s : State := marks up [⟨.MEM_ECC, 31, 0⟩, ⟨.MEM_ERRADDR, 31, 0⟩, ⟨.MEM_ERRADDR, 30, 0⟩]; (⟨.MEM_CHCTL, c, 0⟩ : Reg).unit < 32 ∧ HostWrites s ⟨.MEM_CHCTL, c, 0⟩) ∧
    (let q := 3; let s : State := marks up [⟨.GTH_OOB, 3, 0⟩, ⟨.GTH_OOB, 2, 0⟩]; (⟨.GTH_CTL, q, 0⟩ : Reg).unit < 4 ∧ HostWrites s ⟨.GTH_CTL, q, 0⟩) ∧
    (let p := 71; let s : State := marks up [⟨.SPR_OVERFULL, 71, 0⟩, ⟨.SPR_METADUP, 71, 0⟩, ⟨.SPR_IDXOOB, 71, 0⟩, ⟨.SPR_IDXOOB, 70, 0⟩]; (⟨.SPR_CTL, p, 0⟩ : Reg).unit < 72 ∧ HostWrites s ⟨.SPR_CTL, p, 0⟩) ∧
    (let p := 71; let s : State := marks { up with bays := [(70, { rings := [(1, { stall := 4 })] }), (71, { rings := [(0, { stall := 4 }), (31, { opened := true, stall := 5 })] })] } [⟨.WNG_ECC, 71, 0⟩, ⟨.WNG_ECC, 70, 0⟩]; p < 72 ∧ HostWrites s ⟨.WNG_CTL, p, 0⟩ ∧ Tab.wf {} (s.bay p).rings = true) :=
  ⟨by unfold HostWrites; decide +kernel,
   by unfold HostWrites; decide +kernel,
   by unfold HostWrites; decide +kernel,
   by unfold HostWrites; decide +kernel,
   by unfold HostWrites; decide +kernel,
   by unfold HostWrites; decide +kernel,
   by unfold HostWrites; decide +kernel,
   by unfold HostWrites; decide +kernel⟩

theorem witness_ModuleClearBits :
    (let d := 7; let s : State := marks up [⟨.PRM_AUD, 7, 7⟩, ⟨.PRM_DROP, 7, 0⟩, ⟨.PRM_AUD, 6, 7⟩]; (⟨.PRM_CTL, d, 0⟩ : Reg).unit < 8 ∧ HostWrites s ⟨.PRM_CTL, d, 0⟩) ∧
    (let q := 3; let s : State := marks up [⟨.TLH_SKIP, 3, 0⟩, ⟨.TLH_SNAPHOLD, 3, 0⟩, ⟨.TLH_SNAPHOLD, 2, 0⟩]; (⟨.TLH_UPDCTL, q, 0⟩ : Reg).unit < 4 ∧ HostWrites s ⟨.TLH_UPDCTL, q, 0⟩) ∧
    (let q := 3; let s : State := marks up [⟨.FAB_LATE, 3, 0⟩, ⟨.FAB_STALE, 3, 0⟩, ⟨.FAB_BACKUP, 3, 0⟩, ⟨.FAB_SAT, 3, 0⟩, ⟨.FAB_RXDROP, 3, 0⟩, ⟨.FAB_E2ELOST, 3, 0⟩, ⟨.FAB_RESYNC, 3, 0⟩, ⟨.FAB_RESYNC, 2, 0⟩]; (⟨.FAB_CNTCTL, q, 0⟩ : Reg).unit < 4 ∧ HostWrites s ⟨.FAB_CNTCTL, q, 0⟩) ∧
    (let s : State := marks up [⟨.RUN_MISS, 0, 0⟩, ⟨.RUN_OVERBUD, 0, 0⟩, ⟨.RUN_PREEMPT, 0, 0⟩, ⟨.RUN_MAKEUP, 0, 0⟩, ⟨.RUN_OVERRUN, 0, 0⟩]; (⟨.RUN_CNTCTL, 0, 0⟩ : Reg).unit < 1 ∧ HostWrites s ⟨.RUN_CNTCTL, 0, 0⟩) ∧
    (let s : State := marks up [⟨.HST_ERR, 0, 0⟩]; (⟨.HST_CTL, 0, 0⟩ : Reg).unit < 1 ∧ HostWrites s ⟨.HST_CTL, 0, 0⟩) ∧
    (let s : State := marks up [⟨.OBS_SAMPDROP, 0, 0⟩, ⟨.OBS_RINGSTAT, 0, 0⟩, ⟨.OBS_RINGSTAT, 3, 0⟩]; HostWrites s ⟨.OBS_CCTL, 0, 0⟩) ∧
    (let blk := 83; let v : W32 := 0x80000000; let s : State := marks up [⟨.OBS_CNT, 83, 15⟩, ⟨.OBS_CNT, 82, 15⟩, ⟨.OBS_BCTL, 83, 0⟩]; blk < 84 ∧ v.getLsbD 31 = true ∧ HostWrites s ⟨.OBS_BCTL, blk, 0⟩) ∧
    (let p := 71; let v : W32 := 3; let s : State := marks up [⟨.CUE_NUMSAT, 71, 0⟩, ⟨.CUE_NUMNAN, 71, 0⟩, ⟨.CUE_NUMNAN, 70, 0⟩]; p < 72 ∧ v.getLsbD 1 = true ∧ HostWrites s ⟨.CUE_RNDCTL, p, 0⟩) ∧
    (let s : State := up.put HST_EVSTAT_EVENTS 0xC05; HostWrites s ⟨.HST_EVSTAT, 0, 0⟩) :=
  ⟨by unfold HostWrites; decide +kernel,
   by unfold HostWrites; decide +kernel,
   by unfold HostWrites; decide +kernel,
   by unfold HostWrites; decide +kernel,
   by unfold HostWrites; decide +kernel,
   by unfold HostWrites; decide +kernel,
   by unfold HostWrites; decide +kernel,
   by unfold HostWrites; decide +kernel,
   by unfold HostWrites; decide +kernel⟩

theorem witness_SetWritesItsGenerator :
    (let kind := 1; let ag := 7; let dim := 4; let ext := 65535; let base := 0xFFFFFFFF; let stride := 0xFFFFFFFF; let lb := 0; let s : State := running (.set 1 7 4 65535 0xFFFFFFFF 0xFFFFFFFF); Issues s lb (.set kind ag dim ext base stride) ∧ dim < 5) := ⟨⟨by decide +kernel, by decide +kernel, by decide +kernel, by decide +kernel, by decide +kernel⟩, by decide +kernel⟩

theorem witness_WaitExitPostRetire :
    (let s : State := sets (running (.wait 63 255)) [(CUE_SEM_VALUE, 255, 0, 63)]; let lb := 0; let sem := 63; let n := 255; Issues s lb (.wait sem n) ∧ n ≤ s.get CUE_SEM_VALUE (s.phys lb) sem) ∧
    (let s : State := running (.exit 65535); let lb := 0; let mask := 65535; Issues s lb (.exit mask) ∧ (s.bay (s.phys lb)).stop ≠ .live) ∧
    (let s : State := bay0 (running (.post false 63 63 255)) fun b => { b with moves := [4] }; let lb := 0; let nofence := false; let bay := 63; let sem := 63; let n := 255; Issues s lb (.post nofence bay sem n)) :=
  ⟨⟨⟨by decide +kernel, by decide +kernel, by decide +kernel, by decide +kernel, by decide +kernel⟩, by decide +kernel⟩,
   ⟨⟨by decide +kernel, by decide +kernel, by decide +kernel, by decide +kernel, by decide +kernel⟩, by decide +kernel⟩,
   ⟨by decide +kernel, by decide +kernel, by decide +kernel, by decide +kernel, by decide +kernel⟩⟩

theorem witness_WaitWaitsAndLiveStopsTakeEffect :
    (let s : State := sets (running (.wait 63 255)) [(CUE_SEM_VALUE, 254, 0, 63)]; let lb := 0; let sem := 63; let n := 255; Issues s lb (.wait sem n) ∧ s.get CUE_SEM_VALUE (s.phys lb) sem < n ∧ (s.bay (s.phys lb)).stop ≠ .live) ∧
    (let s : State := bay0 (running (.wait 0 1)) fun b => { b with stop := .live }; let lb := 0; let sem := 0; let n := 1; Issues s lb (.wait sem n) ∧ s.get CUE_SEM_VALUE (s.phys lb) sem < n ∧ (s.bay (s.phys lb)).stop = .live) ∧
    (let s : State := bay0 (running (.exit 1)) fun b => { b with stop := .live }; let lb := 0; let mask := 1; Issues s lb (.exit mask) ∧ (s.bay (s.phys lb)).stop = .live) :=
  ⟨⟨⟨by decide +kernel, by decide +kernel, by decide +kernel, by decide +kernel, by decide +kernel⟩, by decide +kernel⟩,
   ⟨⟨by decide +kernel, by decide +kernel, by decide +kernel, by decide +kernel, by decide +kernel⟩, by decide +kernel⟩,
   ⟨⟨by decide +kernel, by decide +kernel, by decide +kernel, by decide +kernel, by decide +kernel⟩, by decide +kernel⟩⟩

theorem witness_LoopsCountTheirBodies :
    (let s : State := sets (running (.loop 65535)) [(CUE_SEQSTAT_LDEPTH, 3, 0, 0)]; let lb := 0; let n := 65535; Issues s lb (.loop n) ∧ s.get CUE_SEQSTAT_LDEPTH (s.phys lb) < 4) ∧
    (let s : State := bay0 (sets (running .endl) [(CUE_SEQSTAT_LDEPTH, 4, 0, 0), (CUE_LOOP_REMAIN, 2, 0, 3)]) fun b => { b with loopBody := [(3, 2)] }; let lb := 0; let d := 3; Issues s lb .endl ∧ s.get CUE_SEQSTAT_LDEPTH (s.phys lb) = d + 1 ∧ 1 < s.get CUE_LOOP_REMAIN (s.phys lb) d) ∧
    (let s : State := sets (running .endl) [(CUE_SEQSTAT_LDEPTH, 1, 0, 0), (CUE_LOOP_REMAIN, 1, 0, 0)]; let lb := 0; let d := 0; Issues s lb .endl ∧ s.get CUE_SEQSTAT_LDEPTH (s.phys lb) = d + 1 ∧ s.get CUE_LOOP_REMAIN (s.phys lb) d ≤ 1) :=
  ⟨⟨⟨by decide +kernel, by decide +kernel, by decide +kernel, by decide +kernel, by decide +kernel⟩, by decide +kernel⟩,
   ⟨⟨by decide +kernel, by decide +kernel, by decide +kernel, by decide +kernel, by decide +kernel⟩, by decide +kernel⟩,
   ⟨⟨by decide +kernel, by decide +kernel, by decide +kernel, by decide +kernel, by decide +kernel⟩, by decide +kernel⟩⟩

theorem witness_FifthLoopFaults :
    (let s : State := sets (running (.loop 3)) [(CUE_SEQSTAT_LDEPTH, 4, 0, 0)]; let lb := 0; let n := 3; Issues s lb (.loop n) ∧ 4 ≤ s.get CUE_SEQSTAT_LDEPTH (s.phys lb)) := ⟨⟨by decide +kernel, by decide +kernel, by decide +kernel, by decide +kernel, by decide +kernel⟩, by decide +kernel⟩

theorem witness_LoadwJoinsItsQueue :
    (let s : State := bay0 (running (.loadw 2 1 false false false false 127 127 3 4)) fun b => { b with arrs := [(2, { lq := [{ fmt := 1, sp := false, kt := 4, nt := 4, src := .wings 0, pc := 0, ord := 0, started := true }] })], ord := 1 }; let lb := 0; let arr := 2; let fmt := 1; let sp := false; let dense := false; let ovf := false; let col := false; let ktm1 := 127; let ntm1 := 127; let src := 3; let side := 4; let i := { s := s }; let o := .wings 768; let j := { s := s }; let so := .wings 1024; let p := s.phys lb; let ord := (s.bay p).ord; Issues s lb (.loadw arr fmt sp dense ovf col ktm1 ntm1 src side) ∧ ((s.bay p).arr arr).lq.length < 2 ∧ Issue.wop { s := s } p src (loadwExtent fmt sp dense col (ktm1 + 1) (ntm1 + 1)) (if col then loadwGroups fmt sp dense (ktm1 + 1) else 0) false ord = .ok (i, o) ∧ i.wop p side (sideExtent fmt sp dense (ktm1 + 1) (ntm1 + 1)) 0 false ord = .ok (j, so)) := ⟨⟨by decide +kernel, by decide +kernel, by decide +kernel, by decide +kernel, by decide +kernel⟩, by decide +kernel⟩

theorem witness_FeedJoinsItsQueue :
    (let s : State := bay0 (sets (running (.feed 1 1 1 false false true true false 1023 1023 0x60002)) [(CUE_AGBASE_BASE, 512, 0, 2), (CUE_AGDIM_EXTM1, 1, 0, 10)]) fun b => { b with arrs := [(1, { recA := some ⟨1, false⟩ })], ord := 7 }; let lb := 0; let arr := 1; let fmt := 1; let wfmt := 1; let sp := false; let swap := false; let acc := true; let share := true; let col := false; let mm1 := 1023; let a0 := 1023; let src := 0x60002; let i := { s := s }; let row := 1023; let j := { s := s, steps := [2] }; let o := .wings 512; let p := s.phys lb; let ord := (s.bay p).ord; Issues s lb (.feed arr fmt wfmt sp swap acc share col mm1 a0 src) ∧ ((s.bay p).arr arr).fq.length < 2 ∧ (share = true → ((s.bay p).arr 2).lq.length < 2) ∧ ((s.bay p).arr arr).record swap = some { fmt := wfmt, sp := sp } ∧ Issue.aop { s := s } p a0 = .ok (i, row) ∧ i.wop p src (feedExtent fmt wfmt sp col (mm1 + 1)) (if col then feedGroups fmt wfmt sp (mm1 + 1) else 0) false ord = .ok (j, o)) := ⟨⟨by decide +kernel, by decide +kernel, by decide +kernel, by decide +kernel, by decide +kernel⟩, by decide +kernel⟩

theorem witness_DrainAndWalkJoinTheirQueues :
    (let s : State := running (.drain 2 0 0 false 0 true true false false false true 3 0 1023 1023 127 0 1 2 3); let lb := 0; let arr := 2; let fmt := 0; let rnd := 0; let sat := false; let act := 0; let bias := true; let ztap := true; let deriv := false; let sp24 := false; let add := false; let clear := true; let dsc := 3; let lay := 0; let a0 := 1023; let rdm1 := 1023; let ndm1 := 127; let dfn := 0; let dst := 1; let bsrc := 2; let zadr := 3; let i := { s := s }; let row := 1023; let j := { s := s }; let d := .wings 256; let k := { s := s }; let bo := .wings 512; let l := { s := s }; let zo := .wings 768; let p := s.phys lb; let ord := (s.bay p).ord; Issues s lb (.drain arr fmt rnd sat act bias ztap deriv sp24 add clear dsc lay a0 rdm1 ndm1 dfn dst bsrc zadr) ∧ (s.bay p).dq.length < 2 ∧ Issue.aop { s := s } p a0 = .ok (i, row) ∧ i.wop p dst (drainExtent fmt lay sp24 (rdm1 + 1) (ndm1 + 1)) (if lay = 2 then drainGroups fmt (rdm1 + 1) else 0) true ord = .ok (j, d) ∧ j.wop p bsrc (if bias then 4 * (ndm1 + 1) else 0) 0 false ord = .ok (k, bo) ∧ k.wop p zadr (if ztap || deriv then 256 * (rdm1 + 1) else 0) 0 false ord = .ok (l, zo)) ∧
    (let s : State := bay0 (running (.walk 5 15 4095)) fun b => { b with arrs := [(1, { fq := [.walk 1 1 0 0, .walk 1 1 0 1] })], ord := 2 }; let lb := 0; let arrm := 5; let duty := 15; let durm1 := 4095; let p := s.phys lb; Issues s lb (.walk arrm duty durm1) ∧ (∀ a, a < 3 → arrm.testBit a = true → ((s.bay p).arr a).fq.length < 2)) :=
  ⟨⟨⟨by decide +kernel, by decide +kernel, by decide +kernel, by decide +kernel, by decide +kernel⟩, by decide +kernel⟩,
   ⟨⟨by decide +kernel, by decide +kernel, by decide +kernel, by decide +kernel, by decide +kernel⟩, by decide +kernel⟩⟩

theorem witness_MoveAndHaltWait :
    (let s : State := sets (running (.move 7 true true 3 true true 4 true 63 524287)) [(CUE_AGBASE_BASE, 64, 0, 3), (CUE_AGBASE_BASE, 128, 0, 4)]; let lb := 0; let eng := 7; let sen := true; let sag := 3; let den := true; let sstep := true; let dstep := true; let dag := 4; let done := true; let dsem := 63; let desc := 524287; Issues s lb (.move eng sen sstep sag den dstep dag done dsem desc)) ∧
    (let s : State := running .halt; let lb := 0; Issues s lb .halt) :=
  ⟨⟨by decide +kernel, by decide +kernel, by decide +kernel, by decide +kernel, by decide +kernel⟩,
   ⟨by decide +kernel, by decide +kernel, by decide +kernel, by decide +kernel, by decide +kernel⟩⟩

theorem witness_RingOpenAndClose :
    (let s : State := bay0 (running (.ring 0 31 true 63 31 15 3 7)) fun b => { b with rings := [(31, { stall := 5 })] }; let lb := 0; let rv := 31; let role := true; let peer := 63; let prv := 31; let n := 15; let z := 3; let base := 7; let p := s.phys lb; Issues s lb (.ring 0 rv role peer prv n z base) ∧ ((s.bay p).ring rv).opened = false) ∧
    (let s : State := bay0 (running (.ring 1 31 false 0 0 0 0 0)) fun b => { b with rings := [(31, { opened := true, nsl := 2, slsz := 256, peer := 9, stall := 5 })] }; let lb := 0; let rv := 31; let role := false; let peer := 0; let prv := 0; let n := 0; let z := 0; let base := 0; let p := s.phys lb; Issues s lb (.ring 1 rv role peer prv n z base) ∧ ((s.bay p).ring rv).opened = true) :=
  ⟨⟨⟨by decide +kernel, by decide +kernel, by decide +kernel, by decide +kernel, by decide +kernel⟩, by decide +kernel⟩,
   ⟨⟨by decide +kernel, by decide +kernel, by decide +kernel, by decide +kernel, by decide +kernel⟩, by decide +kernel⟩⟩

theorem witness_RingSlotsPassBetweenTheEnds :
    (let s : State := bay0 (running (.ring 2 31 false 0 0 0 0 0)) fun b => { b with rings := [(31, { opened := true, nsl := 2, slsz := 256, peer := 9, count := 1 })] }; let lb := 0; let rv := 31; let role := false; let peer := 0; let prv := 0; let n := 0; let z := 0; let base := 0; let p := s.phys lb; Issues s lb (.ring 2 rv role peer prv n z base) ∧ ((s.bay p).ring rv).opened = true ∧ ((s.bay p).ring rv).consumer = false ∧ 1 ≤ ((s.bay p).ring rv).count) ∧
    (let s : State := bay0 (running (.ring 4 31 false 0 0 0 0 0)) fun b => { b with rings := [(31, { opened := true, consumer := true, nsl := 2, slsz := 256, peer := 9, count := 1 })] }; let lb := 0; let rv := 31; let role := false; let peer := 0; let prv := 0; let n := 0; let z := 0; let base := 0; let p := s.phys lb; Issues s lb (.ring 4 rv role peer prv n z base) ∧ ((s.bay p).ring rv).opened = true ∧ ((s.bay p).ring rv).consumer = true ∧ 1 ≤ ((s.bay p).ring rv).count) ∧
    (let s : State := bay0 (running (.ring 3 31 false 0 0 0 0 0)) fun b => { b with rings := [(31, { opened := true, nsl := 2, slsz := 256, peer := 9, prv := 4, count := 1, index := 1, iindex := 1 })] }; let lb := 0; let c : Instr := .ringFill lb; let rop := 3; let rv := 31; let role := false; let peer := 0; let prv := 0; let n := 0; let z := 0; let base := 0; let p := s.phys lb; let r := (s.bay p).ring rv; Issues s lb (.ring rop rv role peer prv n z base) ∧ (c = .ringFill lb ∧ rop = 3 ∨ c = .ringFree lb ∧ rop = 5) ∧ r.opened = true ∧ (r.consumer = true ↔ rop = 5) ∧ 1 ≤ r.count ∧ 0 < r.nsl ∧ r.waiting = [] ∧ r.fills = []) :=
  ⟨⟨⟨by decide +kernel, by decide +kernel, by decide +kernel, by decide +kernel, by decide +kernel⟩, by decide +kernel⟩,
   ⟨⟨by decide +kernel, by decide +kernel, by decide +kernel, by decide +kernel, by decide +kernel⟩, by decide +kernel⟩,
   ⟨⟨by decide +kernel, by decide +kernel, by decide +kernel, by decide +kernel, by decide +kernel⟩, by decide +kernel⟩⟩

theorem witness_PromptFirstAndNextFormSums :
    (let s : State := prompting (.prompt 0 true 1 1 5 3 0); let lb := 0; let sel := true; let ntile := 1; let pred := 1; let kval := 5; let src := 3; let dst := 0; let i := { s := s }; let o := .wings 768; let p := s.phys lb; let d := lb / 8; let c : PCtx := { header := headerAt s d pred }; Issues s lb (.prompt 0 sel ntile pred kval src dst) ∧ PrompterFree s lb ∧ c.bad = false ∧ c.misaligned = false ∧ ntile % c.q = 0 ∧ Issue.wop { s := s } p src (promptSrcLen ntile c.q) 0 false (s.bay p).ord = .ok (i, o)) ∧
    (let s : State := ({ prompting (.prompt 1 true 1 1 5 3 0) with dies := [] }).setCtx 0 { header := prompterHeader, valid := true, sums := [(0, 7)] }; let lb := 0; let sel := true; let ntile := 1; let pred := 1; let kval := 5; let src := 3; let dst := 0; let i := { s := s }; let o := .wings 768; let p := s.phys lb; let c := s.ctx lb; Issues s lb (.prompt 1 sel ntile pred kval src dst) ∧ PrompterFree s lb ∧ c.valid = true ∧ ntile % c.q = 0 ∧ Issue.wop { s := s } p src (promptSrcLen ntile c.q) 0 false (s.bay p).ord = .ok (i, o)) :=
  ⟨⟨⟨by decide +kernel, by decide +kernel, by decide +kernel, by decide +kernel, by decide +kernel⟩, ⟨by decide +kernel, by decide +kernel, by decide +kernel, by decide +kernel⟩, by decide +kernel⟩,
   ⟨⟨by decide +kernel, by decide +kernel, by decide +kernel, by decide +kernel, by decide +kernel⟩, ⟨by decide +kernel, by decide +kernel, by decide +kernel, by decide +kernel⟩, by decide +kernel⟩⟩

theorem witness_PromptSelectStarts :
    (let s : State := (prompting (.prompt 2 true 1 1 5 0 4)).setCtx 0 { header := prompterHeader, valid := true, sums := [(0, 7)] }; let lb := 0; let sel := true; let ntile := 1; let pred := 1; let kval := 5; let src := 0; let dst := 4; let i := { s := s }; let o := 1024; let p := s.phys lb; let c := s.ctx lb; Issues s lb (.prompt 2 sel ntile pred kval src dst) ∧ PrompterFree s lb ∧ c.valid = true ∧ ntile % c.q = 0 ∧ (c.listIn = true → (s.bay p).xreqs = [] ∧ (s.bay p).wingsErr = []) ∧ Issue.wop { s := s } p dst (promptDstLen ntile c.q) 0 (!c.listIn) (s.bay p).ord = .ok (i, .wings o)) := ⟨⟨by decide +kernel, by decide +kernel, by decide +kernel, by decide +kernel, by decide +kernel⟩, ⟨by decide +kernel, by decide +kernel, by decide +kernel, by decide +kernel⟩, by decide +kernel⟩

theorem witness_MatchJoinsTheMatcherQueue :
    (let s : State := bay0 (running (.matcher 1 true 255 2047 0 1 2 3)) fun b => { b with ord := 3 }; let lb := 0; let c : Instr := .matchBitmap lb; let mode := 1; let iof := true; let lam1 := 255; let lbm1 := 2047; let opn := 0; let sa := 1; let sb := 2; let dd := 3; let i := { s := s }; let oa := .wings 256; let j := { s := s }; let ob := .wings 512; let k := { s := s }; let od := .wings 768; let p := s.phys lb; let ord := (s.bay p).ord; Issues s lb (.matcher mode iof lam1 lbm1 opn sa sb dd) ∧ (c = .matchAssoc lb ∧ mode = 0 ∨ c = .matchBitmap lb ∧ mode = 1) ∧ (s.bay p).matchQ.length < 2 ∧ Issue.wop { s := s } p sa (matchLenA lam1) 0 false ord = .ok (i, oa) ∧ i.wop p sb (matchLenB mode lam1 lbm1) 0 false ord = .ok (j, ob) ∧ j.wop p dd (matchLenD mode lam1 lbm1) 0 true ord = .ok (k, od)) := ⟨⟨by decide +kernel, by decide +kernel, by decide +kernel, by decide +kernel, by decide +kernel⟩, by decide +kernel⟩

theorem witness_MarkLatchesAndStrobes :
    (let s : State := sets (running (.mark true false true 0 0xFFFFFFFF 0)) [(OBS_EVT_STROBE, 1, 0, 0), (OBS_CNT_COUNT, 77, 0, 7)]; let lb := 0; let latch := true; let strobe := true; let lenm1 := 0; let tag := 0xFFFFFFFF; let src := 0; Issues s lb (.mark latch false strobe lenm1 tag src) ∧ s.flag OBS_USER_EN_EN = false) := ⟨⟨by decide +kernel, by decide +kernel, by decide +kernel, by decide +kernel, by decide +kernel⟩, by decide +kernel⟩

theorem witness_LoadwEndWritesTheTile :
    (let l := ({ fmt := 1, sp := false, kt := 2, nt := 3, src := .wings 256, pc := 4, ord := 2, started := true, asked := true } : LoadOp); let rest := [{ fmt := 1, sp := false, kt := 1, nt := 1, src := .wings 0, pc := 4, ord := 3 }]; let o := 256; let arr := 1; let lb := 63; let s : State := { up with bays := [(70, { arrs := [(1, { lq := [l] ++ rest, wact := [(wKey 1 1, { e0 := 9 })], acc := [(5, 3)] })], wings := [(257, 0x3F), (256, 0x80), (514, 0x41), (515, 0x42)] })] }; let p := s.phys lb; let b := s.bay p; BayRuns s lb ∧ (b.arr arr).lq = l :: rest ∧ l.share = false ∧ l.started = true ∧ l.asked = true ∧ l.sp = false ∧ l.src = .wings o ∧ b.granted (whoLoad arr).2 l.ord = true ∧ (b.arr arr).fq = []) := by unfold BayRuns; decide +kernel

theorem witness_FeedEndAddsItsRows :
    (let f := ({ fmt := 1, wfmt := 1, sp := false, swap := false, acc := true, share := false, col := false, m := 2, a0 := 1023, src := .wings 256, pc := 4, ord := 2, started := true, asked := true } : FeedOp); let o := 256; let arr := 1; let lb := 0; let s : State := { up with bays := [(0, { arrs := [(0, { acc := [(1, 1)] }), (1, { fq := [.feed f], recA := some ⟨1, false⟩, wact := [(wKey 0 1, { e0 := 0x3F80 }), (wKey 1 1, { e0 := 0x4000 })], acc := [(accKey 0 1, 0x3F800000), (accKey 1023 1, 0x40000000), (accKey 7 7, 5)] })], wings := [(257, 0x3F), (256, 0x80), (514, 0x41), (515, 0x42)] })] }; let p := s.phys lb; let b := s.bay p; BayRuns s lb ∧ (b.arr arr).fq = [.feed f] ∧ f.started = true ∧ f.asked = true ∧ f.share = false ∧ f.src = .wings o ∧ f.m ≤ 1024 ∧ f.a0 < 1024 ∧ ArrClean s p arr ∧ b.granted (whoFeed arr).2 f.ord = true) := by unfold BayRuns ArrClean; decide +kernel

theorem witness_DrainReadsItsNextRow :
    (let d := ({ arr := 2, fmt := 0, rnd := 0, sat := false, act := 0, dfn := 0, bias := false, ztap := false, deriv := false, sp24 := false, add := false, clear := true, lay := 0, a0 := 1023, rd := 2, nd := 128, dst := .wings 0, bsrc := 0, zadr := 0, dsc := 3, pc := 5, ord := 6, scale := 0x40000000, row := 1 } : DrainOp); let rest := ([] : List DrainOp); let lb := 0; let s : State := sets { up with bays := [(0, { dq := [d], arrs := [(2, { acc := [(accKey 0 0, 0x3F800000), (accKey 0 127, 0x40400000), (accKey 1023 1, 7)] })], wings := [(3, 4)] })] } [(CUE_DSCALE_VALUE, 0x3F000000, 0, 3)]; let p := s.phys lb; let b := s.bay p; BayRuns s lb ∧ b.dq = d :: rest ∧ d.nd ≤ 128 ∧ ArrClean s p d.arr ∧ b.feedHolds d = false ∧ b.drainLate = false ∧ b.drows.length < d.inFlight) := by unfold BayRuns ArrClean; decide +kernel

theorem witness_DrainedRowIsStored :
    (let r := ({ dst := .wings 512, bytes := [(0, 1), (1, 0), (300, 7)], zbytes := [], add := false, last := true, len := 301, row := 0, pc := 5, ord := 6, asked := true } : DRow); let rest := ([] : List DRow); let o := 512; let lb := 0; let s : State := { up with bays := [(0, { drows := [r], wings := [(512, 9), (513, 8), (514, 7), (812, 6)] })] }; let p := s.phys lb; let b := s.bay p; BayRuns s lb ∧ b.drows = r :: rest ∧ r.dst = .wings o ∧ r.add = false ∧ r.zbytes = [] ∧ b.photo = none ∧ b.wingsErr = [] ∧ r.asked = true ∧ b.granted 0 r.key = true ∧ (r.bytes.map (·.1)).Nodup) := by unfold BayRuns; decide +kernel

theorem witness_WalkEndsAndCrossbarServes :
    (let o := 4; let lb := 0; let s : State := { up with bays := [(0, { cid := some 3, arrs := [(0, { fq := [.walk 1 1 0 4] }), (2, { fq := [.walk 1 1 0 4, .walk 2 2 0 5], acc := [(1, 1)] })] })] }; let p := s.phys lb; BayRuns s lb ∧ (s.bay p).walkDone = some o ∧ (s.bay p).cid.isSome = true) ∧
    (let x := ({ prio := 2, who := 1, ord := 4, lines := [(3, 0, false), (4, 0, false)] } : XReq); let y := ({ prio := 5, who := 2, ord := 5, lines := [(9, 0, true)] } : XReq); let a := (3, 0, false); let ra := [(4, 0, false)]; let c := (9, 0, true); let rc := []; let lb := 0; let s : State := { up with bays := [(0, { xreqs := [x, y], wings := [(770, 1)] })] }; let p := s.phys lb; let u := s.present p; BayRuns s lb ∧ (u.bay p).xreqs = [x, y] ∧ (u.bay p).wingsErr = [] ∧ x.lines = a :: ra ∧ y.lines = c :: rc ∧ x.who ≠ y.who ∧ x.ord ≠ y.ord ∧ accessBlock a = accessBlock c ∧ (a.1 ≠ c.1 ∨ a.2.1 ≠ c.2.1) ∧ x.before y = true ∧ y.before x = false) ∧
    (let lb := 0; let s : State := { up with bays := [(0, { xreqs := [{ prio := 2, who := 1, ord := 4, lines := [(3, 0, false)], waited := 64 }, { prio := 2, who := 2, ord := 5, lines := [(3, 0, false)], waited := 63 }] })] }; lb < 64 ∧ s.clocked = true) :=
  ⟨by unfold BayRuns; decide +kernel,
   by unfold BayRuns; decide +kernel,
   by decide +kernel⟩

theorem witness_SemaphoresAndCreditsArrive :
    (let sem := 63; let n := 255; let lb := 0; let s : State := sets (running (.wait 63 255)) [(CUE_SEQSTAT_STATE, 4, 0, 0), (CUE_SEM_VALUE, 300, 0, 63)]; let p := s.phys lb; BayRuns s lb ∧ s.get CUE_SEQSTAT_STATE p = 4 ∧ s.cueAt p = some (.wait sem n) ∧ n ≤ s.get CUE_SEM_VALUE p sem ∧ (s.bay p).samples = []) ∧
    (let m := ({ bay := 9, sem := 63, n := 255, drains := [], moves := [], pc := 0 } : PostMsg); let lb := 0; let s : State := sets { up with bays := [(0, { posts := [m] })] } [(CUE_SEM_VALUE, 65280, 10, 63)]; let p := s.phys lb; BayRuns s lb ∧ (s.bay p).posts = [m] ∧ (s.bay p).fenceMet m = true ∧ s.get CUE_SEM_VALUE (s.phys m.bay) m.sem + m.n ≤ 65535) ∧
    (let rv := 31; let full := true; let rest := [(2, false)]; let lb := 0; let s : State := { up with bays := [(0, { credits := (31, true) :: [(2, false)], rings := [(31, { opened := true, consumer := true, nsl := 2, slsz := 256 })] })] }; let p := s.phys lb; BayRuns s lb ∧ (s.bay p).credits = (rv, full) :: rest ∧ ((s.bay p).ring rv).opened = true ∧ ((s.bay p).ring rv).consumer = full ∧ (s.bay p).stall ≠ some 3 ∧ s.get CUE_SEQSTAT_STATE p ≠ 6) :=
  ⟨by unfold BayRuns; decide +kernel,
   by unfold BayRuns; decide +kernel,
   by unfold BayRuns; decide +kernel⟩

theorem witness_WaitingCueIsAccepted :
    (let arrm := 3; let duty := 4; let durm1 := 5; let lb := 0; let s : State := bay0 (running (.walk 3 4 5)) fun b => { b with stall := some 1, arrs := [(1, { fq := [.walk 1 1 1 0] })], ord := 1 }; let p := s.phys lb; BayRuns s lb ∧ s.get CUE_SEQSTAT_STATE p = 3 ∧ (s.bay p).saving = false ∧ (s.bay p).stall = some 1 ∧ (s.bay p).present = none ∧ s.cueAt p = some (.walk arrm duty durm1) ∧ (s.bay p).samples = [] ∧ (∀ a, a < 3 → arrm.testBit a = true → ((s.bay p).arr a).fq.length < 2)) ∧
    (let rv := 31; let role := false; let peer := 0; let prv := 0; let n := 0; let z := 0; let base := 0; let lb := 0; let s : State := bay0 (running (.ring 2 31 false 0 0 0 0 0)) fun b => { b with stall := some 3, rings := [(31, { opened := true, nsl := 2, slsz := 256, count := 1 })], ord := 1 }; let p := s.phys lb; BayRuns s lb ∧ s.get CUE_SEQSTAT_STATE p = 3 ∧ (s.bay p).saving = false ∧ (s.bay p).stall = some 3 ∧ (s.bay p).present = none ∧ s.cueAt p = some (.ring 2 rv role peer prv n z base) ∧ (s.bay p).samples = [] ∧ ((s.bay p).ring rv).opened = true ∧ ((s.bay p).ring rv).consumer = false ∧ 1 ≤ ((s.bay p).ring rv).count) :=
  ⟨by unfold BayRuns; decide +kernel,
   by unfold BayRuns; decide +kernel⟩

theorem witness_HaltRetiresAndOverrunsCount :
    (let id := 3; let c := theRun 3; let lb' := 1; let lb := 0; let s : State := { bay0 (running .halt) fun b => { b with halted := true, cid := some 3 } with ro := { cmds := [c] } }; let p := s.phys lb; BayRuns s lb ∧ (s.bay p).halted = true ∧ s.quiet p = true ∧ s.get CUE_SEQSTAT_STATE p = 3 ∧ (s.bay p).stop ≠ .pointers ∧ (s.bay p).samples = [] ∧ (s.bay p).cid = some id ∧ s.cmd id = some c ∧ c.phase = .running ∧ lb' ∈ laneBays c.mask ∧ s.phys lb' ≠ p ∧ s.get CUE_SEQSTAT_STATE (s.phys lb') ≠ 7) ∧
    (let id := 3; let c := { theRun 3 with ovr := 0 }; let lb := 0; let s : State := { bay0 (running (.wait 1 1)) fun b => { b with cid := some 3 } with ro := { cmds := [c] } }.put CUE_SEQSTAT_STATE 4 0; let p := s.phys lb; lb < 64 ∧ s.clocked = true ∧ (s.bay p).cid = some id ∧ s.cmd id = some c ∧ s.waits p = true ∧ (c.phase = .running ∨ c.phase = .stopping) ∧ c.ovr = 0) :=
  ⟨by unfold BayRuns; decide +kernel,
   by decide +kernel⟩

theorem witness_LastHaltEndsTheCommand :
    (let id := 3; let c := { theRun 3 with mask := 1 }; let lb := 0; let s : State := { bay0 (running .halt) fun b => { b with halted := true, cid := some 3 } with ro := { cmds := [c] } }; let p := s.phys lb; BayRuns s lb ∧ (s.bay p).halted = true ∧ s.quiet p = true ∧ s.get CUE_SEQSTAT_STATE p = 3 ∧ (s.bay p).stop ≠ .pointers ∧ (s.bay p).samples = [] ∧ (s.bay p).cid = some id ∧ s.cmd id = some c ∧ (∀ lb' ∈ laneBays c.mask, s.phys lb' ≠ p → s.get CUE_SEQSTAT_STATE (s.phys lb') = 7)) := by unfold BayRuns; decide +kernel

theorem witness_StopsReachTheirBay :
    (let lb := 0; let s : State := { bay0 (running (.wait 1 1)) fun b => { b with cid := some 3, stopReq := .pointers, dq := [⟨0,0,0,false,0,0,false,false,false,false,false,false,0,0,1,1,.wings 0,0,0,0,0,0,0,0⟩], posts := [⟨0,0,0,[],[],0⟩], stall := some 1 } with ro := { cmds := [theRun 3] } }; let p := s.phys lb; lb < 64 ∧ s.clocked = true ∧ (s.bay p).stopReq = .pointers ∧ (s.get CUE_SEQSTAT_STATE p = 3 ∨ s.get CUE_SEQSTAT_STATE p = 4)) ∧
    (let lb := 0; let s : State := bay0 (running (.wait 1 1)) fun b => { b with stopReq := .live }; let p := s.phys lb; lb < 64 ∧ s.clocked = true ∧ (s.bay p).stopReq = .live ∧ s.get CUE_SEQSTAT_STATE p = 3) ∧
    (let id := 3; let c := { theRun 3 with phase := .stopping }; let lb' := 1; let lb := 0; let s : State := ({ bay0 (running (.wait 1 1)) fun b => { b with cid := some 3, stop := .pointers, credits := [(1, true)], rings := [(4, { opened := true, nsl := 1, slsz := 256, stall := 9 })] } with ro := { cmds := [c] } }.put CUE_SEQSTAT_STATE 5 0).put CUE_SEQSTAT_STATE 5 1; let p := s.phys lb; lb < 64 ∧ s.clocked = true ∧ s.get CUE_SEQSTAT_STATE p = 5 ∧ s.unitsReleased p = true ∧ Tab.wf {} (s.bay p).rings = true ∧ (s.bay p).cid = some id ∧ s.cmd id = some c ∧ lb' ∈ laneBays c.mask ∧ s.phys lb' ≠ p ∧ s.get CUE_SEQSTAT_STATE (s.phys lb') = 5) :=
  ⟨by decide +kernel,
   by decide +kernel,
   by decide +kernel⟩

theorem witness_LiveSaveParksOrFallsBack :
    (let id := 3; let c := { theRun 3 with phase := .stopping }; let lb' := 1; let lb := 0; let s : State := ({ bay0 (running (.exit 0)) fun b => { b with cid := some 3, stop := .live, saving := true } with ro := { cmds := [c], image := some { theImage with stashbase := 1024, stashsz := 1024 } }, windows := openWindow, boot := { mr144 := true } }.put CUE_SEQSTAT_STATE 6 0).put CUE_SEQSTAT_STATE 3 1; let p := s.phys lb; let a := s.stashAddr lb; lb < 64 ∧ s.clocked = true ∧ (s.bay p).saving = true ∧ s.get CUE_SEQSTAT_STATE p = 6 ∧ s.quiet p = true ∧ (s.bay p).credits = [] ∧ (s.bay p).granted whoLive.2 id = true ∧ (s.bay p).cid = some id ∧ s.cmd id = some c ∧ liveRanges (s.bay p).part.ranges (s.get CUE_LIVEMASK_MASK p) = [] ∧ s.unpermitted a 1024 true = none ∧ s.place a = .ddr ∧ 1024 ≤ s.stashSize ∧ lb' ∈ laneBays c.mask ∧ s.phys lb' ≠ p ∧ s.get CUE_SEQSTAT_STATE (s.phys lb') = 3) ∧
    (let id := 3; let c := { theRun 3 with phase := .stopping, liveStop := true }; let s : State := { bay0 (running (.wait 1 1)) fun b => { b with cid := some 3, stop := .live } with ro := { cmds := [c] } }.put CUE_SEQSTAT_STATE 3 1; s.clocked = true ∧ s.cmd id = some c ∧ c.phase = .stopping ∧ c.liveStop = true ∧ (∃ lb ∈ laneBays c.mask, s.get CUE_SEQSTAT_STATE (s.phys lb) ≠ 6) ∧ (laneBays c.mask).Pairwise (fun x y => s.phys x ≠ s.phys y)) :=
  ⟨by decide +kernel,
   by decide +kernel⟩

theorem witness_MatchEndWritesItsList :
    (let m := ({ bitmap := false, iof := false, la := 2, lb := 3, opn := 0, srca := .wings 256, srcb := .wings 512, dst := .wings 768, pc := 4, ord := 2, asked := true } : MatchOp); let rest := ([] : List MatchOp); let x := 256; let y := 512; let z := 768; let lb := 63; let s : State := { up with bays := [(70, { matchQ := [m] ++ rest, wings := [(256, 1), (260, 7), (512, 1), (516, 2), (520, 7), (776, 9)] })] }; let p := s.phys lb; let b := s.bay p; BayRuns s lb ∧ b.matchQ = m :: rest ∧ m.srca = .wings x ∧ m.srcb = .wings y ∧ m.dst = .wings z ∧ b.granted whoMatch.2 m.ord = true ∧ m.asked = true ∧ b.xreqs = [] ∧ (b.matched m).bad = false ∧ b.wingsErr = [] ∧ b.photo = none) := by unfold BayRuns; decide +kernel

theorem witness_PromptEndFreesThePrompter :
    (let q := ({ lbay := 5, stg := 1, sel := false, ntile := 1, pred := 0, kval := 0, src := 0, dst := .wings 0, pc := 4, ord := 2, started := true } : PromptOp); let d := 0; let s : State := { up with dies := [(0, { prompts := [q] })] }.put PRM_STAT_BUSY 1 0; d < 8 ∧ s.clocked = true ∧ s.shed = false ∧ (s.die d).prompts = [q] ∧ (s.die d).colMove = none ∧ q.started = true ∧ q.stg ≠ 2 ∧ (s.bay (s.phys q.lbay)).granted whoPrompt.2 q.ord = true) ∧
    (let q := ({ lbay := 63, stg := 2, sel := true, ntile := 16, pred := 0, kval := 0, src := 0, dst := .wings 4096, pc := 4, ord := 2, started := true, list := [0, 5, 0xFFFF] } : PromptOp); let d := 7; let o := 4096; let s : State := ({ up with dies := [(7, { prompts := [q] })] }.put PRM_STAT_BUSY 1 7).setCtx 63 { header := (List.range 16).map fun i => if i = 0 then 0x080000201000003F else 0, valid := true }; let p := s.phys q.lbay; let c := s.ctx q.lbay; d < 8 ∧ s.clocked = true ∧ s.shed = false ∧ (s.die d).prompts = [q] ∧ (s.die d).colMove = none ∧ q.started = true ∧ q.stg = 2 ∧ q.lbay / 8 = d ∧ q.dst = .wings o ∧ (s.bay p).granted whoPrompt.2 q.ord = true ∧ s.greenHeld p d = false ∧ c.listIn = true ∧ c.fop = 0) ∧
    (let q := ({ lbay := 63, stg := 2, sel := true, ntile := 16, pred := 0, kval := 0, src := 0, dst := .wings 4096, pc := 4, ord := 2, started := true } : PromptOp); let d := 7; let o := 4096; let s : State := ({ up with dies := [(7, { prompts := [q] })] }.put PRM_STAT_BUSY 1 7).setCtx 63 { header := prompterHeader, valid := true, sums := [(0, 7), (3, 9)] }; let p := s.phys q.lbay; let c := s.ctx q.lbay; d < 8 ∧ s.clocked = true ∧ s.shed = false ∧ (s.die d).prompts = [q] ∧ (s.die d).colMove = none ∧ q.started = true ∧ q.stg = 2 ∧ q.lbay / 8 = d ∧ q.dst = .wings o ∧ (s.bay p).granted whoPrompt.2 q.ord = true ∧ s.greenHeld p d = false ∧ (s.bay p).xreqs = [] ∧ c.listIn = false ∧ c.fop = 0 ∧ (s.die d).greenErr = [] ∧ (s.bay p).wingsErr = [] ∧ (s.bay p).photo = none) :=
  ⟨by decide +kernel,
   by decide +kernel,
   by decide +kernel⟩

theorem witness_PhotocallWritesItsRecord :
    (let lb := 63; let x := { entry := 0, tag := 0xFFFFFFFF, src := 512, lines := 2, step := 0, odo := 5, time := 6, pc := 7, sheet := 8, torn := true, data := [1, 2, 3] }; let s : State := { up with bays := [(70, { photo := some x, wings := [(512, 1), (516, 9)] })] }.put OBS_PHOTOSTAT_BUSY 1 7; let p := s.phys lb; lb < 64 ∧ s.clocked = true ∧ (s.bay p).photo = some x ∧ ((s.bay p).xreqs.any fun y => y.who == whoPhoto.2) = false) := by decide +kernel

theorem witness_RingRecordIsWrittenAtWr :
    (let n := 3; let rec_ := (List.range 64).map fun i => BitVec.ofNat 8 (i + 1); let s : State := { sets up [(OBS_RINGCTL_EN, 1, 3, 0), (OBS_RINGCTL_SIZE, 1, 3, 0), (OBS_RINGBASE_BASE, 2, 3, 0), (OBS_RINGWR_WR, 4032, 3, 0), (OBS_RINGRD_RD, 64, 3, 0)] with windows := openWindow, boot := { mr144 := true } }; let base := s.get OBS_RINGBASE_BASE n * 4096; let size := s.get OBS_RINGCTL_SIZE n * 4096; let wr := s.get OBS_RINGWR_WR n; let rd := s.get OBS_RINGRD_RD n; s.flag OBS_RINGCTL_EN n = true ∧ rd < size ∧ wr + rec_.length ≤ size ∧ rec_.length + 64 ≤ size - (wr + size - rd) % size ∧ s.unpermitted (base + wr) rec_.length true = none ∧ s.place (base + wr) = .ddr ∧ ddrSound s) := by unfold ddrSound; decide +kernel

theorem witness_StreamAcceptTakesTheMove :
    (let e := 103; let p := 71; let r := ({ seq := 9, eng := 103, desc := 2, srcAg := none, dstAg := none, done := some 63, pc := 5 } : MoveReq); let d := descOf (oneWord 0x10000); let s : State := { up with bays := [(71, { present := some r, stall := some 1, cid := some 3, wings := cells 128 (oneWord 0x10000) })] }; e < 104 ∧ s.clocked = true ∧ s.shed = false ∧ (s.eng e).q.length < engineDepth e ∧ s.presented e = some (p, r) ∧ s.heldMove e = none ∧ (s.bay p).samples = [] ∧ (s.bay p).wingsErr = [] ∧ s.acceptDesc p r = (s, .ok d) ∧ d.nkind ≠ 2 ∧ (∀ f, d.farExtent p = some f → meets f (nearDevice d p, nearDevice d p + d.nearLen - 1) = false)) := by decide +kernel

theorem witness_StreamDeliversOneElement :
    (let e := 103; let m := oneMove 0xC0; let rest := [oneMove 0]; let h := 8; let a := 0xC0; let p := 71; let o := 64; let s : State := { wide with engines := [(103, { q := [m] ++ rest })], mem := cells 0xC0 [0x1122334455667788], bays := [(71, { cid := some 3, wings := [(63, 1), (65, 9), (68, 4)] })] }; EngineRuns s e ∧ (s.eng e).q = m :: rest ∧ m.m + 1 = m.count ∧ m.ring = none ∧ m.copying = .plain ∧ m.reqs = [] ∧ m.kept = [] ∧ m.wbuf = [] ∧ (m.desc.any fun d => d.watch) = false ∧ s.behind e m = false ∧ s.elemAt m m.m = { h := h, src := some (.dev a, false), dst := some (.own p o, false) } ∧ (h = 2 ∨ h = 4 ∨ h = 8) ∧ a % (h / 2) = 0 ∧ o % (h / 2) = 0 ∧ s.place a = .ddr ∧ s.place (a / 64 * 64) = .ddr ∧ s.permits a false = true ∧ ddrSound s ∧ o + h / 2 ≤ wingsSize ∧ (s.bay p).wingsErr = [] ∧ (s.bay p).photo = none ∧ (s.bay p).xreqs = []) ∧
    (let e := 103; let m := oneMove 0xC0; let rest := [oneMove 0]; let a := 0xC0; let s : State := { up with boot := { mr144 := true }, engines := [(103, { q := [m] ++ rest })], bays := [(71, { cid := some 3, wings := [(63, 1), (65, 9), (68, 4)] })] }; let el := s.elemAt m m.m; EngineRuns s e ∧ (s.eng e).q = m :: rest ∧ m.m < m.count ∧ m.ring = none ∧ m.copying = .plain ∧ m.wbuf = [] ∧ s.behind e m = false ∧ s.elemAt m m.m = el ∧ el.src = some (.dev a, false) ∧ s.permits a false = false) :=
  ⟨by unfold EngineRuns ddrSound; decide +kernel,
   by unfold EngineRuns; decide +kernel⟩

theorem witness_RunaheadRefetchAndDone :
    (let e := 103; let m := oneMove 0xC0; let i := 0; let j := 1; let a := 0xC0; let ls := [.dev 0xC0]; let s : State := { wide with engines := [(103, { q := [m] })], mem := cells 0xC0 [0x1122334455667788], bays := [(71, { cid := some 3 })] }; EngineRuns s e ∧ runMove (s.eng e).q = some m ∧ (s.eng e).inflight < 64 ∧ i = s.nextSrc m (m.count - max m.m m.ra) (max m.m m.ra) ∧ i < m.count ∧ (s.elemAt m i).src = some (.dev a, false) ∧ s.runFrom m (a / 256) (512 / (s.elemAt m i).h) i = (j, ls) ∧ m.missing ls = [.dev a] ∧ s.watches m (a / 64) = false ∧ s.place a = .ddr ∧ s.place (a / 64 * 64) = .ddr ∧ ddrSound s) ∧
    (let e := 103; let f := ({ granule := 3, watched := true, stale := true, refetch := true } : Fetched); let m := { oneMove 0xC0 with ra := 1, reqs := [{ m0 := 0, m1 := 1, gs := [f] }] }; let rest := [oneMove 0]; let s : State := { wide with engines := [(103, { q := [m] ++ rest })], mem := cells 0xC0 [0x1122334455667788], bays := [(71, { cid := some 3 })] }; EngineRuns s e ∧ (s.eng e).q = m :: rest ∧ (m.holding.find? fun x => x.refetch) = some f ∧ (m.fetched f.granule).isSome = true ∧ s.place (64 * f.granule) = .ddr ∧ ddrSound s) ∧
    (let e := 103; let m := { oneMove 0xC0 with m := 1 }; let rest := [{ oneMove 0 with id := 8 }]; let sem := 63; let s : State := { wide with engines := [(103, { q := [m] ++ rest })], ledger := [{ granule := 3, move := 9, eng := 103 }, { granule := 3, move := 8, eng := 103 }], bays := [(71, { cid := some 3, moves := [8, 9] })] }.put CUE_SEM_VALUE 65534 71 63; e < 104 ∧ s.clocked = true ∧ (s.eng e).q = m :: rest ∧ m.count ≤ m.m ∧ m.done = some sem ∧ s.get CUE_SEM_VALUE m.phys sem + 1 ≤ 65535) :=
  ⟨by unfold EngineRuns ddrSound; decide +kernel,
   by unfold EngineRuns ddrSound; decide +kernel,
   by decide +kernel⟩

theorem witness_WindowsAreCommittedAndApplied :
    (let s : State := sets up [(STR_WINW0_RD, 1, 0, 63), (STR_WINW0_BASE, 5, 0, 63), (STR_WINW1_LIMIT, 9, 0, 63)]; HostWrites s ⟨.STR_WINCTL, 0, 0⟩) ∧
    (let w := openWindow; let s : State := { up with winPend := some openWindow }.put STR_WINCTL_PEND 1; s.clocked = true ∧ s.flag RUN_STAT_ACTIVE = false ∧ s.winPend = some w) :=
  ⟨by unfold HostWrites; decide +kernel,
   by decide +kernel⟩

theorem witness_PatrolAndRefresh :
    (let g := 2048; let s : State := { up with memErr := [(0, .uncorr), (2048, .corr)] }.put MEM_PATROL_HOURS 24 1; let c := s.chanOf (64 * g); s.ddrServed = true ∧ 64 * g < s.ddrSize ∧ s.get MEM_PATROL_HOURS c ≠ 0 ∧ markOf s.memErr g = some .corr) ∧
    (let g := 992; let s : State := { up with memErr := [(992, .uncorr)] }.put MEM_PATROL_HOURS 24 31; let c := s.chanOf (64 * g); s.ddrServed = true ∧ 64 * g < s.ddrSize ∧ s.get MEM_PATROL_HOURS c ≠ 0 ∧ markOf s.memErr g = some .uncorr) ∧
    (let c := 31; c < 32) :=
  ⟨by decide +kernel,
   by decide +kernel,
   by decide +kernel⟩

theorem witness_MemoryScrubZeroesDdr :
    (let s : State := { up with ports := [(3, { depot := { lines := [(5, true)] } })] }.put DEP_STAT_DIRTY 1 3; HostWrites s ⟨.MEM_ZERO, 0, 0⟩ ∧ s.flag RUN_STAT_ACTIVE = false ∧ s.retire.chan = none) ∧
    (let s : State := up.put RUN_STAT_ACTIVE 1; HostWrites s ⟨.MEM_ZERO, 0, 0⟩ ∧ (s.flag RUN_STAT_ACTIVE = true ∨ s.retire.chan.isSome = true)) ∧
    (let s : State := { up with mem := [(0, 7), (4096, 9)], memErr := [(4, .uncorr)] }.put MEM_ZERO_BUSY 1; s.clocked = true ∧ s.flag MEM_ZERO_BUSY = true ∧ s.host.waiting = []) :=
  ⟨by unfold HostWrites; decide +kernel,
   by unfold HostWrites; decide +kernel,
   by decide +kernel⟩

theorem witness_ChannelRetirementIsRequested :
    (let v : W32 := 0x8000001F; let s : State := { up with boot := { reserve := true }, ports := [(3, { depot := { lines := [(248, true), (0, true)] } })] }; HostWrites s ⟨.MEM_RETIRE, 0, 0⟩ ∧ v.getLsbD 31 = true ∧ s.boot.reserve = true ∧ s.flag MEM_INFO_RETIRED = false ∧ s.retire.chan = none ∧ s.flag MEM_ZERO_BUSY = false ∧ s.flag UST_STAT_CHANV = false) ∧
    (let v : W32 := 0x80000000; let s : State := up; HostWrites s ⟨.MEM_RETIRE, 0, 0⟩ ∧ v.getLsbD 31 = true ∧ (s.boot.reserve = false ∨ s.flag MEM_INFO_RETIRED = true ∨ s.retire.chan.isSome = true ∨ s.flag MEM_ZERO_BUSY = true)) ∧
    (let x := 31; let s : State := up.put UST_CFG_CHANAUTO 0; x < 32 ∧ s.ddrServed = true ∧ s.flag UST_CFG_CHANAUTO = false) :=
  ⟨by unfold HostWrites; decide +kernel,
   by unfold HostWrites; decide +kernel,
   by decide +kernel⟩

theorem witness_ChannelMigratesAndRetires :
    (let x := 31; let s : State := { up with boot := { reserve := true }, retire := { chan := some 31 } }.put MEM_RETIRE_STATE 1; let g := s.get MEM_MIGPOS_GRANULES; s.clocked = true ∧ s.retire.chan = some x ∧ s.beSlot = true ∧ g < s.liveGranules ∧ g < 2 ^ 32 - 1 ∧ (s.ledger.any fun l => l.granule / 32 == granuleAddr x g / 2048) = false ∧ ddrSound s) ∧
    (let x := 31; let s : State := sets { up with retire := { chan := some 31 } } [(MEM_RETIRE_STATE, 1, 0, 0), (MEM_RETIRE_CHAN, 31, 0, 0), (MEM_MIGPOS_GRANULES, up.liveGranules, 0, 0)]; s.clocked = true ∧ s.retire.chan = some x ∧ s.liveGranules ≤ s.get MEM_MIGPOS_GRANULES ∧ x < 32) :=
  ⟨by unfold ddrSound; decide +kernel,
   by decide +kernel⟩

theorem witness_DepotIsWrittenBack :
    (let p := 3; let s : State := { up with ports := [(3, { depot := { lines := [(5, true)] } })] }.put DEP_CTL_ENABLE 1 3; p < 4 ∧ HostWrites s ⟨.DEP_CTL, p, 0⟩) ∧
    (let p := 3; let s : State := { up with ports := [(3, { depot := { lines := [(5, true)] } })] }.put DEP_CTL_ENABLE 1 3; p < 4 ∧ HostWrites s ⟨.DEP_CTL, p, 0⟩ ∧ s.get DEP_CTL_ENABLE p = 1) ∧
    (let p := 3; let s : State := sets { up with ports := [(3, { depot := { lines := [(5, true)], disabling := true } })] } [(DEP_STAT_FLUSHING, 1, 3, 0), (DEP_STAT_DIRTY, 1, 3, 0)]; p < 4 ∧ s.clocked = true ∧ s.flag DEP_STAT_FLUSHING p = true) :=
  ⟨by unfold HostWrites; decide +kernel,
   by unfold HostWrites; decide +kernel,
   by decide +kernel⟩

theorem witness_HostScansRunTheirCheckValue :
    (let e := 7; let v : W32 := 7; let s : State := sets up [(CHK_START_ADDR, 64, 7, 0), (CHK_LEN_BYTES, up.ddrSize - 64, 7, 0)]; e < 8 ∧ HostWrites s ⟨.CHK_CTL, e, 0⟩ ∧ v.getLsbD 2 = true ∧ v.getLsbD 3 = false ∧ s.flag CHK_STAT_BUSY e = false ∧ s.get CHK_START_ADDR e + s.get CHK_LEN_BYTES e ≤ (if s.boot.reserve then s.reserveBase else s.ddrSize)) ∧
    (let e := 7; let v : W32 := 4; let s : State := sets up [(CHK_START_ADDR, up.ddrSize - 64, 7, 0), (CHK_LEN_BYTES, 65, 7, 0)]; e < 8 ∧ HostWrites s ⟨.CHK_CTL, e, 0⟩ ∧ v.getLsbD 2 = true ∧ v.getLsbD 3 = false ∧ s.flag CHK_STAT_BUSY e = false ∧ (if s.boot.reserve then s.reserveBase else s.ddrSize) < s.get CHK_START_ADDR e + s.get CHK_LEN_BYTES e) ∧
    (let e := 7; let x := ({ start := 64, len := 9, alg := 0 } : Scan); let s : State := { up with mem := (List.range 9).map fun i => (64 + i, BitVec.ofNat 8 (0x31 + i)), ports := [(3, { scans := [(1, some x)] })] }.put CHK_RUN_VALUE 0xFFFFFFFF 7; e < 8 ∧ s.clocked = true ∧ s.scan e = some x ∧ ddrSound s ∧ x.start + x.len ≤ s.ddrSize ∧ s.boot.reserve = false) ∧
    (let e := 7; let covered := 1; let x := ({ start := 64, len := 65, alg := 0 } : Scan); let s : State := { up with mem := (List.range 9).map fun i => (64 + i, BitVec.ofNat 8 (0x31 + i)), ports := [(3, { scans := [(1, some x)] })] }.put CHK_RUN_VALUE 0xFFFFFFFF 7; let n := (covered + 63) / 64 * 64; e < 8 ∧ HostWrites s ⟨.CHK_CTL, e, 0⟩ ∧ s.scan e = some x ∧ ddrSound s ∧ x.start + x.len ≤ s.ddrSize ∧ s.boot.reserve = false ∧ n < x.len) :=
  ⟨by unfold HostWrites; decide +kernel,
   by unfold HostWrites; decide +kernel,
   by unfold ddrSound; decide +kernel,
   by unfold HostWrites ddrSound; decide +kernel⟩

theorem witness_GatherJobRunsAndEnds :
    (let id := 3; let c := { theRun 3 with op := 2, port := 3, arg := 0x1000, mask := 0, phase := .starting }; let s : State := { ordered c with mem := gatherMem }; let r := ((s.put GTH_JOB_ADDR c.arg c.port).takeWays c.port).runJob c.arg; s.clocked = true ∧ s.cmd id = some c ∧ c.op = 2 ∧ c.phase = .starting ∧ (s.port c.port).gather = none ∧ s.mayStart = true ∧ r.1.stop ≠ some .held) ∧
    (let j : Job := ({ s := { wide with mem := gatherMem } } : Job); let r : JobRec := gatherRec; let i := 1; j.stop = none ∧ r.count = 1 ∧ 0 < r.rl ∧ r.rl ≤ 4096 ∧ r.rl % 64 = 0 ∧ r.src % 64 = 0 ∧ r.idx % 64 = 0 ∧ r.dst % 64 = 0 ∧ j.s.curt = none ∧ ddrSound j.s ∧ leVal (j.s.ddrBytes r.idx 4) = i ∧ i < r.nrows ∧ inDdr j.s r.idx 4 ∧ inDdr j.s (r.src + i * r.rl) r.rl ∧ inDdr j.s r.dst r.rl ∧ j.s.unpermitted r.idx 4 false = none ∧ j.s.unpermitted (r.src + i * r.rl) r.rl false = none ∧ j.s.unpermitted r.dst r.rl true = none) ∧
    (let pd := 3; let x := ({ cid := 3, recAddr := 0x1000, notify := none, code := cOK, ucount := 1 } : GatherJob); let c := { theRun 3 with op := 2, port := 3, arg := 0x1000, mask := 0 }; let s : State := { ordered c with mem := gatherMem, ports := [(3, { gather := some x })] }.put GTH_STAT_STATE 5 3; pd < 4 ∧ s.clocked = true ∧ ringsOff s ∧ (s.port pd).gather = some x ∧ s.curt = none ∧ x.code = cOK ∧ x.ucount < 2 ^ 21 ∧ x.recAddr % 64 = 0 ∧ x.notify = none ∧ s.cmd x.cid = some c ∧ c.mask = 0 ∧ inDdr s (x.recAddr + 56) 8 ∧ s.unpermitted (x.recAddr + 56) 8 true = none ∧ ddrSound s ∧ s.ledger = []) :=
  ⟨by decide +kernel,
   by unfold inDdr ddrSound; decide +kernel,
   by unfold ringsOff inDdr ddrSound; decide +kernel⟩

theorem witness_RunCommandStartsItsSheet :
    (let id := 3; let c := startRun; let hdr := sheetCrc; let s : State := sets stageReady [(CUE_RESTAB_LO_VALID, 1, 5, 31), (CUE_RESTAB_LO_SHEET, 7, 5, 31), (CUE_RESTAB_LO_BASE, 100, 5, 31), (CUE_RESTAB_HI_HDRCRC, sheetCrc, 5, 31)]; let u : State := ((s.noteStart id).sheetFor c).1; s.clocked = true ∧ ringsOff s ∧ s.cmd id = some c ∧ c.op = 1 ∧ c.phase = .starting ∧ c.resume = false ∧ c.staged = some true ∧ s.laneFree c = true ∧ s.mayStart = true ∧ s.ro.seedPending = false ∧ (s.noteStart id).sheetFor c = (u, .ok (hdr, none)) ∧ hdr < 2 ^ 32 ∧ laneApart s c.mask) ∧
    (let id := 3; let c := startRun; let hdr := sheetCrc; let pl := sheetPlan; let s : State := stageReady; let u : State := ((s.noteStart id).sheetFor c).1; s.clocked = true ∧ ringsOff s ∧ s.cmd id = some c ∧ c.op = 1 ∧ c.phase = .starting ∧ c.resume = false ∧ c.staged = some true ∧ s.laneFree c = true ∧ s.mayStart = true ∧ (s.noteStart id).sheetFor c = (u, .ok (hdr, some pl)) ∧ laneApart s c.mask) :=
  ⟨by unfold ringsOff laneApart; decide +kernel,
   by unfold ringsOff laneApart; decide +kernel⟩

theorem witness_SheetLoadEndsInTheFirstCue :
    (let id := 3; let pl := sheetPlan; let c := { startRun with phase := .loading, plan := some pl, hdrcrc := sheetCrc }; let r := pl.rows.headD (partRow 0 0); let lb := 5; let s : State := { stageReady with ro := { stageReady.ro with cmds := [c] }, bays := [(5, { cid := some 3 })] }.put CUE_SEQSTAT_STATE 2 5; let u : State := (s.loadBody c pl (s.sheetOpens pl c.sheet) r).1; let p := s.phys lb; s.clocked = true ∧ ringsOff s ∧ s.cmd id = some c ∧ c.phase = .loading ∧ c.resume = false ∧ c.plan = some pl ∧ pl.rows = [r] ∧ r.resident = false ∧ laneBays c.mask = [lb] ∧ r.bay = lb ∧ s.loadBody c pl (s.sheetOpens pl c.sheet) r = (u, cOK) ∧ c.hdrcrc = pl.hdrcrc ∧ pl.hdrcrc < 2 ^ 32 ∧ c.sheet < 4096 ∧ r.base < 2 ^ 14 ∧ u.residentEntry p c.sheet pl.hdrcrc = none ∧ (∃ e, e < 32 ∧ u.flag CUE_RESTAB_LO_VALID p e = false)) ∧
    (let id := 3; let pl := { sheetPlan with rows := [{ partRow (sheetPart.getD 0 0) (sheetPart.getD 1 0) with crc := 1 }] }; let c := { startRun with phase := .loading, plan := some pl, hdrcrc := sheetCrc }; let r := pl.rows.headD (partRow 0 0); let code := cSHEET_BAD; let s : State := { stageReady with ro := { stageReady.ro with cmds := [c] }, bays := [(5, { cid := some 3 })] }.put CUE_SEQSTAT_STATE 2 5; let u : State := (s.loadBody c pl (s.sheetOpens pl c.sheet) r).1; s.clocked = true ∧ ringsOff s ∧ s.cmd id = some c ∧ c.phase = .loading ∧ c.plan = some pl ∧ pl.rows = [r] ∧ r.resident = false ∧ s.loadBody c pl (s.sheetOpens pl c.sheet) r = (u, code) ∧ code ≠ cOK) :=
  ⟨by unfold ringsOff; decide +kernel,
   by unfold ringsOff; decide +kernel⟩

theorem witness_MilepostAndSnapshotCommands :
    (let id := 3; let c := { theRun 3 with op := 3, k := 7, tk := 1000000, mask := 0, phase := .starting }; let s : State := sets (ordered c) [(FAB_DLINE_MICROS, 1, 0, 0), (FAB_DLINE_MICROS, 2, 0, 1), (FAB_DLINE_MICROS, 3, 0, 2), (FAB_DLINE_MICROS, 4, 0, 3)]; s.clocked = true ∧ s.cmd id = some c ∧ c.op = 3 ∧ c.phase = .starting ∧ s.mp.cid = none ∧ s.mayStart = true ∧ s.clk.sys < c.tk ∧ s.mp.prev = none ∧ s.get FAB_DLINE_MICROS 0 0 < s.get FAB_DLINE_MICROS 0 1 ∧ s.get FAB_DLINE_MICROS 0 1 < s.get FAB_DLINE_MICROS 0 2 ∧ s.get FAB_DLINE_MICROS 0 2 < s.get FAB_DLINE_MICROS 0 3) ∧
    (let id := 3; let c := { theRun 3 with op := 4, port := 3, arg := 0x1000, mask := 0, phase := .starting }; let s : State := { ordered c with mem := cells 0x1000 [5, 0x8000, 2 ^ 32, 0x9000, 0, 0, 0, 0] }.put TLH_SHARDCNT_COUNT 1 3; let u : State := (s.tlhRead 0x1000 64).1; let bs := s.devBytes 0x1000 64; let w := recWord bs; (∀ i, 4 ≤ i → i < 8 → w i = 0) ∧ s.clocked = true ∧ s.cmd id = some c ∧ c.op = 4 ∧ c.phase = .starting ∧ (s.port c.port).snap = none ∧ s.mayStart = true ∧ c.arg % 64 = 0 ∧ s.readFor (some id) c.arg 64 = (u, .ok bs) ∧ fld (w 0) 61 44 = 0 ∧ fld (w 2) 63 45 = 0 ∧ fld (w 2) 31 12 = 0 ∧ 1 ≤ fld (w 2) 44 32 ∧ fld (w 2) 44 32 ≤ 4096 ∧ fld (w 2) 11 0 + fld (w 2) 44 32 ≤ s.get TLH_SHARDCNT_COUNT c.port ∧ w 1 % 4096 = 0 ∧ w 3 % 4096 = 0) ∧
    (let id := 3; let c := { theRun 3 with op := 4, port := 3, arg := 0x1000, mask := 0 }; let x := ({ cid := 3, dest1 := false, peer := 0, manifest := false, milepost := 5, daddr := 0x8000, first := 0, nshard := 1, maddr := 0x9000, next := 1, addr := 0x8000 } : Snap); let s : State := { ordered c with ports := [(3, { snap := some x })] }.put TLH_UPDSTAT_SNAP 1 3; s.clocked = true ∧ ringsOff s ∧ s.cmd id = some c ∧ (s.port c.port).snap = some x ∧ x.cid = id ∧ x.code = none ∧ x.next = x.first + x.nshard ∧ x.manifest = false) :=
  ⟨by decide +kernel,
   ⟨(fun i h1 h2 => by interval_cases i <;> decide +kernel), by decide +kernel⟩,
   by unfold ringsOff; decide +kernel⟩

theorem witness_RunningOrderImageTakesEffect :
    (let v : W32 := 1; let s : State := { wide with mem := orderMem }.put RUN_BASE_ADDR 0x10000; let u : State := ((s.writeFields ⟨.RUN_CTL, 0, 0⟩ v.toNat).readImage (s.get RUN_BASE_ADDR)).1; let im := { tf := 250, live := false, reh := false, catbase := 0x800, catn := 8, stashbase := 0, stashsz := 0, nact := 1, slots := [] }; HostWrites s ⟨.RUN_CTL, 0, 0⟩ ∧ v.getLsbD 0 = true ∧ v.getLsbD 1 = false ∧ s.get SEC_STATE_STATE ≠ 2 ∧ (s.writeFields ⟨.RUN_CTL, 0, 0⟩ v.toNat).readImage (s.get RUN_BASE_ADDR) = (u, .ok im)) ∧
    (let v : W32 := 1; let code := cWINDOW; let s : State := up; let u : State := ((s.writeFields ⟨.RUN_CTL, 0, 0⟩ v.toNat).readImage (s.get RUN_BASE_ADDR)).1; HostWrites s ⟨.RUN_CTL, 0, 0⟩ ∧ v.getLsbD 0 = true ∧ v.getLsbD 1 = false ∧ s.get SEC_STATE_STATE ≠ 2 ∧ (s.writeFields ⟨.RUN_CTL, 0, 0⟩ v.toNat).readImage (s.get RUN_BASE_ADDR) = (u, .error code) ∧ code < 256) ∧
    (let v : W32 := 2; let s : State := up.put RUN_STAT_ACTIVE 1; HostWrites s ⟨.RUN_CTL, 0, 0⟩ ∧ v.getLsbD 1 = true ∧ v.getLsbD 0 = false ∧ s.flag RUN_STAT_ACTIVE = true) ∧
    (let im := { theImage with reh := true }; let s : State := { up with ro := { next := some im, nextAt := 0 } }.put RUN_STAT_PEND 1; s.clocked = true ∧ s.ro.next = some im ∧ s.ro.stopping = false ∧ s.ro.nextAt ≤ s.clk.sys) :=
  ⟨by unfold HostWrites; decide +kernel,
   by unfold HostWrites; decide +kernel,
   by unfold HostWrites; decide +kernel,
   by decide +kernel⟩

theorem witness_SlotBoundaryServesItsSlot :
    (let im := theImage; let n := 1; let j := 63; let b := 39687; let e := 63; let s : State := { sets up [(RUN_STAT_ACTIVE, 1, 0, 0), (ENV_STAT_SHED, 1, 0, 0)] with clk := { sys := 39999 }, ro := { image := some im }, boards := [(63, { words := [(0, 0x80000001), (4, 2 ^ 60 + 7 * 2 ^ 32), (5, 32)] })] }; s.clocked = true ∧ s.ro.next = none ∧ s.flag RUN_STAT_ACTIVE = true ∧ s.ro.image = some im ∧ s.ro.stopping = false ∧ im.slotOf s.clk.sys = (n, j, b) ∧ s.ro.noneBefore ≤ b ∧ s.shed = true ∧ (∀ d, d < 8 → (s.die d).swap = none) ∧ im.nact ≤ 8 ∧ 0 < im.nact ∧ e < 64 ∧ bit ((s.board e).word 0) 31 = true ∧ (s.board e).state = stFREE ∧ s.boardBusy e = false ∧ ({ s.board e with copy := (s.board e).words.filter fun x => decide (x.1 < 28) } : Board).callBad = none ∧ s.flag RST_BOOTSTAT_REH = false) ∧
    (let x := ({ kind := 1, op := 1, lanemask := 32, sheet := 7, slack := 5, budget := 100, ovr := 1 } : SlotEntry); let im := { theImage with slots := [(63, x)] }; let n := 1; let j := 63; let b := 39687; let s : State := { up with clk := { sys := 39999 }, ro := { image := some im } }.put RUN_STAT_ACTIVE 1; s.clocked = true ∧ s.ro.next = none ∧ s.flag RUN_STAT_ACTIVE = true ∧ s.ro.image = some im ∧ s.ro.stopping = false ∧ im.slotOf s.clk.sys = (n, j, b) ∧ s.ro.noneBefore ≤ b ∧ s.shed = false ∧ (∀ d, d < 8 → (s.die d).swap = none) ∧ s.curt = none ∧ s.ro.cmds = [] ∧ s.boards = [] ∧ ringsOff s ∧ Tab.get {} im.slots (64 * (n % im.nact) + j) = x ∧ x.kind = 1 ∧ x.be = false ∧ x.op = 1) ∧
    (let im := theImage; let n := 1; let j := 63; let b := 39687; let s : State := { sets up [(RUN_STAT_ACTIVE, 1, 0, 0)] with clk := { sys := 39999 }, ro := { image := some im, stopping := true } }; s.clocked = true ∧ s.ro.next = none ∧ s.flag RUN_STAT_ACTIVE = true ∧ s.ro.image = some im ∧ s.ro.stopping = true ∧ im.slotOf s.clk.sys = (n, j, b) ∧ s.ro.noneBefore ≤ b ∧ s.ro.cmds = [] ∧ (∀ d, d < 8 → (s.die d).swap = none)) :=
  ⟨by decide +kernel,
   by unfold ringsOff; decide +kernel,
   by decide +kernel⟩

theorem witness_BudgetsAndAborts :
    (let id := 3; let c := { theRun 3 with noted := true }; let s : State := { ordered c with clk := { el := 100000 } }; s.clocked = true ∧ s.cmd id = some c ∧ c.noted = true ∧ c.overbud = false ∧ c.phase ≠ .parked ∧ c.start + 1000 * c.budget ≤ s.clk.el) ∧
    (let v : W32 := 0x8000003F; let s : State := { up with boards := [(63, { words := [(28, 2 ^ 29)], cmd := 7, copy := [(0, 1)] })] }; let e := bits v.toNat 0 6; HostWrites s ⟨.RUN_ABORT, 0, 0⟩ ∧ v.getLsbD 31 = true ∧ v.getLsbD 30 = false ∧ (s.board e).state = stQUEUED ∧ (s.board e).cmd < 8 ∧ (s.board e).fcode = none ∧ s.boardBusy e = false) :=
  ⟨by decide +kernel,
   by unfold HostWrites; decide +kernel⟩

theorem witness_CurtainsRunToZeroStorage :
    (let v : W32 := 0x3FF; let s : State := up.put RST_CURTBAY_BAYS (2 ^ 64 - 1); HostWrites s ⟨.RST_CURTCTL, 0, 0⟩ ∧ v.getLsbD 9 = true ∧ s.curtQ = none) ∧
    (let c := { bays := 1, grm := 0x80, keep := false }; let s : State := { up with curtQ := some c, bays := [(0, { wings := [(3, 4)] })] }.put RST_CURTSTAT_QUEUED 1; s.clocked = true ∧ s.curt = none ∧ s.curtQ = some c ∧ s.ro.cmds = []) ∧
    (let c := { bays := 1, grm := 0x80, keep := false }; let s : State := { up with curt := some c, bays := [(0, { wings := [(3, 4)], arrs := [(0, { acc := [(1, 1)] })], cueMem := [(0, 1)], held := [(1, 2)] }), (1, { wings := [(3, 4)] })], dies := [(6, { green := [(0, 1)] }), (7, { green := [(0, 1)] })] }; s.clocked = true ∧ s.curt = some c ∧ s.curtainReady = true ∧ c.keep = false) :=
  ⟨by unfold HostWrites; decide +kernel,
   by decide +kernel,
   by decide +kernel⟩

theorem witness_MarginChecksFindCandidates :
    (let lb := 63; let margin := 255; let s : State := { up with bays := [(70, { check := true })] }.put UST_MARGIN_LOWRUN 1 0 70; let p := s.phys lb; lb < 64 ∧ s.clocked = true ∧ (s.bay p).check = true ∧ (s.bay p).bankFix = [] ∧ (s.bay p).rowFix = [] ∧ s.get UST_CFG_MARGIN ≤ margin ∧ margin < 256) ∧
    (let lb := 63; let margin := 0; let b := 8; let s : State := sets { up with bays := [(70, { check := true })] } [(UST_MARGIN_LOWRUN, 1, 0, 70), (UST_CFG_MARGIN, 1, 0, 0), (UST_CFG_AUTO, 0, 0, 0)]; let p := s.phys lb; lb < 64 ∧ s.clocked = true ∧ (s.bay p).check = true ∧ (s.bay p).bankFix = [] ∧ (s.bay p).rowFix = [] ∧ margin < s.get UST_CFG_MARGIN ∧ s.get UST_MARGIN_LOWRUN 0 p = 1 ∧ s.flag UST_CFG_AUTO = false ∧ s.understudyOf (lb / 8) = some b ∧ (s.die (lb / 8)).swap = none) ∧
    (let v : W32 := 0x8000003F; let b := 8; let s : State := up; let lb := bits v.toNat 0 6; HostWrites s ⟨.UST_SWAP, 0, 0⟩ ∧ v.getLsbD 31 = true ∧ s.understudyOf (lb / 8) = some b ∧ (s.die (lb / 8)).swap = none ∧ s.flag UST_STAT_CAND = false) :=
  ⟨by decide +kernel,
   by decide +kernel,
   by unfold HostWrites; decide +kernel⟩

theorem witness_UnderstudyTakesTheBay :
    (let d := 7; let margin := 255; let w := ({ lbay := 63 } : Swap); let b := 8; let s : State := { up with dies := [(7, { swap := some w })] }.put RUN_STAT_ACTIVE 1; d < 8 ∧ s.clocked = true ∧ (s.die d).swap = some w ∧ w.checked = false ∧ s.understudyOf d = some b ∧ s.get UST_CFG_MARGIN ≤ margin ∧ s.flag RUN_STAT_ACTIVE = true) ∧
    (let d := 7; let margin := 255; let w := ({ lbay := 63 } : Swap); let b := 8; let s : State := { up with dies := [(7, { swap := some w })] }; d < 8 ∧ s.clocked = true ∧ (s.die d).swap = some w ∧ w.checked = false ∧ s.understudyOf d = some b ∧ s.get UST_CFG_MARGIN ≤ margin ∧ s.flag RUN_STAT_ACTIVE = false ∧ s.frozen = none ∧ s.flag FAB_MPSTAT_OPEN = false ∧ s.shed = false ∧ w.inF0 = false ∧ s.beHolders [w.lbay] = [] ∧ (s.bay (s.phys w.lbay)).check = false ∧ (∀ x, x < 8 → x ≠ d → (s.die x).swap = none)) ∧
    (let d := 7; let margin := 0; let w := ({ lbay := 63 } : Swap); let b := 8; let s : State := { up with dies := [(7, { swap := some w })] }.put UST_CFG_MARGIN 1; d < 8 ∧ s.clocked = true ∧ (s.die d).swap = some w ∧ w.checked = false ∧ s.understudyOf d = some b ∧ margin < s.get UST_CFG_MARGIN) ∧
    (let d := 7; let w := ({ lbay := 63, checked := true, inF0 := true } : Swap); let b := 8; let s : State := { up with bays := [(70, { wings := [(3, 4)], held := [(1, 2)] }), (0, { wings := [(3, 4)] })], dies := [(7, { swap := some w })] }; d < 8 ∧ s.clocked = true ∧ s.flag RUN_STAT_ACTIVE = false ∧ (s.die d).swap = some w ∧ w.inF0 = true ∧ w.copied = false ∧ w.lbay / 8 = d ∧ s.understudyOf d = some b ∧ s.phys w.lbay ≠ 9 * d + b ∧ s.phys w.lbay / 9 = d ∧ s.bayAtRest (s.phys w.lbay) = true) :=
  ⟨by decide +kernel,
   by decide +kernel,
   by decide +kernel,
   by decide +kernel⟩

theorem witness_WiresPhasesAndCoresFail :
    (let d := 7; let s : State := { up with nv := { up.nv with wires := [((2 * 8 + 7) * 4 + 3, 2)] } }; d < 8 ∧ s.clocked = true) ∧
    (let rail := 5; let s : State := { up with env := { up.env with phases := [(5, 2)] } }; s.powered = true ∧ Tab.get 0 s.env.phases rail = 2) ∧
    (let rail := 5; let s : State := { up with env := { up.env with phases := [(5, 1)] } }; s.powered = true ∧ Tab.get 0 s.env.phases rail < 2) ∧
    (let s : State := up; s.powered = true ∧ s.flag UST_COLVEL_NOSTBY = false) :=
  ⟨by decide +kernel,
   by decide +kernel,
   by decide +kernel,
   by decide +kernel⟩

theorem witness_FelsynPortsComeUpAndGoDown :
    (let p := 15; let s : State := (cabled.put FAB_PORTSTAT_STATE 1 15).setFport 15 { peerPort := some 9 }; p < 16 ∧ s.clocked = true ∧ s.portRuns p = true ∧ s.portUp p = false ∧ s.partner p ≠ .other ∧ (s.isTroupe p = true → (s.fport p).peerPort.isSome = true ∧ s.peerRight p (s.get FAB_PORTSTAT_PEERDEV p) = true)) ∧
    (let p := 15; let s : State := { (cabled.put FAB_PORTSTAT_STATE 1 15) with partners := [(15, LinkOffer.other)] }; p < 16 ∧ s.clocked = true ∧ s.portRuns p = true ∧ s.portUp p = false ∧ s.partner p = .other) ∧
    (let p := 14; let s : State := cabled; p < 16 ∧ s.clocked = true ∧ s.portUp p = true ∧ s.portRuns p = true ∧ s.isTroupe p = false) ∧
    (let p := 15; let lane := 3; let s : State := cabled; p < 16 ∧ s.clocked = true ∧ s.get FAB_PORTSTAT_STATE p = 2 ∧ lane < 4 ∧ (s.get FAB_PORTSTAT_LANES p).testBit lane = true) ∧
    (let f : Frame := framed { port := 15, typ := 10, src := 4095, payload := [1, 2, 3, 4, 9, 0, 0, 0] }; let s : State := cabled.put FAB_PORTSTAT_STATE 1 15; f.port < 16 ∧ s.clocked = true ∧ f.typ = tHELLO ∧ s.frameGood f = (s, true) ∧ s.isTroupe f.port = true ∧ s.portRuns f.port = true ∧ s.portUp f.port = false ∧ s.peerRight f.port f.src = true ∧ f.src < 4096) ∧
    (let p := 15; let s : State := marks cabled [⟨.FAB_PORTERR, 15, 0⟩, ⟨.FAB_PORTTX, 15, 0⟩, ⟨.FAB_PORTRX, 15, 0⟩, ⟨.FAB_PORTRX, 14, 0⟩]; let v : W32 := BitVec.ofNat 32 ((cabled.raw ⟨.FAB_PORTCTL, 15, 0⟩).toNat + 1); p < 16 ∧ HostWrites s ⟨.FAB_PORTCTL, p, 0⟩ ∧ v.getLsbD 0 = true ∧ bits v.toNat 29 2 ≠ 3 ∧ bits v.toNat 26 6 = bits (s.raw ⟨.FAB_PORTCTL, p, 0⟩).toNat 26 6) :=
  ⟨by decide +kernel,
   by decide +kernel,
   by decide +kernel,
   by decide +kernel,
   by decide +kernel,
   by unfold HostWrites; decide +kernel⟩

theorem witness_FramesAreAcknowledgedAndResent :
    (let f : Frame := framed { port := 15, typ := 7, src := 4095, ack := 2 }; let s : State := { cabled with fab := { cabled.fab with ports := [(15, { unacked := [{ port := 15, typ := 1, seq := 1 }, { port := 15, typ := 1, seq := 2 }] })] } }; f.port < 16 ∧ s.clocked = true ∧ f.typ = tLACK ∧ s.portUp f.port = true ∧ s.frameGood f = (s, true) ∧ s.isTroupe f.port = true ∧ f.part = 0 ∧ (s.fport f.port).waiting = []) ∧
    (let f : Frame := framed { port := 14, typ := 8, src := 5, ack := 2, payload := [1, 0, 0, 0, 0, 0, 0, 0] }; let s : State := { cabled with fab := { cabled.fab with flows := [(5, { unacked := [({ port := 14, typ := 2, seq := 1 }, 0), ({ port := 14, typ := 2, seq := 2 }, 0), ({ port := 14, typ := 2, seq := 3 }, 0)] })] } }; f.port < 16 ∧ s.clocked = true ∧ f.typ = tEACK ∧ s.portUp f.port = true ∧ s.frameGood f = (s, true) ∧ s.isSwitch f.port = true ∧ (s.flow f.src).waiting = []) ∧
    (let p := 15; let f := framed { port := 15, typ := 1, src := 4088, seq := 1, payload := [1] }; let s : State := { cabled with fab := { cabled.fab with ports := [(15, { unacked := [f] })] } }; p < 16 ∧ s.clocked = true ∧ s.isTroupe p = true ∧ s.portUp p = true ∧ (s.fport p).unacked = [f]) ∧
    (let d := 5; let q := 1; let n := 7; let p := 14; let f := framed { port := 14, typ := 2, src := 4088, seq := 1, payload := [1] }; let s : State := { cabled with fab := { cabled.fab with flows := [(5, { unacked := [(f, 7)] })] } }; s.clocked = true ∧ ((s.flow d).unacked.find? fun u => u.1.seq == q) = some (f, n) ∧ (n < 8 ∨ f.typ = tSNAP) ∧ s.nextPlane f.port = some p) ∧
    (let d := 5; let q := 1; let n := 8; let f := framed { port := 14, typ := 2, src := 4088, seq := 1, payload := [1] }; let s : State := { cabled with fab := { cabled.fab with flows := [(5, { unacked := [(f, 8)] })] } }; s.clocked = true ∧ ((s.flow d).unacked.find? fun u => u.1.seq == q) = some (f, n) ∧ 8 ≤ n ∧ f.typ ≠ tSNAP ∧ (s.flow d).waiting = []) :=
  ⟨by decide +kernel,
   by decide +kernel,
   by decide +kernel,
   by decide +kernel,
   by decide +kernel⟩

theorem witness_TimeIsExchangedAndSet :
    (let d := 3968; let p := 14; let s : State := cabled; s.clocked = true ∧ s.flag FAB_TOPO_JOINED = true ∧ s.parent = some d ∧ s.timePort d = some p) ∧
    (let f : Frame := framed { port := 14, typ := 9, src := 3968, payload := [0, 0, 0, 0, 0, 0, 0, 0, 0xE8, 3, 0, 0, 0, 0, 0, 0, 0xE8, 3, 0, 0, 0, 0, 0, 0, 1, 0, 0, 0, 0, 0, 0, 0] }; let s : State := { cabled with clk := { sys := 5000 } }; let st (i : Nat) : Int := leVal ((f.payload.drop (8 * i)).take 8); let off : Int := ((st 1 - st 0) - (st 3 - st 2)) / 2; f.port < 16 ∧ s.clocked = true ∧ f.typ = tTIME ∧ s.portUp f.port = true ∧ s.frameGood f = (s, true) ∧ s.parent = some f.src ∧ st 3 ≠ 0 ∧ -1000 ≤ off ∧ off ≤ 1000) ∧
    (let f : Frame := framed { port := 14, typ := 9, src := 3968, payload := [0, 0, 0, 0, 0, 0, 0, 0, 0xE8, 0x13, 0, 0, 0, 0, 0, 0, 0xE8, 0x13, 0, 0, 0, 0, 0, 0, 1, 0, 0, 0, 0, 0, 0, 0] }; let s : State := { cabled with clk := { sys := 6000 } }; let st (i : Nat) : Int := leVal ((f.payload.drop (8 * i)).take 8); let off : Int := ((st 1 - st 0) - (st 3 - st 2)) / 2; f.port < 16 ∧ s.clocked = true ∧ f.typ = tTIME ∧ s.portUp f.port = true ∧ s.frameGood f = (s, true) ∧ s.parent = some f.src ∧ st 3 ≠ 0 ∧ (off < -1000 ∨ 1000 < off) ∧ -32768 ≤ off ∧ off < 32768 ∧ off ≤ s.clk.sys) ∧
    (let d := 3968; let s : State := { cabled with clk := { el := 10000000 } }; s.clocked = true ∧ s.flag FAB_TOPO_JOINED = true ∧ s.parent = some d ∧ s.fab.lastExchange + 10000000 ≤ s.clk.el) ∧
    (let s : State := up; HostWrites s ⟨.FAB_TIMESET, 0, 0⟩ ∧ s.devno = 0) ∧
    (let v := 500000000; let e := 7; let s : State := { up with clk := { el := 7 }, fab := { up.fab with timeSet := some (500000000, 7) } }; s.powered = true ∧ s.devno = 0 ∧ s.fab.timeSet = some (v, e)) ∧
    (let s : State := { up with clk := { sys := 499989999 } }; s.powered = true ∧ s.devno = 0 ∧ s.fab.timeSet = none) ∧
    (let s : State := up; s.powered = true) :=
  ⟨by decide +kernel,
   by decide +kernel,
   by decide +kernel,
   by decide +kernel,
   by unfold HostWrites; decide +kernel,
   by decide +kernel,
   by decide +kernel,
   by decide +kernel⟩

theorem witness_MilepostsOpenAndComplete :
    (let id := 3; let c := { theRun 3 with op := 3, mask := 0 }; let s : State := (milepost { cid := some 3, k := 7, tk := 5 }).put FAB_TOPO_JOINED 0 |> fun s => { s with clk := { sys := 5 } }; (∀ e i, c.src = .board e i → (s.board e).scodes = []) ∧ s.clocked = true ∧ ringsOff s ∧ s.mp.cid = some id ∧ s.cmd id = some c ∧ c.phase = .running ∧ c.scodes = [] ∧ c.fcode = none ∧ c.op = 3 ∧ s.mp.opened = false ∧ s.mp.tk ≤ s.clk.sys ∧ s.flag FAB_TOPO_JOINED = false ∧ (∀ p, p < 4 → s.get TLH_SHARDCNT_COUNT p = 0)) ∧
    (let id := 3; let c := { theRun 3 with op := 3, mask := 0 }; let s : State := milepost { cid := some 3, k := 7, opened := true }; let x := s.xent 0; s.clocked = true ∧ ringsOff s ∧ s.mp.cid = some id ∧ s.cmd id = some c ∧ c.scodes = [] ∧ c.fcode = none ∧ s.deadlineDue 3 = true ∧ s.get FAB_XTCNT_COUNT = 1 ∧ x.bundles = 1 ∧ s.owns x = true ∧ (∃ q ∈ x.paramParts, s.mp.parts.contains (0, 0, q) = false)) :=
  ⟨⟨(fun _ _ h => by cases h), by unfold ringsOff; decide +kernel⟩,
   by unfold ringsOff; decide +kernel⟩

theorem witness_ContributionsAreAddedAndBundlesClose :
    (let f : Frame := contribF; let backup := false; let s : State := contribS; let u : State := (s.receive f).1; let v := (u.entryAccess f.shard).1; let x := v.xent f.shard; Arrives s f tCONTRIB u v ∧ ringsOff s ∧ v.takesPart = true ∧ v.role0 x = some backup ∧ f.milepost = s.mp.k ∧ f.rev = s.mp.k % 65536 ∧ (s.bundle0 f.shard f.bundle backup).from_.contains f.src = false ∧ s.mp.tk ≤ s.clk.sys + 1000 ∧ s.clk.sys ≤ s.deadline 0 ∧ v.unpermitted (x.work + 32768 * f.bundle) 32768 true = none ∧ v.unpermitted (x.work + 32768 * x.bundles + 64 * f.bundle) 64 true = none ∧ (s.bundle0 f.shard f.bundle backup).closed = false ∧ (s.bundle0 f.shard f.bundle backup).from_.length < 7) ∧
    (let f : Frame := framed { port := 15, typ := 1, src := 4095, milepost := 6, rev := 7, payload := [1] }; let backup := false; let s : State := milepost { cid := some 3, k := 7, tk := 1000 }; let u : State := (s.receive f).1; let v := (u.entryAccess f.shard).1; let x := v.xent f.shard; Arrives s f tCONTRIB u v ∧ v.takesPart = true ∧ v.allParts = false ∧ v.role0 x = some backup ∧ f.milepost ≠ s.mp.k) ∧
    (let backup := false; let s : State := milepost { cid := some 3, k := 7, opened := true, b0 := [{ shard := 0, bundle := 0, backup := false, count := 1, sums := [5] }] }; s.clocked = true ∧ s.deadlineDue 0 = true ∧ s.get FAB_XTCNT_COUNT = 1 ∧ (s.xent 0).bundles = 1 ∧ s.role0 (s.xent 0) = some backup) ∧
    (let backup := false; let s : State := milepost { cid := some 3, k := 7, opened := true }; s.clocked = true ∧ s.deadlineDue 1 = true ∧ s.get FAB_XTCNT_COUNT = 1 ∧ (s.xent 0).bundles = 1 ∧ s.role1 (s.xent 0) = some backup) ∧
    (let s : State := milepost { cid := some 3, k := 7, opened := true }; s.clocked = true ∧ s.deadlineDue 2 = true ∧ s.get FAB_XTCNT_COUNT = 1 ∧ (s.xent 0).bundles = 1 ∧ s.owns (s.xent 0) = true) :=
  ⟨⟨⟨by decide +kernel, by decide +kernel, rfl, Prod.ext rfl (by decide +kernel), by decide +kernel, Prod.ext rfl (by decide +kernel), by decide +kernel⟩, by unfold ringsOff; decide +kernel⟩,
   ⟨⟨by decide +kernel, by decide +kernel, rfl, Prod.ext rfl (by decide +kernel), by decide +kernel, Prod.ext rfl (by decide +kernel), by decide +kernel⟩, by decide +kernel⟩,
   by decide +kernel,
   by decide +kernel,
   by decide +kernel⟩

theorem witness_SumsParametersAndSnapshotsArrive_3 :
    (let f : Frame := framed { port := 15, typ := 6, src := 4095, milepost := 7 }; let p := 15; let s : State := milepost { cid := some 3, k := 7 }; let u : State := (s.receive f).1; let v := (u.entryAccess f.shard).1; let x := v.xent f.shard; let k := revMilepost s.mp.k (scaleRev (v.devBytes (x.scaleAddr f.bundle) 64)); Arrives s f tPREQ u v ∧ s.flag FAB_TOPO_JOINED = true ∧ ddrSound s ∧ v.unpermitted (x.scaleAddr f.bundle) 64 false = none ∧ inDdr s (x.scaleAddr f.bundle) 64 ∧ (∀ q ∈ x.paramParts, v.unpermitted (x.partPlace f.bundle k q).1 (x.partPlace f.bundle k q).2 false = none ∧ inDdr s (x.partPlace f.bundle k q).1 (x.partPlace f.bundle k q).2) ∧ v.owns x = true ∧ u.inTroupe f.src = true ∧ u.cable (devPos f.src) = some p ∧ (u.fport p).waiting = [] ∧ (u.fport p).unacked = []) :=
  ⟨⟨by decide +kernel, by decide +kernel, rfl, Prod.ext rfl (by decide +kernel), by decide +kernel, Prod.ext rfl (by decide +kernel), by decide +kernel⟩, by decide +kernel, by unfold ddrSound; decide +kernel, by decide +kernel, by unfold inDdr; decide +kernel, by unfold inDdr; decide +kernel, by decide +kernel, by decide +kernel, by decide +kernel, by decide +kernel, by decide +kernel⟩

theorem witness_SumsParametersAndSnapshotsArrive :
    (let f : Frame := framed { port := 15, typ := 2, level := 1, src := 4095, milepost := 7, ncontr := 8, payload := [1, 0, 0xFF, 0xFF] }; let s : State := contribS; let u : State := (s.receive f).1; let v := (u.entryAccess f.shard).1; let x := v.xent f.shard; Arrives s f tSUM u v ∧ f.level = 1 ∧ (v.role1 x).isSome = true ∧ f.part = 0 ∧ f.milepost = s.mp.k ∧ s.mp.cid.isSome = true ∧ s.mp.opened = false ∧ s.clk.sys ≤ s.deadline 1 ∧ v.unpermitted (x.work + 32768 * f.bundle) 32768 true = none ∧ v.unpermitted (x.work + 32768 * x.bundles + 64 * f.bundle) 64 true = none ∧ s.mp.copies = []) ∧
    (let f : Frame := framed { port := 15, typ := 3, part := 1, src := 4095, milepost := 7, payload := List.replicate 512 7 }; let s : State := milepost { cid := some 3, k := 7 }; let u : State := (s.receive f).1; let v := (u.entryAccess f.shard).1; let x := v.xent f.shard; let pl := x.partPlace f.bundle f.milepost f.part; let rev := x.scaleAddr f.bundle + 40; Arrives s f tPARAM u v ∧ x.paramParts.contains f.part = true ∧ s.owns x = true ∧ s.mp.opened = false ∧ f.milepost = s.mp.k ∧ ddrSound s ∧ v.unpermitted (x.scaleAddr f.bundle) 64 false = none ∧ inDdr s (x.scaleAddr f.bundle) 64 ∧ notOlder f.milepost (scaleRev (v.ddrBytes (x.scaleAddr f.bundle) 64)) = true ∧ pl.2 ≤ f.payload.length ∧ v.unpermitted pl.1 pl.2 true = none ∧ inDdr s pl.1 pl.2 ∧ (f.part = 0 → v.unpermitted rev 2 true = none)) ∧
    (let f : Frame := framed { port := 15, typ := 5, src := 4095, milepost := 7 }; let s : State := milepost { cid := some 3, k := 7 }; let u : State := (s.receive f).1; let v := (u.entryAccess f.shard).1; Arrives s f tRESYNC u v ∧ s.mp.preqs.contains (f.shard, f.bundle) = false) ∧
    (let f : Frame := framed { port := 15, typ := 6, src := 4095, milepost := 7 }; let p := 15; let s : State := milepost { cid := some 3, k := 7 }; let u : State := (s.receive f).1; let v := (u.entryAccess f.shard).1; let x := v.xent f.shard; let k := revMilepost s.mp.k (scaleRev (v.devBytes (x.scaleAddr f.bundle) 64)); Arrives s f tPREQ u v ∧ s.flag FAB_TOPO_JOINED = true ∧ ddrSound s ∧ v.unpermitted (x.scaleAddr f.bundle) 64 false = none ∧ inDdr s (x.scaleAddr f.bundle) 64 ∧ (∀ q ∈ x.paramParts, v.unpermitted (x.partPlace f.bundle k q).1 (x.partPlace f.bundle k q).2 false = none ∧ inDdr s (x.partPlace f.bundle k q).1 (x.partPlace f.bundle k q).2) ∧ v.owns x = true ∧ u.inTroupe f.src = true ∧ u.cable (devPos f.src) = some p ∧ (u.fport p).waiting = [] ∧ (u.fport p).unacked = []) ∧
    (let f : Frame := snapF; let s : State := snapS; let u : State := (s.receive f).1; let a := leVal (f.payload.take 8); let bs := f.payload.drop 8; let m : Milepost := { s.mp with snapHave := (a, bs.length) :: s.mp.snapHave, snapRx := s.mp.snapRx.writeN a bs, snapWait := [(a, bs)] }; let crcs := m.chunks.map fun c => (c.1 + c.2, 8); s.receive f = (u, true) ∧ f.port < 16 ∧ s.clocked = true ∧ f.typ = tSNAP ∧ u.unpermitted a bs.length true = none ∧ s.mp.snapWait = [] ∧ (s.mp.snapHave.any fun r => decide (r.1 < a + bs.length) && decide (a < r.1 + r.2)) = false ∧ (∀ i, i < bs.length → inRanges (m.headers.dedup.map (fun h => (h, 64)) ++ m.chunks ++ crcs) (a + i) = true) ∧ ddrSound s ∧ inDdr s a bs.length) :=
  ⟨⟨⟨by decide +kernel, by decide +kernel, rfl, Prod.ext rfl (by decide +kernel), by decide +kernel, Prod.ext rfl (by decide +kernel), by decide +kernel⟩, by decide +kernel⟩,
   ⟨⟨by decide +kernel, by decide +kernel, rfl, Prod.ext rfl (by decide +kernel), by decide +kernel, Prod.ext rfl (by decide +kernel), by decide +kernel⟩, by unfold inDdr ddrSound; decide +kernel⟩,
   ⟨⟨by decide +kernel, by decide +kernel, rfl, Prod.ext rfl (by decide +kernel), by decide +kernel, Prod.ext rfl (by decide +kernel), by decide +kernel⟩, by decide +kernel⟩,
   witness_SumsParametersAndSnapshotsArrive_3,
   ⟨Prod.ext rfl (by decide +kernel), by unfold inDdr ddrSound; decide +kernel⟩⟩

theorem witness_ShedsFollowTheirConditions :
    (let s : State := { (ordered (theRun 3)) with clk := { el := 5 } }; s.powered = true ∧ s.shed = false) ∧
    (let s : State := sets { up with pins := { shedN := false } } [(ENV_STAT_SHED, 1, 0, 0), (ENV_STAT_PIN, 1, 0, 0), (RUN_STAT_SHED, 1, 0, 0), (ENV_STAT_LEVEL, 19, 0, 0)]; s.powered = true ∧ s.shed = true ∧ s.get ENV_CTL_SHED = 0 ∧ s.get ENV_STAT_SAG = 0 ∧ s.get ENV_STAT_DROP = 0 ∧ noSwaps s) ∧
    (let v : W32 := 2; let s : State := up; HostWrites s ⟨.ENV_CTL, 0, 0⟩ ∧ v.getLsbD 1 = true ∧ v.getLsbD 0 = false ∧ v.getLsbD 2 = false ∧ s.shed = false) ∧
    (let vin := 4399; let s : State := up; s.powered = true ∧ s.shed = false ∧ s.get ENV_STAT_SAG = 0 ∧ vin < 4400) ∧
    (let vin := 4500; let s : State := sets up [(ENV_STAT_SHED, 1, 0, 0), (ENV_STAT_SAG, 1, 0, 0), (RUN_STAT_SHED, 1, 0, 0), (ENV_STAT_LEVEL, 19, 0, 0)]; s.powered = true ∧ s.shed = true ∧ s.get ENV_STAT_SAG = 1 ∧ s.get ENV_STAT_DROP = 0 ∧ s.get ENV_STAT_PIN = 0 ∧ s.get ENV_CTL_SHED = 0 ∧ 4500 ≤ vin ∧ vin < 2 ^ 16 ∧ noSwaps s) ∧
    (let vin := 3599; let s : State := up; s.powered = true ∧ s.get ENV_STAT_DROP = 0 ∧ vin < 3600) ∧
    (let vin := 5800; let s : State := up; s.powered = true ∧ 5800 ≤ vin ∧ vin ≤ 7200) ∧
    (let vin := 5801; let s : State := up; s.powered = true ∧ s.get ENV_STAT_DROP = 0 ∧ 5800 < vin ∧ vin < 2 ^ 16) :=
  ⟨by decide +kernel,
   by unfold noSwaps; decide +kernel,
   by unfold HostWrites; decide +kernel,
   by decide +kernel,
   by unfold noSwaps; decide +kernel,
   by decide +kernel,
   by decide +kernel,
   by decide +kernel⟩

theorem witness_EnvelopeVerifiesActsAndMeters :
    (let v : W32 := 1; let s : State := up.put ENV_SCHEDBASE_ADDR 0x1000; HostWrites s ⟨.ENV_CTL, 0, 0⟩ ∧ v.getLsbD 0 = true ∧ v.getLsbD 2 = false ∧ b2n (v.getLsbD 1) = s.get ENV_CTL_SHED ∧ shedSettled s ∧ s.get TAB_STAT_STATE = 0 ∧ s.get ENV_STAT_LBUSY = 0) ∧
    (let v : W32 := 4; let s : State := marks up [⟨.ENV_CNT, 0, 0⟩]; HostWrites s ⟨.ENV_CTL, 0, 0⟩ ∧ v.getLsbD 0 = false ∧ v.getLsbD 2 = true ∧ b2n (v.getLsbD 1) = s.get ENV_CTL_SHED ∧ shedSettled s ∧ s.get TAB_STAT_STATE = 0) ∧
    (let src := .host 0x1000; let s : State := { wide with env := { up.env with load := some src } }.put ENV_STAT_LBUSY 1; let u : State := (s.schedImage src).1; let img := (s.schedImage src).2; s.powered = true ∧ s.env.load = some src ∧ s.schedImage src = (u, img)) ∧
    (let vin := 65535; let iin := 65535; let dt := 10; let s : State := up; s.powered = true ∧ 0 < dt ∧ dt ≤ 125000 ∧ s.shed = false ∧ s.frozen = none ∧ s.env.accepted = none ∧ s.env.cur = none ∧ s.get ENV_STAT_THERM = 0 ∧ vin < 2 ^ 16 ∧ iin < 2 ^ 16) ∧
    (let die := 11; let temp := 95; let s : State := up; die < 12 ∧ s.powered = true ∧ s.get PWR_TEMP_NOW die < 95 ∧ 95 ≤ temp ∧ temp < 256) ∧
    (let flow := 399; let inlet := 41; let outlet := 255; let s : State := up; s.powered = true ∧ flow < 2 ^ 16 ∧ inlet < 256 ∧ outlet < 256) ∧
    (let s : State := up.put ENV_MMSTAT_NEXTSEQ 4294967295; s.powered = true ∧ s.nv.powerFail = none ∧ s.get ENV_MMSTAT_COUNT ≤ 204) :=
  ⟨by unfold HostWrites shedSettled; decide +kernel,
   by unfold HostWrites shedSettled; decide +kernel,
   by decide +kernel,
   by decide +kernel,
   by decide +kernel,
   by decide +kernel,
   by decide +kernel⟩

theorem witness_PowerFailsAndReturns :
    (let bulk := 100; let s : State := { wide with mem := [(0, 1)] }.put ENV_STAT_DROP 1; s.powered = true ∧ (s.flag ENV_STAT_DROP = true ∨ bulk < 4000)) ∧
    (let s : State := { up with boot := { power := .dark }, mem := [(0, 1)] }; s.boot.power = .dark) ∧
    (let s : State := { wide with mem := [(0, 1)], clk := { el := 7 } }; s.powered = true) ∧
    (let s : State := { wide with mem := [(0, 1)] }; s.powered = true) ∧
    (let die := 11; let s : State := { wide with mem := [(0, 1)] }; die < 12 ∧ s.powered = true) ∧
    (let vin := 4400; let s : State := sets up [(ENV_STAT_DROP, 1, 0, 0), (ENV_STAT_SAG, 1, 0, 0), (ENV_STAT_SHED, 1, 0, 0)]; s.powered = true ∧ s.flag ENV_STAT_DROP = true ∧ s.get ENV_STAT_SAG = 1 ∧ s.shed = true ∧ 4400 ≤ vin ∧ vin < 2 ^ 16) ∧
    (let vin := 4400; let s : State := { up with boot := { power := .dark }, mem := [(0, 1)], pins := { pwrOk := false } }; s.boot.power = .dark ∧ s.pins.pwrEn = true ∧ 4400 ≤ vin) ∧
    (let s : State := { up with boot := { power := .off }, pins := { pwrEn := false, pwrOk := false }, pending := [.ppsOut] }; s.boot.power = .off) :=
  ⟨by decide +kernel,
   by decide +kernel,
   by decide +kernel,
   by decide +kernel,
   by decide +kernel,
   by decide +kernel,
   by decide +kernel,
   by decide +kernel⟩

theorem witness_CentralReaderRecordsAndCounts :
    (let s : State := sets up [(OBS_DUMP_EN, 1, 0, 0), (OBS_RINGCTL_EN, 1, 0, 0)]; s.clocked = true ∧ s.flag OBS_DUMP_EN = true ∧ s.flag OBS_RINGCTL_EN 0 = true) ∧
    (let s : State := up.put OBS_DUMP_EN 1; s.powered = true ∧ s.flag OBS_DUMP_EN = true ∧ s.flag OBS_RINGCTL_EN 0 = false) ∧
    (let n := 7; let s : State := { up.put OBS_BWSEL_EN 1 0 7 with obs := { up.obs with bwCount := [(7, 5)] } }; n < 8 ∧ s.clocked = true ∧ s.flag OBS_BWSEL_EN 0 n = true) ∧
    (let s : State := sets up [(OBS_EVT_TRIG, 1, 0, 0), (OBS_PHOTOCTL_EN, 1, 0, 15), (OBS_PHOTOCTL_MODE, 1, 0, 15), (OBS_PHOTOCTL_EN, 1, 0, 14)]; s.clocked = true ∧ s.flag OBS_EVT_TRIG = true) ∧
    (let s : State := up; HostWrites s ⟨.OBS_EVT, 0, 0⟩) ∧
    (let s : State := up.put OBS_STEP_NOW 4294967295; HostWrites s ⟨.OBS_STEPCTL, 0, 0⟩) ∧
    (let n := 3; let v : W32 := 0xC0000001; let s : State := sets up [(OBS_RINGWR_WR, 64, 3, 0), (OBS_RINGRD_RD, 64, 3, 0)]; n < 4 ∧ HostWrites s ⟨.OBS_RINGCTL, n, 0⟩ ∧ v.getLsbD 31 = true) :=
  ⟨by decide +kernel,
   by decide +kernel,
   by decide +kernel,
   by decide +kernel,
   by unfold HostWrites; decide +kernel,
   by unfold HostWrites; decide +kernel,
   by unfold HostWrites; decide +kernel⟩

theorem witness_TableauFreezesAndThaws :
    (let s : State := up; s.clocked = true ∧ s.flag TAB_CTL_PINEN = true ∧ s.get TAB_STAT_STATE = 0) ∧
    (let v : W32 := 3; let s : State := up; HostWrites s ⟨.TAB_CTL, 0, 0⟩ ∧ v.getLsbD 1 = true ∧ v.getLsbD 2 = false ∧ s.get TAB_STAT_STATE = 0) ∧
    (let s : State := { up.put TAB_STAT_STATE 1 with clk := { sys := 5, el := 6 }, obs := { up.obs with tabPin := true } }; s.powered = true ∧ s.get TAB_STAT_STATE = 1 ∧ s.frozen = none) ∧
    (let s : State := { up.put TAB_STAT_STATE 1 with frozen := some (5, 6, 1) }; s.powered = true ∧ s.get TAB_STAT_STATE = 1 ∧ s.frozen.isSome = true) ∧
    (let v : W32 := 4; let s : State := { sets up [(TAB_STAT_STATE, 2, 0, 0), (TAB_STAT_RDOUT, 1, 0, 0), (TAB_STAT_PIN, 1, 0, 0)] with frozen := some (5, 6, 1) }; HostWrites s ⟨.TAB_CTL, 0, 0⟩ ∧ v.getLsbD 2 = true ∧ v.getLsbD 1 = false ∧ s.get TAB_STAT_STATE = 2) ∧
    (let sys := 5; let el := 6; let src := 1; let s : State := { up.put TAB_STAT_STATE 3 with frozen := some (5, 6, 1), clk := { sys := 9005, el := 9006 } }; s.powered = true ∧ s.get TAB_STAT_STATE = 3 ∧ s.frozen = some (sys, el, src) ∧ noSwaps s) :=
  ⟨by decide +kernel,
   by unfold HostWrites; decide +kernel,
   by decide +kernel,
   by decide +kernel,
   by unfold HostWrites; decide +kernel,
   by unfold noSwaps; decide +kernel⟩

theorem witness_ResetsLeaveTheirState :
    (let s : State := { wide with mem := [(0, 1)], clk := { sys := 5, el := 6, odo := 7 } }; HostWrites s ⟨.RST_CTL, 0, 0⟩) ∧
    (let kind : InternalKind := .noBoundary; let s : State := { wide.put RUN_STAT_ACTIVE 1 with mem := [(0, 1)], clk := { sys := 5, el := 6, odo := 7 } }; s.powered = true ∧ (kind = .noBoundary → s.flag RUN_STAT_ACTIVE = true)) ∧
    (let s : State := { wide with mem := [(0, 1)], clk := { sys := 5, el := 6, odo := 7 } }; s.powered = true) ∧
    (let s : State := { wide with mem := [(0, 1)], clk := { sys := 5, el := 6, odo := 7 } }; s.powered = true ∧ s.pins.perstN = true) ∧
    (let s : State := { up with pins := { perstN := false }, clk := { el := 6 } }; s.pins.perstN = false) :=
  ⟨by unfold HostWrites; decide +kernel,
   by decide +kernel,
   by decide +kernel,
   by decide +kernel,
   by decide +kernel⟩

theorem witness_BootReachesReady :
    (let s := State.reset; BootRuns s ∧ s.bootAt 0 = true) ∧
    (let s := State.reset; BootRuns s ∧ s.bootAt 0 = true) ∧
    (let s := sets State.reset [(RST_BOOTSTAT_STAGE, 1, 0, 0), (CLK_STAT_LOCK, 1, 0, 0)]; BootRuns s ∧ s.bootAt 1 = true ∧ s.flag CLK_STAT_LOCK = true) ∧
    (let xs := List.replicate 32 { typ := 72, organisation := 0, density := 0, bin := 0, rates := 4, temp := 255 }; let s := State.reset.put RST_BOOTSTAT_STAGE 4; BootRuns s ∧ s.bootAt 4 = true ∧ populationOk xs (s.get MEM_CFG_RATEMAX) = true) ∧
    (let xs := []; let s := State.reset.put RST_BOOTSTAT_STAGE 4; BootRuns s ∧ s.bootAt 4 = true ∧ populationOk xs (s.get MEM_CFG_RATEMAX) = false) ∧
    (let r := 0; let rs := [1]; let s := { State.reset.put RST_BOOTSTAT_STAGE 5 with mem := [(3, 4)], boot := { State.reset.boot with rates := [0, 1] } }; BootRuns s ∧ s.bootAt 5 = true ∧ s.boot.trained = false ∧ s.get RST_IMG_SLOT 0 2 ≠ 3 ∧ s.boot.keepDdr = false ∧ s.retire.chan = none ∧ s.trainRates = r :: rs ∧ r ≤ 2) ∧
    (let s := { State.reset.put RST_BOOTSTAT_STAGE 5 with mem := [(0, 1)], boot := { State.reset.boot with keepDdr := true } }; BootRuns s ∧ s.bootAt 5 = true ∧ s.boot.trained = false ∧ s.get RST_IMG_SLOT 0 2 ≠ 3 ∧ s.boot.keepDdr = true ∧ s.boot.trainedRate = s.get MEM_CFG_RATEMAX) ∧
    (let s := State.reset.put RST_BOOTSTAT_STAGE 5; BootRuns s ∧ s.boot.halted = false ∧ s.ready = false ∧ s.boot.selftest = false ∧ 5 ≤ s.get RST_BOOTSTAT_STAGE) ∧
    (let s := { State.reset.put RST_BOOTSTAT_STAGE 6 with mem := [(0, 1)], memErr := [(0, .uncorr)], boot := { State.reset.boot with trained := true } }; BootRuns s ∧ s.boot.halted = false ∧ s.ready = false ∧ s.boot.trained = true ∧ s.boot.zeroed = false) ∧
    (let s := { State.reset.put RST_BOOTSTAT_STAGE 8 with boot := { State.reset.boot with trained := true, zeroed := true, selftest := true } }; BootRuns s ∧ s.boot.halted = false ∧ s.ready = false ∧ s.boot.trained = true ∧ s.boot.zeroed = true ∧ s.boot.selftest = true ∧ s.get RST_IMG_SLOT 0 3 ≠ 3 ∧ s.get RST_IMG_SLOT 0 4 ≠ 3) :=
  ⟨by unfold BootRuns; decide +kernel,
   by unfold BootRuns; decide +kernel,
   by unfold BootRuns; decide +kernel,
   by unfold BootRuns; decide +kernel,
   by unfold BootRuns; decide +kernel,
   by unfold BootRuns; decide +kernel,
   by unfold BootRuns; decide +kernel,
   by unfold BootRuns; decide +kernel,
   by unfold BootRuns; decide +kernel,
   by unfold BootRuns; decide +kernel⟩

theorem witness_TrustRequestsAreAnswered :
    (let off := 3; let data := [4, 5]; let s : State := { up with trust := { up.trust with doePart := [1, 2, 3] } }; s.colvelUp = true ∧ s.hostUp = true ∧ s.trust.doeError = false ∧ off = s.trust.doePart.length ∧ data.length ≤ 1048564) ∧
    (let data := wordsBytes [0x5452513120000000, 0, 0, 0, 0, 0, 0, 0]; let off := 0; let s : State := up; s.colvelUp = true ∧ s.hostUp = true ∧ s.trust.doeError = false ∧ off = s.trust.doePart.length ∧ data.length ≤ 1048564 ∧ s.trust.queue = [] ∧ headed (s.trust.doePart ++ data) = true) ∧
    (let s : State := { up with trust := { up.trust with queue := [{ port := false, bytes := [1] }], doePart := [1], doeOut := [2], doeError := true } }.put SEC_STATE_BUSY 1; s.hostUp = true ∧ (s.trust.queue.filter fun m => m.port) = []) ∧
    (let m : Msg := { port := false, bytes := trustReq 0x01 0 0 [0] }; let s : State := asked m; Asked s m 0x01) ∧
    (let m : Msg := { port := true, bytes := trustReq 0x02 0 0 (List.replicate 64 7) }; let s : State := asked m; Asked s m 0x02) ∧
    (let m : Msg := { port := false, bytes := trustReq 0x10 0 0 (List.replicate 2592 7) }; let s : State := asked m; Asked s m 0x10) ∧
    (let m : Msg := { port := false, bytes := trustReq 0x11 2 9 (List.replicate 2592 7) }; let s : State := (asked m).put SEC_STATE_OPKEY 1; Asked s m 0x11) ∧
    (let m : Msg := { port := false, bytes := trustReq 0x12 1 9 [] }; let s : State := (asked m).put SEC_STATE_FACKEY 1; Asked s m 0x12) ∧
    (let m : Msg := { port := false, bytes := trustReq 0x20 1 9 [] }; let s : State := sets (asked m) [(SEC_STATE_OPKEY, 1, 0, 0), (TAB_STAT_RDOUT, 1, 0, 0)]; Asked s m 0x20) ∧
    (let m : Msg := { port := false, bytes := trustReq 0x21 1 9 [] }; let s : State := { sets (asked m) [(SEC_STATE_OPKEY, 1, 0, 0), (SEC_STATE_FACKEY, 1, 0, 0), (RUN_STAT_ACTIVE, 1, 0, 0)] with ro := { image := some theImage, cmds := [theRun 3] }, nv := { up.nv with opKey := [1], facKey := [2] }, mem := [(0, 1)] }; Asked s m 0x21 ∧ s.clocked = true) :=
  ⟨by decide +kernel,
   by decide +kernel,
   by decide +kernel,
   ⟨by decide +kernel, rfl, by decide +kernel⟩,
   ⟨by decide +kernel, rfl, by decide +kernel⟩,
   ⟨by decide +kernel, rfl, by decide +kernel⟩,
   ⟨by decide +kernel, rfl, by decide +kernel⟩,
   ⟨by decide +kernel, rfl, by decide +kernel⟩,
   ⟨by decide +kernel, rfl, by decide +kernel⟩,
   ⟨⟨by decide +kernel, rfl, by decide +kernel⟩, by decide +kernel⟩⟩

theorem witness_UpdatesWriteTheInactiveSlot :
    (let m : Msg := { port := false, bytes := trustReq 0x30 0 9 [16, 0, 0, 0, 2, 0, 0, 0] }; let s : State := asked m; Asked s m 0x30) ∧
    (let m : Msg := { port := true, bytes := trustReq 0x31 0 9 [8, 0, 0, 0, 0, 0, 0, 0, 1, 2] }; let u : Update := { target := 2, slot := 1, total := 10 }; let s : State := { asked m with trust := { (asked m).trust with update := some u } }; Asked s m 0x31 ∧ s.trust.update = some u) ∧
    (let m : Msg := { port := true, bytes := trustReq 0x32 0 9 (List.replicate 64 7) }; let u : Update := { target := 2, slot := 1, total := 10, got := [(0, 10)] }; let s : State := { asked m with trust := { (asked m).trust with update := some u } }.put SEC_STATE_UPD 1; Asked s m 0x32 ∧ s.trust.update = some u) :=
  ⟨⟨by decide +kernel, rfl, by decide +kernel⟩,
   ⟨⟨by decide +kernel, rfl, by decide +kernel⟩, by decide +kernel⟩,
   ⟨⟨by decide +kernel, rfl, by decide +kernel⟩, by decide +kernel⟩⟩

theorem witness_ManagementPortAnswers :
    (let off := 8; let s : State := up; s.colvelUp = true ∧ off % 8 = 0) ∧
    (let arg : Byte := 0; let s : State := up; s.colvelUp = true ∧ arg.toNat ≤ 1 ∧ (arg.toNat = 1 ↔ s.get ENV_CTL_SHED = 1) ∧ shedSettled s) ∧
    (let s : State := up; s.colvelUp = true ∧ s.shed = false) ∧
    (let s : State := { wide with mem := [(0, 1)], clk := { sys := 5, odo := 7 } }; s.colvelUp = true) ∧
    (let keep : Byte := 1; let s : State := up; s.colvelUp = true ∧ s.curtQ = none ∧ keep.toNat ≤ 1) ∧
    (let off := 89; let data := List.replicate 64 7; let s : State := { up with mgmt := { up.mgmt with buf := [(5695, 1), (5700, 3)] } }; s.colvelUp = true ∧ 64 * off + data.length ≤ 5760) ∧
    (let s : State := { up with mgmt := { up.mgmt with buf := [(5695, 1), (5700, 3)], have_ := [(0, 5760)] } }; s.colvelUp = true ∧ s.get ENV_STAT_LBUSY = 0 ∧ covered 5760 s.mgmt.have_ = true) ∧
    (let s : State := up; s.colvelUp = true) ∧
    (let off := 3; let s : State := { up with trust := { up.trust with mgmtPart := [1, 2, 3] } }; s.colvelUp = true ∧ off = s.trust.mgmtPart.length) ∧
    (let off := 0; let data := wordsBytes [0x5452513120000000, 0, 0, 0, 0, 0, 0, 0]; let s : State := up; s.colvelUp = true ∧ off = s.trust.mgmtPart.length ∧ s.trust.queue = [] ∧ headed (s.trust.mgmtPart ++ data) = true) ∧
    (let off := 1; let s : State := { up with trust := { up.trust with mgmtOut := List.replicate 254 7 } }; s.colvelUp = true ∧ off < s.trust.mgmtOut.length) ∧
    (let s : State := up; s.colvelUp = true) ∧
    (let s : State := { up with mgmt := { up.mgmt with result := some [1, 2] } }; s.colvelUp = true) ∧
    (let s : State := { up with trust := { up.trust with mgmtPart := [1, 2, 3] } }; s.colvelUp = true) :=
  ⟨by decide +kernel,
   by unfold shedSettled; decide +kernel,
   by decide +kernel,
   by decide +kernel,
   by decide +kernel,
   by decide +kernel,
   by decide +kernel,
   by decide +kernel,
   by decide +kernel,
   by decide +kernel,
   by decide +kernel,
   by decide +kernel,
   by decide +kernel,
   by decide +kernel⟩

theorem witness_HostReachesMemoryAndRegisters :
    (let off := 3; let len := 130; let s : State := { wide with mem := [(3, 1), (132, 5)] }; let a := s.bar2Base + off; HostTalks s ∧ s.get TAB_STAT_STATE = 0 ∧ s.ready = true ∧ s.flag MEM_ZERO_BUSY = false ∧ ddrSound s ∧ inDdr s a len ∧ 0 < len) ∧
    (let off := 61; let data := [1, 0, 3, 4]; let s : State := { wide with mem := [(60, 1), (62, 5), (65, 6)] }; let a := s.bar2Base + off; HostTalks s ∧ s.get TAB_STAT_STATE = 0 ∧ s.ready = true ∧ s.flag MEM_ZERO_BUSY = false ∧ ddrSound s ∧ inDdr s a data.length ∧ data ≠ []) ∧
    (let s : State := up; s.hostUp = true) ∧
    (let n := 43; let s : State := up; s.hostUp = true ∧ 34 ≤ n ∧ n ≤ 43) ∧
    (let s : State := up; s.hostUp = true ∧ s.host.d3 = false) ∧
    (let s : State := { up with host := { up.host with d3 := true } }; s.hostUp = true ∧ s.host.d3 = true ∧ s.host.owed = []) ∧
    (let rate := 5; let width := 16; let s : State := { up with host := { up.host with linked := true } }; s.hostUp = true ∧ s.host.linked = true ∧ rate < 8 ∧ width < 32) ∧
    (let r := ⟨.OBS_SAMPCTL, 0, 0⟩; let off := r.offset; let v : W64 := 0x80000005; let s : State := up; (∀ u, State.wrEffect u r (s.raw r).toNat (v.toNat % 2 ^ 32) = u) ∧ HostTalks s ∧ off % 4 = 0 ∧ regAt off = some r ∧ r.name.spec.width = 32 ∧ s.reaches r = true ∧ s.storable r (v.toNat % 2 ^ 32) = v.toNat % 2 ^ 32) ∧
    (let r := ⟨.CUE_RNDSEED, 71, 0⟩; let off := r.offset; let s : State := up; HostTalks s ∧ off % 4 = 0 ∧ regAt off = some r ∧ r.name.spec.width = 64 ∧ r.name.dwords = false ∧ off = r.offset ∧ s.reaches r = true) ∧
    (let e := 63; let i := 27; let s : State := up; HostTalks s ∧ s.ready = true ∧ e < 64 ∧ i < 28) :=
  ⟨by unfold inDdr ddrSound HostTalks; decide +kernel,
   by unfold inDdr ddrSound HostTalks; decide +kernel,
   by decide +kernel,
   by decide +kernel,
   by decide +kernel,
   by decide +kernel,
   by decide +kernel,
   ⟨(fun _ => rfl), by unfold HostTalks; decide +kernel⟩,
   by unfold HostTalks; decide +kernel,
   by unfold HostTalks; decide +kernel⟩

theorem witness_StepRunsTheFrontCommand :
    (let c : Instr := .ppsOut; let rest := [.status]; let s : State := { up with pending := [.ppsOut, .status] }; s.pending = c :: rest) ∧
    (let s : State := up; s.pending = []) ∧
    (let s : State := up; s.mp.todo = []) :=
  ⟨by decide +kernel,
   by decide +kernel,
   by decide +kernel⟩

theorem witness_CommandsCompleteOnUnitsThatExist :
    (let c : Instr := .set 63; Instr.wf c = true) ∧
    (let lb := 64; 64 ≤ lb) ∧
    (let e := 104; 104 ≤ e) ∧
    (let p := 72; 72 ≤ p) ∧
    (let x := 32; 32 ≤ x) ∧
    (let d := 8; 8 ≤ d) ∧
    (let p := 4; 4 ≤ p) ∧
    (let e := 8; 8 ≤ e) ∧
    (let p := 16; 16 ≤ p) ∧
    (let f : Frame := { port := 16, typ := 1 }; 16 ≤ f.port) ∧
    (let d := 12; 12 ≤ d) ∧
    (let n := 4; 4 ≤ n) ∧
    (let b := 84; 84 ≤ b) :=
  ⟨by decide +kernel,
   by decide +kernel,
   by decide +kernel,
   by decide +kernel,
   by decide +kernel,
   by decide +kernel,
   by decide +kernel,
   by decide +kernel,
   by decide +kernel,
   by decide +kernel,
   by decide +kernel,
   by decide +kernel,
   by decide +kernel⟩

theorem witness_EveryStepKeepsTheStoresCanonical :
    (let s : State := { State.reset with pending := [.ppsOut], mem := [(7, 1)] }; StoresCanonical s ∧ ∃ t, step s = .next t) := ⟨⟨by decide +kernel, fun _ => rfl, fun _ => rfl⟩, _, rfl⟩

theorem witness_CueWordsAndCuesCorrespond :
    (let q : Cue := .drain 2 5 1 true 1 true true false true true true 3 1 1023 1023 127 1 262143 262143 262143; q.fits = true) ∧
    (let w1 := (cueEncode (.wait 63 255)).1; let w0 := (cueEncode (.wait 63 255)).2; let q := .wait 63 255; w1 < 2 ^ 64 ∧ w0 < 2 ^ 64 ∧ cueReservedOk w1 w0 = true ∧ cueDecode w1 w0 = some q) :=
  ⟨by decide +kernel,
   by decide +kernel⟩

theorem witness_GeneratorsAdvanceInMixedRadix :
    (let i : Issue := { s := sets up [(CUE_AGBASE_BASE, 512, 71, 7)] }; let p := 71; let v := 0x60007; let ext := 64; let groups := 1; let store := false; let ord := 0; let step := true; let g := 7; let o := .wings (i.s.agAddr p g); let j : Issue := { i with steps := [7] }; wOp v = .gen step g ∧ i.wop p v ext groups store ord = .ok (j, o)) ∧
    (let i : Issue := { s := sets up [(CUE_AGBASE_BASE, 5, 71, 7)] }; let p := 71; let v := 0xC07; let step := true; let g := 7; let row := 5; let j : Issue := { i with steps := [7] }; aOp v = .gen step g ∧ i.aop p v = .ok (j, row)) ∧
    (let s : State := sets up [(CUE_AGDIM_EXTM1, 1, 71, 39), (CUE_AGDIM_INDEX, 0, 71, 39), (CUE_AGDIM_EXTM1, 2, 71, 35), (CUE_AGDIM_INDEX, 2, 71, 35)]; let p := 71; let g := 7; let k := 4; k < 5 ∧ (∀ j, j < k → agExtent s p g j ≤ agIndex s p g j + 1) ∧ agIndex s p g k + 1 < agExtent s p g k) ∧
    (let s : State := sets up [(CUE_AGDIM_EXTM1, 65535, 71, 39), (CUE_AGDIM_INDEX, 65535, 71, 39)]; let p := 71; let g := 7; (∀ j, j < 5 → agExtent s p g j ≤ agIndex s p g j + 1)) :=
  ⟨by decide +kernel,
   by decide +kernel,
   by unfold agExtent agIndex; decide +kernel,
   by unfold agExtent agIndex; decide +kernel⟩

theorem witness_SeedsAreFormedFromTime :
    (let device := 4095; let source := 255; device < 4096 ∧ source < 256) ∧
    (let s : State := { up with clk := { sys := 12345 } }; let lb := 63; lb < 64 ∧ (∀ l, l < 64 → l ≠ lb → s.phys l ≠ s.phys lb) ∧ (s.bay (s.phys lb)).cid = none ∧ s.flag CUE_RNDCTL_FIXED (s.phys lb) = false) ∧
    (let s : State := { up with clk := { sys := 12345 }, bays := [(70, { cid := some 3 })] }; let lb := 63; lb < 64 ∧ (∀ l, l < 64 → l ≠ lb → s.phys l ≠ s.phys lb) ∧ (s.bay (s.phys lb)).cid.isSome = true ∧ s.flag CUE_RNDCTL_FIXED (s.phys lb) = false) ∧
    (let s : State := { up with clk := { sys := 12345 } }; let p := 3; p < 4 ∧ s.flag TLH_RNDCTL_FIXED p = false) :=
  ⟨by decide +kernel,
   by decide +kernel,
   by decide +kernel,
   by decide +kernel⟩

theorem witness_AddressesSpreadOverChannelsAndBanks :
    (let b := 99; let i := 31; let j := 31; i < 32 ∧ j < 32 ∧ chanHash (65536 * b + 2048 * i) = chanHash (65536 * b + 2048 * j)) ∧
    (let k := 2047; k < 2048) ∧
    (let c := 31; c < 32) ∧
    (let a := 0xFFFFFFFFFFFF; let b := 0xFFFFFFFFFFFF; a < 2 ^ 48 ∧ b < 2 ^ 48 ∧ chanHash a = chanHash b ∧ localGranule a = localGranule b ∧ a % 2048 = b % 2048) ∧
    (let o := 0x1000300; let i := 127; let j := 127; o % 256 = 0 ∧ i < 128 ∧ j < 128 ∧ wingsBank ((o + 2 * i) / 2) = wingsBank ((o + 2 * j) / 2)) ∧
    (let o := 0x1000300; let i := 127; let j := 127; o / 2 ^ 23 = (o + 256 * 127) / 2 ^ 23 ∧ i < 128 ∧ j < 128 ∧ wingsBank ((o + 256 * i) / 2) = wingsBank ((o + 256 * j) / 2)) :=
  ⟨by decide +kernel,
   by decide +kernel,
   by decide +kernel,
   by decide +kernel,
   by decide +kernel,
   by decide +kernel⟩

end Sys2Proof.Tests
end

section
/-! What a step does with the queue of commands, and O53, which says it of every state. -/

namespace Sys2Proof.Proofs

open Sys2Proof.Machine

variable {s : State}

theorem step_of_pending_cons {c : Instr} {rest : List Instr} (h : s.pending = c :: rest) :
    step s = exec c { s with pending := rest } := by
  simp only [step, h]

theorem step_of_pending_nil (h : s.pending = []) : step s = .next s.idle := by
  simp only [step, h]

/-- Time alone leaves the milepost's record, its work on the sums included, as it stands. -/
@[simp] theorem tick_mp (s : State) : s.tick.mp = s.mp := rfl

theorem sumStep_of_todo_nil (h : s.mp.todo = []) : s.sumStep = s := by
  simp only [State.sumStep, h]

/-- With no work left on the sums an idle cycle is time alone (log entry 99). -/
theorem idle_of_todo_nil (h : s.mp.todo = []) : s.idle = s.tick :=
  sumStep_of_todo_nil (by rw [tick_mp, h])

/-- Settles O53: the two forms of the queue are the two branches of `step`, and an idle cycle goes on only with work that an
opened milepost still has. -/
theorem stepRunsTheFrontCommand : Obligations.StepRunsTheFrontCommand :=
  ⟨fun _ _ _ => step_of_pending_cons, fun _ => step_of_pending_nil, fun _ => idle_of_todo_nil⟩

end Sys2Proof.Proofs
end

section
/-! Seeds (R36 to R40, R233): the bits of a unit's seed, the value each generator loads from it, and what a seed point leaves in
each bay and each tollhouse, which settles O59. -/

namespace Sys2Proof.Proofs

open Sys2Proof.Machine Sys2Proof.Laws Sys2Proof.Claims

variable {s t : State}

/-! ## The seed and the values loaded from it (R38) -/

theorem unitSeed_isSeed (t : W64) (device source : Nat) : IsSeed (unitSeed t device source) t device source := by
  refine ⟨fun b hb => ?low, fun b hb => ?source, fun b hb => ?device⟩
  case low => simp [unitSeed, show b < 52 by omega, hb]
  case source =>
    have hmod : (source % 256).testBit b = source.testBit b := by
      simpa [hb] using Nat.testBit_mod_two_pow source 8 b
    simp [unitSeed, BitVec.getLsbD_ofNat, -BitVec.getLsbD_eq_getElem, show 44 + b < 52 by omega,
      show 44 + b < 64 by omega, show b < 64 by omega, hmod]
  case device =>
    have hdev : (device % 4096).testBit b = device.testBit b := by
      simpa [hb] using Nat.testBit_mod_two_pow device 12 b
    have hsrc : (source % 256).testBit (8 + b) = false := by
      simpa using Nat.testBit_mod_two_pow source 8 (8 + b)
    simp [unitSeed, BitVec.getLsbD_ofNat, -BitVec.getLsbD_eq_getElem, show 52 + b < 64 by omega,
      show b < 64 by omega, show 52 + b - 44 = 8 + b by omega, hdev, hsrc]

theorem ofNat_mul_mod (i c : Nat) : BitVec.ofNat 64 (i * c % 2 ^ 64) = BitVec.ofNat 64 i * BitVec.ofNat 64 c := by
  rw [← BitVec.ofNat_mul]
  exact BitVec.eq_of_toNat_eq (by simp only [BitVec.toNat_ofNat, Nat.mod_mod])

theorem lfsrLoad_eq_loadedFrom (seed : W64) (i : Nat) : lfsrLoad seed i = loadedFrom seed i := by
  have hmul := ofNat_mul_mod i 0x9E3779B97F4A7C15
  simp only [lfsrLoad, loadedFrom, hmul, BitVec.ofNat_eq_ofNat]

/-- A table listed over a range holds the function's value at each of its keys. -/
theorem get_map_range' {α : Type} (d : α) (f : Nat → α) {i a n : Nat} (ha : a ≤ i) (hn : i < a + n) :
    Tab.get d ((List.range' a n).map fun k => (k, f k)) i = f i := by
  induction n generalizing a with
  | zero => omega
  | succ n ih =>
    by_cases h : a = i
    · simp [List.range'_succ, Tab.get, h]
    · simpa [List.range'_succ, Tab.get, h] using ih (a := a + 1) (by omega) (by omega)

theorem get_map_range {α : Type} (d : α) (f : Nat → α) {i n : Nat} (h : i < n) :
    Tab.get d ((List.range n).map fun k => (k, f k)) i = f i := by
  simpa [List.range_eq_range'] using get_map_range' d f (Nat.zero_le i) (by simpa using h)

/-! ## What a seed point reads: registers only -/

theorem get_of_regs_eq (h : t.regs = s.regs) (f : Fld) (u i : Nat) : t.get f u i = s.get f u i := by
  simp only [State.get, State.raw, h]

theorem flag_of_regs_eq (h : t.regs = s.regs) (f : Fld) (u i : Nat) : t.flag f u i = s.flag f u i := by
  simp only [State.flag, get_of_regs_eq h]

theorem phys_of_regs_eq (h : t.regs = s.regs) (lb : Nat) : t.phys lb = s.phys lb := by
  simp only [State.phys, get_of_regs_eq h]

theorem deviceNo_of_regs_eq (h : t.regs = s.regs) : t.deviceNo = s.deviceNo := by
  simp only [State.deviceNo, flag_of_regs_eq h, get_of_regs_eq h]

/-! ## The steps of a seed point -/

/-- The seed of logical bay `lb` at the time `now`: its physical bay's FIXED bit puts CUE_RNDSEED in the place of the time
(R38, R40). -/
def baySeed (now : W64) (s : State) (lb : Nat) : W64 :=
  unitSeed (if s.flag CUE_RNDCTL_FIXED (s.phys lb) then BitVec.ofNat 64 (s.get CUE_RNDSEED_SEED (s.phys lb)) else now) s.deviceNo lb

/-- The T of tollhouse `p` (R40). -/
def portTime (now : W64) (s : State) (p : Nat) : W64 :=
  if s.flag TLH_RNDCTL_FIXED p then BitVec.ofNat 64 (s.get TLH_RNDSEED_SEED p) else now

/-- The seed of `lb` among those kept for later starts. -/
def listSeed (s : State) (lb : Nat) (seed : W64) : State :=
  { s with ro := { s.ro with seeds := Tab.set 0 s.ro.seeds lb seed } }

/-- A bay given a seed: its generators reload, or the seed waits for its next start (R37). -/
def takeSeed (s : State) (p : Nat) (seed : W64) : State :=
  if (s.bay p).cid.isNone then s.reseedBay p seed else s.modBay p fun b => { b with reseed := some seed }

/-- A seed point at logical bay `lb`. -/
def seedBay (now : W64) (s : State) (lb : Nat) : State :=
  takeSeed (listSeed s lb (baySeed now s lb)) (s.phys lb) (baySeed now s lb)

/-- A seed point at tollhouse `p`. -/
def seedPort (now : W64) (s : State) (p : Nat) : State := s.reseedPort p (portTime now s p)

/-- A seed point at the 64 bays. -/
def seedBays (now : W64) (s : State) : State := (List.range 64).foldl (seedBay now) s

/-- A seed point at the four tollhouses. -/
def seedPorts (now : W64) (s : State) : State := (List.range 4).foldl (seedPort now) s

/-- The seed point is no longer due. -/
def endSeedPoint (s : State) : State := { s with ro := { s.ro with seedPending := false } }

/-- The time of a seed point (R38). -/
def seedTime (s : State) : W64 := BitVec.ofNat 64 s.clk.sys

/-- A seed point seeds the bays, then the tollhouses. (The variable `u` stands for the two folds, so that they are compared
as they stand and are not run.) -/
theorem seedPoint_eq (s : State) : s.seedPoint = endSeedPoint (seedPorts (seedTime s) (seedBays (seedTime s) s)) := by
  have key : ∀ u, u = seedPorts (seedTime s) (seedBays (seedTime s) s) →
      endSeedPoint u = endSeedPoint (seedPorts (seedTime s) (seedBays (seedTime s) s)) := fun _ h => congrArg endSeedPoint h
  exact key _ rfl

theorem baySeed_of_regs_eq (h : t.regs = s.regs) (now : W64) (lb : Nat) : baySeed now t lb = baySeed now s lb := by
  simp only [baySeed, flag_of_regs_eq h, get_of_regs_eq h, phys_of_regs_eq h, deviceNo_of_regs_eq h]

theorem portTime_of_regs_eq (h : t.regs = s.regs) (now : W64) (p : Nat) : portTime now t p = portTime now s p := by
  simp only [portTime, flag_of_regs_eq h, get_of_regs_eq h]

theorem baySeed_isSeed {now : W64} {lb : Nat} (h : s.flag CUE_RNDCTL_FIXED (s.phys lb) = false) :
    IsSeed (baySeed now s lb) now s.deviceNo lb := by
  simpa [baySeed, h] using unitSeed_isSeed now s.deviceNo lb

@[simp] theorem takeSeed_regs (s : State) (p : Nat) (seed : W64) : (takeSeed s p seed).regs = s.regs := by
  unfold takeSeed; split <;> rfl

@[simp] theorem takeSeed_ro (s : State) (p : Nat) (seed : W64) : (takeSeed s p seed).ro = s.ro := by
  unfold takeSeed; split <;> rfl

theorem takeSeed_bay_ne {p q : Nat} (s : State) (seed : W64) (h : q ≠ p) : (takeSeed s p seed).bay q = s.bay q := by
  unfold takeSeed
  split <;> exact bay_modBay_ne s _ h

/-- What a seed makes of a bay. -/
def seededBay (seed : W64) (b : Bay) : Bay :=
  if b.cid.isNone then { b with lfsr := (List.range 129).map fun i => (i, lfsrLoad seed i), reseed := none }
  else { b with reseed := some seed }

theorem takeSeed_bay_self (s : State) (p : Nat) (seed : W64) : (takeSeed s p seed).bay p = seededBay seed (s.bay p) := by
  unfold takeSeed seededBay
  split <;> exact bay_modBay_self s p _

@[simp] theorem seedBay_regs (now : W64) (s : State) (lb : Nat) : (seedBay now s lb).regs = s.regs := takeSeed_regs _ _ _

theorem seedBay_bay_ne {lb q : Nat} (now : W64) (s : State) (h : q ≠ s.phys lb) : (seedBay now s lb).bay q = s.bay q :=
  takeSeed_bay_ne _ _ h

theorem seedBay_bay_self (now : W64) (s : State) (lb : Nat) :
    (seedBay now s lb).bay (s.phys lb) = seededBay (baySeed now s lb) (s.bay (s.phys lb)) := takeSeed_bay_self _ _ _

theorem seedBay_seeds (now : W64) (s : State) (lb : Nat) :
    (seedBay now s lb).ro.seeds = Tab.set 0 s.ro.seeds lb (baySeed now s lb) := by
  rw [seedBay, takeSeed_ro]; rfl

/-! ## The folds over the units -/

/-- A fold over a range in which only the step at `i` leads from `P` to `Q`, and the others keep them. -/
theorem foldl_range_visit {σ : Type} {f : σ → Nat → σ} {P Q : σ → Prop} {x : σ} {i n : Nat} (hi : i < n) (hx : P x)
    (before : ∀ y a, a < n → a ≠ i → P y → P (f y a)) (here : ∀ y, P y → Q (f y i))
    (after : ∀ y a, a < n → a ≠ i → Q y → Q (f y a)) : Q ((List.range n).foldl f x) := by
  induction n with
  | zero => omega
  | succ n ih =>
    rw [List.range_succ, List.foldl_append, List.foldl_cons, List.foldl_nil]
    by_cases h : n = i
    · subst h
      exact here _ <| List.foldlRecOn _ f hx fun y hy a ha =>
        have ha := List.mem_range.mp ha
        before y a (by omega) (by omega) hy
    · exact after _ _ (by omega) h <|
        ih (by omega) (fun y a ha => before y a (by omega)) fun y a ha => after y a (by omega)

/-- Bay `lb` of `s` has taken its seed in `t`. -/
structure BaySeeded (now : W64) (s : State) (lb : Nat) (t : State) : Prop where
  regs  : t.regs = s.regs
  bay   : t.bay (s.phys lb) = seededBay (baySeed now s lb) (s.bay (s.phys lb))
  seeds : Tab.get 0 t.ro.seeds lb = baySeed now s lb

/-- Where no two logical bays share a physical bay, each takes its seed. -/
theorem seedBays_baySeeded (now : W64) {lb : Nat} (hlb : lb < 64) (apart : ∀ l, l < 64 → l ≠ lb → s.phys l ≠ s.phys lb) :
    BaySeeded now s lb (seedBays now s) := by
  refine foldl_range_visit (P := fun t => t.regs = s.regs ∧ t.bay (s.phys lb) = s.bay (s.phys lb)) hlb ⟨rfl, rfl⟩ ?before ?here ?after
  case before =>
    rintro t l hl hne ⟨hregs, hbay⟩
    have hother : s.phys lb ≠ t.phys l := by rw [phys_of_regs_eq hregs]; exact (apart l hl hne).symm
    exact ⟨by rw [seedBay_regs, hregs], by rw [seedBay_bay_ne _ _ hother, hbay]⟩
  case here =>
    rintro t ⟨hregs, hbay⟩
    have hown := seedBay_bay_self now t lb
    rw [phys_of_regs_eq hregs, baySeed_of_regs_eq hregs, hbay] at hown
    exact ⟨by rw [seedBay_regs, hregs], hown, by rw [seedBay_seeds, get_set_self, baySeed_of_regs_eq hregs]⟩
  case after =>
    intro t l hl hne h
    have hother : s.phys lb ≠ t.phys l := by rw [phys_of_regs_eq h.regs]; exact (apart l hl hne).symm
    exact ⟨by rw [seedBay_regs, h.regs], by rw [seedBay_bay_ne _ _ hother, h.bay],
      by rw [seedBay_seeds, get_set_ne _ _ _ hne.symm, h.seeds]⟩

theorem seedBays_regs (now : W64) (s : State) : (seedBays now s).regs = s.regs :=
  List.foldlRecOn (motive := fun t : State => t.regs = s.regs) _ _ rfl fun t h lb _ => by rw [seedBay_regs, h]

theorem seedPorts_bays (now : W64) (s : State) : (seedPorts now s).bays = s.bays :=
  List.foldlRecOn (motive := fun t : State => t.bays = s.bays) _ _ rfl fun _ h _ _ => h

theorem seedPorts_ro (now : W64) (s : State) : (seedPorts now s).ro = s.ro :=
  List.foldlRecOn (motive := fun t : State => t.ro = s.ro) _ _ rfl fun _ h _ _ => h

theorem seedPort_lfsr_self (now : W64) (s : State) (p : Nat) : ((seedPort now s p).port p).lfsr =
    (List.range 64).map fun i => (i, lfsrSeed (portTime now s p) s.deviceNo (64 + p) i) := by
  rw [seedPort, State.reseedPort, port_modPort_self]

theorem seedPort_port_ne {p q : Nat} (now : W64) (s : State) (h : q ≠ p) : (seedPort now s p).port q = s.port q :=
  port_modPort_ne s _ h

/-- Each tollhouse reloads its 64 generators, with its own T and its own source number. -/
theorem seedPorts_lfsr (now : W64) (s : State) {p : Nat} (hp : p < 4) : ((seedPorts now s).port p).lfsr =
    (List.range 64).map fun i => (i, lfsrSeed (portTime now s p) s.deviceNo (64 + p) i) := by
  refine foldl_range_visit (P := fun t : State => t.regs = s.regs) (Q := fun t : State => (t.port p).lfsr = _) hp rfl
    ?before ?here ?after
  case before => exact fun _ _ _ _ h => h
  case here =>
    intro t h
    rw [seedPort_lfsr_self, portTime_of_regs_eq h, deviceNo_of_regs_eq h]
  case after =>
    intro t q _ hne h
    rw [seedPort_port_ne _ _ hne.symm, h]

/-! ## The whole seed point -/

theorem endSeedPoint_bay (s : State) (p : Nat) : (endSeedPoint s).bay p = s.bay p := rfl
theorem endSeedPoint_port (s : State) (p : Nat) : (endSeedPoint s).port p = s.port p := rfl
theorem endSeedPoint_seeds (s : State) : (endSeedPoint s).ro.seeds = s.ro.seeds := rfl

theorem seedPoint_bay (s : State) (p : Nat) : s.seedPoint.bay p = (seedBays (seedTime s) s).bay p := by
  rw [seedPoint_eq, endSeedPoint_bay, State.bay, seedPorts_bays, State.bay]

theorem seedPoint_seeds (s : State) : s.seedPoint.ro.seeds = (seedBays (seedTime s) s).ro.seeds := by
  rw [seedPoint_eq, endSeedPoint_seeds, seedPorts_ro]

theorem seedPoint_port (s : State) (p : Nat) :
    s.seedPoint.port p = (seedPorts (seedTime s) (seedBays (seedTime s) s)).port p := by
  rw [seedPoint_eq, endSeedPoint_port]

theorem seedPoint_lfsr_of_idle {lb i : Nat} (hlb : lb < 64) (apart : ∀ l, l < 64 → l ≠ lb → s.phys l ≠ s.phys lb)
    (idle : (s.bay (s.phys lb)).cid = none) (hi : i < 129) :
    Tab.get 0 (s.seedPoint.bay (s.phys lb)).lfsr i = loadedFrom (baySeed (seedTime s) s lb) i := by
  rw [seedPoint_bay, (seedBays_baySeeded _ hlb apart).bay, seededBay, if_pos (by simp [idle]), get_map_range _ _ hi,
    lfsrLoad_eq_loadedFrom]

theorem seedPoint_bay_of_running {lb : Nat} (hlb : lb < 64) (apart : ∀ l, l < 64 → l ≠ lb → s.phys l ≠ s.phys lb)
    (running : (s.bay (s.phys lb)).cid.isSome = true) :
    s.seedPoint.bay (s.phys lb) = { s.bay (s.phys lb) with reseed := some (baySeed (seedTime s) s lb) } := by
  rw [seedPoint_bay, (seedBays_baySeeded _ hlb apart).bay, seededBay, if_neg (by simp [Option.ne_none_iff_isSome, running])]

theorem seedPoint_seed {lb : Nat} (hlb : lb < 64) (apart : ∀ l, l < 64 → l ≠ lb → s.phys l ≠ s.phys lb) :
    Tab.get 0 s.seedPoint.ro.seeds lb = baySeed (seedTime s) s lb := by
  rw [seedPoint_seeds, (seedBays_baySeeded _ hlb apart).seeds]

theorem seedPoint_port_lfsr {p i : Nat} (hp : p < 4) (hi : i < 64) :
    Tab.get 0 (s.seedPoint.port p).lfsr i = loadedFrom (unitSeed (portTime (seedTime s) s p) s.deviceNo (64 + p)) i := by
  have hregs := seedBays_regs (seedTime s) s
  rw [seedPoint_port, seedPorts_lfsr _ _ hp, get_map_range _ _ hi, portTime_of_regs_eq hregs, deviceNo_of_regs_eq hregs,
    lfsrSeed, lfsrLoad_eq_loadedFrom]

/-- Settles O59: a seed point runs through the bays and the tollhouses, each step touches its own unit only, and each unit's
seed has the bits of R38. -/
theorem seedsAreFormedFromTime : Obligations.SeedsAreFormedFromTime := by
  refine ⟨?generator, ?idle, ?running, ?tollhouse⟩
  case generator =>
    exact fun t device source i _ _ => ⟨unitSeed t device source, unitSeed_isSeed t device source, lfsrLoad_eq_loadedFrom _ i⟩
  case idle =>
    exact fun s lb hlb apart idle free =>
      ⟨baySeed (seedTime s) s lb, baySeed_isSeed free, fun i hi => seedPoint_lfsr_of_idle hlb apart idle hi⟩
  case running =>
    intro s lb hlb apart running free
    have hbay := seedPoint_bay_of_running hlb apart running
    exact ⟨baySeed (seedTime s) s lb, baySeed_isSeed free, by rw [hbay], by rw [hbay], seedPoint_seed hlb apart⟩
  case tollhouse =>
    intro s p hp free
    have htime : portTime (seedTime s) s p = seedTime s := by simp [portTime, free]
    exact ⟨unitSeed (seedTime s) s.deviceNo (64 + p), unitSeed_isSeed _ _ _,
      fun i hi => by rw [seedPoint_port_lfsr hp hi, htime]⟩

end Sys2Proof.Proofs
end

section
/-! Clearing bits and write-1-to-clear status (R8, R45, R72, R106, R154, R155, R183, R216, R217, R237, R238, R252, R297, R324, R370,
R392, R450, R456): what a host write of a clearing bit leaves in the registers and in all else, which settles O1. -/

namespace Sys2Proof.Proofs

open Sys2Proof.Machine Sys2Proof.Laws Sys2Proof.Claims

variable {s : State} {r : Reg} {c : Instr}

/-! ## A register beside one being written -/

theorem reg_ne_of_name {n m : RegName} (h : n ≠ m) (u i v j : Nat) : (⟨n, u, i⟩ : Reg) ≠ ⟨m, v, j⟩ :=
  fun e => h (congrArg Reg.name e)

/-- The registers of a list return to their reset values. -/
def clearList (l : List Reg) (s : State) : State := l.foldl (fun s r => s.clear r.name r.unit r.idx) s

theorem raw_clearList (l : List Reg) (s : State) (r : Reg) :
    (clearList l s).raw r = if r ∈ l then r.name.reset else s.raw r := raw_clears s l r

theorem raw_clearList_of_mem {l : List Reg} (h : r ∈ l) (s : State) : (clearList l s).raw r = r.name.reset := by
  rw [raw_clearList, if_pos h]

theorem raw_clearList_of_not_mem {l : List Reg} (h : r ∉ l) (s : State) : (clearList l s).raw r = s.raw r := by
  rw [raw_clearList, if_neg h]

theorem clearList_eq (l : List Reg) (s : State) : clearList l s = { s with regs := (clearList l s).regs } :=
  List.foldlRecOn (motive := fun t : State => t = { s with regs := t.regs }) l _ rfl fun t h r _ => by
    rw [h]; rfl

/-! ## A write that clears and does nothing else -/

theorem hostSet_of_hostWrites {n : Nat} (hu : r.unit < n) (h : HostWrites s r) (v : Nat) (f : State → State) :
    hostSet n r v s f = .next (f (s.writeFields r v)) := by
  obtain ⟨up, d0, reaches⟩ := h
  exact hostSet_run s hu up d0 reaches v f

/-- A register that is nothing but a clearing bit: its write clears what it names. -/
theorem clearsOnly_clearList {w : Reg} {n : Nat} {gone : Reg → Prop} (l : List Reg)
    (hexec : ∀ s, exec c s = hostSet n w 1 s (clearList l))
    (hwo : w.name.spec.fields.all (·.acc == .WO) = true) (hgone : ∀ r, gone r ↔ r ∈ l) : ClearsOnly c w n gone := by
  intro s hw hs
  refine ⟨clearList l (s.writeFields w 1), ?_, fun r hr => ?_, fun r hr => ?_, ?_⟩
  · rw [hexec, hostSet_of_hostWrites hw hs]
  · exact raw_clearList_of_mem ((hgone r).mp hr) _
  · rw [raw_clearList_of_not_mem (mt (hgone r).mpr hr)]
    exact raw_writeFields_wo s w.name w.unit w.idx 1 r hwo
  · rw [clearList_eq]; rfl

/-! ## The stall counts of a bay's revolves (R154) -/


theorem get_of_wfFrom_lt {α : Type} [DecidableEq α] (d : α) (t : Tab α) {lo i : Nat} (w : Tab.wfFrom d t lo = true) (h : i < lo) :
    Tab.get d t i = d := by
  induction t generalizing lo with
  | nil => rfl
  | cons x t ih =>
    simp only [Tab.wfFrom, Bool.and_eq_true, decide_eq_true_eq] at w
    rw [Tab.get, if_neg (by omega), ih w.2 (by omega)]

theorem mapVals_cons {α : Type} [DecidableEq α] (d : α) (f : α → α) (k : Nat) (v : α) (t : Tab α) :
    Tab.mapVals d f ((k, v) :: t) = if f v = d then Tab.mapVals d f t else (k, f v) :: Tab.mapVals d f t := by
  by_cases h : f v = d <;> simp [Tab.mapVals, h]

/-- In a canonical table a change of every entry is a change of the entry read. -/
theorem get_mapVals {α : Type} [DecidableEq α] (d : α) {f : α → α} (hf : f d = d) (t : Tab α) {lo : Nat} (i : Nat)
    (w : Tab.wfFrom d t lo = true) : Tab.get d (Tab.mapVals d f t) i = f (Tab.get d t i) := by
  induction t generalizing lo with
  | nil => exact hf.symm
  | cons x t ih =>
    obtain ⟨k, v⟩ := x
    simp only [Tab.wfFrom, Bool.and_eq_true] at w
    have ih := ih w.2
    rw [mapVals_cons]
    by_cases hk : k = i
    · have rest : Tab.get d t i = d := get_of_wfFrom_lt d t w.2 (by omega)
      by_cases hv : f v = d
      · rw [if_pos hv, ih, rest, hf, Tab.get, if_pos hk, hv]
      · rw [if_neg hv, Tab.get, Tab.get, if_pos hk, if_pos hk]
    · by_cases hv : f v = d
      · rw [if_pos hv, ih, Tab.get, if_neg hk]
      · rw [if_neg hv, Tab.get, Tab.get, if_neg hk, if_neg hk, ih]

/-- The stall count of every revolve end of a bay returns to zero. -/
def clearStalls (b : Bay) : Bay := { b with rings := Tab.mapVals {} (fun r => { r with stall := 0 }) b.rings }

theorem ring_clearStalls {b : Bay} (w : Tab.wf {} b.rings = true) (rv : Nat) :
    (clearStalls b).ring rv = { b.ring rv with stall := 0 } :=
  get_mapVals ({} : RingEnd) (f := fun r => { r with stall := 0 }) rfl b.rings rv w

theorem wrWngctl_one (s : State) (p : Nat) : s.wrWngctl p 1 = (s.clear .WNG_ECC p).modBay p clearStalls := rfl

/-- WNG_CTL.ECLR clears WNG_ECC and the stall count of every revolve end, and nothing else. -/
theorem wngCtlEclr_clears {p : Nat} (hp : p < 72) (hs : HostWrites s ⟨.WNG_CTL, p, 0⟩) (w : Tab.wf {} (s.bay p).rings = true) :
    ∃ t, exec (.wngCtlEclr p) s = .next t ∧
      t.raw ⟨.WNG_ECC, p, 0⟩ = RegName.reset .WNG_ECC ∧ KeepsRegs (· = ⟨.WNG_ECC, p, 0⟩) s t ∧
      (∀ rv, (t.bay p).ring rv = { (s.bay p).ring rv with stall := 0 }) ∧
      t.bay p = { s.bay p with rings := (t.bay p).rings } ∧ (∀ q, q ≠ p → t.bay q = s.bay q) ∧
      t = { s with regs := t.regs, bays := t.bays } := by
  generalize hu : (s.writeFields ⟨.WNG_CTL, p, 0⟩ 1).clear .WNG_ECC p = u
  have hbay : ∀ q, u.bay q = s.bay q := fun q => by rw [← hu]; rfl
  have hown : (u.modBay p clearStalls).bay p = clearStalls (s.bay p) := by rw [bay_modBay_self, hbay]
  refine ⟨u.modBay p clearStalls, ?exec, ?cleared, fun r hr => ?kept, fun rv => ?ring, ?own, fun q hq => ?other, ?rest⟩
  case exec => rw [← hu, ← wrWngctl_one]; exact hostSet_of_hostWrites hp hs 1 _
  case cleared => rw [raw_modBay, ← hu, raw_clear_self]
  case kept => rw [raw_modBay, ← hu, raw_clear_ne _ _ _ _ hr, raw_writeFields_wo s .WNG_CTL p 0 1 r rfl]
  case ring => rw [hown, ring_clearStalls w]
  case own => rw [hown]; rfl
  case other => rw [bay_modBay_ne _ _ hq, hbay]
  case rest => rw [← hu]; rfl

/-- The clearing bits of the registers of bays, dies, engines, channels and gather engines. -/
theorem unitClearBits : UnitClearBits := by
  refine ⟨fun p => ?_, fun p => ?_, fun d => ?_, fun e => ?_, fun c => ?_, fun q => ?_, fun p => ?_, fun p s => wngCtlEclr_clears⟩
  · exact clearsOnly_clearList [⟨.CUE_ARRECC, p, 0⟩] (fun _ => rfl) rfl (by simp)
  · exact clearsOnly_clearList [⟨.CUE_STOPCNT, p, 0⟩] (fun _ => rfl) rfl (by simp)
  · exact clearsOnly_clearList [⟨.GRM_ECC, d, 0⟩] (fun _ => rfl) rfl (by simp)
  · exact clearsOnly_clearList [⟨.STR_FAULT, e, 0⟩, ⟨.STR_BOUND, e, 0⟩, ⟨.STR_PADG, e, 0⟩, ⟨.STR_RADROP, e, 0⟩, ⟨.STR_STALE, e, 0⟩]
      (fun _ => rfl) rfl (by simp)
  · exact clearsOnly_clearList [⟨.MEM_ECC, c, 0⟩, ⟨.MEM_ERRADDR, c, 0⟩] (fun _ => rfl) rfl (by simp)
  · exact clearsOnly_clearList [⟨.GTH_OOB, q, 0⟩] (fun _ => rfl) rfl (by simp)
  · exact clearsOnly_clearList [⟨.SPR_OVERFULL, p, 0⟩, ⟨.SPR_METADUP, p, 0⟩, ⟨.SPR_IDXOOB, p, 0⟩] (fun _ => rfl) rfl (by simp)

/-! ## Clearing bits beside other fields -/

/-- PRM_CTL.CCLR clears every PRM_AUD of its die and PRM_DROP. -/
theorem prmCtlCclr_clears (d : Nat) :
    ClearsOnly (.prmCtlCclr d) ⟨.PRM_CTL, d, 0⟩ 8 fun r => named .PRM_AUD d r ∨ r = ⟨.PRM_DROP, d, 0⟩ := by
  intro s hd hs
  refine ⟨(((s.writeFields ⟨.PRM_CTL, d, 0⟩ 1).clearAll .PRM_AUD d).clear .PRM_DROP d), hostSet_of_hostWrites hd hs 1 _,
    fun r hr => ?_, fun r hr => ?_, rfl⟩
  · by_cases hdrop : r = ⟨.PRM_DROP, d, 0⟩
    · rw [hdrop, raw_clear_self]
    · rw [raw_clear_ne _ _ _ _ hdrop, raw_clearAll]; exact if_pos (hr.resolve_right hdrop)
  · obtain ⟨haud, hdrop⟩ := not_or.mp hr
    rw [raw_clear_ne _ _ _ _ hdrop, raw_clearAll, ← raw_writeFields_wo s .PRM_CTL d 0 1 r rfl]; exact if_neg haud

/-- The loss count of every ring of the central reader returns to zero. -/
def clearLost (s : State) : State := (List.range 4).foldl (fun s n => s.put OBS_RINGSTAT_LOST 0 n) s

theorem raw_clearLost_of_ne (s : State) (hr : ¬ (r.name = .OBS_RINGSTAT ∧ r.unit < 4)) : (clearLost s).raw r = s.raw r :=
  List.foldlRecOn (motive := fun t : State => t.raw r = s.raw r) _ _ rfl fun t h n hn => by
    rw [raw_put_ne t _ _ _ _ fun e => hr (by subst e; exact ⟨rfl, List.mem_range.mp hn⟩), h]

theorem clearLost_eq (s : State) : clearLost s = { s with regs := (clearLost s).regs } := rfl

theorem get_clearLost_lost (s : State) {n : Nat} (hn : n < 4) : (clearLost s).get OBS_RINGSTAT_LOST n = 0 := by
  refine foldl_range_visit (P := fun _ => True) (Q := fun t : State => t.get OBS_RINGSTAT_LOST n = 0) hn trivial
    (fun _ _ _ _ _ => trivial) (fun t _ => ?here) (fun t m _ hm h => ?after)
  case here => exact get_put_self t _ _ _ _ (by decide)
  case after => rw [get_put_ne t _ _ _ _ _ _ _ fun e => hm (congrArg Reg.unit e).symm, h]

theorem get_clearLost_code (s : State) (n : Nat) : (clearLost s).get OBS_RINGSTAT_CODE n = s.get OBS_RINGSTAT_CODE n :=
  List.foldlRecOn (motive := fun t : State => t.get OBS_RINGSTAT_CODE n = s.get OBS_RINGSTAT_CODE n) _ _ rfl fun t h m _ => by
    by_cases e : m = n
    · rw [e, get_put_disjoint t OBS_RINGSTAT_LOST OBS_RINGSTAT_CODE _ _ _ (by decide) rfl (Or.inr (by decide)), h]
    · rw [get_put_ne t _ _ _ _ _ _ _ fun e' => e (congrArg Reg.unit e').symm, h]

/-- OBS_CCTL.CCLR clears OBS_SAMPDROP and the loss counts, and leaves the rings' codes. -/
theorem obsCctlCclr_clears (hs : HostWrites s ⟨.OBS_CCTL, 0, 0⟩) : ∃ t, exec .obsCctlCclr s = .next t ∧
    t.raw ⟨.OBS_SAMPDROP, 0, 0⟩ = RegName.reset .OBS_SAMPDROP ∧
    (∀ n, n < 4 → t.get OBS_RINGSTAT_LOST n = 0 ∧ t.get OBS_RINGSTAT_CODE n = s.get OBS_RINGSTAT_CODE n) ∧
    KeepsRegs (fun r => r = ⟨.OBS_SAMPDROP, 0, 0⟩ ∨ (r.name = .OBS_RINGSTAT ∧ r.unit < 4)) s t ∧ t = { s with regs := t.regs } := by
  generalize hu : (s.writeFields ⟨.OBS_CCTL, 0, 0⟩ 1).clear .OBS_SAMPDROP = u
  have keep : ∀ r, r ≠ ⟨.OBS_SAMPDROP, 0, 0⟩ → u.raw r = s.raw r := fun r hr => by
    rw [← hu, raw_clear_ne _ _ _ _ hr, raw_writeFields_wo s .OBS_CCTL 0 0 1 r rfl]
  refine ⟨clearLost u, ?_, ?_, fun n hn => ⟨get_clearLost_lost u hn, ?_⟩, fun r hr => ?_, ?_⟩
  · rw [← hu]; exact hostSet_of_hostWrites Nat.one_pos hs 1 _
  · rw [raw_clearLost_of_ne u (by simp), ← hu, raw_clear_self]
  · rw [get_clearLost_code, get_def, keep _ (reg_ne_of_name (by decide) _ _ _ _), get_def]
  · obtain ⟨hdrop, hring⟩ := not_or.mp hr
    rw [raw_clearLost_of_ne u hring, keep r hdrop]
  · rw [clearLost_eq, ← hu]; rfl

/-! A register whose one field that the host writes is `f` takes the field's bits. -/

theorem writeFields_obsBctl (s : State) (blk v : Nat) :
    s.writeFields ⟨.OBS_BCTL, blk, 0⟩ v = s.put OBS_BCTL_LOFS (bits v 0 17) blk := rfl

theorem writeFields_cueRndctl (s : State) (p v : Nat) :
    s.writeFields ⟨.CUE_RNDCTL, p, 0⟩ v = s.put CUE_RNDCTL_FIXED (bits v 0 1) p := rfl

theorem writeFields_hstEvstat (s : State) (v : Nat) : s.writeFields ⟨.HST_EVSTAT, 0, 0⟩ v =
    s.put HST_EVSTAT_EVENTS (s.get HST_EVSTAT_EVENTS - (s.get HST_EVSTAT_EVENTS &&& bits v 0 12)) := rfl

/-- A block's LOFS as a write leaves it: it exists in bay blocks only (R370). -/
def lofsWritten (blk v : Nat) : Nat := if blk < 80 ∧ blk % 10 < 9 then bits v 0 17 else 0

/-- The write of OBS_BCTL sets LOFS. -/
def setLofs (s : State) (blk v : Nat) : State :=
  if blk < 80 ∧ blk % 10 < 9 then s.put OBS_BCTL_LOFS (bits v 0 17) blk
  else (s.put OBS_BCTL_LOFS (bits v 0 17) blk).put OBS_BCTL_LOFS 0 blk

theorem wrBctl_of_clr (s : State) {blk v : Nat} (hv : bit v 31 = true) :
    (s.writeFields ⟨.OBS_BCTL, blk, 0⟩ v).wrBctl blk v = (setLofs s blk v).clearAll .OBS_CNT blk := by
  rw [State.wrBctl, hv, writeFields_obsBctl, setLofs]; rfl

theorem get_setLofs (s : State) (blk v : Nat) : (setLofs s blk v).get OBS_BCTL_LOFS blk = lofsWritten blk v := by
  unfold setLofs lofsWritten
  split
  · rw [get_put_self _ _ _ _ _ (by decide)]; exact Nat.mod_eq_of_lt (bits_lt _ _ _)
  · exact get_put_self _ _ _ _ _ (by decide)

theorem raw_setLofs_of_ne (s : State) {blk v : Nat} (h : r ≠ ⟨.OBS_BCTL, blk, 0⟩) : (setLofs s blk v).raw r = s.raw r := by
  unfold setLofs
  split
  · exact raw_put_ne s _ _ _ _ h
  · rw [raw_put_ne _ _ _ _ _ h, raw_put_ne _ _ _ _ _ h]

theorem setLofs_eq (s : State) (blk v : Nat) : setLofs s blk v = { s with regs := (setLofs s blk v).regs } := by
  unfold setLofs; split <;> rfl

/-- OBS_BCTL.CCLR clears the counters of its block; LOFS is written with it. -/
theorem obsBctlCclr_clears {blk : Nat} {v : W32} (hblk : blk < 84) (hv : v.getLsbD 31 = true)
    (hs : HostWrites s ⟨.OBS_BCTL, blk, 0⟩) :
    ∃ t, exec (.obsBctlCclr blk v) s = .next t ∧ (∀ r, named .OBS_CNT blk r → t.raw r = r.name.reset) ∧
      t.get OBS_BCTL_LOFS blk = (if blk < 80 ∧ blk % 10 < 9 then bits v.toNat 0 17 else 0) ∧
      KeepsRegs (fun r => named .OBS_CNT blk r ∨ r = ⟨.OBS_BCTL, blk, 0⟩) s t ∧ t = { s with regs := t.regs } := by
  generalize hu : setLofs s blk v.toNat = u
  refine ⟨u.clearAll .OBS_CNT blk, ?exec, fun r hr => ?cleared, ?lofs, fun r hr => ?kept, ?rest⟩
  case exec => rw [← hu, ← wrBctl_of_clr s hv]; exact hostSet_of_hostWrites hblk hs _ _
  case cleared => rw [raw_clearAll]; exact if_pos hr
  case lofs =>
    rw [get_def, raw_clearAll, if_neg (by simp), ← get_def, ← hu]
    exact get_setLofs s blk v.toNat
  case kept =>
    obtain ⟨hcnt, hbctl⟩ := not_or.mp hr
    rw [raw_clearAll, ← raw_setLofs_of_ne s hbctl, hu]
    exact if_neg hcnt
  case rest => rw [← hu, setLofs_eq]; rfl

theorem bits_one_eq_b2n (v : W32) : bits v.toNat 0 1 = b2n (v.getLsbD 0) := by
  rw [bits, b2n, BitVec.getLsbD, Nat.testBit_zero]
  have h2 := Nat.mod_two_eq_zero_or_one v.toNat
  split <;> simp_all

/-- CUE_RNDCTL.CLR clears both numeric counters; FIXED is written with it. -/
theorem cueRndctlClr_clears {p : Nat} {v : W32} (hp : p < 72) (hv : v.getLsbD 1 = true) (hs : HostWrites s ⟨.CUE_RNDCTL, p, 0⟩) :
    ∃ t, exec (.cueRndctlClr p v) s = .next t ∧
      t.raw ⟨.CUE_NUMSAT, p, 0⟩ = RegName.reset .CUE_NUMSAT ∧ t.raw ⟨.CUE_NUMNAN, p, 0⟩ = RegName.reset .CUE_NUMNAN ∧
      t.get CUE_RNDCTL_FIXED p = b2n (v.getLsbD 0) ∧
      KeepsRegs (fun r => r = ⟨.CUE_NUMSAT, p, 0⟩ ∨ r = ⟨.CUE_NUMNAN, p, 0⟩ ∨ r = ⟨.CUE_RNDCTL, p, 0⟩) s t ∧
      t = { s with regs := t.regs } := by
  generalize hu : s.put CUE_RNDCTL_FIXED (bits v.toNat 0 1) p = u
  let l : List Reg := [⟨.CUE_NUMSAT, p, 0⟩, ⟨.CUE_NUMNAN, p, 0⟩]
  have heff : (s.writeFields ⟨.CUE_RNDCTL, p, 0⟩ v.toNat).wrCueRndctl p v.toNat = clearList l u := by
    rw [State.wrCueRndctl, show bit v.toNat 1 = true from hv, writeFields_cueRndctl, hu]; rfl
  refine ⟨clearList l u, ?exec, ?sat, ?nan, ?fixed, fun r hr => ?kept, ?rest⟩
  case exec => rw [← heff]; exact hostSet_of_hostWrites hp hs _ _
  case sat => exact raw_clearList_of_mem (by simp [l]) u
  case nan => exact raw_clearList_of_mem (by simp [l]) u
  case fixed =>
    rw [get_def, raw_clearList_of_not_mem (by simp [l]), ← get_def, ← hu, get_put_self _ _ _ _ _ (by decide), ← bits_one_eq_b2n]
    exact Nat.mod_eq_of_lt (bits_lt _ _ _)
  case kept =>
    obtain ⟨hsat, hnan, hctl⟩ : r ≠ ⟨.CUE_NUMSAT, p, 0⟩ ∧ r ≠ ⟨.CUE_NUMNAN, p, 0⟩ ∧ r ≠ ⟨.CUE_RNDCTL, p, 0⟩ := by simpa using hr
    rw [raw_clearList_of_not_mem (by simp [l, hsat, hnan]), ← hu, raw_put_ne _ _ _ _ _ hctl]
  case rest => rw [clearList_eq, ← hu]; rfl

/-! ## Write-1-to-clear event status (R8, R450) -/

/-- Bits taken away that all stand go, and only they. -/
theorem testBit_sub_and (x y i : Nat) : (x - (x &&& y)).testBit i = (x.testBit i && !y.testBit i) := by
  have high : (x &&& y) / 2 = x / 2 &&& y / 2 := Nat.and_div_two
  have le : x / 2 &&& y / 2 ≤ x / 2 := Nat.and_le_left
  have low : ((x &&& y) % 2 = 1) ↔ x % 2 = 1 ∧ y % 2 = 1 := by simp
  induction i generalizing x y with
  | zero =>
    simp only [Nat.testBit_zero, ← decide_not, ← Bool.decide_and, decide_eq_decide]
    omega
  | succ i ih =>
    have half : (x - (x &&& y)) / 2 = x / 2 - (x / 2 &&& y / 2) := by omega
    rw [Nat.testBit_succ, Nat.testBit_succ, Nat.testBit_succ, half]
    exact ih (x / 2) (y / 2) Nat.and_div_two Nat.and_le_left (by simp)

/-- A 1 written to an event's bit clears it; a 0 leaves it. -/
theorem hstEvstatClear_clears {v : W32} (hs : HostWrites s ⟨.HST_EVSTAT, 0, 0⟩) : ∃ t, exec (.hstEvstatClear v) s = .next t ∧
    (∀ i, i < 12 → (t.get HST_EVSTAT_EVENTS).testBit i = ((s.get HST_EVSTAT_EVENTS).testBit i && !v.getLsbD i)) ∧
    KeepsRegs (· = ⟨.HST_EVSTAT, 0, 0⟩) s t ∧ t = { s with regs := t.regs } := by
  refine ⟨s.writeFields ⟨.HST_EVSTAT, 0, 0⟩ v.toNat, hostSet_of_hostWrites (n := 1) Nat.one_pos hs v.toNat fun s => s, fun i hi => ?_,
    fun r hr => raw_writeFields_ne s _ _ hr, rfl⟩
  rw [writeFields_hstEvstat, get_put_self _ _ _ _ _ (by decide), Nat.testBit_mod_two_pow, testBit_sub_and, testBit_bits]
  simp [hi, BitVec.getLsbD]

/-- The clearing bits of prompters, tollhouses, ports, the running order, the observation and host blocks. -/
theorem moduleClearBits : ModuleClearBits := by
  refine ⟨prmCtlCclr_clears, fun q => ?_, fun q => ?_, ?_, ?_, fun s => obsCctlCclr_clears, fun blk v s => obsBctlCclr_clears,
    fun p v s => cueRndctlClr_clears, fun v s => hstEvstatClear_clears⟩
  · exact clearsOnly_clearList [⟨.TLH_SKIP, q, 0⟩, ⟨.TLH_SNAPHOLD, q, 0⟩] (fun _ => rfl) rfl (by simp)
  · exact clearsOnly_clearList [⟨.FAB_LATE, q, 0⟩, ⟨.FAB_STALE, q, 0⟩, ⟨.FAB_BACKUP, q, 0⟩, ⟨.FAB_SAT, q, 0⟩,
      ⟨.FAB_RXDROP, q, 0⟩, ⟨.FAB_E2ELOST, q, 0⟩, ⟨.FAB_RESYNC, q, 0⟩] (fun _ => rfl) rfl (by simp)
  · exact clearsOnly_clearList [⟨.RUN_MISS, 0, 0⟩, ⟨.RUN_OVERBUD, 0, 0⟩, ⟨.RUN_PREEMPT, 0, 0⟩, ⟨.RUN_MAKEUP, 0, 0⟩,
      ⟨.RUN_OVERRUN, 0, 0⟩] (fun _ => rfl) rfl (by simp)
  · exact clearsOnly_clearList [⟨.HST_ERR, 0, 0⟩] (fun _ => rfl) rfl (by simp)

/-- Settles O1: each clearing bit is a host write whose effect returns a list of registers, a block's counters or one table's
counts to their reset values, and the register written keeps its content beside its own fields. -/
theorem clearingBitsClear : Obligations.ClearingBitsClear := ⟨unitClearBits, moduleClearBits⟩

end Sys2Proof.Proofs
end

section
/-! What a bay's units start (R53, R54, R57, R60, R63, R146): `State.kick` marks the work that begins, makes the swap of a FEED that
enters and presents reads; queues but for their marks, accumulators and tile records stay. -/

namespace Sys2Proof.Proofs

open Sys2Proof.Machine Sys2Proof.Laws Sys2Proof.Claims

variable {s t u : State} {p : Nat} {b c d : Bay}

/-! ## A change inside one bay -/

/-- Nothing changed but bay `p`. -/
structure InBay (s t : State) (p : Nat) : Prop where
  bays : ∀ q, q ≠ p → t.bay q = s.bay q
  rest : t = { s with bays := t.bays }

theorem InBay.refl (s : State) (p : Nat) : InBay s s p := ⟨fun _ _ => rfl, rfl⟩

theorem InBay.trans (h : InBay s t p) (k : InBay t u p) : InBay s u p := by
  refine ⟨fun q hq => (k.bays q hq).trans (h.bays q hq), ?_⟩
  rw [k.rest, h.rest]

theorem inBay_modBay (s : State) (p : Nat) (f : Bay → Bay) : InBay s (s.modBay p f) p := ⟨fun _ hq => bay_modBay_ne s f hq, rfl⟩

theorem InBay.raw (h : InBay s t p) (r : Reg) : t.raw r = s.raw r := by rw [h.rest]; rfl

theorem InBay.get (h : InBay s t p) (f : Fld) (v i : Nat) : t.get f v i = s.get f v i := by rw [get_def, h.raw, get_def]

/-! ## An array whose units start -/

/-- A LOADW without the marks that it has started and presented its reads. -/
def unmarked (l : LoadOp) : LoadOp := { l with started := false, asked := false }

/-- What the start of an array's units leaves: its queues but for the marks, its accumulators and tile records, and, where no FEED
is queued that could swap, its weight registers and pending tile. -/
structure ArrStarted (x y : Arr) : Prop where
  lq   : y.lq.map unmarked = x.lq.map unmarked
  fq   : y.fq.map unstarted = x.fq.map unstarted
  acc  : y.acc = x.acc
  recS : y.recS = x.recS
  recA : y.recA = x.recA
  idle : x.fq = [] → y.pend = x.pend ∧ y.wact = x.wact ∧ y.wshd = x.wshd

theorem ArrStarted.refl (x : Arr) : ArrStarted x x := ⟨rfl, rfl, rfl, rfl, rfl, fun _ => ⟨rfl, rfl, rfl⟩⟩

theorem ArrStarted.fq_nil {x y : Arr} (h : ArrStarted x y) (e : x.fq = []) : y.fq = [] := by
  simpa [e] using h.fq

theorem ArrStarted.trans {x y z : Arr} (h : ArrStarted x y) (k : ArrStarted y z) : ArrStarted x z := by
  refine ⟨k.lq.trans h.lq, k.fq.trans h.fq, k.acc.trans h.acc, k.recS.trans h.recS, k.recA.trans h.recA, fun e => ?_⟩
  obtain ⟨pend, wact, wshd⟩ := h.idle e
  obtain ⟨pend', wact', wshd'⟩ := k.idle (h.fq_nil e)
  exact ⟨pend'.trans pend, wact'.trans wact, wshd'.trans wshd⟩

theorem arrStarted_swap (x : Arr) (h : x.fq ≠ []) : ArrStarted x x.swap := ⟨rfl, rfl, rfl, rfl, rfl, fun e => absurd e h⟩

/-- The head of a LOADW queue may take other marks. -/
theorem arrStarted_lqHead {x : Arr} {l m : LoadOp} {rest : List LoadOp} (h : x.lq = l :: rest) (hm : unmarked m = unmarked l) :
    ArrStarted x { x with lq := m :: rest } :=
  ⟨by simp [h, hm], rfl, rfl, rfl, rfl, fun _ => ⟨rfl, rfl, rfl⟩⟩

/-- The head of a FEED queue may take other marks. -/
theorem arrStarted_fqHead {x : Arr} {e e' : FqEntry} {rest : List FqEntry} (h : x.fq = e :: rest) (he : unstarted e' = unstarted e) :
    ArrStarted x { x with fq := e' :: rest } :=
  ⟨rfl, by simp [h, he], rfl, rfl, rfl, fun _ => ⟨rfl, rfl, rfl⟩⟩

theorem arrStarted_startShare (x : Arr) : ArrStarted x x.startShare := by
  unfold Arr.startShare
  split
  · next l rest h => exact arrStarted_lqHead h rfl
  · exact ArrStarted.refl x

/-! ## A bay whose units start -/

/-- What the start of a bay's units leaves. -/
structure Started (b c : Bay) : Prop where
  arr : ∀ a, ArrStarted (b.arr a) (c.arr a)
  own : c = { b with arrs := c.arrs, xreqs := c.xreqs }

theorem Started.refl (b : Bay) : Started b b := ⟨fun _ => ArrStarted.refl _, rfl⟩

theorem Started.trans (h : Started b c) (k : Started c d) : Started b d := by
  refine ⟨fun a => (h.arr a).trans (k.arr a), ?_⟩
  rw [k.own, h.own]

theorem started_modArr {a : Nat} {f : Arr → Arr} (h : ArrStarted (b.arr a) (f (b.arr a))) : Started b (b.modArr a f) := by
  refine ⟨fun q => ?_, rfl⟩
  by_cases e : q = a
  · subst e; rw [arr_modArr_self]; exact h
  · rw [arr_modArr_ne b f e]; exact ArrStarted.refl _

theorem started_ask (b : Bay) (who : Nat × Nat) (ord : Nat) (lines : List (Nat × Nat × Bool)) : Started b (b.ask who ord lines) := by
  unfold Bay.ask
  split
  · exact Started.refl b
  · exact ⟨fun _ => ArrStarted.refl _, rfl⟩

theorem started_foldl {f : Bay → Nat → Bay} (h : ∀ b a, Started b (f b a)) (l : List Nat) (b : Bay) : Started b (l.foldl f b) :=
  List.foldlRecOn (motive := fun c => Started b c) l f (Started.refl b) fun c hc a _ => hc.trans (h c a)

theorem kickLoad_started (b : Bay) (a : Nat) : Started b (b.kickLoad a) := by
  unfold Bay.kickLoad
  dsimp only
  split
  case h_2 => exact Started.refl b
  case h_1 l rest h =>
    have mark (go : Bool) : Started b (b.setArr a { b.arr a with lq := { l with started := true, asked := go } :: rest }) :=
      started_modArr (f := fun _ => { b.arr a with lq := { l with started := true, asked := go } :: rest }) (arrStarted_lqHead h rfl)
    split
    · exact Started.refl b
    · split
      · exact (mark _).trans (started_ask _ _ _ _)
      · exact mark _

theorem enterFeed_started (b : Bay) (a : Nat) : Started b (b.enterFeed a) := by
  unfold Bay.enterFeed
  split
  case h_2 => exact Started.refl b
  case h_1 f rest h =>
    have enter : Started b (b.modArr a fun x =>
        let x := { x with fq := .feed { f with started := true } :: rest }
        if f.swap then x.swap else x) := by
      refine started_modArr ?_
      have mark : ArrStarted (b.arr a) { b.arr a with fq := .feed { f with started := true } :: rest } := arrStarted_fqHead h rfl
      dsimp only
      split
      · exact mark.trans (arrStarted_swap _ (List.cons_ne_nil _ _))
      · exact mark
    split
    · dsimp only
      split
      · exact enter.trans (started_modArr (arrStarted_startShare _))
      · exact enter
    · exact Started.refl b

theorem askFeed_started (b : Bay) (a : Nat) : Started b (b.askFeed a) := by
  unfold Bay.askFeed
  split
  case h_2 => exact Started.refl b
  case h_1 f rest h =>
    split
    · refine (started_modArr ?_).trans (started_ask _ _ _ _)
      exact arrStarted_fqHead h rfl
    · exact Started.refl b

theorem kickFeed_started (b : Bay) (a : Nat) : Started b (b.kickFeed a) := (enterFeed_started b a).trans (askFeed_started _ a)

/-- The start of a bay's units reaches nothing outside the bay. -/
theorem kick_inBay (s : State) (p : Nat) : InBay s (s.kick p) p := by
  unfold State.kick
  split
  · exact InBay.refl s p
  · exact inBay_modBay s p _

theorem kick_started (s : State) (p : Nat) : Started (s.bay p) ((s.kick p).bay p) := by
  unfold State.kick
  split
  · exact Started.refl _
  · rw [bay_modBay_self]
    exact ((started_foldl kickLoad_started _ _).trans (started_foldl kickFeed_started _ _)).trans (started_foldl kickLoad_started _ _)

/-! ## The claims' words for it -/

theorem Started.loads_eq (h : Started b c) (a : Nat) : loads c a = loads b a := (h.arr a).lq

theorem Started.feeds_eq (h : Started b c) (a : Nat) : feeds c a = feeds b a := (h.arr a).fq

theorem otherBaysKept_trans (h : OtherBaysKept s t p) (k : OtherBaysKept t u p) : OtherBaysKept s u p := by
  obtain ⟨bays, ⟨mem, err⟩, dies, engines, ports⟩ := h
  obtain ⟨bays', ⟨mem', err'⟩, dies', engines', ports'⟩ := k
  exact ⟨fun q hq => (bays' q hq).trans (bays q hq), ⟨mem'.trans mem, err'.trans err⟩,
    dies'.trans dies, engines'.trans engines, ports'.trans ports⟩

theorem InBay.otherBaysKept (h : InBay s t p) : OtherBaysKept s t p := by
  refine ⟨h.bays, ?_, ?_⟩ <;> rw [h.rest] <;> simp

theorem otherBaysKept_of_counts (p : Nat) (h : Counts s t) : OtherBaysKept s t p := by
  refine ⟨fun q _ => h.bay q, ?_, ?_⟩ <;> rw [h.rest] <;> simp

end Sys2Proof.Proofs
end

section
/-! Array cues at issue (R51, R55, R63, R64, R85, R88 to R90, R109, R111, R115, R116, R126): the operands are resolved, the cue joins
its queue and retires, and the bay's units start what they may, which settles O5. -/

namespace Sys2Proof.Proofs

open Sys2Proof.Machine Sys2Proof.Laws Sys2Proof.Claims

variable {s t u : State} {p : Nat} {i j : Issue} {o : Opnd}

/-! ## Operands (R88 to R90, R109, R111) -/

/-- Resolving operands changes only the ends of the bay's revolves. -/
structure Resolves (s : State) (p : Nat) (i : Issue) : Prop where
  inBay : InBay s i.s p
  own   : i.s.bay p = { s.bay p with rings := (i.s.bay p).rings }

theorem Resolves.refl (s : State) (p : Nat) : Resolves s p { s := s } := ⟨InBay.refl s p, rfl⟩

theorem Resolves.wop {v ext groups ord : Nat} {store : Bool} (h : Resolves s p i) (hw : i.wop p v ext groups store ord = .ok (j, o)) :
    Resolves s p j := by
  unfold Issue.wop at hw
  split at hw
  · cases hw; exact h
  · dsimp only at hw
    split at hw
    · cases hw; exact ⟨h.inBay, h.own⟩
    · cases hw
  · dsimp only at hw
    split at hw
    · cases hw
    · cases hw
      refine ⟨h.inBay.trans (inBay_modBay i.s p fun b => b.setRing _ _), ?_⟩
      rw [bay_modBay_self, h.own]; rfl
  · cases hw

theorem Resolves.aop {v row : Nat} (h : Resolves s p i) (ha : i.aop p v = .ok (j, row)) : Resolves s p j := by
  unfold Issue.aop at ha
  split at ha
  · cases ha; exact h
  · dsimp only at ha
    split at ha
    · cases ha; exact ⟨h.inBay, h.own⟩
    · cases ha
  · cases ha

/-- The registers of a bay's generators. -/
def isGenerator (p : Nat) (r : Reg) : Prop := r.name = .CUE_AGDIM ∧ r.unit = p

/-- Only registers of bay `p`'s generators changed. -/
structure StepsGenerators (p : Nat) (s t : State) : Prop where
  raw  : KeepsRegs (isGenerator p) s t
  rest : t = { s with regs := t.regs }

theorem StepsGenerators.refl (p : Nat) (s : State) : StepsGenerators p s s := ⟨fun _ _ => rfl, rfl⟩

theorem StepsGenerators.trans (h : StepsGenerators p s t) (k : StepsGenerators p t u) : StepsGenerators p s u := by
  refine ⟨fun r hr => (k.raw r hr).trans (h.raw r hr), ?_⟩
  rw [k.rest, h.rest]

theorem stepsGenerators_putIndex (s : State) (p x k : Nat) : StepsGenerators p s (s.put CUE_AGDIM_INDEX x p k) :=
  ⟨fun r hr => raw_put_ne s _ _ _ _ fun e => hr (by subst e; exact ⟨rfl, rfl⟩), rfl⟩

theorem agStepFrom_stepsGenerators (p g : Nat) (fuel k : Nat) (s : State) : StepsGenerators p s (s.agStepFrom p g fuel k) := by
  induction fuel generalizing s k with
  | zero => exact StepsGenerators.refl p s
  | succ fuel ih =>
    unfold State.agStepFrom
    dsimp only
    split
    · exact stepsGenerators_putIndex s p _ _
    · exact (stepsGenerators_putIndex s p _ _).trans (ih _ _)

theorem done_stepsGenerators (i : Issue) (p : Nat) : StepsGenerators p i.s (i.done p) :=
  List.foldlRecOn (motive := fun t => StepsGenerators p i.s t) _ _ (StepsGenerators.refl p i.s) fun t h g _ =>
    h.trans (agStepFrom_stepsGenerators p g 5 0 t)

/-! ## A cue that joins a queue of its bay -/

/-- The bay's queues after a join: `g` changes arrays and the drain queue, the same whatever the revolves' ends hold, and no
accumulator. -/
structure JoinsQueues (g : Bay → Bay) (b : Bay) : Prop where
  eq  : ∀ rings, g { b with rings := rings } = { b with rings := rings, arrs := (g b).arrs, dq := (g b).dq }
  acc : ∀ a, ((g b).arr a).acc = (b.arr a).acc

/-- The state after a cue has joined its queue by `g`, retired and let the bay's units start. -/
def joined (s : State) (p : Nat) (g : Bay → Bay) : State := ((s.modBay p g).retireCue p).kick p

/-- All but registers, bays and the bandwidth units' counts stays. -/
def KeepsBeyondCues (s t : State) : Prop :=
  t = { s with regs := t.regs, bays := t.bays, obs := { s.obs with bwCount := t.obs.bwCount } }

theorem KeepsBeyondCues.trans (h : KeepsBeyondCues s t) (k : KeepsBeyondCues t u) : KeepsBeyondCues s u := by
  unfold KeepsBeyondCues at h k ⊢
  rw [k, h]

theorem InBay.keepsBeyondCues (h : InBay s t p) : KeepsBeyondCues s t := by
  unfold KeepsBeyondCues; rw [h.rest]

section
variable {g : Bay → Bay} (hr : Resolves s p i) (hg : JoinsQueues g (s.bay p)) (hsamp : (s.bay p).samples = [])
include hr hg

/-- The bay as the cue's retirement leaves it: its queues joined. -/
theorem join_own : ((i.done p).modBay p g).bay p =
    { s.bay p with rings := (i.s.bay p).rings, arrs := (g (s.bay p)).arrs, dq := (g (s.bay p)).dq } := by
  rw [bay_modBay_self, ← hg.eq, ← hr.own, (done_stepsGenerators i p).rest]; rfl

include hsamp

theorem joined_retired : Retired ((i.done p).modBay p g) (((i.done p).modBay p g).retireCue p) p
    (((i.done p).modBay p g).get CUE_SEQSTAT_PC p + 1) :=
  retireCue_retired _ p (by rw [join_own hr hg]; exact hsamp)

theorem joined_started :
    Started { retired (s.bay p) with rings := (i.s.bay p).rings, arrs := (g (s.bay p)).arrs, dq := (g (s.bay p)).dq }
      ((joined (i.done p) p g).bay p) := by
  have hkick := kick_started (((i.done p).modBay p g).retireCue p) p
  rw [(joined_retired hr hg hsamp).own, join_own hr hg, ← hsamp] at hkick
  exact hkick

theorem joined_arr (a : Nat) : ArrStarted ((g (s.bay p)).arr a) (((joined (i.done p) p g).bay p).arr a) :=
  (joined_started hr hg hsamp).arr a

theorem joined_dq : ((joined (i.done p) p g).bay p).dq = (g (s.bay p)).dq := by
  rw [(joined_started hr hg hsamp).own]

omit hg hsamp in
theorem raw_join_of_not_generator {r : Reg} (hgen : ¬ isGenerator p r) : ((i.done p).modBay p g).raw r = s.raw r := by
  rw [raw_modBay, (done_stepsGenerators i p).raw r hgen, hr.inBay.raw]

omit hg hsamp in
theorem get_join_seqstat {f : Fld} (hf : f.reg = .CUE_SEQSTAT) : ((i.done p).modBay p g).get f p = s.get f p := by
  rw [get_def, raw_join_of_not_generator hr (by simp [isGenerator, hf]), get_def]

theorem joined_seqAt : SeqAt s (joined (i.done p) p g) p (s.get CUE_SEQSTAT_PC p + 1) := by
  have hret := joined_retired hr hg hsamp
  have hkick := kick_inBay (((i.done p).modBay p g).retireCue p) p
  refine ⟨?_, ?_, ?_⟩
  · rw [joined, hkick.get, hret.pc, get_join_seqstat hr rfl]
  · rw [joined, hkick.get, hret.state, get_join_seqstat hr rfl]
  · rw [joined, hkick.get, hret.depth, get_join_seqstat hr rfl]

theorem joined_cueFrame : CueFrame s (joined (i.done p) p g) p fun r => r = seqstat p ∨ (r.name = .CUE_AGDIM ∧ r.unit = p) := by
  have hret := joined_retired hr hg hsamp
  have hkick := kick_inBay (((i.done p).modBay p g).retireCue p) p
  have hgen := done_stepsGenerators i p
  refine ⟨fun r hout hcnt => ?regs, fun q hq => ?bays, ?wings, ?rest⟩
  case regs =>
    obtain ⟨hseq, hgenr⟩ := not_or.mp hout
    rw [joined, hkick.raw, hret.raw r hseq hcnt, raw_join_of_not_generator hr hgenr]
  case bays =>
    rw [joined, hkick.bays q hq, hret.bays q hq, bay_modBay_ne _ _ hq, hgen.rest, ← hr.inBay.bays q hq]; rfl
  case wings => rw [(joined_started hr hg hsamp).own]; rfl
  case rest =>
    have steps : KeepsBeyondCues i.s (i.done p) := by unfold KeepsBeyondCues; rw [hgen.rest]
    exact hr.inBay.keepsBeyondCues.trans <| steps.trans <| (inBay_modBay _ p g).keepsBeyondCues.trans <|
      KeepsBeyondCues.trans hret.rest hkick.keepsBeyondCues

/-- A cue that joins a queue leaves what every array cue leaves at issue. -/
theorem joined_arrayFrame : ArrayFrame s (joined (i.done p) p g) p := by
  refine ⟨joined_cueFrame hr hg hsamp, ?own, fun a => ?acc, joined_seqAt hr hg hsamp⟩
  case own => rw [(joined_started hr hg hsamp).own]
  case acc => rw [(joined_arr hr hg hsamp a).acc, hg.acc]

end

/-! ## The issue of a cue that joins (R83, R85) -/

/-- An issued cue whose action answers `t` leads to `t`. -/
theorem issueCue_of_issues {lb : Nat} {q : Cue} {act : State → Nat → Cue → Option State} (h : Issues s lb q)
    (ha : act s (s.phys lb) q = some t) : issueCue lb s act = .next t := by
  rw [issueCue_run s act h.bay h.clocks h.may h.cue h.plain, ha]; rfl

/-- What a join of the queues by `g` leads to: the queues of `g`, but for the marks of what starts, and the frame of array cues. -/
structure JoinEffect (s : State) (p : Nat) (g : Bay → Bay) (t : State) : Prop where
  loads : ∀ a, loads (t.bay p) a = loads (g (s.bay p)) a
  feeds : ∀ a, feeds (t.bay p) a = feeds (g (s.bay p)) a
  recS  : ∀ a, ((t.bay p).arr a).recS = ((g (s.bay p)).arr a).recS
  recA  : ∀ a, ((t.bay p).arr a).recA = ((g (s.bay p)).arr a).recA
  dq    : (t.bay p).dq = (g (s.bay p)).dq
  frame : ArrayFrame s t p

theorem joined_joinEffect {g : Bay → Bay} (hr : Resolves s p i) (hg : JoinsQueues g (s.bay p)) (hsamp : (s.bay p).samples = []) :
    JoinEffect s p g (joined (i.done p) p g) where
  loads a := (joined_arr hr hg hsamp a).lq
  feeds a := (joined_arr hr hg hsamp a).fq
  recS a := (joined_arr hr hg hsamp a).recS
  recA a := (joined_arr hr hg hsamp a).recA
  dq := joined_dq hr hg hsamp
  frame := joined_arrayFrame hr hg hsamp

/-! ## Joins of one array's queues -/

theorem arr_modArr (b : Bay) (arr a : Nat) (f : Arr → Arr) : (b.modArr arr f).arr a = if a = arr then f (b.arr a) else b.arr a := by
  split
  · next e => rw [e, arr_modArr_self]
  · next e => rw [arr_modArr_ne b f e]

/-- A change of one array that leaves its accumulators joins a queue. -/
theorem joinsQueues_modArr (b : Bay) (arr : Nat) {f : Arr → Arr} (hf : ∀ x, (f x).acc = x.acc) : JoinsQueues (·.modArr arr f) b := by
  refine ⟨fun _ => rfl, fun a => ?_⟩
  rw [arr_modArr]
  split
  · rw [hf]
  · rfl

/-! ## LOADW -/

/-- A LOADW joins an array's LOADW queue, and the array records its tile's format. -/
def joinLoad (l : LoadOp) (a : Arr) : Arr := { a with recS := some { fmt := l.fmt, sp := l.sp }, lq := a.lq ++ [l] }

theorem loadwCue_joins {arr fmt ktm1 ntm1 src side : Nat} {sp dense ovf col : Bool} {so : Opnd}
    (hroom : ((s.bay p).arr arr).lq.length < 2)
    (hsrc : Issue.wop { s := s } p src (loadwExtent fmt sp dense col (ktm1 + 1) (ntm1 + 1))
      (if col then loadwGroups fmt sp dense (ktm1 + 1) else 0) false (s.bay p).ord = .ok (i, o))
    (hside : i.wop p side (sideExtent fmt sp dense (ktm1 + 1) (ntm1 + 1)) 0 false (s.bay p).ord = .ok (j, so)) :
    loadwCue s p (.loadw arr fmt sp dense ovf col ktm1 ntm1 src side) = some (joined (j.done p) p (·.modArr arr (joinLoad
      { fmt := fmt, sp := sp, dense := dense, ovf := ovf, col := col, kt := ktm1 + 1, nt := ntm1 + 1, src := o, side := so.ofs,
        pc := s.get CUE_SEQSTAT_PC p, ord := (s.bay p).ord }))) := by
  simp only [loadwCue, if_neg (show ¬ 2 ≤ ((s.bay p).arr arr).lq.length by omega), hsrc, hside, bind, Except.bind, pure, Except.pure]
  rfl

/-- LOADW joins its queue and retires. -/
theorem loadwJoinsItsQueue : LoadwJoinsItsQueue := by
  intro s lb arr fmt sp dense ovf col ktm1 ntm1 src side i o j so hq p ord hroom hsrc hside
  have hr : Resolves s p j := ((Resolves.refl s p).wop hsrc).wop hside
  have h l := joined_joinEffect hr (joinsQueues_modArr (s.bay p) arr (f := joinLoad l) fun _ => rfl) hq.plain.2
  refine ⟨_, issueCue_of_issues hq (loadwCue_joins hroom hsrc hside), ?own, ?recS, fun a ha => ?others, fun a => ?feeds,
    (h _).dq, (h _).frame⟩
  case own => rw [(h _).loads, loads, arr_modArr_self]; exact List.map_append
  case recS => rw [(h _).recS, arr_modArr_self]; rfl
  case others =>
    rw [(h _).loads, (h _).recS, loads, arr_modArr_ne _ _ ha]
    exact ⟨rfl, rfl⟩
  case feeds =>
    rw [(h _).feeds, feeds, arr_modArr]
    split <;> rfl

/-! ## FEED -/

/-- A FEED joins an array's FEED queue, and under SWAP the shadow record becomes the active one. -/
def joinFeed (f : FeedOp) (a : Arr) : Arr := { a with recA := if f.swap then a.recS else a.recA, fq := a.fq ++ [.feed f] }

/-- The LOADW part of a shared FEED (R63). -/
def shareLoad (f : FeedOp) : LoadOp :=
  { share := true, fmt := f.fmt, sp := false, kt := f.m, nt := 128, src := f.src, pc := f.pc, ord := f.ord }

/-- A FEED joins its queues. -/
def joinFeeds (arr : Nat) (f : FeedOp) (b : Bay) : Bay :=
  if f.share then (b.modArr arr (joinFeed f)).modArr 2 (joinLoad (shareLoad f)) else b.modArr arr (joinFeed f)

theorem joinsQueues_joinFeeds (b : Bay) (arr : Nat) (f : FeedOp) : JoinsQueues (joinFeeds arr f) b := by
  have feed := joinsQueues_modArr b arr (f := joinFeed f) fun _ => rfl
  unfold joinFeeds
  split
  · have load := joinsQueues_modArr (b.modArr arr (joinFeed f)) 2 (f := joinLoad (shareLoad f)) fun _ => rfl
    exact ⟨fun _ => rfl, fun a => (load.acc a).trans (feed.acc a)⟩
  · exact feed

theorem arr_joinFeeds (b : Bay) (arr a : Nat) (f : FeedOp) : (joinFeeds arr f b).arr a =
    if f.share = true ∧ a = 2 then joinLoad (shareLoad f) (if a = arr then joinFeed f (b.arr a) else b.arr a)
    else if a = arr then joinFeed f (b.arr a) else b.arr a := by
  unfold joinFeeds
  split
  · next h => rw [arr_modArr, arr_modArr]; simp only [h, true_and]
  · next h => rw [arr_modArr, if_neg (show ¬ (f.share = true ∧ a = 2) from fun e => h e.1)]

theorem fq_joinFeeds (b : Bay) (arr a : Nat) (f : FeedOp) :
    ((joinFeeds arr f b).arr a).fq = if a = arr then (b.arr a).fq ++ [.feed f] else (b.arr a).fq := by
  rw [arr_joinFeeds]; split <;> split <;> rfl

theorem recA_joinFeeds (b : Bay) (arr a : Nat) (f : FeedOp) :
    ((joinFeeds arr f b).arr a).recA = if a = arr then (b.arr a).record f.swap else (b.arr a).recA := by
  rw [arr_joinFeeds]; split <;> split <;> rfl

theorem lq_joinFeeds (b : Bay) (arr a : Nat) (f : FeedOp) :
    ((joinFeeds arr f b).arr a).lq = if f.share = true ∧ a = 2 then (b.arr a).lq ++ [shareLoad f] else (b.arr a).lq := by
  rw [arr_joinFeeds]; split <;> split <;> rfl

theorem recS_joinFeeds_of_share (b : Bay) (arr : Nat) {f : FeedOp} (h : f.share = true) :
    ((joinFeeds arr f b).arr 2).recS = some { fmt := f.fmt, sp := false } := by
  rw [arr_joinFeeds, if_pos ⟨h, rfl⟩]; rfl

theorem dq_joinFeeds (b : Bay) (arr : Nat) (f : FeedOp) : (joinFeeds arr f b).dq = b.dq := by
  unfold joinFeeds; split <;> rfl

theorem feedCue_joins {arr fmt wfmt mm1 a0 src row : Nat} {sp swap acc share col : Bool}
    (hroom : ((s.bay p).arr arr).fq.length < 2) (hshare : share = true → ((s.bay p).arr 2).lq.length < 2)
    (hrec : ((s.bay p).arr arr).record swap = some { fmt := wfmt, sp := sp })
    (ha : Issue.aop { s := s } p a0 = .ok (i, row))
    (hsrc : i.wop p src (feedExtent fmt wfmt sp col (mm1 + 1)) (if col then feedGroups fmt wfmt sp (mm1 + 1) else 0) false
      (s.bay p).ord = .ok (j, o)) :
    feedCue s p (.feed arr fmt wfmt sp swap acc share col mm1 a0 src) = some (joined (j.done p) p (joinFeeds arr
      { fmt := fmt, wfmt := wfmt, sp := sp, swap := swap, acc := acc, share := share, col := col, m := mm1 + 1, a0 := row, src := o,
        pc := s.get CUE_SEQSTAT_PC p, ord := (s.bay p).ord })) := by
  have room : ¬ (2 ≤ ((s.bay p).arr arr).fq.length ∨ (share = true ∧ 2 ≤ ((s.bay p).arr 2).lq.length)) := by
    rintro (h | ⟨h, h'⟩)
    · omega
    · have := hshare h; omega
  simp only [feedCue, if_neg room, ha, hsrc, hrec, ne_eq, not_true_eq_false, if_false, bind, Except.bind, pure, Except.pure]
  rfl

/-- FEED joins its queues and retires. -/
theorem feedJoinsItsQueue : FeedJoinsItsQueue := by
  intro s lb arr fmt wfmt sp swap acc share col mm1 a0 src i row j o hq p ord hroom hshare hrec ha hsrc
  have hr : Resolves s p j := ((Resolves.refl s p).aop ha).wop hsrc
  have h f := joined_joinEffect hr (joinsQueues_joinFeeds (s.bay p) arr f) hq.plain.2
  refine ⟨_, issueCue_of_issues hq (feedCue_joins hroom hshare hrec ha hsrc), ?own, ?recA, fun a ha => ?others, fun hs => ?share,
    fun a ha => ?loads, ?dq, (h _).frame⟩
  case dq => rw [(h _).dq, dq_joinFeeds]
  case own => rw [(h _).feeds, feeds, fq_joinFeeds, if_pos rfl]; exact List.map_append
  case recA => rw [(h _).recA, recA_joinFeeds, if_pos rfl]; exact hrec
  case others =>
    rw [(h _).feeds, (h _).recA, feeds, fq_joinFeeds, recA_joinFeeds, if_neg ha, if_neg ha]
    exact ⟨rfl, rfl⟩
  case share =>
    rw [(h _).loads, (h _).recS, loads, lq_joinFeeds, if_pos ⟨hs, rfl⟩, recS_joinFeeds_of_share _ _ hs]
    exact ⟨List.map_append, rfl⟩
  case loads =>
    have other : ¬ (share = true ∧ a = 2) := by rintro ⟨hs, h2⟩; simp [hs, h2] at ha
    rw [(h _).loads, loads, lq_joinFeeds, if_neg other]; rfl

/-! ## DRAIN -/

/-- A DRAIN joins the drain queue. -/
def joinDrain (d : DrainOp) (b : Bay) : Bay := { b with dq := b.dq ++ [d] }

theorem joinsQueues_joinDrain (b : Bay) (d : DrainOp) : JoinsQueues (joinDrain d) b := ⟨fun _ => rfl, fun _ => rfl⟩

theorem drainCue_joins {arr fmt rnd act dsc lay a0 rdm1 ndm1 dfn dst bsrc zadr row : Nat} {sat bias ztap deriv sp24 add clear : Bool}
    {k l : Issue} {d bo zo : Opnd} (hroom : (s.bay p).dq.length < 2)
    (ha : Issue.aop { s := s } p a0 = .ok (i, row))
    (hdst : i.wop p dst (drainExtent fmt lay sp24 (rdm1 + 1) (ndm1 + 1)) (if lay = 2 then drainGroups fmt (rdm1 + 1) else 0) true
      (s.bay p).ord = .ok (j, d))
    (hbias : j.wop p bsrc (if bias then 4 * (ndm1 + 1) else 0) 0 false (s.bay p).ord = .ok (k, bo))
    (hz : k.wop p zadr (if ztap || deriv then 256 * (rdm1 + 1) else 0) 0 false (s.bay p).ord = .ok (l, zo)) :
    drainCue s p (.drain arr fmt rnd sat act bias ztap deriv sp24 add clear dsc lay a0 rdm1 ndm1 dfn dst bsrc zadr) =
      some (joined (l.done p) p (joinDrain
        { arr := arr, fmt := fmt, rnd := rnd, sat := sat, act := act, dfn := dfn, bias := bias, ztap := ztap, deriv := deriv,
          sp24 := sp24, add := add, clear := clear, lay := lay, a0 := row, rd := rdm1 + 1, nd := ndm1 + 1, dst := d, bsrc := bo.ofs,
          zadr := zo.ofs, dsc := dsc, pc := s.get CUE_SEQSTAT_PC p, ord := (s.bay p).ord })) := by
  simp only [drainCue, if_neg (show ¬ 2 ≤ (s.bay p).dq.length by omega), ha, hdst, hbias, hz, bind, Except.bind, pure, Except.pure]
  rfl

/-! ## WALK -/

/-- An entry joins an array's FEED queue. -/
def joinFq (e : FqEntry) (a : Arr) : Arr := { a with fq := a.fq ++ [e] }

/-- A WALK joins the FEED queues of the arrays it names. -/
def joinWalk (arrm : Nat) (e : FqEntry) (b : Bay) : Bay := (walkArrays arrm).foldl (fun b a => b.modArr a (joinFq e)) b

theorem mem_walkArrays (arrm a : Nat) : a ∈ walkArrays arrm ↔ a < 3 ∧ arrm.testBit a = true := by
  have three : a ∈ [0, 1, 2] ↔ a < 3 := by simp; omega
  rw [walkArrays, List.mem_filter, three]

theorem walkArrays_nodup (arrm : Nat) : (walkArrays arrm).Nodup := List.Nodup.filter _ (by decide)

/-- A fold of changes of different arrays changes each array of the list once. -/
theorem arr_foldl_modArr (f : Arr → Arr) {l : List Nat} (hl : l.Nodup) (b : Bay) (a : Nat) :
    (l.foldl (fun b a => b.modArr a f) b).arr a = if a ∈ l then f (b.arr a) else b.arr a := by
  induction l generalizing b with
  | nil => simp
  | cons x l ih =>
    obtain ⟨hx, hl⟩ := List.nodup_cons.mp hl
    rw [List.foldl_cons, ih hl, arr_modArr]
    by_cases e : a = x
    · subst e; simp [hx]
    · simp [e]

/-- It changes nothing but arrays. -/
theorem foldl_modArr_with_rings (f : Arr → Arr) (l : List Nat) (b : Bay) (rings : Tab RingEnd) :
    l.foldl (fun b a => b.modArr a f) { b with rings := rings } =
      { b with rings := rings, arrs := (l.foldl (fun b a => b.modArr a f) b).arrs, dq := (l.foldl (fun b a => b.modArr a f) b).dq } := by
  induction l generalizing b with
  | nil => rfl
  | cons a l ih => exact ih (b.modArr a f)

theorem dq_foldl_modArr (f : Arr → Arr) (l : List Nat) (b : Bay) : (l.foldl (fun b a => b.modArr a f) b).dq = b.dq :=
  List.foldlRecOn (motive := fun c : Bay => c.dq = b.dq) l _ rfl fun _ h _ _ => h

theorem arr_joinWalk (arrm : Nat) (e : FqEntry) (b : Bay) (a : Nat) :
    (joinWalk arrm e b).arr a = if a < 3 ∧ arrm.testBit a = true then joinFq e (b.arr a) else b.arr a := by
  simp only [joinWalk, arr_foldl_modArr _ (walkArrays_nodup arrm), mem_walkArrays]

theorem joinsQueues_joinWalk (b : Bay) (arrm : Nat) (e : FqEntry) : JoinsQueues (joinWalk arrm e) b := by
  refine ⟨foldl_modArr_with_rings _ _ b, fun a => ?_⟩
  rw [arr_joinWalk]
  split <;> rfl

theorem walkCue_joins {arrm duty durm1 : Nat} (hroom : ∀ a, a < 3 → arrm.testBit a = true → ((s.bay p).arr a).fq.length < 2) :
    walkCue s p (.walk arrm duty durm1) = some (joined (Issue.done { s := s } p) p
      (joinWalk arrm (.walk durm1 duty (s.get CUE_SEQSTAT_PC p) (s.bay p).ord))) := by
  have room : ¬ ((walkArrays arrm).any fun a => decide (2 ≤ ((s.bay p).arr a).fq.length)) = true := by
    simp only [List.any_eq_true, decide_eq_true_eq, not_exists, not_and, not_le]
    intro a ha
    obtain ⟨h3, hbit⟩ := (mem_walkArrays arrm a).mp ha
    exact hroom a h3 hbit
  simp only [walkCue, if_neg room]
  rfl

/-- DRAIN and WALK join their queues and retire. -/
theorem drainAndWalkJoinTheirQueues : DrainAndWalkJoinTheirQueues := by
  refine ⟨?drain, ?walk⟩
  case drain =>
    intro s lb arr fmt rnd sat act bias ztap deriv sp24 add clear dsc lay a0 rdm1 ndm1 dfn dst bsrc zadr i row j d k bo l zo
      hq p ord hroom ha hdst hbias hz
    have hr : Resolves s p l := ((((Resolves.refl s p).aop ha).wop hdst).wop hbias).wop hz
    have h d := joined_joinEffect hr (joinsQueues_joinDrain (s.bay p) d) hq.plain.2
    exact ⟨_, issueCue_of_issues hq (drainCue_joins hroom ha hdst hbias hz), (h _).dq,
      fun a => ⟨(h _).feeds a, (h _).loads a⟩, (h _).frame⟩
  case walk =>
    intro s lb arrm duty durm1 hq p hroom
    have h e := joined_joinEffect (Resolves.refl s p) (joinsQueues_joinWalk (s.bay p) arrm e) hq.plain.2
    refine ⟨_, issueCue_of_issues hq (walkCue_joins hroom), fun a => ?feeds, fun a => ?loads, ?dq, (h _).frame⟩
    case feeds =>
      rw [(h _).feeds, feeds, arr_joinWalk]
      split
      · exact List.map_append
      · exact (List.append_nil _).symm
    case loads =>
      rw [(h _).loads, loads, arr_joinWalk]
      split <;> rfl
    case dq => rw [(h _).dq]; exact dq_foldl_modArr _ _ _

/-- Settles O5: each cue resolves its operands, joins its queues by one change of the bay, retires, and the bay's units start. -/
theorem arrayCuesJoinTheirQueues : Obligations.ArrayCuesJoinTheirQueues :=
  ⟨loadwJoinsItsQueue, feedJoinsItsQueue, drainAndWalkJoinTheirQueues⟩

end Sys2Proof.Proofs
end

section
/-! The end of a LOADW (R51, R54, R220): what a change inside one array leaves, and the tile in the shadow registers, which settles
O12. -/

namespace Sys2Proof.Proofs

open Sys2Proof.Machine Sys2Proof.Laws Sys2Proof.Claims

variable {s t u : State} {p arr : Nat} {l : LoadOp}

/-- A command on a bay whose clocks run acts on its physical bay. -/
theorem onBay_of_bayRuns {lb : Nat} (h : BayRuns s lb) (f : Nat → State) : onBay lb s f = .next (f (s.phys lb)) :=
  onBay_run s h.1 h.2.1 f

/-! ## A change inside one array -/

/-- Nothing changed but array `arr` of bay `p`. -/
structure InArr (s t : State) (p arr : Nat) : Prop where
  inBay : InBay s t p
  own   : t.bay p = { s.bay p with arrs := (t.bay p).arrs }
  arrs  : ∀ a, a ≠ arr → (t.bay p).arr a = (s.bay p).arr a

theorem InArr.refl (s : State) (p arr : Nat) : InArr s s p arr := ⟨InBay.refl s p, rfl, fun _ _ => rfl⟩

theorem InArr.trans (h : InArr s t p arr) (k : InArr t u p arr) : InArr s u p arr := by
  refine ⟨h.inBay.trans k.inBay, ?_, fun a ha => (k.arrs a ha).trans (h.arrs a ha)⟩
  rw [k.own, h.own]

theorem inArr_modArr (s : State) (p arr : Nat) (g : Arr → Arr) : InArr s (s.modBay p fun b => b.modArr arr g) p arr := by
  refine ⟨inBay_modBay s p _, ?_, fun a ha => ?_⟩
  · rw [bay_modBay_self]; rfl
  · rw [bay_modBay_self, arr_modArr_ne _ _ ha]

theorem arr_modBay_modArr (s : State) (p arr : Nat) (g : Arr → Arr) :
    ((s.modBay p fun b => b.modArr arr g).bay p).arr arr = g ((s.bay p).arr arr) := by
  rw [bay_modBay_self, arr_modArr_self]

/-- A fold of changes of one array is one change of it. -/
theorem foldl_modBay_modArr (g : Nat → Arr → Arr) (js : List Nat) (s : State) (p arr : Nat) :
    InArr s (js.foldl (fun s j => s.modBay p fun b => b.modArr arr (g j)) s) p arr ∧
    ((js.foldl (fun s j => s.modBay p fun b => b.modArr arr (g j)) s).bay p).arr arr =
      js.foldl (fun a j => g j a) ((s.bay p).arr arr) := by
  induction js generalizing s with
  | nil => exact ⟨InArr.refl s p arr, rfl⟩
  | cons j js ih =>
    obtain ⟨hin, harr⟩ := ih (s.modBay p fun b => b.modArr arr (g j))
    rw [arr_modBay_modArr] at harr
    exact ⟨(inArr_modArr s p arr (g j)).trans hin, harr⟩

/-! ## The shadow registers -/

theorem wKey_ne_of_row {k k' : Nat} (n : Nat) (h : k' ≠ k) : wKey k' n ≠ wKey k n := by unfold wKey; omega

theorem wKey_ne_of_col {n n' : Nat} (k k' : Nat) (hn : n < 128) (hn' : n' < 128) (h : n' ≠ n) : wKey k' n' ≠ wKey k n := by
  unfold wKey; omega

/-- Cell k of column n is written where `reach` holds. -/
def writeCell (cols : List (List WCell)) (reach : Nat → Nat → Bool) (n : Nat) (a : Arr) (k : Nat) : Arr :=
  if reach k n then
    { a with wshd := Tab.set {} a.wshd (wKey k n) ((cols.getD n []).getD k {}), errs := Tab.erase a.errs (errShd (wKey k n)) }
  else a

/-- Column n is written. -/
def writeCol (cols : List (List WCell)) (reach : Nat → Nat → Bool) (a : Arr) (n : Nat) : Arr :=
  (List.range 128).foldl (writeCell cols reach n) a

theorem writeShadow_eq (a : Arr) (cols : List (List WCell)) (reach : Nat → Nat → Bool) :
    a.writeShadow cols reach = (List.range 128).foldl (writeCol cols reach) a := rfl

/-- Only shadow registers changed, and error marks. -/
def ShadowOnly (x y : Arr) : Prop := y = { x with wshd := y.wshd, errs := y.errs }

theorem ShadowOnly.trans {x y z : Arr} (h : ShadowOnly x y) (k : ShadowOnly y z) : ShadowOnly x z := by
  unfold ShadowOnly at h k ⊢
  rw [k, h]

theorem shadowOnly_foldl {g : Arr → Nat → Arr} (h : ∀ x k, ShadowOnly x (g x k)) (ks : List Nat) (x : Arr) :
    ShadowOnly x (ks.foldl g x) :=
  List.foldlRecOn (motive := fun y => ShadowOnly x y) ks g rfl fun _ hy k _ => hy.trans (h _ k)

theorem writeCell_shadowOnly (cols : List (List WCell)) (reach : Nat → Nat → Bool) (n : Nat) (x : Arr) (k : Nat) :
    ShadowOnly x (writeCell cols reach n x k) := by
  unfold writeCell; split <;> rfl

theorem writeShadow_shadowOnly (a : Arr) (cols : List (List WCell)) (reach : Nat → Nat → Bool) :
    ShadowOnly a (a.writeShadow cols reach) :=
  shadowOnly_foldl (fun x n => shadowOnly_foldl (writeCell_shadowOnly cols reach n) _ x) _ a

theorem get_wshd_writeCell_ne {cols : List (List WCell)} {reach : Nat → Nat → Bool} {n k key : Nat} (x : Arr) (h : key ≠ wKey k n) :
    Tab.get {} (writeCell cols reach n x k).wshd key = Tab.get {} x.wshd key := by
  unfold writeCell
  split
  · exact get_set_ne _ _ _ h
  · rfl

theorem get_wshd_writeCol_ne {cols : List (List WCell)} {reach : Nat → Nat → Bool} {k n n' : Nat} (x : Arr) (hn : n < 128)
    (hn' : n' < 128) (h : n' ≠ n) : Tab.get {} (writeCol cols reach x n').wshd (wKey k n) = Tab.get {} x.wshd (wKey k n) :=
  List.foldlRecOn (motive := fun y : Arr => Tab.get {} y.wshd (wKey k n) = Tab.get {} x.wshd (wKey k n)) _ _ rfl fun y hy k' _ => by
    rw [get_wshd_writeCell_ne y (wKey_ne_of_col k k' hn hn' h).symm, hy]

theorem get_wshd_writeCol {cols : List (List WCell)} {reach : Nat → Nat → Bool} {k n : Nat} (x : Arr) (hk : k < 128)
    (hreach : reach k n = true) : Tab.get {} (writeCol cols reach x n).wshd (wKey k n) = (cols.getD n []).getD k {} := by
  refine foldl_range_visit (P := fun _ => True) (Q := fun y : Arr => Tab.get {} y.wshd (wKey k n) = (cols.getD n []).getD k {})
    hk trivial (fun _ _ _ _ _ => trivial) (fun y _ => ?here) (fun y k' _ hne hy => ?after)
  case here => rw [writeCell, if_pos hreach]; exact get_set_self _ _ _ _
  case after => rw [get_wshd_writeCell_ne y (wKey_ne_of_row n hne).symm, hy]

/-- A shadow register that is written holds its column's cell. -/
theorem get_wshd_writeShadow {cols : List (List WCell)} {reach : Nat → Nat → Bool} {k n : Nat} (a : Arr) (hk : k < 128) (hn : n < 128)
    (hreach : reach k n = true) : Tab.get {} (a.writeShadow cols reach).wshd (wKey k n) = (cols.getD n []).getD k {} := by
  rw [writeShadow_eq]
  refine foldl_range_visit (P := fun _ => True) (Q := fun y : Arr => Tab.get {} y.wshd (wKey k n) = (cols.getD n []).getD k {})
    hn trivial (fun _ _ _ _ _ => trivial) (fun y _ => ?here) (fun y n' hn' hne hy => ?after)
  case here => exact get_wshd_writeCol y hk hreach
  case after => rw [get_wshd_writeCol_ne y hn hn' hne, hy]

/-! ## The end of a LOADW -/

/-- A tile that is not 2:4 has no group to check. -/
theorem loadCol_groups (b : Bay) (base side n : Nat) (h : l.sp = false) :
    (b.loadCol base side l n).dup = 0 ∧ (b.loadCol base side l n).overs = [] := by
  unfold Bay.loadCol
  dsimp only
  split
  · exact ⟨rfl, rfl⟩
  · rw [h]; exact ⟨rfl, rfl⟩

theorem loadCols_dups (b : Bay) (h : l.sp = false) : ((b.loadCols l).map ColLoad.dup).sum = 0 := by
  simp [Bay.loadCols, List.sum_eq_zero_iff, loadCol_groups b _ _ _ h]

theorem loadCols_overs (b : Bay) (h : l.sp = false) : ((b.loadCols l).map fun c => c.overs.length).sum = 0 := by
  simp [Bay.loadCols, List.sum_eq_zero_iff, loadCol_groups b _ _ _ h]

theorem loadCols_cell (b : Bay) {n : Nat} (hn : n < 128) : ((b.loadCols l).map ColLoad.cells).getD n [] =
    (b.loadCol (b.opOfs l.src) l.side l n).cells := by
  simp [Bay.loadCols, List.getD_eq_getElem?_getD, hn]

/-- An array takes the tile of its LOADW: the shadow registers, the rest of the queue and the pending mark. -/
def takeTile (cols : List ColLoad) (rest : List LoadOp) (a : Arr) : Arr :=
  { a.writeShadow (cols.map ColLoad.cells) (fun _ _ => true) with lq := rest, pend := true }

theorem takeTile_eq (cols : List ColLoad) (rest : List LoadOp) (a : Arr) : takeTile cols rest a =
    { a with wshd := (takeTile cols rest a).wshd, errs := (takeTile cols rest a).errs, lq := rest, pend := true } := by
  have h := writeShadow_shadowOnly a (cols.map ColLoad.cells) fun _ _ => true
  unfold takeTile
  rw [h]

theorem sparseCount_zero (s : State) (p : Nat) (f : Fld) : s.sparseCount p f 0 = s := rfl

/-- A LOADW from the wings that is not 2:4 ends with its tile in the shadow registers. -/
theorem loadwEnd_run {rest : List LoadOp} {o : Nat} (hshed : s.shed = false) (hlq : ((s.bay p).arr arr).lq = l :: rest)
    (hshare : l.share = false) (hstart : l.started = true) (hask : l.asked = true) (hsp : l.sp = false) (hsrc : l.src = .wings o)
    (hgrant : (s.bay p).granted (whoLoad arr).2 l.ord = true) :
    s.loadwEnd p arr = (s.modBay p fun b => b.modArr arr (takeTile ((s.bay p).loadCols l) rest)).kick p := by
  simp only [State.loadwEnd, hlq, hshare, hstart, hshed, hgrant, hask, loadCols_dups _ hsp, loadCols_overs _ hsp, sparseCount_zero,
    Bool.not_true, Bool.or_self, Bool.false_eq_true, if_false, Nat.lt_irrefl, and_false, State.ringDone, hsrc]
  rfl

/-- Settles O12: the tile's columns are written cell by cell into the shadow registers, the entry leaves the queue, and what the
bay's units then start changes neither registers nor tile. -/
theorem loadwEndWritesTheTile : Obligations.LoadwEndWritesTheTile := by
  intro s lb arr l rest o hrun p b hlq hshare hstart hask hsp hsrc hgrant hfq
  generalize hu : s.modBay p (fun b => b.modArr arr (takeTile ((s.bay p).loadCols l) rest)) = u
  have hin : InArr s u p arr := by rw [← hu]; exact inArr_modArr s p arr _
  have harr : (u.bay p).arr arr = takeTile (b.loadCols l) rest (b.arr arr) := by rw [← hu]; exact arr_modBay_modArr s p arr _
  have hkick := kick_inBay u p
  have hstarted := kick_started u p
  have hacc : ∀ a, ((u.bay p).arr a).acc = (b.arr a).acc := fun a => by
    by_cases e : a = arr
    · rw [e, harr, takeTile_eq]
    · rw [hin.arrs a e]
  obtain ⟨hpend, hwact, hwshd⟩ := (hstarted.arr arr).idle (by rw [harr, takeTile_eq]; exact hfq)
  refine ⟨u.kick p, ?exec, ?loads, ?pend, fun k n hk hn => ?shadow, ?active, fun a => ?acc, ?wings, ?others, fun r => ?raw⟩
  case exec => rw [← hu, ← loadwEnd_run hrun.2.2 hlq hshare hstart hask hsp hsrc hgrant]; exact onBay_of_bayRuns hrun fun p => s.loadwEnd p arr
  case loads => rw [hstarted.loads_eq, loads, harr, takeTile_eq]
  case pend => rw [hpend, harr, takeTile_eq]
  case shadow =>
    rw [hwshd, harr, takeTile, get_wshd_writeShadow _ hk hn rfl, loadCols_cell b hn, hsrc]
    rfl
  case active => rw [hwact, harr, takeTile_eq]
  case acc => rw [(hstarted.arr a).acc, hacc]
  case wings => rw [hstarted.own, hin.own]
  case others => exact otherBaysKept_trans hin.inBay.otherBaysKept hkick.otherBaysKept
  case raw => rw [hkick.raw, hin.inBay.raw]

end Sys2Proof.Proofs
end

section
/-! The end of a FEED (R31, R57, R59): the accumulators take the sums of the streamed rows, which settles O13. -/

namespace Sys2Proof.Proofs

open Sys2Proof.Machine Sys2Proof.Laws Sys2Proof.Claims

variable {s t : State} {p arr : Nat} {a : Arr} {f : FeedOp}

/-! ## One row of an array without word errors -/

theorem accKey_ne_of_col {n n' : Nat} (row : Nat) (h : n' ≠ n) : accKey row n' ≠ accKey row n := by unfold accKey; omega

theorem accKey_ne_of_row {row row' n n' : Nat} (hn : n < 128) (hn' : n' < 128) (h : row' ≠ row) : accKey row' n' ≠ accKey row n := by
  unfold accKey; omega

/-- What an accumulator holds once it has taken a sum (R59). -/
def sumInto (acc : Bool) (old v : W32) : W32 := if acc then fadd old v else v

/-- Column n of row `row` takes its sum. -/
def addCell (acc : Bool) (row : Nat) (sums : List W32) (a : Arr) (n : Nat) : Arr :=
  let key := accKey row n
  let old := if markOf a.errs key = some .uncorr then f32nan else Tab.get 0 a.acc key
  { a with acc := Tab.set 0 a.acc key (sumInto acc old (sums.getD n 0)), errs := Tab.erase a.errs key }

theorem addRow_eq (a : Arr) (acc : Bool) (row : Nat) (sums : List W32) :
    a.addRow acc row sums = (List.range 128).foldl (addCell acc row sums) a := rfl

theorem addCell_of_clean (acc : Bool) (row : Nat) (sums : List W32) (h : a.errs = []) (n : Nat) : addCell acc row sums a n =
    { a with acc := Tab.set 0 a.acc (accKey row n) (sumInto acc (Tab.get 0 a.acc (accKey row n)) (sums.getD n 0)) } := by
  simp [addCell, h, markOf, Tab.erase]

/-- Only accumulators of an array without word errors changed. -/
structure AccOnly (x y : Arr) : Prop where
  clean : y.errs = []
  rest  : y = { x with acc := y.acc }

theorem AccOnly.refl {x : Arr} (h : x.errs = []) : AccOnly x x := ⟨h, rfl⟩

theorem AccOnly.trans {x y z : Arr} (h : AccOnly x y) (k : AccOnly y z) : AccOnly x z := by
  refine ⟨k.clean, ?_⟩
  rw [k.rest, h.rest]

theorem accOnly_foldl {g : Arr → Nat → Arr} (h : ∀ x k, x.errs = [] → AccOnly x (g x k)) (ks : List Nat) {x : Arr} (hx : x.errs = []) :
    AccOnly x (ks.foldl g x) :=
  List.foldlRecOn (motive := fun y => AccOnly x y) ks g (AccOnly.refl hx) fun _ hy k _ => hy.trans (h _ k hy.clean)

theorem addCell_accOnly (acc : Bool) (row : Nat) (sums : List W32) (x : Arr) (n : Nat) (h : x.errs = []) :
    AccOnly x (addCell acc row sums x n) := by
  rw [addCell_of_clean acc row sums h]
  exact ⟨h, rfl⟩

theorem addRow_accOnly (acc : Bool) (row : Nat) (sums : List W32) (x : Arr) (h : x.errs = []) : AccOnly x (x.addRow acc row sums) :=
  accOnly_foldl (addCell_accOnly acc row sums) _ h

/-- The array has no word error, and the accumulator of the key holds `v`. -/
def Holds (key : Nat) (v : W32) (a : Arr) : Prop := a.errs = [] ∧ Tab.get 0 a.acc key = v

theorem holds_addCell_ne {acc : Bool} {row n key : Nat} {sums : List W32} {v : W32} (hk : key ≠ accKey row n) (h : Holds key v a) :
    Holds key v (addCell acc row sums a n) := by
  obtain ⟨clean, get⟩ := h
  rw [addCell_of_clean acc row sums clean]
  exact ⟨clean, (get_set_ne _ _ _ hk).trans get⟩

theorem holds_addCell_self {acc : Bool} {row n : Nat} {sums : List W32} {v : W32} (h : Holds (accKey row n) v a) :
    Holds (accKey row n) (sumInto acc v (sums.getD n 0)) (addCell acc row sums a n) := by
  obtain ⟨clean, get⟩ := h
  rw [addCell_of_clean acc row sums clean, get]
  exact ⟨clean, get_set_self _ _ _ _⟩

/-- Other rows keep their accumulators. -/
theorem holds_addRow_ne {acc : Bool} {row row' n : Nat} {sums : List W32} {v : W32} (hn : n < 128) (hr : row' ≠ row)
    (h : Holds (accKey row n) v a) : Holds (accKey row n) v (a.addRow acc row' sums) :=
  List.foldlRecOn (motive := Holds (accKey row n) v) (List.range 128) (addCell acc row' sums) h fun _ hx _ hn' =>
    holds_addCell_ne (accKey_ne_of_row hn (List.mem_range.mp hn') hr).symm hx

/-- A row takes its sums. -/
theorem holds_addRow_self {acc : Bool} {row n : Nat} {sums : List W32} {v : W32} (hn : n < 128) (h : Holds (accKey row n) v a) :
    Holds (accKey row n) (sumInto acc v (sums.getD n 0)) (a.addRow acc row sums) :=
  foldl_range_visit (f := addCell acc row sums) (P := Holds (accKey row n) v) hn h
    (fun _ _ _ hne hx => holds_addCell_ne (accKey_ne_of_col row hne).symm hx) (fun _ hx => holds_addCell_self hx)
    (fun _ _ _ hne hx => holds_addCell_ne (accKey_ne_of_col row hne).symm hx)

/-! ## The rows of a FEED -/

/-- The accumulator row of a FEED's row i. -/
def feedRow (f : FeedOp) (i : Nat) : Nat := (f.a0 + i) % 1024

/-- The row of a FEED that lies `j` behind the first it has yet to add is added. -/
def addNext (f : FeedOp) (sums : Nat → List W32) (j : Nat) (a : Arr) : Arr :=
  a.addRow f.acc (feedRow f (f.added + j)) (sums (f.added + j))

/-- `count` rows of a FEED are added, from the first it has yet to add. -/
def addRows (f : FeedOp) (sums : Nat → List W32) (count : Nat) (a : Arr) : Arr :=
  (List.range count).foldl (fun a j => addNext f sums j a) a

theorem addRows_accOnly (sums : Nat → List W32) (count : Nat) (h : a.errs = []) : AccOnly a (addRows f sums count a) :=
  accOnly_foldl (fun _ _ hx => addRow_accOnly _ _ _ _ hx) _ h

theorem feedRow_ne {i j : Nat} (hi : i < 1024) (hj : j < 1024) (h : j ≠ i) : feedRow f j ≠ feedRow f i := by
  unfold feedRow; omega

/-- Each row that is added takes its sums once. -/
theorem holds_addRows_self {sums : Nat → List W32} {count i n : Nat} {v : W32} (hadd : f.added ≤ i) (hi : i < f.added + count)
    (hcount : f.added + count ≤ 1024) (hn : n < 128) (h : Holds (accKey (feedRow f i) n) v a) :
    Holds (accKey (feedRow f i) n) (sumInto f.acc v ((sums i).getD n 0)) (addRows f sums count a) := by
  have other : ∀ (x : Arr) w j, j < count → j ≠ i - f.added → Holds (accKey (feedRow f i) n) w x →
      Holds (accKey (feedRow f i) n) w (addNext f sums j x) := fun x w j hj hne hx =>
    holds_addRow_ne hn (feedRow_ne (by omega) (by omega) (by omega)) hx
  refine foldl_range_visit (P := Holds (accKey (feedRow f i) n) v) (i := i - f.added) (by omega) h
    (fun x j hj hne hx => other x _ j hj hne hx) (fun x hx => ?_) (fun x j hj hne hx => other x _ j hj hne hx)
  rw [addNext, Nat.add_sub_of_le hadd]
  exact holds_addRow_self hn hx

/-- A row that no added row names stays. -/
theorem holds_addRows_ne {sums : Nat → List W32} {count row n : Nat} {v : W32} (hn : n < 128)
    (hrow : ∀ j, j < count → feedRow f (f.added + j) ≠ row) (h : Holds (accKey row n) v a) :
    Holds (accKey row n) v (addRows f sums count a) :=
  List.foldlRecOn (motive := Holds (accKey row n) v) (List.range count) _ h fun _ hx j hj =>
    holds_addRow_ne hn (hrow j (List.mem_range.mp hj)) hx

/-- A row that a FEED does not owe is none of those it has yet to add. -/
theorem feedRow_ne_of_not_owes {row j : Nat} (ha0 : f.a0 < 1024) (hj : f.added + j < f.m) (hm : f.m ≤ 1024)
    (h : f.owes row = false) : feedRow f (f.added + j) ≠ row := by
  intro e
  have place : (row + 1024 - f.a0) % 1024 = f.added + j := by rw [← e, feedRow]; omega
  simp [FeedOp.owes, FeedOp.hits, place, hj] at h

/-- The columns of the active weights. -/
def activeCols (a : Arr) : List (List WCell) :=
  (List.range 128).map fun n => (List.range 128).map fun k => Tab.get {} a.wact (wKey k n)

/-- The column sums of row i of a FEED, from the bay's wings and the active weights. -/
def feedSums (b : Bay) (arr : Nat) (f : FeedOp) (i : Nat) : List W32 :=
  (List.range 128).map fun n => colSum f.wfmt f.sp (b.rowVals (b.opOfs f.src) f.fmt (feedK f.fmt f.wfmt f.sp) f.col f.m i)
    ((activeCols (b.arr arr)).getD n [])

theorem feedSums_getD (b : Bay) (arr : Nat) (f : FeedOp) (i : Nat) {n : Nat} (hn : n < 128) : (feedSums b arr f i).getD n 0 =
    colSum f.wfmt f.sp (b.rowVals (b.opOfs f.src) f.fmt (feedK f.fmt f.wfmt f.sp) f.col f.m i)
      ((List.range 128).map fun k => Tab.get {} (b.arr arr).wact (wKey k n)) := by
  simp [feedSums, activeCols, List.getD_eq_getElem?_getD, hn]

/-- An array without word errors meets none. -/
theorem arrayEcc_of_clean (h : ((s.bay p).arr arr).errs = []) (keys : Nat → Bool) : s.arrayEcc p arr keys =
    s.modBay p fun b => b.modArr arr fun a => { a with errs := a.errs.filter fun e => !(keys e.1 && e.2 == .corr) } := by
  simp [State.arrayEcc, h, State.bump]

theorem arrayEcc_inArr (h : ((s.bay p).arr arr).errs = []) (keys : Nat → Bool) : InArr s (s.arrayEcc p arr keys) p arr := by
  rw [arrayEcc_of_clean h]; exact inArr_modArr s p arr _

theorem arr_arrayEcc (h : ((s.bay p).arr arr).errs = []) (keys : Nat → Bool) :
    ((s.arrayEcc p arr keys).bay p).arr arr = (s.bay p).arr arr := by
  rw [arrayEcc_of_clean h, arr_modBay_modArr, h, List.filter_nil, ← h]

/-- What the rows that a FEED has yet to add leave: their sums in the accumulators, the last row's elements in the skew registers. -/
structure FeedsRows (s t : State) (p arr : Nat) (f : FeedOp) (m : Nat) : Prop where
  inArr : InArr s t p arr
  acc   : ((t.bay p).arr arr).acc = (addRows f (feedSums (s.bay p) arr f) (m - f.added) ((s.bay p).arr arr)).acc
  rest  : (t.bay p).arr arr = { (s.bay p).arr arr with acc := ((t.bay p).arr arr).acc, skew := ((t.bay p).arr arr).skew }

theorem feedRows_run (h : ((s.bay p).arr arr).errs = []) {m : Nat} (hm : ¬ m ≤ f.added) : ∃ keys codes, s.feedRows p arr f m =
    ((List.range (m - f.added)).foldl (fun t j => t.modBay p fun b => b.modArr arr (addNext f (feedSums (s.bay p) arr f) j))
      (s.arrayEcc p arr keys)).modBay p fun b => b.modArr arr fun a => a.skewRow codes := by
  simp only [State.feedRows, if_neg hm, h, List.any_nil, Bool.false_eq_true, if_false]
  exact ⟨_, _, rfl⟩

theorem feedRows_feedsRows (h : ((s.bay p).arr arr).errs = []) (m : Nat) : FeedsRows s (s.feedRows p arr f m) p arr f m := by
  by_cases hm : m ≤ f.added
  · rw [show s.feedRows p arr f m = s from if_pos hm]
    exact ⟨InArr.refl s p arr, by rw [Nat.sub_eq_zero_of_le hm]; rfl, rfl⟩
  obtain ⟨keys, codes, hrun⟩ := feedRows_run (f := f) h hm
  obtain ⟨hin, harr⟩ := foldl_modBay_modArr (addNext f (feedSums (s.bay p) arr f)) (List.range (m - f.added)) (s.arrayEcc p arr keys) p arr
  rw [arr_arrayEcc h, ← addRows] at harr
  have hacc := (addRows_accOnly (f := f) (feedSums (s.bay p) arr f) (m - f.added) h).rest
  refine ⟨?_, ?_, ?_⟩
  · rw [hrun]; exact ((arrayEcc_inArr h keys).trans hin).trans (inArr_modArr _ p arr _)
  · rw [hrun, arr_modBay_modArr, harr]; rfl
  · rw [hrun, arr_modBay_modArr, harr, hacc]; rfl

/-! ## The end of the FEED -/

theorem feedEnd_run {rest : List FqEntry} {o : Nat} (hshed : s.shed = false) (hfq : ((s.bay p).arr arr).fq = .feed f :: rest)
    (hstart : f.started = true) (hask : f.asked = true) (hshare : f.share = false) (hsrc : f.src = .wings o)
    (hgrant : (s.bay p).granted (whoFeed arr).2 f.ord = true) : ∃ n n', s.feedEnd p arr =
      ((((s.feedRows p arr f f.m).modBay p fun b => b.modArr arr fun a => { a with fq := rest }).count (bayBlk p) 0x06 arr n).count
        (bayBlk p) 0x07 arr n').kick p := by
  simp only [State.feedEnd, hfq, hstart, hshed, hgrant, hask, hshare, Bool.not_true, Bool.or_self, Bool.false_eq_true, if_false,
    State.ringDone, hsrc]
  exact ⟨_, _, rfl⟩

/-- Settles O13: each row that is still owed takes its sums once, no other row is written, and neither the counters that follow
nor what the bay's units then start reaches an accumulator. -/
theorem feedEndAddsItsRows : Obligations.FeedEndAddsItsRows := by
  intro s lb arr f o hrun p b hfq hstart hask hshare hsrc hm ha0 hclean hgrant
  have hfeeds := feedRows_feedsRows (f := f) hclean f.m
  generalize hu : (s.feedRows p arr f f.m).modBay p (fun b => b.modArr arr fun a => { a with fq := [] }) = u
  have hin : InArr s u p arr := by rw [← hu]; exact hfeeds.inArr.trans (inArr_modArr _ p arr _)
  have harr : (u.bay p).arr arr = { ((s.feedRows p arr f f.m).bay p).arr arr with fq := [] } := by
    rw [← hu]; exact arr_modBay_modArr _ p arr _
  have hwact : ((u.bay p).arr arr).wact = (b.arr arr).wact := by rw [harr, hfeeds.rest]
  have hacc : ((u.bay p).arr arr).acc = (addRows f (feedSums b arr f) (f.m - f.added) (b.arr arr)).acc := by rw [harr, hfeeds.acc]
  obtain ⟨n₁, n₂, hend⟩ := feedEnd_run hrun.2.2 hfq hstart hask hshare hsrc hgrant
  have hcounts := (count_counts u (bayBlk p) 0x06 arr n₁).trans (count_counts _ (bayBlk p) 0x07 arr n₂)
  rw [hu] at hend
  generalize (u.count (bayBlk p) 0x06 arr n₁).count (bayBlk p) 0x07 arr n₂ = v at hend hcounts
  have hkick := kick_inBay v p
  have hstarted := kick_started v p
  rw [hcounts.bay] at hstarted
  have hidle : ((u.bay p).arr arr).fq = [] := by rw [harr]
  obtain ⟨-, hwact', -⟩ := (hstarted.arr arr).idle hidle
  refine ⟨v.kick p, ?exec, (hstarted.arr arr).fq_nil hidle, fun i n hi him hn => ?added, fun row n _ hn howes => ?kept, ?active,
    fun a ha => ?arrays, ?wings, ?others, fun r hcnt _ => ?raw⟩
  case exec => rw [← hend]; exact onBay_of_bayRuns hrun fun p => s.feedEnd p arr
  case added =>
    rw [(hstarted.arr arr).acc, hacc]
    refine (holds_addRows_self hi (by omega) (by omega) hn ⟨hclean, rfl⟩).2.trans ?_
    rw [feedSums_getD b arr f i hn, hsrc]; rfl
  case kept =>
    rw [(hstarted.arr arr).acc, hacc]
    exact (holds_addRows_ne hn (fun j hj => feedRow_ne_of_not_owes ha0 (by omega) hm howes) ⟨hclean, rfl⟩).2
  case active => rw [hwact', hwact]
  case arrays => rw [(hstarted.arr a).acc, hin.arrs a ha]
  case wings => rw [hstarted.own, hin.own]
  case others =>
    exact otherBaysKept_trans hin.inBay.otherBaysKept (otherBaysKept_trans (otherBaysKept_of_counts p hcounts) hkick.otherBaysKept)
  case raw => rw [hkick.raw, hcounts.raw r hcnt, hin.inBay.raw]

end Sys2Proof.Proofs
end

section
/-! The drain (R45, R60, R61, R64, R68): the read of an accumulator row and the store of a drained row, which settles O14. -/

namespace Sys2Proof.Proofs

open Sys2Proof.Machine Sys2Proof.Laws Sys2Proof.Claims

variable {s : State} {p : Nat} {d : DrainOp} {r : DRow}

/-! ## Bytes stored in wings without word errors (R135) -/

theorem read_put_of_not_mem (m : Memory) {bs : List (Nat × Byte)} {a : Nat} (h : ∀ x ∈ bs, a ≠ x.1) : (m.put bs).read a = m.read a :=
  List.foldlRecOn (motive := fun n : Memory => n.read a = m.read a) bs _ rfl fun n hn x hx => by
    rw [read_write_ne n x.2 (h x hx), hn]

theorem read_put_of_mem (m : Memory) {bs : List (Nat × Byte)} (hbs : (bs.map (·.1)).Nodup) {x : Nat × Byte} (hx : x ∈ bs) :
    (m.put bs).read x.1 = x.2 := by
  induction bs generalizing m with
  | nil => simp at hx
  | cons y bs ih =>
    obtain ⟨hy, hbs⟩ := List.nodup_cons.mp hbs
    rcases List.mem_cons.mp hx with rfl | hx
    · have later : ∀ z ∈ bs, x.1 ≠ z.1 := fun z hz e => hy (List.mem_map.mpr ⟨z, hz, e.symm⟩)
      exact (read_put_of_not_mem (m.write x.1 x.2) later).trans (read_write_self m x.1 x.2)
    · exact ih (m.write y.1 y.2) hbs hx

/-- Bay `p`'s wings took `bs`, and nothing else changed. -/
structure Stored (s t : State) (p : Nat) (bs : List (Nat × Byte)) : Prop where
  inBay : InBay s t p
  own   : t.bay p = { s.bay p with wings := (s.bay p).wings.put bs }

/-- Stores one by one are one store of all. -/
theorem foldl_stored {F : State × EccSeen → Nat × Byte → State × EccSeen}
    (hF : ∀ s x, (s.bay p).wingsErr = [] → F (s, {}) x = (s.modBay p fun b => { b with wings := b.wings.write x.1 x.2 }, {}))
    (bs : List (Nat × Byte)) (h : (s.bay p).wingsErr = []) : ∃ t, bs.foldl F (s, {}) = (t, {}) ∧ Stored s t p bs := by
  induction bs generalizing s with
  | nil => exact ⟨s, rfl, InBay.refl s p, rfl⟩
  | cons x bs ih =>
    obtain ⟨t, ht, hin, hown⟩ := ih (s := s.modBay p fun b => { b with wings := b.wings.write x.1 x.2 }) (by simpa using h)
    rw [bay_modBay_self] at hown
    exact ⟨t, by rw [List.foldl_cons, hF s x h, ht], (inBay_modBay s p _).trans hin, hown⟩

theorem wingsPut_of_clean (h : (s.bay p).wingsErr = []) (bs : List (Nat × Byte)) :
    ∃ t, s.wingsPut p bs = (t, {}) ∧ Stored s t p bs :=
  foldl_stored (fun s x hs => by simp [hs, markOf]) bs h

/-- A store that meets no error charges nothing to the command. -/
theorem wingsStore_of_clean (h : (s.bay p).wingsErr = []) (src : Nat) (bs : List (Nat × Byte)) : Stored s (s.wingsStore src p bs) p bs := by
  obtain ⟨t, ht, hstored⟩ := wingsPut_of_clean h bs
  rw [State.wingsStore, ht]
  exact hstored

/-! ## The numeric counters (R45, R469) -/

/-- What numeric events leave: their two counters, and the command's FLAGS. -/
structure NumCounted (s t : State) (p sat inf nan : Nat) : Prop where
  sat  : t.get CUE_NUMSAT_COUNT p = counted CUE_NUMSAT_COUNT (s.get CUE_NUMSAT_COUNT p) sat
  inf  : t.get CUE_NUMNAN_INF p = counted CUE_NUMNAN_INF (s.get CUE_NUMNAN_INF p) inf
  nan  : t.get CUE_NUMNAN_NAN p = counted CUE_NUMNAN_NAN (s.get CUE_NUMNAN_NAN p) nan
  raw  : KeepsRegs (fun q => q = ⟨.CUE_NUMSAT, p, 0⟩ ∨ q = ⟨.CUE_NUMNAN, p, 0⟩) s t
  rest : t = { s with regs := t.regs, ro := t.ro }

theorem get_bump_counted (s : State) (f : Fld) (n u i : Nat) (h : f.lo + f.w ≤ 64) :
    (s.bump f n u i).get f u i = counted f (s.get f u i) n := by
  rw [get_bump_self s f n u i h, counted]
  split <;> omega

theorem get_bump_ne (s : State) (f g : Fld) (n u i v j : Nat) (h : (⟨g.reg, v, j⟩ : Reg) ≠ ⟨f.reg, u, i⟩) :
    (s.bump f n u i).get g v j = s.get g v j := by
  rw [get_def, raw_bump_ne s f n u i h, get_def]

theorem get_bump_disjoint (s : State) (f g : Fld) (n u i : Nat) (h : f.lo + f.w ≤ 64) (e : g.reg = f.reg)
    (hd : g.lo + g.w ≤ f.lo ∨ f.lo + f.w ≤ g.lo) : (s.bump f n u i).get g u i = s.get g u i := by
  unfold State.bump
  split
  · rfl
  · exact get_put_disjoint s f g _ u i h e hd

/-- A FLAGS bit for a bay's command reaches the started commands only. -/
theorem bayFlag_eq (s : State) (p b : Nat) : s.bayFlag p b = { s with ro := (s.bayFlag p b).ro } := by
  unfold State.bayFlag; split <;> rfl

theorem numCount_numCounted (s : State) (p sat inf nan : Nat) : NumCounted s (s.numCount p sat inf nan) p sat inf nan := by
  generalize hu : ((s.bump CUE_NUMSAT_COUNT sat p).bump CUE_NUMNAN_INF inf p).bump CUE_NUMNAN_NAN nan p = u
  have flags : s.numCount p sat inf nan = { u with ro := (s.numCount p sat inf nan).ro } := by
    rw [State.numCount, hu]
    split
    · rfl
    · exact bayFlag_eq u p flNUM
  have raw : ∀ q, (s.numCount p sat inf nan).raw q = u.raw q := fun q => by rw [flags]; rfl
  have get : ∀ f, (s.numCount p sat inf nan).get f p = u.get f p := fun f => by rw [get_def, raw, get_def]
  refine ⟨?_, ?_, ?_, fun q hq => ?_, ?_⟩
  · rw [get, ← hu, get_bump_ne _ CUE_NUMNAN_NAN _ _ _ _ _ _ (by simp), get_bump_ne _ CUE_NUMNAN_INF _ _ _ _ _ _ (by simp),
      get_bump_counted _ _ _ _ _ (by decide)]
  · rw [get, ← hu, get_bump_disjoint _ CUE_NUMNAN_NAN CUE_NUMNAN_INF _ _ _ (by decide) rfl (Or.inr (by decide)),
      get_bump_counted _ _ _ _ _ (by decide), get_bump_ne _ CUE_NUMSAT_COUNT _ _ _ _ _ _ (by simp)]
  · rw [get, ← hu, get_bump_counted _ _ _ _ _ (by decide),
      get_bump_disjoint _ CUE_NUMNAN_INF CUE_NUMNAN_NAN _ _ _ (by decide) rfl (Or.inl (by decide)),
      get_bump_ne _ CUE_NUMSAT_COUNT _ _ _ _ _ _ (by simp)]
  · obtain ⟨hsat, hnan⟩ := not_or.mp hq
    rw [raw, ← hu, raw_bump_ne _ _ _ _ _ hnan, raw_bump_ne _ _ _ _ _ hnan, raw_bump_ne _ _ _ _ _ hsat]
  · rw [flags, ← hu, bump_eq, bump_eq, bump_eq]

/-! ## The store of a drained row -/

theorem presentRow_of_asked {rest : List DRow} (h : (s.bay p).drows = r :: rest) (hask : r.asked = true) : s.presentRow p = s := by
  simp [State.presentRow, h, hask]

theorem tear_of_no_photo (h : (s.bay p).photo = none) (bs : List (Nat × Byte)) : s.tear p bs = s := by
  simp [State.tear, h]

/-- What remains of a row's store once its bytes stand: the slot that its last store fills, the end that a cut leaves, the cursor. -/
def settleRow (s : State) (p : Nat) (r : DRow) (n : Nat) : State :=
  if r.last then s.ringDone p r.dst r.len r.ord
  else if r.cut then s.modBay p fun b => b.ringDrop r.dst r.ord
  else s.ringAdd p r.dst n

/-- A row stored at a place in the wings has no slot to settle. -/
theorem settleRow_of_wings {o : Nat} (h : r.dst = .wings o) (s : State) (n : Nat) :
    InBay s (settleRow s p r n) p ∧ (settleRow s p r n).bay p = s.bay p := by
  unfold settleRow
  rw [h]
  split
  · exact ⟨InBay.refl s p, rfl⟩
  · split
    · exact ⟨inBay_modBay s p _, bay_modBay_self s p _⟩
    · exact ⟨InBay.refl s p, rfl⟩

/-- The bytes of a row at its destination. -/
def placed (o : Nat) (r : DRow) : List (Nat × Byte) := r.bytes.map fun x => (o + x.1, x.2)

theorem drainStore_run {rest : List DRow} {o : Nat} (hrows : (s.bay p).drows = r :: rest) (hdst : r.dst = .wings o)
    (hadd : r.add = false) (hz : r.zbytes = []) (hask : r.asked = true) (hgrant : (s.bay p).granted 0 r.key = true) :
    s.drainStore p = settleRow (((((s.numCount p r.sat r.inf r.nan).tear p (placed o r)).wingsStore p p (placed o r)).wingsWrite p []).modBay
      p fun b => { b with drows := rest }) p r (placed o r).length := by
  have turn : (s.bay p).turn (.wings o) r.ord = .go := rfl
  simp only [State.drainStore, presentRow_of_asked hrows hask, hrows, hdst, turn, hask, hgrant, State.storeBay, State.holdsStore, hadd, hz,
    settleRow]
  simp [placed, Bay.opOfs]

theorem wingsWrite_nil (s : State) (p : Nat) : s.wingsWrite p [] = s := rfl

/-- The first drained row is stored and counted. -/
theorem drainedRowIsStored : DrainedRowIsStored := by
  intro s lb r rest o hrun p b hrows hdst hadd hz hphoto herr hask hgrant hnodup
  generalize hu : s.numCount p r.sat r.inf r.nan = u
  have hnum : NumCounted s u p r.sat r.inf r.nan := by rw [← hu]; exact numCount_numCounted s p _ _ _
  have hbay : ∀ q, u.bay q = s.bay q := fun q => by rw [hnum.rest]; rfl
  have hnumKept : OtherBaysKept s u p := by refine ⟨fun q _ => hbay q, ?_, ?_⟩ <;> rw [hnum.rest] <;> simp
  have hstored := wingsStore_of_clean (s := u) (by rw [hbay]; exact herr) p (placed o r)
  generalize hv : (u.wingsStore p p (placed o r)).modBay p (fun b => { b with drows := rest }) = v
  have hvin : InBay u v p := by rw [← hv]; exact hstored.inBay.trans (inBay_modBay _ p _)
  have hvbay : v.bay p = { b with drows := rest, wings := b.wings.put (placed o r) } := by
    rw [← hv, bay_modBay_self, hstored.own, hbay]
  obtain ⟨hsettle, hsettled⟩ := settleRow_of_wings hdst v (placed o r).length
  have hin := hvin.trans hsettle
  have hown := hsettled.trans hvbay
  have keys : (placed o r).map (·.1) = (r.bytes.map (·.1)).map (o + ·) := by simp [placed]
  refine ⟨settleRow v p r (placed o r).length, ?exec, ?rows, fun x hx => ?stored, fun a ha => ?kept, ?sat, ?inf, ?nan, ?own, ?others,
    fun q hq => ?raw⟩
  case exec =>
    have htear : u.tear p (placed o r) = u := tear_of_no_photo (by rw [hbay]; exact hphoto) _
    rw [← hv, ← wingsWrite_nil (u.wingsStore p p (placed o r)) p]
    nth_rewrite 1 [← htear]
    rw [← hu, ← drainStore_run hrows hdst hadd hz hask hgrant]
    exact onBay_of_bayRuns hrun fun p => s.drainStore p
  case rows => rw [hown]
  case stored =>
    rw [hown]
    exact read_put_of_mem b.wings (x := (o + x.1, x.2)) (by rw [keys]; exact hnodup.map fun _ _ h => Nat.add_left_cancel h)
      (List.mem_map.mpr ⟨x, hx, rfl⟩)
  case kept =>
    rw [hown]
    refine read_put_of_not_mem b.wings fun y hy => ?_
    obtain ⟨x, hx, rfl⟩ := List.mem_map.mp hy
    exact ha x hx
  case sat => rw [hin.get, hnum.sat]
  case inf => rw [hin.get, hnum.inf]
  case nan => rw [hin.get, hnum.nan]
  case own => rw [hown]
  case others => exact otherBaysKept_trans hnumKept hin.otherBaysKept
  case raw => rw [hin.raw, hnum.raw q hq]

/-! ## The read of a row -/

/-- A DRAIN that no earlier FEED holds lets none go forward. -/
theorem feedForward_of_free (h : (s.bay p).feedHolds d = false) : s.feedForward p d = s := by
  unfold State.feedForward
  dsimp only
  split
  case h_2 => rfl
  case h_1 f rest hfq =>
    have head : (decide (f.ord < d.ord) && f.owes ((d.a0 + d.row) % 1024)) = false := by
      simp only [Bay.feedHolds, hfq, List.any_cons, Bool.or_eq_false_iff] at h
      exact h.1
    rw [head]; rfl

/-- Under CLEAR the accumulators of a row that was read become zero (R61). -/
def clearRow (d : DrainOp) (row : Nat) (a : Arr) : Arr :=
  if d.clear then (List.range 128).foldl (fun a n =>
    { a with acc := Tab.set 0 a.acc (accKey row n) 0, errs := Tab.erase a.errs (accKey row n) }) a else a

/-- The drain queue once row `d.row` has been read: the DRAIN leaves with its last row. -/
def advanced (d : DrainOp) (rest : List DrainOp) (scale : W32) : List DrainOp :=
  if d.row + 1 == d.rd then rest else { d with row := d.row + 1, scale := scale } :: rest

/-- The stage 6 factor of a DRAIN's row: its register at the first row, what was kept of it after (R64). -/
def rowScale (s : State) (p : Nat) (d : DrainOp) : W32 := if d.row = 0 then BitVec.ofNat 32 (s.get CUE_DSCALE_VALUE p d.dsc) else d.scale

/-- The bay once row `d.row` has been read: its drain queue, the drained row, the bias row and the generators. -/
def rowTaken (d : DrainOp) (rest : List DrainOp) (scale : W32) (out : DRow) (bias : List W32) (lfsr : Tab W64) (b : Bay) : Bay :=
  { b.modArr d.arr (clearRow d ((d.a0 + d.row) % 1024)) with
    dq := advanced d rest scale, drows := b.drows ++ [out], bias := bias, lfsr := lfsr }

theorem sparseCount_eq (s : State) (p : Nat) (f : Fld) (n : Nat) :
    s.sparseCount p f n = { s with regs := (s.sparseCount p f n).regs, ro := (s.sparseCount p f n).ro } := by
  unfold State.sparseCount
  split
  · rfl
  · rw [bayFlag_eq, bump_eq]

theorem sparseCount_bay (s : State) (p : Nat) (f : Fld) (n : Nat) (q : Nat) : (s.sparseCount p f n).bay q = s.bay q := by
  rw [sparseCount_eq]; rfl

/-- The drain reads its next row; one with neither scales nor metadata stores its conversions alone. -/
theorem drainRead_run {rest : List DrainOp} (hshed : s.shed = false) (hdq : (s.bay p).dq = d :: rest)
    (hclean : ((s.bay p).arr d.arr).errs = []) (hfree : (s.bay p).feedHolds d = false) (hlate : (s.bay p).drainLate = false)
    (hroom : (s.bay p).drows.length < d.inFlight) : ∃ keys overs out bias lfsr asks,
    s.drainRead p = ((((s.arrayEcc p d.arr keys).sparseCount p SPR_OVERFULL_COUNT overs).modBay p fun b =>
      (rowTaken d rest (rowScale s p d) out bias lfsr b).ask (1, 0) (d.ord * 1024 + d.row) asks).count (bayBlk p) 0x08 0 1).kick p ∧
    out.dst = d.dst ∧ out.row = d.row ∧ out.add = d.add ∧ out.last = (d.row + 1 == d.rd) ∧ out.ord = d.ord ∧
    (d.sp24 = false → ((s.bay p).drainStages d d.row bias (rowScale s p d)).scales = [] →
      out.bytes = storeBytes (((s.bay p).drainStages d d.row bias (rowScale s p d)).out.zipIdx.map fun x =>
        (drainOfs d.fmt d.lay false d.rd d.nd d.row x.2, fmtHalves d.fmt, x.1.code))) := by
  have late : ¬ d.inFlight ≤ (s.bay p).drows.length := by omega
  have hscale : ∀ keys, (s.arrayEcc p d.arr keys).get CUE_DSCALE_VALUE p d.dsc = s.get CUE_DSCALE_VALUE p d.dsc :=
    fun keys => (arrayEcc_inArr hclean keys).inBay.get _ _ _
  simp only [State.drainRead, hdq, hshed, hlate, late, feedForward_of_free hfree, hfree, hscale, decide_false, Bool.or_self,
    Bool.false_eq_true, if_false]
  generalize hk : (if d.sp24 = true then compressRow d _ _ else _) = k
  obtain ⟨kept, nibs, overs⟩ := k
  refine ⟨_, _, _, _, _, _, rfl, rfl, rfl, rfl, rfl, rfl, fun hsp hscales => ?_⟩
  rw [hsp, if_neg Bool.false_ne_true] at hk
  obtain ⟨rfl, rfl, -⟩ : _ = kept ∧ [] = nibs ∧ 0 = overs := by simpa using hk
  rw [rowScale] at hscales ⊢
  simp [hscales, hsp, storeBytes]

/-! ## A row of FP32 without the optional stages (R64) -/

theorem mul_nan (v : FVal) : v.mul .nan = .nan := by cases v <;> rfl

/-- The identity activation changes no product: it keeps every value but the code of a NaN. -/
theorem fmul_identity (a w : W32) : fmul a (actFn false 0 w) = fmul a w := by
  cases h : fval w with
  | nan =>
    have hact : actFn false 0 w = f32nan := by simp only [actFn, h]; rfl
    have hnan : fval f32nan = .nan := by decide
    rw [hact, fmul, fmul, hnan, h]
  | inf neg =>
    have hact : actFn false 0 w = if neg then 0xFF800000 else 0x7F800000 := by simp only [actFn, h]; rfl
    have hinf : fval (if neg then 0xFF800000 else 0x7F800000) = .inf neg := by cases neg <;> decide
    rw [hact, fmul, fmul, hinf, h]
  | fin neg m e =>
    have hact : actFn false 0 w = w := by simp only [actFn, h]; rfl
    rw [hact]

/-- A DRAIN to FP32 without activation, bias, z tap, derivative and compression, in rows of lines. -/
structure PlainRows (d : DrainOp) : Prop where
  fmt   : d.fmt = 0
  act   : d.act = 0
  bias  : d.bias = false
  ztap  : d.ztap = false
  deriv : d.deriv = false
  sp24  : d.sp24 = false
  lay   : d.lay = 0

/-- What such a row holds in column n: the accumulator times the scale. -/
def scaledAcc (b : Bay) (d : DrainOp) (scale : W32) (n : Nat) : W32 :=
  fmul scale (Tab.get 0 (b.arr d.arr).acc (accKey ((d.a0 + d.row) % 1024) n))

theorem drainStages_of_plain {b : Bay} (hd : PlainRows d) (hclean : (b.arr d.arr).errs = []) (bias : List W32) (scale : W32) :
    (b.drainStages d d.row bias scale).scales = [] ∧
    (b.drainStages d d.row bias scale).out.map Conv.code = (List.range d.nd).map fun n => (scaledAcc b d scale n).toNat := by
  simp only [Bay.drainStages, quantRow, hd.fmt, hd.act, hd.bias, hd.ztap, hd.deriv, hclean, markOf, List.find?_nil, Option.map_none,
    Bool.false_eq_true, if_false, if_true, reduceCtorEq, ne_eq, not_true_eq_false, and_false, List.map_map]
  refine ⟨trivial, List.map_congr_left fun n _ => ?_⟩
  simp only [Function.comp_apply, fmul_identity, scaledAcc]
  split <;> rfl

theorem drainOfs_plain (rd nd i n : Nat) : drainOfs 0 0 false rd nd i n / 2 = 256 * ((nd + 63) / 64) * i + 4 * n := by
  have lines : ceilDiv (halfBytes nd 8) 256 = (nd + 63) / 64 := by unfold halfBytes ceilDiv; omega
  have ofs : drainOfs 0 0 false rd nd i n = 512 * ceilDiv (halfBytes nd 8) 256 * i + 8 * n := rfl
  rw [ofs, lines, show 512 * ((nd + 63) / 64) * i + 8 * n = 2 * (256 * ((nd + 63) / 64) * i + 4 * n) by ring]
  exact Nat.mul_div_cancel_left _ (by decide)

/-- Whole words are stored byte by byte at their places. -/
theorem storeBytes_words (l : List Conv) (ofs : Nat → Nat) :
    storeBytes (l.zipIdx.map fun x => (ofs x.2, 8, x.1.code)) =
      (l.map Conv.code).zipIdx.flatMap fun x => runAt (ofs x.2 / 2) (leBytes 4 x.1) := by
  simp [storeBytes, List.flatMap_map, List.zipIdx_map]

theorem zipIdx_map_range {α : Type} (f : Nat → α) (n : Nat) :
    ((List.range n).map f).zipIdx = (List.range n).map fun i => (f i, i) := by
  refine List.ext_getElem (by simp) fun i _ _ => ?_
  simp

/-- The bytes of a plain row: each column's product at its place. -/
theorem plain_bytes {b : Bay} (hd : PlainRows d) (hclean : (b.arr d.arr).errs = []) (bias : List W32) (scale : W32) :
    storeBytes ((b.drainStages d d.row bias scale).out.zipIdx.map fun x =>
      (drainOfs d.fmt d.lay false d.rd d.nd d.row x.2, fmtHalves d.fmt, x.1.code)) =
    (List.range d.nd).flatMap fun n => runAt (256 * ((d.nd + 63) / 64) * d.row + 4 * n) (leBytes 4 (scaledAcc b d scale n).toNat) := by
  rw [hd.fmt, hd.lay]
  refine (storeBytes_words _ _).trans ?_
  rw [(drainStages_of_plain hd hclean bias scale).2, zipIdx_map_range, List.flatMap_map]
  simp only [drainOfs_plain]

/-! ## What the read of a row leaves -/

/-- Under CLEAR the row that was read becomes zero, and no other. -/
theorem get_acc_clearRow {row rw n : Nat} (a : Arr) (hn : n < 128) : Tab.get 0 (clearRow d row a).acc (accKey rw n) =
    if d.clear = true ∧ rw = row then 0 else Tab.get 0 a.acc (accKey rw n) := by
  unfold clearRow
  by_cases hc : d.clear = true
  case neg => simp [hc]
  rw [if_pos hc]
  by_cases hr : rw = row
  · rw [if_pos ⟨hc, hr⟩, hr]
    exact foldl_range_visit (P := fun _ => True) (Q := fun x : Arr => Tab.get 0 x.acc (accKey row n) = 0) hn trivial
      (fun _ _ _ _ _ => trivial) (fun x _ => get_set_self 0 x.acc _ 0)
      (fun _ _ _ hne hx => (get_set_ne _ _ 0 (accKey_ne_of_col row hne).symm).trans hx)
  · rw [if_neg fun h => hr h.2]
    exact List.foldlRecOn (motive := fun x : Arr => Tab.get 0 x.acc (accKey rw n) = Tab.get 0 a.acc (accKey rw n)) _ _ rfl
      fun _ hx _ hn' => (get_set_ne _ _ 0 (accKey_ne_of_row (List.mem_range.mp hn') hn hr)).trans hx

theorem sparseCount_otherBaysKept (s : State) (p : Nat) (f : Fld) (n : Nat) : OtherBaysKept s (s.sparseCount p f n) p := by
  refine ⟨fun q _ => sparseCount_bay s p f n q, ?_, ?_⟩ <;> rw [sparseCount_eq] <;> simp

/-- With its last row a DRAIN leaves the queue. -/
theorem advanced_last {rest : List DrainOp} {scale : W32} (h : d.row + 1 = d.rd) : advanced d rest scale = rest := by
  simp [advanced, h]

theorem advanced_next {rest : List DrainOp} {scale : W32} (h : d.row + 1 ≠ d.rd) :
    advanced d rest scale = { d with row := d.row + 1, scale := scale } :: rest := by
  simp [advanced, h]

/-- The drain reads its next row. -/
theorem drainReadsItsNextRow : DrainReadsItsNextRow := by
  intro s lb d rest hrun p b row hdq _ hclean hfree hlate hroom
  obtain ⟨keys, overs, out, bias, lfsr, asks, hread, hdst, hrow, hadd, hlast, hord, hbytes⟩ :=
    drainRead_run hrun.2.2 hdq hclean hfree hlate hroom
  have hecc := arrayEcc_inArr hclean keys
  have heccArr := arr_arrayEcc hclean keys
  generalize s.arrayEcc p d.arr keys = u at hread hecc heccArr
  have hsparse := sparseCount_otherBaysKept u p SPR_OVERFULL_COUNT overs
  have hbay := sparseCount_bay u p SPR_OVERFULL_COUNT overs p
  generalize u.sparseCount p SPR_OVERFULL_COUNT overs = v at hread hsparse hbay
  generalize htake : (fun b => (rowTaken d rest (rowScale s p d) out bias lfsr b).ask (1, 0) (d.ord * 1024 + d.row) asks) = take at hread
  have hcounts := count_counts (v.modBay p take) (bayBlk p) 0x08 0 1
  generalize hw : (v.modBay p take).count (bayBlk p) 0x08 0 1 = w at hread hcounts
  have hkick := kick_inBay w p
  have hstarted : Started (rowTaken d rest (rowScale s p d) out bias lfsr (u.bay p)) ((w.kick p).bay p) := by
    have h := kick_started w p
    rw [hcounts.bay, bay_modBay_self, hbay, ← htake] at h
    exact (started_ask _ _ _ _).trans h
  have harr : (rowTaken d rest (rowScale s p d) out bias lfsr (u.bay p)).arr d.arr = clearRow d row (b.arr d.arr) := by
    refine (arr_modArr_self _ _ _).trans ?_
    rw [heccArr]
  have hdq' : ((w.kick p).bay p).dq = advanced d rest (rowScale s p d) := by rw [hstarted.own]; rfl
  refine ⟨w.kick p, out, ?exec, ?rows, hdst, hrow, hadd, hlast, hord, fun hl => ?done, fun hl => ?next, fun r n _ hn => ?acc,
    fun hfmt hact hb hz hdv hsp hlay => ?bytes, ?wings, ?others⟩
  case exec => rw [← hread]; exact onBay_of_bayRuns hrun fun p => s.drainRead p
  case rows => rw [hstarted.own, rowTaken, hecc.own]
  case done => rw [hdq', advanced_last hl]
  case next => exact ⟨_, hdq'.trans (advanced_next hl), rfl, fun h0 => if_pos h0, fun h0 => if_neg h0⟩
  case acc => rw [(hstarted.arr d.arr).acc, harr, get_acc_clearRow _ hn]
  case bytes =>
    have hd : PlainRows d := ⟨hfmt, hact, hb, hz, hdv, hsp, hlay⟩
    rw [hbytes hsp (drainStages_of_plain hd hclean _ _).1, plain_bytes hd hclean]
    rfl
  case wings => rw [hstarted.own, rowTaken, hecc.own]; rfl
  case others =>
    exact otherBaysKept_trans hecc.inBay.otherBaysKept (otherBaysKept_trans hsparse (otherBaysKept_trans
      (inBay_modBay v p take).otherBaysKept (otherBaysKept_trans (otherBaysKept_of_counts p hcounts) hkick.otherBaysKept)))

/-- Settles O14: the read of a row clears its accumulators under CLEAR and forms its bytes from them, and its store writes those bytes
alone; what is counted and what the bay's units then start reaches neither. -/
theorem drainReadsAndStoresRows : Obligations.DrainReadsAndStoresRows := ⟨drainReadsItsNextRow, drainedRowIsStored⟩

end Sys2Proof.Proofs
end

section
/-! Address generators (R88, R89, R112): which indices a step changes and what SET leaves of them, which settles O58. -/

namespace Sys2Proof.Proofs

open Sys2Proof.Machine Sys2Proof.Laws Sys2Proof.Claims

variable {s t u : State} {p g k : Nat}

/-! ## A change of a generator's indices -/

/-- The dimension registers of generator `g` of bay `p`. -/
def isDimension (p g : Nat) (r : Reg) : Prop := ∃ j, j < 5 ∧ r = ⟨.CUE_AGDIM, p, 5 * g + j⟩

/-- Only indices of generator `g` of bay `p` changed. -/
structure IndicesOnly (p g : Nat) (s t : State) : Prop where
  raw    : KeepsRegs (isDimension p g) s t
  extm1  : ∀ k, t.get CUE_AGDIM_EXTM1 p k = s.get CUE_AGDIM_EXTM1 p k
  stride : ∀ k, t.get CUE_AGDIM_STRIDE p k = s.get CUE_AGDIM_STRIDE p k
  rest   : t = { s with regs := t.regs }

theorem IndicesOnly.refl (p g : Nat) (s : State) : IndicesOnly p g s s := ⟨fun _ _ => rfl, fun _ => rfl, fun _ => rfl, rfl⟩

theorem IndicesOnly.trans (h : IndicesOnly p g s t) (k : IndicesOnly p g t u) : IndicesOnly p g s u := by
  refine ⟨fun r hr => (k.raw r hr).trans (h.raw r hr), fun i => (k.extm1 i).trans (h.extm1 i),
    fun i => (k.stride i).trans (h.stride i), ?_⟩
  rw [k.rest, h.rest]

/-- A field of a register beside the one written, or a disjoint field of it, stays. -/
theorem get_put_other {f h : Fld} (s : State) (x p i k : Nat) (hf : f.lo + f.w ≤ 64) (e : h.reg = f.reg)
    (hd : h.lo + h.w ≤ f.lo ∨ f.lo + f.w ≤ h.lo) : (s.put f x p i).get h p k = s.get h p k := by
  by_cases hk : k = i
  · rw [hk, get_put_disjoint s f h x p i hf e hd]
  · exact get_put_ne s f h x p i p k fun er => hk (congrArg Reg.idx er)

theorem indicesOnly_put (s : State) (p g x : Nat) {j : Nat} (hj : j < 5) :
    IndicesOnly p g s (s.put CUE_AGDIM_INDEX x p (5 * g + j)) where
  raw := fun _ hr => raw_put_ne s _ _ _ _ fun e => hr ⟨j, hj, e⟩
  extm1 := fun k => get_put_other s x p _ k (by decide) rfl (Or.inl (by decide))
  stride := fun k => get_put_other s x p _ k (by decide) rfl (Or.inl (by decide))
  rest := rfl

theorem agIndex_put_self (s : State) (p g j : Nat) {x : Nat} (hx : x < 2 ^ 16) :
    agIndex (s.put CUE_AGDIM_INDEX x p (5 * g + j)) p g j = x := by
  rw [agIndex, get_put_self _ _ _ _ _ (by decide), Nat.mod_eq_of_lt hx]

theorem agIndex_put_ne (s : State) (p g x : Nat) {i j : Nat} (h : i ≠ j) :
    agIndex (s.put CUE_AGDIM_INDEX x p (5 * g + j)) p g i = agIndex s p g i :=
  get_put_ne s _ _ _ _ _ _ _ fun e => h (by simpa using congrArg Reg.idx e)

/-! ## Indices that return to zero -/

/-- The indices of the first `k` dimensions return to zero. -/
def zeroIndices (s : State) (p g k : Nat) : State := (List.range k).foldl (fun s j => s.put CUE_AGDIM_INDEX 0 p (5 * g + j)) s

theorem agZero_eq_zeroIndices (s : State) (p g : Nat) : s.agZero p g = zeroIndices s p g 5 := rfl

theorem zeroIndices_succ (s : State) (p g k : Nat) :
    zeroIndices s p g (k + 1) = (zeroIndices s p g k).put CUE_AGDIM_INDEX 0 p (5 * g + k) := by
  simp only [zeroIndices, List.range_succ, List.foldl_append, List.foldl_cons, List.foldl_nil]

theorem zeroIndices_indicesOnly (s : State) (p g : Nat) (hk : k ≤ 5) : IndicesOnly p g s (zeroIndices s p g k) := by
  induction k with
  | zero => exact IndicesOnly.refl p g s
  | succ k ih => rw [zeroIndices_succ]; exact (ih (by omega)).trans (indicesOnly_put _ p g 0 (by omega))

theorem agIndex_zeroIndices (s : State) (p g k j : Nat) :
    agIndex (zeroIndices s p g k) p g j = if j < k then 0 else agIndex s p g j := by
  induction k with
  | zero => rfl
  | succ k ih =>
    rw [zeroIndices_succ]
    by_cases h : j = k
    · rw [h, agIndex_put_self _ _ _ _ (by decide), if_pos (by omega)]
    · rw [agIndex_put_ne _ _ _ _ h, ih]
      exact if_congr (by omega) rfl rfl

/-! ## A step in mixed radix (R89) -/

/-- Dimension `j` stands at its last index, from which it carries. -/
def Carries (s : State) (p g j : Nat) : Prop := agExtent s p g j ≤ agIndex s p g j + 1

theorem agStepFrom_of_carries {fuel j : Nat} (h : Carries s p g j) :
    s.agStepFrom p g (fuel + 1) j = (s.put CUE_AGDIM_INDEX 0 p (5 * g + j)).agStepFrom p g fuel (j + 1) :=
  if_neg (Nat.not_lt.mpr h)

theorem agStepFrom_of_not_carries {fuel j : Nat} (h : agIndex s p g j + 1 < agExtent s p g j) :
    s.agStepFrom p g (fuel + 1) j = s.put CUE_AGDIM_INDEX (agIndex s p g j + 1) p (5 * g + j) :=
  if_pos h

/-- Zeroed lower dimensions leave what dimension `k` does. -/
theorem agIndex_zeroIndices_self (s : State) (p g k : Nat) : agIndex (zeroIndices s p g k) p g k = agIndex s p g k := by
  rw [agIndex_zeroIndices, if_neg (Nat.lt_irrefl k)]

theorem agExtent_zeroIndices (s : State) (p g j : Nat) (hk : k ≤ 5) : agExtent (zeroIndices s p g k) p g j = agExtent s p g j := by
  rw [agExtent, (zeroIndices_indicesOnly s p g hk).extm1, agExtent]

/-- Dimensions that carry return to zero, and the step goes on in the first behind them. -/
theorem agStep_of_carries (hk : k ≤ 5) (h : ∀ j, j < k → Carries s p g j) :
    s.agStep p g = (zeroIndices s p g k).agStepFrom p g (5 - k) k := by
  induction k with
  | zero => rfl
  | succ k ih =>
    have here : Carries (zeroIndices s p g k) p g k := by
      rw [Carries, agExtent_zeroIndices s p g k (by omega), agIndex_zeroIndices_self]; exact h k (by omega)
    rw [ih (by omega) fun j hj => h j (by omega), show 5 - k = (5 - (k + 1)) + 1 by omega, agStepFrom_of_carries here,
      zeroIndices_succ]

/-- Where every dimension carries, the generator returns to its start. -/
theorem agStep_of_all_carry (h : ∀ j, j < 5 → Carries s p g j) : s.agStep p g = s.agZero p g :=
  agStep_of_carries (Nat.le_refl 5) h

/-- The first dimension that does not carry counts. -/
theorem agStep_of_first (hk : k < 5) (h : ∀ j, j < k → Carries s p g j) (hc : agIndex s p g k + 1 < agExtent s p g k) :
    s.agStep p g = (zeroIndices s p g k).put CUE_AGDIM_INDEX (agIndex s p g k + 1) p (5 * g + k) := by
  rw [agStep_of_carries (by omega) h, show 5 - k = (4 - k) + 1 by omega, agStepFrom_of_not_carries, agIndex_zeroIndices_self]
  rw [agExtent_zeroIndices s p g k (by omega), agIndex_zeroIndices_self]; exact hc

theorem agStepFrom_indicesOnly (p g fuel k : Nat) (hk : k + fuel ≤ 5) (s : State) : IndicesOnly p g s (s.agStepFrom p g fuel k) := by
  induction fuel generalizing s k with
  | zero => exact IndicesOnly.refl p g s
  | succ fuel ih =>
    have put (x : Nat) := indicesOnly_put s p g x (show k < 5 by omega)
    by_cases h : Carries s p g k
    · rw [agStepFrom_of_carries h]; exact (put 0).trans (ih (k + 1) (by omega) _)
    · rw [agStepFrom_of_not_carries (Nat.lt_of_not_le h)]; exact put _

theorem agStep_indicesOnly (s : State) (p g : Nat) : IndicesOnly p g s (s.agStep p g) := agStepFrom_indicesOnly p g 5 0 (by decide) s

/-- A step in which dimension `k` counts. -/
theorem agIndex_agStep (hk : k < 5) (h : ∀ j, j < k → Carries s p g j) (hc : agIndex s p g k + 1 < agExtent s p g k) (j : Nat) :
    agIndex (s.agStep p g) p g j = if j < k then 0 else if j = k then agIndex s p g k + 1 else agIndex s p g j := by
  have hext : agExtent s p g k ≤ 2 ^ 16 := bits_lt _ _ _
  rw [agStep_of_first hk h hc]
  by_cases hj : j = k
  · rw [hj, agIndex_put_self _ _ _ _ (by omega), if_neg (Nat.lt_irrefl k), if_pos rfl]
  · rw [agIndex_put_ne _ _ _ _ hj, agIndex_zeroIndices, if_neg hj]

/-! ## Operands that name a generator (R88, R89) -/

/-- An issue that has noted generator `g` for its step, if the operand asks for one. -/
def noteStep (i : Issue) (step : Bool) (g : Nat) : Issue := { i with steps := if step then g :: i.steps else i.steps }

theorem wop_of_gen {i j : Issue} {v ext groups ord : Nat} {store step : Bool} {o : Opnd} (hv : wOp v = .gen step g)
    (h : i.wop p v ext groups store ord = .ok (j, o)) : o = .wings (i.s.agAddr p g) ∧ j = noteStep i step g := by
  rw [Issue.wop, hv] at h
  dsimp only at h
  split at h
  · cases h; exact ⟨rfl, rfl⟩
  · cases h

theorem aop_of_gen {i j : Issue} {v row : Nat} {step : Bool} (hv : aOp v = .gen step g) (h : i.aop p v = .ok (j, row)) :
    row = i.s.agAddr p g ∧ j = noteStep i step g := by
  rw [Issue.aop, hv] at h
  dsimp only at h
  split at h
  · cases h; exact ⟨rfl, rfl⟩
  · cases h

/-- However often a cue names a generator, it steps once. -/
theorem done_replicate (s : State) (p g n : Nat) : ({ s := s, steps := List.replicate (n + 1) g } : Issue).done p = s.agStep p g := by
  simp only [Issue.done, List.replicate_dedup (Nat.succ_ne_zero n), List.foldl_cons, List.foldl_nil]

/-- Settles O58: an operand's address is the generator's at issue, repeated steps are one, and a step zeroes the dimensions that
carry and counts in the first that does not. -/
theorem generatorsAdvanceInMixedRadix : Obligations.GeneratorsAdvanceInMixedRadix := by
  refine ⟨fun i j p v ext groups store ord o step g => wop_of_gen, fun i j p v row step g => aop_of_gen, done_replicate,
    fun s p g k hk hlow hc => ⟨fun j hj => ?zeroed, ?counted, fun j hj _ => ?kept⟩, fun s p g hall j hj => ?wrapped,
    fun s p g => ⟨fun j _ => ?shape, ?raw, ?rest⟩⟩
  case zeroed => rw [agIndex_agStep hk hlow hc, if_pos hj]
  case counted => rw [agIndex_agStep hk hlow hc, if_neg (Nat.lt_irrefl k), if_pos rfl]
  case kept => rw [agIndex_agStep hk hlow hc, if_neg (by omega), if_neg (by omega)]
  case wrapped => rw [agStep_of_all_carry hall, agZero_eq_zeroIndices, agIndex_zeroIndices, if_pos hj]
  case shape =>
    have h := agStep_indicesOnly s p g
    exact ⟨congrArg (· + 1) (h.extm1 _), h.stride _⟩
  case raw => exact (agStep_indicesOnly s p g).raw
  case rest => exact (agStep_indicesOnly s p g).rest

end Sys2Proof.Proofs
end

section
/-! Cues that retire at issue (R85, R87, R88, R91, R93, R97, R98, R112): SET, WAIT, EXIT, POST, LOOP and ENDL, and a WAIT that
waits. This settles O2 and O3. -/

namespace Sys2Proof.Proofs

open Sys2Proof.Machine Sys2Proof.Laws Sys2Proof.Claims

variable {s t u : State} {p pc : Nat} {out out' : Reg → Prop}

/-! ## The frame of a cue, step by step -/

theorem cueFrame_trans (h : CueFrame s t p out) (k : CueFrame t u p out') : CueFrame s u p fun r => out r ∨ out' r := by
  obtain ⟨regs, bays, wings, rest⟩ := h
  obtain ⟨regs', bays', wings', rest'⟩ := k
  refine ⟨fun r hr hn => ?_, fun q hq => (bays' q hq).trans (bays q hq), wings'.trans wings, KeepsBeyondCues.trans rest rest'⟩
  obtain ⟨ho, ho'⟩ := not_or.mp hr
  rw [regs' r ho' hn, regs r ho hn]

theorem cueFrame_mono (h : CueFrame s t p out) (k : ∀ r, out r → out' r) : CueFrame s t p out' :=
  ⟨fun r hr => h.regs r fun ho => hr (k r ho), h.bays, h.wings, h.rest⟩

theorem cueFrame_put (s : State) (f : Fld) (x p i : Nat) : CueFrame s (s.put f x p i) p (· = ⟨f.reg, p, i⟩) :=
  ⟨fun _ hr _ => raw_put_ne s f x p i hr, fun _ _ => rfl, rfl, rfl⟩

theorem cueFrame_modBay (s : State) (p : Nat) {f : Bay → Bay} (hf : (f (s.bay p)).wings = (s.bay p).wings) :
    CueFrame s (s.modBay p f) p fun _ => False :=
  ⟨fun _ _ _ => rfl, fun _ hq => bay_modBay_ne s f hq, by rw [bay_modBay_self, hf], rfl⟩

theorem seqstat_name_ne (p : Nat) : (seqstat p).name ≠ .OBS_CNT := show RegName.CUE_SEQSTAT ≠ .OBS_CNT by decide

theorem cueFrame_of_retired (h : Retired s t p pc) : CueFrame s t p (· = seqstat p) :=
  ⟨fun r hr hn => h.raw r hr hn, h.bays, by rw [h.own], h.rest⟩

/-! ## Retirement after a change of registers and of the bay -/

/-- What `u` holds of the sequencer's status is what `s` holds. -/
def SameSeqstat (s u : State) (p : Nat) : Prop := u.raw (seqstat p) = s.raw (seqstat p)

theorem SameSeqstat.get (h : SameSeqstat s u p) {f : Fld} (hf : f.reg = .CUE_SEQSTAT) : u.get f p = s.get f p := by
  rw [get_def, get_def, hf]
  exact congrArg (fun v => bits v.toNat f.lo f.w) h

/-- A cue that changed no status has retired. -/
theorem seqAt_of_retired (h : Retired u t p pc) (hu : SameSeqstat s u p) : SeqAt s t p pc :=
  ⟨h.pc, by rw [h.state, hu.get rfl], by rw [h.depth, hu.get rfl]⟩

theorem bay_of_retired (h : Retired s t p pc) (hs : (s.bay p).samples = []) : t.bay p = retired (s.bay p) := by
  rw [h.own, ← hs]; rfl

/-- What a cue leaves that changes registers of `out` and its own bay, then retires to `pc`. -/
structure RetiresTo (s u t : State) (p pc : Nat) (out : Reg → Prop) : Prop where
  seq   : SeqAt s t p pc
  own   : t.bay p = retired (u.bay p)
  raw   : ∀ r, r ≠ seqstat p → r.name ≠ .OBS_CNT → t.raw r = u.raw r
  frame : CueFrame s t p fun r => r = seqstat p ∨ out r

theorem retireTo_retiresTo (pc : Nat) (hu : CueFrame s u p out) (hseq : ¬ out (seqstat p)) (hs : (u.bay p).samples = []) :
    RetiresTo s u (u.retireTo p pc) p pc out := by
  have h := retireTo_retired u p pc hs
  refine ⟨seqAt_of_retired h (hu.regs _ hseq (seqstat_name_ne p)), bay_of_retired h hs, h.raw, ?_⟩
  exact cueFrame_mono (cueFrame_trans hu (cueFrame_of_retired h)) fun r => Or.symm

theorem RetiresTo.get (h : RetiresTo s u t p pc out) {f : Fld} (hs : f.reg ≠ .CUE_SEQSTAT) (hn : f.reg ≠ .OBS_CNT) (q i : Nat) :
    t.get f q i = u.get f q i := by
  rw [get_def, h.raw _ (reg_ne_of_name hs _ _ _ _) hn, get_def]

/-- A cue that retires to the next one. -/
theorem retireCue_retiresTo (hu : CueFrame s u p out) (hseq : ¬ out (seqstat p)) (hs : (u.bay p).samples = []) :
    RetiresTo s u (u.retireCue p) p (s.get CUE_SEQSTAT_PC p + 1) out := by
  have same : SameSeqstat s u p := hu.regs _ hseq (seqstat_name_ne p)
  rw [State.retireCue, same.get rfl]
  exact retireTo_retiresTo _ hu hseq hs

/-! ## SET (R88, R112) -/

/-- The fields that a SET writes. -/
def setFields (s : State) (p kind ag dim ext base stride : Nat) : State :=
  if kind = 0 then s.put CUE_AGBASE_BASE base p ag
  else (s.put CUE_AGDIM_EXTM1 ext p (5 * ag + dim)).put CUE_AGDIM_STRIDE stride p (5 * ag + dim)

theorem setCue_eq (s : State) (p kind ag dim ext base stride : Nat) : setCue s p (.set kind ag dim ext base stride) =
    some ((zeroIndices (setFields s p kind ag dim ext base stride) p ag 5).retireCue p) := by
  rw [← agZero_eq_zeroIndices]; rfl

/-- What a SET may write besides the sequencer's status. -/
def setOut (p kind ag : Nat) (r : Reg) : Prop := (kind = 0 ∧ r = ⟨.CUE_AGBASE, p, ag⟩) ∨ isDimension p ag r

theorem setFields_cueFrame (s : State) (p kind ag ext base stride : Nat) {dim : Nat} (hd : dim < 5) :
    CueFrame s (setFields s p kind ag dim ext base stride) p (setOut p kind ag) := by
  unfold setFields
  split
  · next h => exact cueFrame_mono (cueFrame_put s _ _ _ _) fun r hr => Or.inl ⟨h, hr⟩
  · exact cueFrame_mono (cueFrame_trans (cueFrame_put s _ _ _ _) (cueFrame_put _ _ _ _ _)) fun r hr => Or.inr ⟨dim, hd, or_self_iff.mp hr⟩

theorem IndicesOnly.bay {g : Nat} (h : IndicesOnly p g s t) (q : Nat) : t.bay q = s.bay q := by rw [h.rest]; rfl

theorem cueFrame_of_indicesOnly {g : Nat} (h : IndicesOnly p g s t) : CueFrame s t p (isDimension p g) := by
  refine ⟨fun r hr _ => h.raw r hr, fun q _ => h.bay q, by rw [h.bay], ?_⟩
  rw [h.rest]

theorem base_setFields (s : State) (p ag dim ext base stride : Nat) :
    (setFields s p 0 ag dim ext base stride).get CUE_AGBASE_BASE p ag = base % 2 ^ 48 := get_put_self s _ _ _ _ (by decide)

theorem dimension_setFields {kind : Nat} (hk : kind ≠ 0) (s : State) (p ag dim ext base stride : Nat) :
    (setFields s p kind ag dim ext base stride).get CUE_AGDIM_EXTM1 p (5 * ag + dim) = ext % 2 ^ 16 ∧
    (setFields s p kind ag dim ext base stride).get CUE_AGDIM_STRIDE p (5 * ag + dim) = stride % 2 ^ 32 := by
  rw [setFields, if_neg hk]
  refine ⟨?_, get_put_self _ _ _ _ _ (by decide)⟩
  rw [get_put_other (f := CUE_AGDIM_STRIDE) (h := CUE_AGDIM_EXTM1) _ _ _ _ _ (by decide) rfl (Or.inr (by decide)), get_put_self _ _ _ _ _ (by decide)]

/-- A SET of another kind or another dimension leaves a dimension's extent and stride. -/
theorem get_setFields_other {f : Fld} (hf : f.reg = .CUE_AGDIM) {kind dim j : Nat} (h : kind = 0 ∨ j ≠ dim)
    (s : State) (p ag ext base stride : Nat) :
    (setFields s p kind ag dim ext base stride).get f p (5 * ag + j) = s.get f p (5 * ag + j) := by
  unfold setFields
  split
  · exact get_put_ne s _ _ _ _ _ _ _ (reg_ne_of_name (by rw [hf]; decide) _ _ _ _)
  · next hk =>
    have other : (⟨f.reg, p, 5 * ag + j⟩ : Reg) ≠ ⟨.CUE_AGDIM, p, 5 * ag + dim⟩ := fun e =>
      h.resolve_left hk (by simpa using congrArg Reg.idx e)
    rw [get_put_ne _ _ _ _ _ _ _ _ other, get_put_ne _ _ _ _ _ _ _ _ other]

theorem bay_setFields (s : State) (p kind ag dim ext base stride q : Nat) :
    (setFields s p kind ag dim ext base stride).bay q = s.bay q := by
  unfold setFields
  split
  · rw [bay_put]
  · rw [bay_put, bay_put]

/-- Settles O2: SET writes its fields and zeroes the generator's indices, which touches neither field, and retires. -/
theorem setWritesItsGenerator : Obligations.SetWritesItsGenerator := by
  intro s lb kind ag dim ext base stride hq hdim p
  have hidx := zeroIndices_indicesOnly (setFields s p kind ag dim ext base stride) p ag (Nat.le_refl 5)
  have hframe := cueFrame_trans (setFields_cueFrame s p kind ag ext base stride hdim) (cueFrame_of_indicesOnly hidx)
  have hbay : (zeroIndices (setFields s p kind ag dim ext base stride) p ag 5).bay p = s.bay p :=
    (hidx.bay p).trans (bay_setFields ..)
  have hret := retireCue_retiresTo hframe (by rintro ((⟨-, h⟩ | ⟨j, -, h⟩) | ⟨j, -, h⟩) <;> exact absurd h (by simp [seqstat]))
    (by rw [hbay]; exact hq.plain.2)
  refine ⟨_, issueCue_of_issues hq (setCue_eq s p kind ag dim ext base stride), fun hk => ?stored, fun hk => ?dimension,
    fun j hj => ?zeroed, fun j hj hne => ?others, hret.seq, ?own, ?frame⟩
  case stored =>
    subst hk
    rw [hret.get (by decide) (by decide), get_def, hidx.raw _ fun ⟨j, _, h⟩ => absurd h (by simp), ← get_def,
      base_setFields]
  case dimension =>
    rw [hret.get (by decide) (by decide), hret.get (by decide) (by decide), hidx.extm1, hidx.stride]
    exact dimension_setFields hk s p ag dim ext base stride
  case zeroed =>
    rw [hret.get (by decide) (by decide), ← agIndex, agIndex_zeroIndices, if_pos hj]
  case others =>
    rw [hret.get (by decide) (by decide), hret.get (by decide) (by decide), hidx.extm1, hidx.stride]
    exact ⟨get_setFields_other rfl hne .., get_setFields_other rfl hne ..⟩
  case own => rw [hret.own, hbay]
  case frame =>
    refine cueFrame_mono hret.frame fun r hr => hr.imp_right ?_
    rintro ((h | h) | h)
    exacts [Or.inl h, Or.inr h, Or.inr h]

/-! ## WAIT, EXIT and POST (R91, R93, R97) -/

theorem waitCue_of_le {sem n : Nat} (h : n ≤ s.get CUE_SEM_VALUE p sem) :
    waitCue s p (.wait sem n) = some ((s.put CUE_SEM_VALUE (s.get CUE_SEM_VALUE p sem - n) p sem).retireCue p) := by
  rw [waitCue]; exact if_pos h

theorem waitCue_of_lt {sem n : Nat} (h : s.get CUE_SEM_VALUE p sem < n) :
    waitCue s p (.wait sem n) = if (s.bay p).stop = .live then some (s.liveEffect p) else some ((s.cause p 2).put CUE_SEQSTAT_STATE 4 p) := by
  rw [waitCue]; exact if_neg (Nat.not_le.mpr h)

/-- A count taken from a semaphore is read back. -/
theorem get_put_sem (s : State) (p sem n : Nat) :
    (s.put CUE_SEM_VALUE (s.get CUE_SEM_VALUE p sem - n) p sem).get CUE_SEM_VALUE p sem = s.get CUE_SEM_VALUE p sem - n := by
  have hlt : s.get CUE_SEM_VALUE p sem < 2 ^ 16 := bits_lt _ _ _
  rw [get_put_self _ _ _ _ _ (by decide), Nat.mod_eq_of_lt (show _ < 2 ^ 16 by omega)]

/-- The POST that a cue sends (R93). -/
def postOf (s : State) (p : Nat) (nofence : Bool) (bay sem n : Nat) : PostMsg :=
  { bay := bay, sem := sem, n := n, pc := s.get CUE_SEQSTAT_PC p
    drains := if nofence then [] else ((s.bay p).dq.map (·.ord)) ++ ((s.bay p).drows.map (·.ord))
    moves := if nofence then [] else (s.bay p).moves }

/-- A POST joins those on their way. -/
def sendPost (m : PostMsg) (b : Bay) : Bay := { b with posts := b.posts ++ [m] }

theorem postCue_eq (s : State) (p : Nat) (nofence : Bool) (bay sem n : Nat) : postCue s p (.post nofence bay sem n) =
    some ((s.modBay p (sendPost (postOf s p nofence bay sem n))).retireCue p) := rfl

theorem exitCue_eq (s : State) (p mask : Nat) : exitCue s p (.exit mask) =
    some (if (s.bay p).stop = .live then ((s.put CUE_LIVEMASK_MASK mask p).retireCue p).liveEffect p
      else (s.put CUE_LIVEMASK_MASK mask p).retireCue p) := rfl

/-- EXIT's mask is in force and the cue has retired, before a LIVE stop takes effect. -/
theorem exit_retiresTo (mask : Nat) (hs : (s.bay p).samples = []) : RetiresTo s (s.put CUE_LIVEMASK_MASK mask p)
    ((s.put CUE_LIVEMASK_MASK mask p).retireCue p) p (s.get CUE_SEQSTAT_PC p + 1) (· = ⟨.CUE_LIVEMASK, p, 0⟩) :=
  retireCue_retiresTo (cueFrame_put s CUE_LIVEMASK_MASK mask p 0) (reg_ne_of_name (by decide) _ _ _ _) hs

/-- The mask of a retired EXIT is the live set. -/
theorem exit_mask (mask : Nat) (hs : (s.bay p).samples = []) :
    ((s.put CUE_LIVEMASK_MASK mask p).retireCue p).get CUE_LIVEMASK_MASK p = mask % 2 ^ 16 := by
  rw [(exit_retiresTo mask hs).get (by decide) (by decide), get_put_self _ _ _ _ _ (by decide)]

/-- WAIT, EXIT and POST retire at issue. -/
theorem waitExitPostRetire : WaitExitPostRetire := by
  refine ⟨?wait, ?exit, ?post⟩
  case wait =>
    intro s lb sem n hq hle p
    have hret := retireCue_retiresTo (cueFrame_put s CUE_SEM_VALUE (s.get CUE_SEM_VALUE p sem - n) p sem)
      (reg_ne_of_name (by decide) _ _ _ _) hq.plain.2
    refine ⟨_, issueCue_of_issues hq (waitCue_of_le hle), ?_, hret.seq, hret.own, hret.frame⟩
    rw [hret.get (by decide) (by decide)]
    exact get_put_sem s p sem n
  case exit =>
    intro s lb mask hq hstop p
    have hret := exit_retiresTo (p := p) mask hq.plain.2
    have hcue := exitCue_eq s p mask
    rw [if_neg hstop] at hcue
    exact ⟨_, issueCue_of_issues hq hcue, exit_mask mask hq.plain.2, hret.seq, hret.own, hret.frame⟩
  case post =>
    intro s lb nofence bay sem n hq p
    have hbay : (s.modBay p (sendPost (postOf s p nofence bay sem n))).bay p = sendPost (postOf s p nofence bay sem n) (s.bay p) :=
      bay_modBay_self s p _
    have hret := retireCue_retiresTo (cueFrame_modBay s p (f := sendPost (postOf s p nofence bay sem n)) rfl) (fun h => h)
      (by rw [hbay]; exact hq.plain.2)
    have hown := hret.own
    rw [hbay] at hown
    refine ⟨_, postOf s p nofence bay sem n, issueCue_of_issues hq (postCue_eq s p nofence bay sem n), ?posts, rfl, rfl, rfl,
      fun h => ?free, fun h => ?fence, hret.seq, ?own, ?frame⟩
    case posts => rw [hown]; rfl
    case free => simp [postOf, h]
    case fence => simp [postOf, h, p]
    case own => rw [hown]; rfl
    case frame => exact cueFrame_mono hret.frame fun r hr => hr.resolve_right id

/-! ## A WAIT that waits, and a LIVE stop that takes effect (R91, R98) -/

/-- The sequencer shows a state. -/
theorem get_put_state (s : State) (p : Nat) {x : Nat} (hx : x < 16) : (s.put CUE_SEQSTAT_STATE x p).get CUE_SEQSTAT_STATE p = x := by
  rw [get_put_self _ _ _ _ _ (by decide)]; exact Nat.mod_eq_of_lt hx

theorem get_put_state_pc (s : State) (p x : Nat) : (s.put CUE_SEQSTAT_STATE x p).get CUE_SEQSTAT_PC p = s.get CUE_SEQSTAT_PC p :=
  get_put_disjoint s _ _ _ _ _ (by decide) rfl (Or.inl (by decide))

theorem wings_waitFor (b : Bay) (now c : Nat) : (b.waitFor now c).wings = b.wings := by
  unfold Bay.waitFor Bay.waitEnd
  split
  · split
    · rfl
    · split <;> rfl
  · rfl

/-- A LIVE stop in effect: the bay shows PARK and saves, and nothing else changed. -/
structure LiveEffect (s t : State) (p : Nat) : Prop where
  state : t.get CUE_SEQSTAT_STATE p = 6
  pc    : t.get CUE_SEQSTAT_PC p = s.get CUE_SEQSTAT_PC p
  own   : t.bay p = { s.bay p with saving := true, stop := .live }
  raw   : ∀ r, r ≠ seqstat p → t.raw r = s.raw r
  frame : CueFrame s t p (· = seqstat p)

/-- A bay whose LIVE stop takes effect. -/
def parkBay (b : Bay) : Bay := { b with saving := true, stop := .live }

theorem liveEffect_eq (s : State) (p : Nat) : s.liveEffect p = (s.put CUE_SEQSTAT_STATE 6 p).modBay p parkBay := rfl

theorem liveEffect_liveEffect (s : State) (p : Nat) : LiveEffect s (s.liveEffect p) p where
  state := by rw [liveEffect_eq, get_modBay]; exact get_put_state s p (by decide)
  pc := by rw [liveEffect_eq, get_modBay]; exact get_put_state_pc s p 6
  own := by rw [liveEffect_eq, bay_modBay_self, bay_put]; rfl
  raw := fun _ hr => by rw [liveEffect_eq, raw_modBay, raw_put_ne _ _ _ _ _ hr]
  frame := cueFrame_mono (cueFrame_trans (cueFrame_put s CUE_SEQSTAT_STATE 6 p 0) (cueFrame_modBay _ p (f := parkBay) (by rfl)))
    fun _ hr => hr.resolve_right id

/-- An unsatisfied WAIT waits; a pending LIVE stop takes effect at WAIT and at EXIT. -/
theorem waitWaitsAndLiveStopsTakeEffect : WaitWaitsAndLiveStopsTakeEffect := by
  refine ⟨?wait, ?waitLive, ?exitLive⟩
  case wait =>
    intro s lb sem n hq hlt hstop p
    have hcue := waitCue_of_lt (p := p) hlt
    rw [if_neg hstop] at hcue
    have hwait : CueFrame s (s.cause p 2) p fun _ => False := cueFrame_modBay s p (f := fun b => b.waitFor s.clk.ca 2) (wings_waitFor ..)
    have hbay : (s.cause p 2).bay p = (s.bay p).waitFor s.clk.ca 2 := bay_modBay_self s p _
    refine ⟨_, issueCue_of_issues hq hcue, get_put_state _ p (by decide), ?pc, by rw [bay_put, hbay], ?frame⟩
    case pc => rw [get_put_state_pc, State.cause, get_modBay]
    case frame => exact cueFrame_mono (cueFrame_trans hwait (cueFrame_put _ CUE_SEQSTAT_STATE 4 p 0)) fun r hr => hr.resolve_left id
  case waitLive =>
    intro s lb sem n hq hlt hstop p
    have hcue := waitCue_of_lt (p := p) hlt
    rw [if_pos hstop] at hcue
    have hlive := liveEffect_liveEffect s p
    exact ⟨_, issueCue_of_issues hq hcue, hlive.state, hlive.pc, hlive.own, hlive.frame⟩
  case exitLive =>
    intro s lb mask hq hstop p
    have hcue := exitCue_eq s p mask
    rw [if_pos hstop] at hcue
    have hret := exit_retiresTo (p := p) mask hq.plain.2
    have hlive := liveEffect_liveEffect ((s.put CUE_LIVEMASK_MASK mask p).retireCue p) p
    refine ⟨_, issueCue_of_issues hq hcue, hlive.state, ?mask, ?pc, ?own, ?frame⟩
    case mask => rw [get_def, hlive.raw _ (reg_ne_of_name (by decide) _ _ _ _), ← get_def, exit_mask mask hq.plain.2]
    case pc => rw [hlive.pc, hret.seq.pc]
    case own => rw [hlive.own, hret.own]; rfl
    case frame =>
      refine cueFrame_mono (cueFrame_trans hret.frame hlive.frame) fun r hr => ?_
      exact hr.elim id Or.inl

/-- Settles O3: each cue is a change of one register or of the bay's POSTs followed by its retirement, or by a LIVE stop's
effect. -/
theorem waitExitAndPost : Obligations.WaitExitAndPost := ⟨waitExitPostRetire, waitWaitsAndLiveStopsTakeEffect⟩

end Sys2Proof.Proofs
end

section
/-! Loops, satisfied WAITs, POSTs, credits and accepted cues (R85, R87, R91, R93, R121, R146, R147, R154), which settles O16 and O17. -/

namespace Sys2Proof.Proofs

open Sys2Proof.Machine Sys2Proof.Laws Sys2Proof.Claims

variable {s t u : State} {p : Nat} {out : Reg → Prop}

/-! ## A change of the loop registers and depth, then retirement (R87) -/

/-- Bodies of a bay's loops: that of depth `d` begins at `pc`. -/
def openBody (d pc : Nat) (b : Bay) : Bay := { b with loopBody := Tab.set 0 b.loopBody d pc }

theorem loopCue_of_lt {n : Nat} (h : s.get CUE_SEQSTAT_LDEPTH p < 4) :
    loopCue s p (.loop n) = some ((((s.put CUE_LOOP_REMAIN (n + 1) p (s.get CUE_SEQSTAT_LDEPTH p)).modBay p
      (openBody (s.get CUE_SEQSTAT_LDEPTH p) ((s.put CUE_LOOP_REMAIN (n + 1) p (s.get CUE_SEQSTAT_LDEPTH p)).get CUE_SEQSTAT_PC p + 1))).put
        CUE_SEQSTAT_LDEPTH (s.get CUE_SEQSTAT_LDEPTH p + 1) p).retireCue p) := by
  rw [loopCue]
  exact if_neg (Nat.not_le.mpr h)

theorem loopCue_of_ge {n : Nat} (h : 4 ≤ s.get CUE_SEQSTAT_LDEPTH p) :
    loopCue s p (.loop n) = some (s.fault p cLOOP_DEPTH (s.get CUE_SEQSTAT_PC p)) := by
  rw [loopCue]
  exact if_pos h

theorem endlCue_of_depth {d : Nat} (h : s.get CUE_SEQSTAT_LDEPTH p = d + 1) : endlCue s p .endl =
    if 1 < s.get CUE_LOOP_REMAIN p d then
      some ((s.put CUE_LOOP_REMAIN (s.get CUE_LOOP_REMAIN p d - 1) p d).retireTo p (Tab.get 0 (s.bay p).loopBody d))
    else some (((s.put CUE_LOOP_REMAIN 0 p d).put CUE_SEQSTAT_LDEPTH d p).retireCue p) := by
  simp only [endlCue, h, Nat.add_sub_cancel, Nat.succ_ne_zero, if_false]

/-- A loop count that fits its register is read back. -/
theorem get_put_remain (s : State) (p d : Nat) {n : Nat} (hn : n < 2 ^ 17) :
    (s.put CUE_LOOP_REMAIN n p d).get CUE_LOOP_REMAIN p d = n := by
  rw [get_put_self _ _ _ _ _ (by decide)]; exact Nat.mod_eq_of_lt hn

theorem get_put_depth (s : State) (p : Nat) {d : Nat} (hd : d < 8) : (s.put CUE_SEQSTAT_LDEPTH d p).get CUE_SEQSTAT_LDEPTH p = d := by
  rw [get_put_self _ _ _ _ _ (by decide)]; exact Nat.mod_eq_of_lt hd

/-- A loop's count and the depth are written, then the cue retires. -/
structure LoopRetires (s u t : State) (p d depth : Nat) : Prop where
  depth : t.get CUE_SEQSTAT_LDEPTH p = depth
  state : t.get CUE_SEQSTAT_STATE p = s.get CUE_SEQSTAT_STATE p
  pc    : t.get CUE_SEQSTAT_PC p = (s.get CUE_SEQSTAT_PC p + 1) % 2 ^ 14
  own   : t.bay p = retired (u.bay p)
  raw   : ∀ r, r ≠ seqstat p → r.name ≠ .OBS_CNT → t.raw r = u.raw r
  frame : CueFrame s t p fun r => r = seqstat p ∨ r = ⟨.CUE_LOOP, p, d⟩

/-- A cue that writes a loop count and, besides it, the depth alone. -/
theorem retireCue_loopRetires {d depth : Nat} (hu : CueFrame s u p (· = ⟨.CUE_LOOP, p, d⟩)) (hs : (u.bay p).samples = [])
    (hd : depth < 8) : LoopRetires s u ((u.put CUE_SEQSTAT_LDEPTH depth p).retireCue p) p d depth := by
  have h := retireCue_retired (u.put CUE_SEQSTAT_LDEPTH depth p) p (by rw [bay_put]; exact hs)
  have same : SameSeqstat s u p := hu.regs _ (reg_ne_of_name (by decide) _ _ _ _) (seqstat_name_ne p)
  have keep {f : Fld} (hf : f.reg = .CUE_SEQSTAT) (hlo : f.lo + f.w ≤ 25 ∨ 28 ≤ f.lo) :
      (u.put CUE_SEQSTAT_LDEPTH depth p).get f p = s.get f p := by
    rw [get_put_disjoint u CUE_SEQSTAT_LDEPTH f _ _ _ (by decide) hf hlo, same.get hf]
  refine ⟨?_, ?_, ?_, ?_, fun r hr hn => ?_, ?_⟩
  · rw [h.depth, get_put_depth u p hd]
  · rw [h.state, keep rfl (Or.inr (by decide))]
  · rw [h.pc, keep rfl (Or.inl (by decide))]
  · rw [bay_of_retired h (by rw [bay_put]; exact hs), bay_put]
  · rw [h.raw r hr hn, raw_put_ne _ _ _ _ _ hr]
  · exact cueFrame_mono (cueFrame_trans hu (cueFrame_trans (cueFrame_put u CUE_SEQSTAT_LDEPTH depth p 0) (cueFrame_of_retired h)))
      fun r hr => hr.elim Or.inr fun hr => Or.inl (or_self_iff.mp hr)

theorem LoopRetires.get_remain {d depth : Nat} (h : LoopRetires s u t p d depth) (e : Nat) :
    t.get CUE_LOOP_REMAIN p e = u.get CUE_LOOP_REMAIN p e := by
  rw [get_def, h.raw _ (reg_ne_of_name (by decide) _ _ _ _) (by decide : RegName.CUE_LOOP ≠ .OBS_CNT), get_def]

theorem loopBody_openBody (d pc : Nat) (b : Bay) : (retired (openBody d pc b)).loopBody = Tab.set 0 b.loopBody d pc := by
  cases b; rfl

/-- LOOP opens a loop; ENDL goes back to its body or closes it. -/
theorem loopsCountTheirBodies : LoopsCountTheirBodies := by
  refine ⟨?opens, ?again, ?closes⟩
  case opens =>
    intro s lb n hq hd p d
    have hcue := loopCue_of_lt (n := n) hd
    rw [get_put_ne s _ _ _ _ _ _ _ (reg_ne_of_name (by decide) _ _ _ _)] at hcue
    generalize hu : (s.put CUE_LOOP_REMAIN (n + 1) p d).modBay p (openBody d (s.get CUE_SEQSTAT_PC p + 1)) = u at hcue
    have hbay : u.bay p = openBody d (s.get CUE_SEQSTAT_PC p + 1) (s.bay p) := by rw [← hu, bay_modBay_self, bay_put]
    have hframe : CueFrame s u p (· = ⟨.CUE_LOOP, p, d⟩) := by
      rw [← hu]
      exact cueFrame_mono (cueFrame_trans (cueFrame_put s CUE_LOOP_REMAIN (n + 1) p d)
        (cueFrame_modBay _ p (f := openBody d (s.get CUE_SEQSTAT_PC p + 1)) (by rfl))) fun r hr => hr.resolve_right id
    have h := retireCue_loopRetires hframe (depth := d + 1) (by rw [hbay]; exact hq.plain.2) (show d + 1 < 8 from Nat.lt_trans (Nat.succ_lt_succ hd) (by decide))
    have hown := h.own
    rw [hbay] at hown
    refine ⟨_, issueCue_of_issues hq hcue, ?remain, h.depth, h.state, h.pc, ?body, fun e he => ?bodies, ?own, h.frame⟩
    case remain => rw [h.get_remain, ← hu, get_modBay, get_put_self _ _ _ _ _ (by decide)]
    case body => rw [hown, loopBody_openBody, get_set_self]
    case bodies => rw [hown, loopBody_openBody, get_set_ne _ _ _ he]
    case own => rw [hown]; rfl
  case again =>
    intro s lb d hq hdepth hmore p
    have hcue := endlCue_of_depth hdepth
    rw [if_pos hmore] at hcue
    have hlt : s.get CUE_LOOP_REMAIN p d < 2 ^ 17 := bits_lt _ _ _
    have h := retireTo_retiresTo (Tab.get 0 (s.bay p).loopBody d) (cueFrame_put s CUE_LOOP_REMAIN (s.get CUE_LOOP_REMAIN p d - 1) p d)
      (reg_ne_of_name (by decide) _ _ _ _) hq.plain.2
    refine ⟨_, issueCue_of_issues hq hcue, ?_, h.seq, h.own, h.frame⟩
    rw [h.get (by decide) (by decide), get_put_remain _ _ _ (Nat.lt_of_le_of_lt (Nat.sub_le _ _) hlt)]
  case closes =>
    intro s lb d hq hdepth hlast p
    have hcue := endlCue_of_depth hdepth
    rw [if_neg (Nat.not_lt.mpr hlast)] at hcue
    have hlt : d + 1 < 2 ^ 3 := by rw [← hdepth]; exact bits_lt _ _ _
    have h := retireCue_loopRetires (cueFrame_put s CUE_LOOP_REMAIN 0 p d) (depth := d) hq.plain.2 (by omega)
    exact ⟨_, issueCue_of_issues hq hcue, by rw [h.get_remain, get_put_remain _ _ _ (by decide)], h.depth, h.state, h.pc, h.own, h.frame⟩

/-! ## Semaphores (R91, R93) -/

/-- A satisfied WAIT as it retires: the semaphore has lost N, and the bay shows RUN. -/
def waitTaken (s : State) (p sem n : Nat) : State :=
  (s.put CUE_SEM_VALUE (s.get CUE_SEM_VALUE p sem - n) p sem).put CUE_SEQSTAT_STATE 3 p

theorem waitDone_of_satisfied {sem n : Nat} (hstate : s.get CUE_SEQSTAT_STATE p = 4) (hshed : s.shed = false)
    (hcue : s.cueAt p = some (.wait sem n)) (hle : n ≤ s.get CUE_SEM_VALUE p sem) :
    s.waitDone p = (waitTaken s p sem n).retireCue p := by
  simp only [State.waitDone, hstate, hshed, hcue, ne_eq, not_true_eq_false, Bool.false_eq_true, or_self, if_false, if_pos hle]
  rfl

theorem waitSatisfied_retires {lb sem n : Nat} (hrun : BayRuns s lb) (hstate : s.get CUE_SEQSTAT_STATE (s.phys lb) = 4)
    (hcue : s.cueAt (s.phys lb) = some (.wait sem n)) (hle : n ≤ s.get CUE_SEM_VALUE (s.phys lb) sem)
    (hsamp : (s.bay (s.phys lb)).samples = []) :
    let p := s.phys lb
    ∃ t, exec (.waitSatisfied lb) s = .next t ∧ t.get CUE_SEM_VALUE p sem = s.get CUE_SEM_VALUE p sem - n ∧
      t.get CUE_SEQSTAT_STATE p = 3 ∧ t.get CUE_SEQSTAT_PC p = (s.get CUE_SEQSTAT_PC p + 1) % 2 ^ 14 ∧
      t.bay p = retired (s.bay p) ∧ CueFrame s t p fun r => r = seqstat p ∨ r = ⟨.CUE_SEM, p, sem⟩ := by
  intro p
  have hbay : ∀ q, (waitTaken s p sem n).bay q = s.bay q := fun q => by rw [waitTaken, bay_put, bay_put]
  have h := retireCue_retired (waitTaken s p sem n) p (by rw [hbay]; exact hsamp)
  refine ⟨(waitTaken s p sem n).retireCue p, ?exec, ?value, ?state, ?pc, ?own, ?frame⟩
  case exec => rw [← waitDone_of_satisfied hstate hrun.2.2 hcue hle]; exact onBay_of_bayRuns hrun fun p => s.waitDone p
  case value =>
    rw [get_def, h.raw _ (reg_ne_of_name (by decide) _ _ _ _) (by decide : RegName.CUE_SEM ≠ .OBS_CNT), ← get_def _ CUE_SEM_VALUE, waitTaken,
      get_put_ne _ _ _ _ _ _ _ _ (reg_ne_of_name (by decide) _ _ _ _), get_put_sem]
  case state => rw [h.state, waitTaken, get_put_state _ _ (by decide)]
  case pc => rw [h.pc, waitTaken, get_put_state_pc, get_put_ne _ _ _ _ _ _ _ _ (reg_ne_of_name (by decide) _ _ _ _)]
  case own => rw [bay_of_retired h (by rw [hbay]; exact hsamp), hbay]
  case frame =>
    exact cueFrame_mono (cueFrame_trans (cueFrame_trans (cueFrame_put s CUE_SEM_VALUE _ p sem) (cueFrame_put _ CUE_SEQSTAT_STATE 3 p 0))
      (cueFrame_of_retired h)) fun r hr => by
        rcases hr with (hr | hr) | hr
        exacts [Or.inr hr, Or.inl hr, Or.inl hr]

/-- The only POST of a bay, its fence met, is the one due. -/
theorem duePost_single {b : Bay} {m : PostMsg} (h : b.fenceMet m = true) : b.duePost [] [m] = some m := by
  simp [Bay.duePost, h]

/-- The POSTs of a bay without `m`. -/
def dropPost (m : PostMsg) (b : Bay) : Bay := { b with posts := b.posts.erase m }

theorem execPostDelivery_eq {lb : Nat} {m : PostMsg} (hrun : BayRuns s lb)
    (hdue : (s.bay (s.phys lb)).duePost [] (s.bay (s.phys lb)).posts = some m) : exec (.postDelivery lb) s =
      .next ((s.modBay (s.phys lb) (dropPost m)).semAdd (s.phys m.bay) m.sem m.n (s.phys lb) m.pc) := by
  rw [show exec (.postDelivery lb) s = execPostDelivery lb s from rfl, execPostDelivery, onBay_of_bayRuns hrun, hdue]
  rfl

/-- A count within its range is added. -/
theorem semAdd_of_le {sem n poster pc : Nat} (h : s.get CUE_SEM_VALUE p sem + n ≤ 65535) :
    s.semAdd p sem n poster pc = s.put CUE_SEM_VALUE (s.get CUE_SEM_VALUE p sem + n) p sem := if_pos h

theorem post_arrives {lb : Nat} {m : PostMsg} (hrun : BayRuns s lb) (hposts : (s.bay (s.phys lb)).posts = [m])
    (hfence : (s.bay (s.phys lb)).fenceMet m = true) (hle : s.get CUE_SEM_VALUE (s.phys m.bay) m.sem + m.n ≤ 65535) :
    let p := s.phys lb
    ∃ t, exec (.postDelivery lb) s = .next t ∧ (t.bay p).posts = [] ∧
      t.get CUE_SEM_VALUE (s.phys m.bay) m.sem = s.get CUE_SEM_VALUE (s.phys m.bay) m.sem + m.n ∧
      t.bay p = { s.bay p with posts := [] } ∧ OtherBaysKept s t p ∧
      ∀ r, r ≠ ⟨.CUE_SEM, s.phys m.bay, m.sem⟩ → t.raw r = s.raw r := by
  intro p
  have hexec := execPostDelivery_eq hrun (m := m) (by rw [hposts]; exact duePost_single hfence)
  rw [semAdd_of_le (by rw [get_modBay]; exact hle), get_modBay] at hexec
  have hown : ((s.modBay p (dropPost m)).put CUE_SEM_VALUE (s.get CUE_SEM_VALUE (s.phys m.bay) m.sem + m.n) (s.phys m.bay) m.sem).bay p =
      { s.bay p with posts := [] } := by
    rw [bay_put, bay_modBay_self, dropPost, hposts, List.erase_cons_head]
  refine ⟨_, hexec, by rw [hown], ?value, hown, ?others, fun r hr => ?raw⟩
  case value => rw [get_put_self _ _ _ _ _ (by decide)]; exact Nat.mod_eq_of_lt (show _ < 65536 by omega)
  case others =>
    refine ⟨fun q hq => ?_, ?_, ?_⟩
    · rw [bay_put, bay_modBay_ne s _ hq]
    all_goals simp
  case raw => rw [raw_put_ne _ _ _ _ _ hr, raw_modBay]

/-! ## Credits (R147) -/

/-- The oldest credit has arrived at the end that counts it. -/
def takeCredit (rv : Nat) (rest : List (Nat × Bool)) (b : Bay) : Bay :=
  { b with credits := rest }.setRing rv { b.ring rv with count := (b.ring rv).count + 1 }

theorem execRevolveCredit_of_counted {lb rv : Nat} {full : Bool} {rest : List (Nat × Bool)} (hrun : BayRuns s lb)
    (hcred : (s.bay (s.phys lb)).credits = (rv, full) :: rest) (hopen : ((s.bay (s.phys lb)).ring rv).opened = true)
    (hcons : ((s.bay (s.phys lb)).ring rv).consumer = full) (hstall : (s.bay (s.phys lb)).stall ≠ some 3)
    (hpark : s.get CUE_SEQSTAT_STATE (s.phys lb) ≠ 6) :
    exec (.revolveCredit lb) s = .next ((s.modBay (s.phys lb) (takeCredit rv rest)).kick (s.phys lb)) := by
  rw [show exec (.revolveCredit lb) s = execRevolveCredit lb s from rfl, execRevolveCredit, onBay_of_bayRuns hrun]
  have htake : (s.modBay (s.phys lb) fun b =>
      if ((s.bay (s.phys lb)).ring rv).opened && ((s.bay (s.phys lb)).ring rv).consumer == full then
        { b with credits := rest }.setRing rv { (s.bay (s.phys lb)).ring rv with count := ((s.bay (s.phys lb)).ring rv).count + 1 }
      else { b with credits := rest }) = s.modBay (s.phys lb) (takeCredit rv rest) := by
    simp [hopen, hcons, State.modBay, takeCredit]
  have hstall' : ((s.modBay (s.phys lb) (takeCredit rv rest)).bay (s.phys lb)).stall ≠ some 3 := by
    rw [bay_modBay_self]; exact hstall
  simp only [hcred, htake, if_neg hpark, if_neg hstall']

theorem credit_arrives {lb rv : Nat} {full : Bool} {rest : List (Nat × Bool)} (hrun : BayRuns s lb)
    (hcred : (s.bay (s.phys lb)).credits = (rv, full) :: rest) (hopen : ((s.bay (s.phys lb)).ring rv).opened = true)
    (hcons : ((s.bay (s.phys lb)).ring rv).consumer = full) (hstall : (s.bay (s.phys lb)).stall ≠ some 3)
    (hpark : s.get CUE_SEQSTAT_STATE (s.phys lb) ≠ 6) :
    let p := s.phys lb
    ∃ t, exec (.revolveCredit lb) s = .next t ∧ (t.bay p).credits = rest ∧
      (t.bay p).ring rv = { (s.bay p).ring rv with count := ((s.bay p).ring rv).count + 1 } ∧
      (∀ v, v ≠ rv → (t.bay p).ring v = (s.bay p).ring v) ∧
      (∀ a, feeds (t.bay p) a = feeds (s.bay p) a ∧ loads (t.bay p) a = loads (s.bay p) a ∧ ((t.bay p).arr a).acc = ((s.bay p).arr a).acc) ∧
      t.bay p = { s.bay p with credits := rest, rings := (t.bay p).rings, arrs := (t.bay p).arrs, xreqs := (t.bay p).xreqs } ∧
      OtherBaysKept s t p ∧ ∀ r, t.raw r = s.raw r := by
  intro p
  have hin := (inBay_modBay s p (takeCredit rv rest)).trans (kick_inBay _ p)
  have hkick := kick_started (s.modBay p (takeCredit rv rest)) p
  rw [bay_modBay_self] at hkick
  generalize ht : (s.modBay p (takeCredit rv rest)).kick p = t at hin hkick
  have hrings : (t.bay p).rings = (takeCredit rv rest (s.bay p)).rings := by rw [hkick.own]
  have hring : ∀ v, (t.bay p).ring v = (takeCredit rv rest (s.bay p)).ring v := fun v => by rw [Bay.ring, hrings, Bay.ring]
  refine ⟨t, ?exec, ?credits, ?counted, fun v hv => ?others, fun a => ⟨hkick.feeds_eq a, hkick.loads_eq a, (hkick.arr a).acc⟩,
    ?own, hin.otherBaysKept, hin.raw⟩
  case exec => rw [← ht]; exact execRevolveCredit_of_counted hrun hcred hopen hcons hstall hpark
  case credits => rw [hkick.own]; rfl
  case counted => rw [hring, takeCredit, ring_setRing_self]
  case others => rw [hring, takeCredit, ring_setRing_ne _ _ hv]; rfl
  case own => rw [hkick.own]; rfl

/-- Settles O16: each event finds its conditions met and is one change of a register or of the bay. -/
theorem semaphoresAndCreditsArrive : Obligations.SemaphoresAndCreditsArrive :=
  ⟨fun _ _ _ _ hrun => waitSatisfied_retires hrun, fun _ _ _ hrun => post_arrives hrun,
    fun _ _ _ _ _ hrun => credit_arrives hrun⟩

/-! ## A cue in issue stall (R85, R146) -/

/-- The cue in issue stall is tried again. -/
def unstall (b : Bay) : Bay := { b with stall := none }

theorem retry_of_accepted {c : Nat} {q : Cue} (hstate : s.get CUE_SEQSTAT_STATE p = 3) (hsav : (s.bay p).saving = false)
    (hshed : s.shed = false) (hstall : (s.bay p).stall = some c) (hpres : (s.bay p).present = none) (hcue : s.cueAt p = some q)
    (hact : retryCue (s.modBay p unstall) p q = some t) (hfree : (t.bay p).stall = none) : s.retry p = t := by
  have hact' : retryCue (s.modBay p fun b => { b with stall := none }) p q = some t := hact
  simp [State.retry, State.mayRetry, hstate, hsav, hshed, hstall, hpres, hcue, hact', hfree]

theorem cueAccept_eq {lb : Nat} (hrun : BayRuns s lb) : exec (.cueAccept lb) s = .next (s.retry (s.phys lb)) :=
  onBay_of_bayRuns hrun fun p => s.retry p

theorem kick_raw (s : State) (p : Nat) (r : Reg) : (s.kick p).raw r = s.raw r := (kick_inBay s p).raw r

/-- A WALK that finds room is accepted. -/
theorem walk_accepted {lb arrm duty durm1 : Nat} (hrun : BayRuns s lb) (hstate : s.get CUE_SEQSTAT_STATE (s.phys lb) = 3)
    (hsav : (s.bay (s.phys lb)).saving = false) (hstall : (s.bay (s.phys lb)).stall = some 1)
    (hpres : (s.bay (s.phys lb)).present = none) (hcue : s.cueAt (s.phys lb) = some (.walk arrm duty durm1))
    (hsamp : (s.bay (s.phys lb)).samples = [])
    (hroom : ∀ a, a < 3 → arrm.testBit a = true → ((s.bay (s.phys lb)).arr a).fq.length < 2) :
    let p := s.phys lb
    ∃ t, exec (.cueAccept lb) s = .next t ∧ (t.bay p).stall = none ∧
      (∀ a, feeds (t.bay p) a = feeds (s.bay p) a ++
        (if a < 3 ∧ arrm.testBit a = true then [.walk durm1 duty (s.get CUE_SEQSTAT_PC p) (s.bay p).ord] else [])) ∧
      (∀ a, ((t.bay p).arr a).acc = ((s.bay p).arr a).acc) ∧
      SeqAt s t p (s.get CUE_SEQSTAT_PC p + 1) ∧ CueFrame s t p (· = seqstat p) := by
  intro p
  have hu : (s.modBay p unstall).bay p = unstall (s.bay p) := bay_modBay_self s p _
  have hact : retryCue (s.modBay p unstall) p (.walk arrm duty durm1) = some (joined (s.modBay p unstall) p
      (joinWalk arrm (.walk durm1 duty ((s.modBay p unstall).get CUE_SEQSTAT_PC p) ((s.modBay p unstall).bay p).ord))) :=
    walkCue_joins (by rw [hu]; exact hroom)
  rw [get_modBay, hu] at hact
  generalize he : FqEntry.walk durm1 duty (s.get CUE_SEQSTAT_PC p) (unstall (s.bay p)).ord = e at hact
  have hjoin := joinsQueues_joinWalk ((s.modBay p unstall).bay p) arrm e
  have hres := Resolves.refl (s.modBay p unstall) p
  have hsamp' : ((s.modBay p unstall).bay p).samples = [] := by rw [hu]; exact hsamp
  have hret : Retired _ _ _ _ := joined_retired hres hjoin hsamp'
  have h := joined_joinEffect hres hjoin hsamp'
  rw [show Issue.done { s := s.modBay p unstall } p = s.modBay p unstall from rfl] at h hret
  generalize ht : joined (s.modBay p unstall) p (joinWalk arrm e) = t at hact h
  have hstall' : (t.bay p).stall = none := by rw [h.frame.own]; rfl
  have hwalk : ∀ a, (joinWalk arrm e (unstall (s.bay p))).arr a = _ := arr_joinWalk arrm e (unstall (s.bay p))
  refine ⟨t, ?exec, hstall', fun a => ?feeds, fun a => ?acc, ?seq, ?frame⟩
  case exec => rw [cueAccept_eq hrun, retry_of_accepted hstate hsav hrun.2.2 hstall hpres hcue hact hstall']
  case feeds =>
    rw [h.feeds, hu, feeds, hwalk, ← he]
    split
    · exact List.map_append
    · exact (List.append_nil _).symm
  case acc => rw [h.frame.acc, hu]; rfl
  case seq =>
    obtain ⟨hpc, hst, hdepth⟩ := h.frame.seq
    simp only [get_modBay] at hpc hst hdepth
    exact ⟨hpc, hst, hdepth⟩
  case frame =>
    refine cueFrame_mono (cueFrame_trans (cueFrame_modBay s p (f := unstall) rfl)
      (⟨fun r hr hn => ?_, h.frame.cue.bays, h.frame.cue.wings, h.frame.cue.rest⟩ : CueFrame (s.modBay p unstall) t p (· = seqstat p)))
      fun r hr => hr.resolve_left id
    rw [← ht, joined, kick_raw, hret.raw r hr hn]; rfl

theorem ringWait_of_counted {consumer : Bool} {rv : Nat} {r : RingEnd} (hopen : r.opened = true) (hcons : r.consumer = consumer)
    (hcount : 1 ≤ r.count) : ringWait consumer s p rv r = .ok ((s.ringStalled p rv).retireCue p) := by
  simp [ringWait, hopen, hcons, hcount]

theorem ringStalled_eq (s : State) (p rv : Nat) : (s.ringStalled p rv).bay p = stalled (s.bay p) rv s.clk.ca ∧
    InBay s (s.ringStalled p rv) p := by
  unfold State.ringStalled stalled
  dsimp only
  split
  · exact ⟨rfl, InBay.refl s p⟩
  · exact ⟨bay_modBay_self s p _, inBay_modBay s p _⟩

/-- A stall on a revolve changes the stall count of its end alone. -/
theorem stalled_rings (b : Bay) (rv now : Nat) : stalled b rv now = { b with rings := (stalled b rv now).rings } := by
  unfold stalled
  dsimp only
  split <;> rfl

theorem waited_unstall (b : Bay) (now : Nat) : ((unstall b).waitEnd now).waited = (b.waitEnd now).waited := by
  unfold Bay.waitEnd unstall
  dsimp only
  split <;> rfl

theorem stalled_unstall (b : Bay) (rv now : Nat) : stalled (unstall b) rv now = unstall (stalled b rv now) := by
  unfold stalled
  rw [waited_unstall]
  dsimp only
  split <;> rfl

/-- An ACQ whose end counts a slot is accepted. -/
theorem acq_accepted {lb rv peer prv n z base : Nat} {role : Bool} (hrun : BayRuns s lb)
    (hstate : s.get CUE_SEQSTAT_STATE (s.phys lb) = 3) (hsav : (s.bay (s.phys lb)).saving = false)
    (hstall : (s.bay (s.phys lb)).stall = some 3) (hpres : (s.bay (s.phys lb)).present = none)
    (hcue : s.cueAt (s.phys lb) = some (.ring 2 rv role peer prv n z base)) (hsamp : (s.bay (s.phys lb)).samples = [])
    (hopen : ((s.bay (s.phys lb)).ring rv).opened = true) (hcons : ((s.bay (s.phys lb)).ring rv).consumer = false)
    (hcount : 1 ≤ ((s.bay (s.phys lb)).ring rv).count) :
    let p := s.phys lb
    ∃ t, exec (.cueAccept lb) s = .next t ∧ t.bay p = retired (stalled (s.bay p) rv s.clk.ca) ∧
      SeqAt s t p (s.get CUE_SEQSTAT_PC p + 1) ∧ CueFrame s t p (· = seqstat p) := by
  intro p
  have hu : (s.modBay p unstall).bay p = unstall (s.bay p) := bay_modBay_self s p _
  obtain ⟨hown, hin⟩ := ringStalled_eq (s.modBay p unstall) p rv
  have hwait : ringWait false (s.modBay p unstall) p rv ((unstall (s.bay p)).ring rv) =
      .ok (((s.modBay p unstall).ringStalled p rv).retireCue p) := ringWait_of_counted hopen hcons hcount
  have hact : retryCue (s.modBay p unstall) p (.ring 2 rv role peer prv n z base) =
      some (((s.modBay p unstall).ringStalled p rv).retireCue p) := by
    simp [retryCue, hu, hwait]
  rw [hu, modBay_clk, stalled_unstall] at hown
  have hin := (inBay_modBay s p unstall).trans hin
  generalize (s.modBay p unstall).ringStalled p rv = v at hown hin hact
  have hframe : CueFrame s v p fun _ => False := by
    refine ⟨fun r _ _ => hin.raw r, hin.bays, ?_, hin.keepsBeyondCues⟩
    rw [hown, stalled_rings]; rfl
  have h := retireCue_retiresTo hframe (fun h => h) (by rw [hown, stalled_rings]; exact hsamp)
  have hbay : (v.retireCue p).bay p = retired (stalled (s.bay p) rv s.clk.ca) := by rw [h.own, hown]; rfl
  refine ⟨v.retireCue p, ?exec, hbay, h.seq, cueFrame_mono h.frame fun r hr => hr.resolve_right id⟩
  rw [cueAccept_eq hrun, retry_of_accepted hstate hsav hrun.2.2 hstall hpres hcue hact (by rw [hbay]; rfl)]

/-- Settles O17: the waiting cue is tried again as at its issue, and its condition now holds. -/
theorem waitingCueIsAccepted : Obligations.WaitingCueIsAccepted :=
  ⟨fun _ _ _ _ _ hrun => walk_accepted hrun, fun _ _ _ _ _ _ _ _ _ hrun => acq_accepted hrun⟩

end Sys2Proof.Proofs
end

section
/-! What accesses, events and the end of commands change (R129, R135, R139, R192, R193, R201, R234, R352, R450): for each function of
the model the registers it may change, and whether device memory, the bays and the started commands stay. -/

namespace Sys2Proof.Proofs

open Sys2Proof.Machine Sys2Proof.Laws Sys2Proof.Claims

/-! ## Started commands and their reports (R128, R129) -/

section Commands

variable {s t : State} {id : Nat} {c : Cmd}

theorem cmd_id (h : s.cmd id = some c) : c.id = id := by
  simpa using List.find?_some h

/-- Every started command after one of them is changed. -/
theorem cmd_modCmd {f : Cmd → Cmd} (hf : ∀ c, (f c).id = c.id) (i : Nat) :
    (s.modCmd id f).cmd i = (s.cmd i).map fun c => if c.id = id then f c else c := by
  have hid : (fun c : Cmd => c.id == i) ∘ (fun c => if c.id = id then f c else c) = fun c => c.id == i := by
    funext c
    simp only [Function.comp_apply]
    split
    · rw [hf]
    · rfl
  rw [State.cmd, State.modCmd, List.find?_map, hid, State.cmd]

theorem cmd_modCmd_self {f : Cmd → Cmd} (hf : ∀ c, (f c).id = c.id) (h : s.cmd id = some c) : (s.modCmd id f).cmd id = some (f c) := by
  rw [cmd_modCmd hf, h, Option.map_some, if_pos (cmd_id h)]

theorem cmd_modCmd_ne {f : Cmd → Cmd} (hf : ∀ c, (f c).id = c.id) {i : Nat} (hi : i ≠ id) : (s.modCmd id f).cmd i = s.cmd i := by
  rw [cmd_modCmd hf]
  cases h : s.cmd i with
  | none => rfl
  | some c => rw [Option.map_some, if_neg fun e => hi ((cmd_id h).symm.trans e)]

/-- A command without what it has reported: its FLAGS and its S codes. -/
def unreported (c : Cmd) : Cmd := { c with flags := 0, scodes := [] }

/-- A change of a command that is a report. -/
def IsReport (f : Cmd → Cmd) : Prop := ∀ c, unreported (f c) = unreported c

theorem isReport_setFlag (b : Nat) : IsReport fun c => c.setFlag b := fun c => by
  unfold Cmd.setFlag
  dsimp only
  split <;> rfl

theorem isReport_addS (code : Nat) : IsReport fun c => c.addS code := fun c => by
  unfold Cmd.addS
  dsimp only
  split <;> rfl

theorem isReport_ite {b : Prop} [Decidable b] {f : Cmd → Cmd} (hf : IsReport f) : IsReport fun c => if b then f c else c := fun c => by
  dsimp only
  split
  · exact hf c
  · rfl

theorem IsReport.id_eq {f : Cmd → Cmd} (hf : IsReport f) (c : Cmd) : (f c).id = c.id := (congrArg Cmd.id (hf c) : (unreported (f c)).id = (unreported c).id)

theorem cmd_modCmd_report {f : Cmd → Cmd} (hf : IsReport f) (i : Nat) :
    ((s.modCmd id f).cmd i).map unreported = (s.cmd i).map unreported := by
  rw [cmd_modCmd hf.id_eq, Option.map_map]
  refine congrArg (fun g => (s.cmd i).map g) (funext fun c => ?_)
  rw [Function.comp_apply]
  split
  · exact hf c
  · rfl

theorem addS_id (c : Cmd) (code : Nat) : (c.addS code).id = c.id := (isReport_addS code).id_eq c

end Commands

/-! ## What may change -/

/-- What a function may change besides the registers that accesses, events and ended commands change on the side. -/
structure Scope where
  extra : List RegName := []
  mem   : Bool := false
  bays  : Bool := false
  cids  : Bool := false
  cmds  : Bool := false

/-- Registers of error counters, repairs, events and outcomes. -/
def asideRegs : List RegName :=
  [.OBS_CNT, .HST_EVSTAT, .MSIX_PBA, .UST_STAT, .UST_SWAP, .UST_SRAM, .PWR_DOMSTAT, .WNG_ECC, .GRM_ECC, .DEP_ECC, .DEP_STAT, .MEM_ECC,
   .MEM_ERRADDR, .STR_STALE, .STR_WINFAULT, .PRM_AUD, .PRM_DROP, .GRM_STAGE, .RUN_TABLE, .RST_CURTSTAT]

/-- `t` came of `s` by changes within a scope. -/
structure Within (k : Scope) (s t : State) : Prop where
  raw  : ∀ r, r.name ∉ asideRegs → r.name ∉ k.extra → t.raw r = s.raw r
  mem  : k.mem = false → t.mem = s.mem
  bays : k.bays = false → t.bays = s.bays
  cids : k.cids = false → ∀ q, (t.bay q).cid = (s.bay q).cid
  cmds : k.cmds = false → ∀ i, (t.cmd i).map unreported = (s.cmd i).map unreported
  pend : t.ro.seedPending = s.ro.seedPending

namespace Within

variable {k : Scope} {s t u : State}

theorem refl (s : State) : Within k s s := ⟨fun _ _ _ => rfl, fun _ => rfl, fun _ => rfl, fun _ _ => rfl, fun _ _ => rfl, rfl⟩

theorem trans (h : Within k s t) (g : Within k t u) : Within k s u :=
  ⟨fun r hr he => (g.raw r hr he).trans (h.raw r hr he), fun hk => (g.mem hk).trans (h.mem hk), fun hk => (g.bays hk).trans (h.bays hk),
    fun hk q => (g.cids hk q).trans (h.cids hk q), fun hk i => (g.cmds hk i).trans (h.cmds hk i), g.pend.trans h.pend⟩

/-- A change of other parts of the state alone. -/
theorem of_eq (h : Within k s t) (hr : u.regs = t.regs) (hm : u.mem = t.mem) (hb : u.bays = t.bays) (hc : u.ro.cmds = t.ro.cmds)
    (hp : u.ro.seedPending = t.ro.seedPending) : Within k s u :=
  h.trans ⟨fun _ _ _ => by rw [State.raw, hr]; rfl, fun _ => hm, fun _ => hb, fun _ q => by rw [State.bay, hb]; rfl,
    fun _ i => by rw [State.cmd, hc]; rfl, hp⟩

theorem ite {c : Prop} [Decidable c] (ht : Within k s t) (hu : Within k s u) : Within k s (if c then t else u) := by
  split <;> assumption

theorem ite_fst {α : Type} {c : Prop} [Decidable c] {x y : State × α} (hx : Within k s x.1) (hy : Within k s y.1) :
    Within k s (if c then x else y).1 := by
  split <;> assumption

theorem foldl {α : Type} {f : State → α → State} (hf : ∀ t a, Within k s t → Within k s (f t a)) (l : List α) (h : Within k s t) :
    Within k s (l.foldl f t) := by
  induction l generalizing t with
  | nil => exact h
  | cons a l ih => exact ih (hf t a h)

theorem foldl_fst {α β : Type} {f : State × β → α → State × β} (hf : ∀ x a, Within k s x.1 → Within k s (f x a).1) (l : List α) {x : State × β}
    (h : Within k s x.1) : Within k s (l.foldl f x).1 := by
  induction l generalizing x with
  | nil => exact h
  | cons a l ih => exact ih (hf x a h)

/-! ## Registers -/

theorem setRaw (h : Within k s t) {r : Reg} (hr : r.name ∈ asideRegs) (v : W64) : Within k s (t.setRaw r v) :=
  h.trans ⟨fun q hq _ => raw_setRaw_ne t v fun e => hq (by rw [e]; exact hr), fun _ => rfl, fun _ => rfl, fun _ _ => rfl, fun _ _ => rfl, rfl⟩

theorem put (h : Within k s t) (f : Fld) (x u i : Nat) (hf : f.reg ∈ asideRegs) : Within k s (t.put f x u i) := h.setRaw hf _

/-- A field of a register that the scope names. -/
theorem put_extra (h : Within k s t) (f : Fld) (x u i : Nat) (hf : f.reg ∈ k.extra) : Within k s (t.put f x u i) :=
  h.trans ⟨fun q _ hq => raw_put_ne t f x u i fun e => hq (by rw [e]; exact hf), fun _ => rfl, fun _ => rfl, fun _ _ => rfl, fun _ _ => rfl, rfl⟩

theorem bump (h : Within k s t) (f : Fld) (n u i : Nat) (hf : f.reg ∈ asideRegs) : Within k s (t.bump f n u i) := by
  unfold State.bump
  exact ite h (h.put f _ u i hf)

theorem bump_extra (h : Within k s t) (f : Fld) (n u i : Nat) (hf : f.reg ∈ k.extra) : Within k s (t.bump f n u i) := by
  unfold State.bump
  exact ite h (h.put_extra f _ u i hf)

theorem count (h : Within k s t) (blk ev unit n : Nat) : Within k s (t.count blk ev unit n) := by
  have c := count_counts t blk ev unit n
  refine h.trans ⟨fun r hr _ => c.raw r fun e => hr (by rw [e]; decide), fun _ => by rw [c.rest], fun _ => by rw [c.rest],
    fun _ q => by rw [c.bay], fun _ i => by rw [c.rest]; rfl, by rw [c.rest]⟩

theorem modBay (h : Within k s t) (hb : k.bays = true) (p : Nat) {f : Bay → Bay} (hf : (f (t.bay p)).cid = (t.bay p).cid) :
    Within k s (t.modBay p f) := by
  refine h.trans ⟨fun _ _ _ => rfl, fun _ => rfl, fun hk => absurd (hb.symm.trans hk) (by decide), fun _ q => ?_, fun _ _ => rfl, rfl⟩
  by_cases hq : q = p
  · rw [hq, bay_modBay_self, hf]
  · rw [bay_modBay_ne t _ hq]

theorem modDie (h : Within k s t) (d : Nat) (f : Die → Die) : Within k s (t.modDie d f) := h.of_eq rfl rfl rfl rfl rfl

theorem modPort (h : Within k s t) (p : Nat) (f : Port → Port) : Within k s (t.modPort p f) := h.of_eq rfl rfl rfl rfl rfl

theorem modBoard (h : Within k s t) (e : Nat) (f : Board → Board) : Within k s (t.modBoard e f) := h.of_eq rfl rfl rfl rfl rfl

theorem report (h : Within k s t) (id : Nat) {f : Cmd → Cmd} (hf : IsReport f) : Within k s (t.modCmd id f) :=
  h.trans ⟨fun _ _ _ => rfl, fun _ => rfl, fun _ => rfl, fun _ _ => rfl, fun _ i => cmd_modCmd_report hf i, rfl⟩

/-! ## Messages, alerts and swaps (R355, R400, R450) -/

theorem sendVec (h : Within k s t) (v : Nat) : Within k s (t.sendVec v) := by
  unfold State.sendVec
  exact ite (h.of_eq rfl rfl rfl rfl rfl) (ite h (ite (h.setRaw (show RegName.MSIX_PBA ∈ asideRegs by decide) _) (h.of_eq rfl rfl rfl rfl rfl)))

theorem event (h : Within k s t) (n : Nat) : Within k s (t.event n) := by
  unfold State.event
  have hp := h.put HST_EVSTAT_EVENTS (t.get HST_EVSTAT_EVENTS + 2 ^ n) 0 0 (by decide)
  exact ite h (ite (hp.sendVec n) hp)

theorem alert (h : Within k s t) : Within k s t.alert := by
  unfold State.alert
  have hp : Within k s { t with pins := { t.pins with alertN := !t.alertSource } } := h.of_eq rfl rfl rfl rfl rfl
  exact ite (hp.event 0) hp

theorem service (h : Within k s t) : Within k s t.service := (h.put UST_STAT_SERVICE 1 0 0 (by decide)).alert

theorem poolCheck (h : Within k s t) : Within k s t.poolCheck := ite h.service h

theorem requestSwap (h : Within k s t) (lb : Nat) : Within k s (t.requestSwap lb) := by
  unfold State.requestSwap State.setDomain
  split
  · next b _ _ =>
    have hs := ((h.modDie (lb / 8) fun x => { x with swap := some { lbay := lb } }).put ⟨.PWR_DOMSTAT, b, 1⟩ (b2n true) (lb / 8) 0
      (show RegName.PWR_DOMSTAT ∈ asideRegs by decide)).put UST_SWAP_STATE 1 0 0 (by decide)
    exact ite (hs.put UST_STAT_CAND 0 0 0 (by decide)).alert hs
  · exact (h.put UST_SWAP_STATE 5 0 0 (by decide)).event 5

theorem recordCandidate (h : Within k s t) (lb : Nat) : Within k s (t.recordCandidate lb) :=
  ((h.put UST_STAT_CAND 1 0 0 (by decide)).put UST_STAT_CBAY lb 0 0 (by decide)).alert

theorem swapCandidate (h : Within k s t) (lb : Nat) : Within k s (t.swapCandidate lb) := by
  unfold State.swapCandidate
  have hs := ite (c := t.flag UST_CFG_AUTO = true) (h.requestSwap lb) h
  generalize (if t.flag UST_CFG_AUTO = true then t.requestSwap lb else t) = v at hs
  have hr := ite (c := (!(t.die (lb / 8)).swap.isSome && v.flag UST_CFG_AUTO) = true) hs (hs.recordCandidate lb)
  exact ite hs (ite hr.service hr)

theorem bayTrigger (h : Within k s t) (p : Nat) : Within k s (t.bayTrigger p) := by
  unfold State.bayTrigger
  split
  · exact h.swapCandidate _
  · exact h

/-! ## Wings (R135, R352) -/

theorem needBank (h : Within k s t) (hb : k.bays = true) (p b : Nat) : Within k s (t.needBank p b) := by
  unfold State.needBank
  have hm := h.modBay hb p (f := fun x => { x with bankFix := x.bankFix ++ [b] }) rfl
  exact ite h (ite (hm.bayTrigger p) hm)

theorem needRow (h : Within k s t) (hb : k.bays = true) (p r : Nat) : Within k s (t.needRow p r) := by
  unfold State.needRow
  exact ite h (ite (h.needBank hb p _) (h.modBay hb p rfl))

theorem wordCorrected (h : Within k s t) (hb : k.bays = true) (p w : Nat) : Within k s (t.wordCorrected p w) := by
  unfold State.wordCorrected
  have hm := h.modBay hb p (f := fun b => { b with
    wingsErr := Tab.erase b.wingsErr w, corrOnce := (w, t.clk.el) :: b.corrOnce.filter fun x => x.1 != w }) rfl
  exact ite (hm.needRow hb p _) hm

theorem wingsSeen (h : Within k s t) (hb : k.bays = true) (p : Nat) (ws : List Nat) : Within k s (t.wingsSeen p ws).1 := by
  unfold State.wingsSeen
  refine foldl_fst (fun x w hx => ?_) ws h
  split
  · exact hx
  · exact (hx.wordCorrected hb p w).bump WNG_ECC_CORR 1 p 0 (by decide)
  · exact (hx.needBank hb p _).bump WNG_ECC_UNCORR 1 p 0 (by decide)

theorem wingsPut (h : Within k s t) (hb : k.bays = true) (p : Nat) (bs : List (Nat × Byte)) : Within k s (t.wingsPut p bs).1 := by
  unfold State.wingsPut
  refine foldl_fst (fun x c hx => ?_) bs h
  have store {u : State} (hu : Within k s u) : Within k s (u.modBay p fun b => { b with wings := b.wings.write c.1 c.2 }) := hu.modBay hb p rfl
  split
  · exact store hx
  · dsimp only
    refine ite_fst (ite (store hx) (store (hx.modBay hb p (by rfl)))) ?_
    split
    · exact store ((hx.wordCorrected hb p _).bump WNG_ECC_CORR 1 p 0 (by decide))
    · exact hx

/-! ## Green rooms (R138, R139, R352) -/

theorem repairGreenBank (h : Within k s t) (d b : Nat) : Within k s (t.repairGreenBank d b) := by
  unfold State.repairGreenBank
  have hr := (h.modDie d fun x => x.repairGreen fun j => greenBank j == b).bump UST_SRAM_GBANK 1 0 0 (by decide)
  exact ite h.service (poolCheck (hr.of_eq rfl rfl rfl rfl rfl))

theorem repairGreenRow (h : Within k s t) (d b r : Nat) : Within k s (t.repairGreenRow d b r) := by
  unfold State.repairGreenRow
  have hr := (h.modDie d fun x => x.repairGreen fun j => greenBank j == b && greenRow j == r).bump UST_SRAM_ROWS 1 0 0 (by decide)
  exact ite (h.repairGreenBank d b) (hr.of_eq rfl rfl rfl rfl rfl)

theorem greenCorrected (h : Within k s t) (d w : Nat) : Within k s (t.greenCorrected d w) := by
  unfold State.greenCorrected
  exact ite ((h.modDie d _).repairGreenRow d _ _) (h.modDie d _)

theorem greenRead (h : Within k s t) (d o n : Nat) : Within k s (t.greenRead d o n).1 := by
  unfold State.greenRead
  exact foldl (fun _ b hx => hx.repairGreenBank d b) _ (foldl (fun _ w hx => hx.greenCorrected d w) _
    ((h.bump GRM_ECC_CORR _ d 0 (by decide)).bump GRM_ECC_UNCORR _ d 0 (by decide)))

theorem greenWrite (h : Within k s t) (d o : Nat) (bs : Bytes) : Within k s (t.greenWrite d o bs) := h.of_eq rfl rfl rfl rfl rfl

/-! ## DDR (R192 to R203) -/

theorem poison (h : Within k s t) (gs : List Nat) : Within k s (t.poison gs) := h.of_eq rfl rfl rfl rfl rfl

theorem depotBack (h : Within k s t) (p : Nat) (sel : Nat → Bool) : Within k s (t.depotBack p sel) :=
  (((((h.bump DEP_ECC_CORR _ p 0 (by decide)).bump DEP_ECC_UNCORR _ p 0 (by decide)).poison _).modPort p _).put DEP_STAT_DIRTY _ p 0 (by decide)).count _ _ _ _

theorem depotDrop (h : Within k s t) (p : Nat) (sel : Nat → Bool) : Within k s (t.depotDrop p sel) := (h.depotBack p sel).modPort p _

theorem depotErrs (h : Within k s t) (p a : Nat) (whole : Bool) : Within k s (t.depotErrs p a whole) := by
  unfold State.depotErrs
  exact ite h (ite (h.depotDrop p _) ((ite h (h.bump DEP_ECC_CORR _ p 0 (by decide))).modPort p _))

theorem depotAccess (h : Within k s t) (a : Nat) (w whole : Bool) : Within k s (t.depotAccess a w whole) := by
  unfold State.depotAccess
  dsimp only
  have hs := h.depotErrs (t.chanOf a / 8) a whole
  refine ite (((modPort ?_ _ _).put DEP_STAT_DIRTY _ _ 0 (by decide)).count _ _ _ _) h
  split
  · exact ite hs (hs.depotDrop _ _)
  · exact hs

theorem busAccess (h : Within k s t) (a : Nat) (hit : Bool) : Within k s (t.busAccess a hit).1 := by
  unfold State.busAccess
  have hb : Within k s ({ t with busErr := Tab.erase t.busErr (a / 64) }.bump MEM_ECC_BUS
      (if Tab.get 0 t.busErr (a / 64) < 4 then Tab.get 0 t.busErr (a / 64) else 4) (t.chanOf a)) :=
    bump (t := { t with busErr := Tab.erase t.busErr (a / 64) }) (h.of_eq rfl rfl rfl rfl rfl) MEM_ECC_BUS _ _ 0 (by decide)
  exact ite_fst h (ite_fst hb (hb.poison _))

theorem errAddr (h : Within k s t) (a : Nat) (unc : Bool) : Within k s (t.errAddr a unc) := by
  unfold State.errAddr
  have hp := ((h.put MEM_ERRADDR_VALID 1 (t.chanOf a) 0 (by decide)).put MEM_ERRADDR_UNC (b2n unc) (t.chanOf a) 0 (by decide)).put
    MEM_ERRADDR_ADDR (a / 64 * 64) (t.chanOf a) 0 (by decide)
  exact ite (hp.event 6) hp

theorem granuleRead (h : Within k s t) (a : Nat) (e : EccSeen) : Within k s (t.granuleRead a e).1 := by
  unfold State.granuleRead
  have hs := ((h.depotAccess a false false).busAccess a (t.depotHit a)).count (portBlk (t.chanOf a / 8)) 0x40 (t.chanOf a % 8) 1
  dsimp only
  split
  · exact hs
  · exact (hs.bump MEM_ECC_CORR 1 _ 0 (by decide)).errAddr a false
  · exact (hs.bump MEM_ECC_UNCORR 1 _ 0 (by decide)).errAddr a true

theorem ddrRead (h : Within k s t) (a n : Nat) : Within k s (t.ddrRead a n).1 :=
  foldl_fst (fun x g hx => hx.granuleRead g x.2) _ h

theorem markStale (h : Within k s t) (g : Nat) : Within k s (t.markStale g) := by
  unfold State.markStale
  refine foldl (fun u l hu => ite (ite ?_ hu) hu) _ h
  exact (bump (t := u.setEng l.eng _) (hu.of_eq rfl rfl rfl rfl rfl) STR_STALE_MARKED 1 l.eng 0 (by decide)).count _ _ _ _

/-- Memory takes other bytes. -/
theorem store (h : Within k s t) (hm : k.mem = true) (m : Memory) (e : Tab ErrMark) : Within k s { t with mem := m, memErr := e } :=
  h.trans ⟨fun _ _ _ => rfl, fun hk => absurd (hm.symm.trans hk) (by decide), fun _ => rfl, fun _ _ => rfl, fun _ _ => rfl, rfl⟩

theorem granulePut (h : Within k s t) (hm : k.mem = true) (g : Nat) (bs : List (Nat × Byte)) : Within k s (t.granulePut g bs).1 := by
  have hs := (((h.depotAccess g true (bs.length == 64)).busAccess g (t.depotHit g)).count (portBlk (t.chanOf g / 8)) 0x41 (t.chanOf g % 8) 1).markStale g
  unfold State.granulePut
  dsimp only
  refine ite_fst ((hs.bump MEM_ECC_UNCORR 1 (t.chanOf g) 0 (by decide)).errAddr g true) ?_
  split
  · exact hs
  · exact ((hs.store hm _ _).bump MEM_ECC_CORR 1 (t.chanOf g) 0 (by decide)).errAddr g false
  · exact hs.store hm _ _
  · exact hs.store hm _ _

theorem granuleWrite (h : Within k s t) (hm : k.mem = true) (a : Nat) (bs : Bytes) : Within k s (t.granuleWrite a bs).1 :=
  ite_fst h (h.granulePut hm _ _)

theorem ddrWriteGo (hm : k.mem = true) (fuel : Nat) : ∀ {t : State}, Within k s t → ∀ a bs, Within k s (State.ddrWriteGo fuel t a bs).1 := by
  induction fuel with
  | zero => exact fun h _ _ => h
  | succ n ih =>
    intro t h a bs
    unfold State.ddrWriteGo
    split
    · exact h
    · exact ih (h.granuleWrite hm a _) _ _

theorem ddrWrite (h : Within k s t) (hm : k.mem = true) (a : Nat) (bs : Bytes) : Within k s (t.ddrWrite a bs).1 := ddrWriteGo hm _ h a bs

/-! ## Device addresses -/

theorem winFault (h : Within k s t) (a : Nat) (w : Bool) : Within k s (t.winFault a w) :=
  (h.put STR_WINFAULT_ADDR a 0 0 (by decide)).put STR_WINFAULT_WR (b2n w) 0 0 (by decide)

theorem devRead (h : Within k s t) (hb : k.bays = true) (a n : Nat) : Within k s (t.devRead a n).1 := by
  unfold State.devRead
  split
  · exact h.ddrRead a n
  · exact h.wingsSeen hb _ _
  · exact h.greenRead _ _ _
  · exact h

theorem devReadAll (h : Within k s t) (hb : k.bays = true) (a n : Nat) : Within k s (t.devReadAll a n).1 :=
  foldl_fst (fun (x : State × EccSeen) g hx => hx.devRead (t := x.1) hb g 64) (granulesAt a n) (x := (t, {})) h

theorem devWrite (h : Within k s t) (hb : k.bays = true) (hm : k.mem = true) (a : Nat) (bs : Bytes) : Within k s (t.devWrite a bs).1 := by
  unfold State.devWrite
  split
  · exact h.ddrWrite hm a bs
  · exact h.wingsPut hb _ _
  · exact h.greenWrite _ _ _
  · exact h

theorem cmdEcc (h : Within k s t) (who : Option Nat) (e : EccSeen) : Within k s (t.cmdEcc who e) := by
  unfold State.cmdEcc
  split
  · exact h
  · next id =>
    have hc := ite (c := e.corr = true) (h.report id (isReport_setFlag flECC)) h
    exact ite (hc.report id (isReport_addS cECC_UNCORR)) hc

/-! ## Audits (R234, R235) -/

theorem audit1 (h : Within k s t) (hb : k.bays = true) (lb : Nat) (c : PCtx) (a : Audit) : Within k s (t.audit1 lb c a) := by
  have told {u : State} (hu : Within k s u) {f : Cmd → Cmd} (hf : IsReport f) :
      Within k s (match a.cid with | some id => u.modCmd id f | none => u) := by
    split
    · exact hu.report _ hf
    · exact hu
  unfold State.audit1
  dsimp only
  have hs := told (told (h.wingsSeen hb (t.phys lb) (c.auditWords a.slots))
    (isReport_ite (b := (t.wingsSeen (t.phys lb) (c.auditWords a.slots)).2.corr = true) (isReport_setFlag flECC)))
    (isReport_ite (b := (t.wingsSeen (t.phys lb) (c.auditWords a.slots)).2.unc = true) (isReport_addS cECC_UNCORR))
  have hn := (hs.bump PRM_AUD_AUDITED a.slots.length (lb / 8) (lb % 8) (by decide)).bump PRM_AUD_MISSED
    (a.slots.filter fun i => (t.bay (t.phys lb)).auditHit c i).length (lb / 8) (lb % 8) (by decide)
  have hf := ite (c := (a.slots.filter fun i => (t.bay (t.phys lb)).auditHit c i).length = 0) hn (told hn (isReport_setFlag flPROMPT))
  refine ite (ite (hf.bump PRM_DROP_MKDROP 1 _ 0 (by decide)) ?_) hf
  exact told (hf.modDie _ _) (isReport_addS cPROMPT_MAKEUP)

theorem auditIf (h : Within k s t) (hb : k.bays = true) (lb : Nat) (sel : Audit → Bool) : Within k s (t.auditIf lb sel) := by
  unfold State.auditIf State.setCtx
  exact modDie (foldl (fun _ a hu => hu.audit1 hb lb (t.ctx lb) a) ((t.ctx lb).audits.filter sel) h) (lb / 8) _

theorem auditCmd (h : Within k s t) (hb : k.bays = true) (id : Nat) (mask : W64) : Within k s (t.auditCmd id mask) :=
  foldl (fun _ lb hu => ite (hu.auditIf hb lb _) hu) _ h

/-! ## The end of a command (R75, R129, R141, R150, R310) -/

theorem releaseStaging (h : Within k s t) (id : Nat) : Within k s (t.releaseStaging id) := by
  refine foldl (fun u d hu => ite (modDie ?_ d _) hu) _ h
  exact hu.setRaw (show RegName.GRM_STAGE ∈ asideRegs by decide) _

theorem entryDone (h : Within k s t) (e : Nat) : Within k s (t.entryDone e) := by
  unfold State.entryDone
  have hb (b : Board) : Within k s (t.setBoard e b) := h.of_eq rfl rfl rfl rfl rfl
  exact ite ((hb _).sendVec _) (hb _)

theorem boardCmdEnd (h : Within k s t) (e i : Nat) (c : Cmd) : Within k s (t.boardCmdEnd e i c) := by
  have hb (b : Board) : Within k s (t.setBoard e b) := h.of_eq rfl rfl rfl rfl rfl
  exact ite ((hb _).entryDone e) (hb _)

theorem tableCode (h : Within k s t) (act slot code : Nat) : Within k s (t.tableCode act slot code) :=
  (((h.put RUN_TABLE_CODE code 0 0 (by decide)).put RUN_TABLE_ACT act 0 0 (by decide)).put RUN_TABLE_SLOT slot 0 0 (by decide)).event 3

theorem requestCurtain (h : Within k s t) (c : Curt) : Within k s (t.requestCurtain c) := by
  unfold State.requestCurtain
  exact put (t := { t with curtQ := some _ }) (h.of_eq rfl rfl rfl rfl rfl) RST_CURTSTAT_QUEUED 1 0 0 (by decide)

end Within

end Sys2Proof.Proofs
end

section
/-! The records of the central reader and the end of a command (R75, R84, R141, R308, R310, R373, R377): what they may change, and that an
ended command is not started. -/

namespace Sys2Proof.Proofs

open Sys2Proof.Machine Sys2Proof.Laws Sys2Proof.Claims

variable {k : Scope} {s t : State} {id : Nat} {c : Cmd}

/-- A scope in which bays leave their command. -/
structure Scope.Releases (k : Scope) : Prop where
  bays    : k.bays = true
  cids    : k.cids = true
  seqstat : .CUE_SEQSTAT ∈ k.extra
  sheetno : .CUE_SHEETNO ∈ k.extra

/-- A scope in which records are written. -/
structure Scope.Records (k : Scope) : Prop where
  mem  : k.mem = true
  bays : k.bays = true
  ctl  : .OBS_RINGCTL ∈ k.extra
  stat : .OBS_RINGSTAT ∈ k.extra
  wr   : .OBS_RINGWR ∈ k.extra
  rd   : .OBS_RINGRD ∈ k.extra

namespace Within

/-! ## Records (R373, R377) -/

theorem ringLost (h : Within k s t) (hk : k.Records) (n : Nat) : Within k s (t.ringLost n) :=
  (h.bump_extra OBS_RINGSTAT_LOST 1 n 0 hk.stat).event 9

theorem ringWindow (h : Within k s t) (hk : k.Records) (n : Nat) : Within k s (t.ringWindow n) :=
  ((h.put_extra OBS_RINGCTL_EN 0 n 0 hk.ctl).put_extra OBS_RINGSTAT_CODE cWINDOW n 0 hk.stat).event 9

theorem ringWrite (h : Within k s t) (hk : k.Records) (n : Nat) (rec : Bytes) : Within k s (t.ringWrite n rec) := by
  unfold State.ringWrite
  dsimp only
  refine ite h (ite (h.ringLost hk n) (ite (h.ringLost hk n) ?_))
  split
  · exact (devWrite (ite (h.put_extra _ _ _ _ hk.rd) ((h.put_extra _ _ _ _ hk.rd).devWrite hk.bays hk.mem _ _)) hk.bays hk.mem _ _).put_extra
      _ _ _ _ hk.wr
  · exact ((h.put_extra _ _ _ _ hk.rd).winFault _ true).ringWindow hk n
  · exact ((h.put_extra _ _ _ _ hk.rd).winFault _ true).ringWindow hk n

theorem commandRecord (h : Within k s t) (hk : k.Records) (c : Cmd) (end_ : Bool) (code : Nat) : Within k s (t.commandRecord c end_ code) :=
  h.ringWrite hk 1 _

/-! ## Bays and stashes that are given back (R75, R84) -/

/-- A change of a bay that may leave its command. -/
theorem modBay_freely (h : Within k s t) (hk : k.Releases) (p : Nat) (f : Bay → Bay) : Within k s (t.modBay p f) :=
  h.trans ⟨fun _ _ _ => rfl, fun _ => rfl, fun hb => absurd (hk.bays.symm.trans hb) (by decide),
    fun hc => absurd (hk.cids.symm.trans hc) (by decide), fun _ _ => rfl, rfl⟩

theorem releaseBay (h : Within k s t) (hk : k.Releases) (p : Nat) : Within k s (t.releaseBay p) := by
  unfold State.releaseBay
  exact ((h.put_extra CUE_SEQSTAT_STATE 1 p 0 hk.seqstat).put_extra CUE_SHEETNO_ACTIVE 0 p 0 hk.sheetno).modBay_freely hk p _

theorem releaseLane (h : Within k s t) (hk : k.Releases) (mask : W64) (id : Nat) : Within k s (t.releaseLane mask id) :=
  foldl (fun _ _ hu => ite (hu.releaseBay hk _) hu) _ h

theorem unpark (h : Within k s t) (hk : k.Releases) (mask : W64) : Within k s (t.unpark mask) := by
  refine foldl (fun u lb hu => ?_) _ h
  have he : Within k s { u with stashes := Tab.erase u.stashes lb } := hu.of_eq rfl rfl rfl rfl rfl
  exact ite (he.put_extra _ _ _ _ hk.seqstat) he

end Within

/-! ## The end of a command -/

/-- What a command that ends gives back: its staging regions, its bays and its stashes. -/
def givesBack (s : State) (id : Nat) (c : Cmd) : State :=
  let s := (s.releaseStaging id).releaseLane c.mask id
  if c.phase = .parked ∨ (c.resume = true ∧ c.phase = .starting) then s.unpark c.mask else s

/-- The outcome of an ended command at its source. -/
def sourceEnds (s : State) (c : Cmd) : State :=
  match c.src with
  | .board e i => s.boardCmdEnd e i c
  | .table _ => s.tableCode c.act c.slot c.code
  | .makeup _ _ => s.tableCode c.act c.slot c.code

/-- The record of a command's end, and the frame it loses. -/
def endRecorded (s : State) (c : Cmd) : State :=
  let s := if c.noted || c.resume then s.commandRecord c true (s.withKept c).code else s
  if (s.withKept c).code = cECC_UNCORR then s.markLost else s

/-- The curtain that follows a command. -/
def curtainFollows (s : State) (c : Cmd) : State :=
  if c.curtAfter then s.requestCurtain { bays := c.mask, grm := 0, keep := false } else s

/-- The outcome of an ended command, and the curtain that follows it. -/
def outcome (s : State) (c : Cmd) : State := curtainFollows (sourceEnds s c) c

/-- The pending audits of the command are evaluated. -/
def audited (s : State) (id : Nat) : State := s.auditCmd id ((s.cmd id).elim 0 fun c => c.mask)

/-- The pending audits of a command are evaluated, and then it ends, if it is started. -/
theorem endCmd_eq (s : State) (id : Nat) : s.endCmd id = match (audited s id).cmd id with
    | none => audited s id
    | some c => outcome (givesBack ((endRecorded (audited s id) c).dropCmd id) id c) c := rfl

namespace Within

theorem givesBack (h : Within k s t) (hk : k.Releases) (id : Nat) (c : Cmd) : Within k s (givesBack t id c) := by
  have hr := (h.releaseStaging id).releaseLane hk c.mask id
  exact ite (hr.unpark hk c.mask) hr

theorem outcome (h : Within k s t) (c : Cmd) : Within k s (outcome t c) := by
  have hs : Within k s (sourceEnds t c) := by
    unfold sourceEnds
    split
    · exact h.boardCmdEnd _ _ c
    · exact h.tableCode _ _ _
    · exact h.tableCode _ _ _
  exact ite (hs.requestCurtain _) hs

theorem endRecorded (h : Within k s t) (hk : k.Records) (c : Cmd) : Within k s (endRecorded t c) := by
  have hr := ite (c := (c.noted || c.resume) = true) (h.commandRecord hk c true (t.withKept c).code) h
  exact ite (hr.of_eq rfl rfl rfl rfl rfl) hr

theorem audited (h : Within k s t) (hb : k.bays = true) (id : Nat) : Within k s (audited t id) := h.auditCmd hb id _

theorem dropCmd (h : Within k s t) (hk : k.cmds = true) (id : Nat) : Within k s (t.dropCmd id) :=
  h.trans ⟨fun _ _ _ => rfl, fun _ => rfl, fun _ => rfl, fun _ _ => rfl, fun hc => absurd (hk.symm.trans hc) (by decide), rfl⟩

theorem endCmd (h : Within k s t) (hr : k.Releases) (hw : k.Records) (hc : k.cmds = true) (id : Nat) : Within k s (t.endCmd id) := by
  rw [endCmd_eq]
  split
  · exact h.audited hr.bays id
  · exact ((((h.audited hr.bays id).endRecorded hw _).dropCmd hc id).givesBack hr id _).outcome _

end Within

/-- The least scope in which bays leave their command. -/
def releaseScope : Scope := { extra := [.CUE_SEQSTAT, .CUE_SHEETNO], bays := true, cids := true }

theorem releaseScope_releases : releaseScope.Releases := ⟨rfl, rfl, by decide, by decide⟩

theorem cmd_dropCmd (s : State) (id : Nat) : (s.dropCmd id).cmd id = none := by
  simp [State.dropCmd, State.cmd]

/-- Where no command is added none appears. -/
theorem Within.cmd_none (h : Within k s t) (hk : k.cmds = false) (hn : s.cmd id = none) : t.cmd id = none := by
  have := h.cmds hk id
  rwa [hn, Option.map_none, Option.map_eq_none_iff] at this

/-- A started command is still started, and but for its reports it is the same. -/
theorem Within.cmd_some (h : Within k s t) (hk : k.cmds = false) (hs : s.cmd id = some c) :
    ∃ c', t.cmd id = some c' ∧ unreported c' = unreported c := by
  have := h.cmds hk id
  rwa [hs, Option.map_some, Option.map_eq_some_iff] at this

/-- A command that has ended is not started. -/
theorem cmd_endCmd (s : State) (id : Nat) : (s.endCmd id).cmd id = none := by
  rw [endCmd_eq]
  split
  · assumption
  · exact (((Within.refl _).givesBack releaseScope_releases id _).outcome _).cmd_none rfl (cmd_dropCmd _ id)

end Sys2Proof.Proofs
end

section
/-! HALT, overruns and stops (R75, R85, R94, R96, R98, R148, R315), which settles O18 and O19. -/

namespace Sys2Proof.Proofs

open Sys2Proof.Machine Sys2Proof.Laws Sys2Proof.Claims

variable {s t u : State} {p id : Nat} {c : Cmd}

/-! ## Logical bays and started commands -/

/-- Where the map of bays is the same, so are the physical bays. -/
theorem phys_of_raw (h : ∀ r : Reg, r.name = .UST_MAP → t.raw r = s.raw r) (lb : Nat) : t.phys lb = s.phys lb := by
  rw [State.phys, State.phys, get_def, get_def, h _ rfl]

theorem cmd_of_ro (h : t.ro = s.ro) (id : Nat) : t.cmd id = s.cmd id := by rw [State.cmd, State.cmd, h]

/-! ## HALT (R75, R85) -/

/-- HALT has retired and its bay is DONE. -/
def haltDoneBay (b : Bay) : Bay := { b with halted := false }

def haltRetired (s : State) (p : Nat) : State :=
  ((s.modBay p haltDoneBay).retireTo p (s.get CUE_SEQSTAT_PC p)).put CUE_SEQSTAT_STATE 7 p

/-- A bay shows DONE with the PC at its HALT, its bay's cue retired. -/
structure HaltRetired (s t : State) (p : Nat) : Prop where
  state : t.get CUE_SEQSTAT_STATE p = 7
  pc    : t.get CUE_SEQSTAT_PC p = s.get CUE_SEQSTAT_PC p
  own   : t.bay p = { retired (s.bay p) with halted := false }
  frame : CueFrame s t p (· = seqstat p)

theorem haltRetired_haltRetired (hs : (s.bay p).samples = []) : HaltRetired s (haltRetired s p) p := by
  have hu : (s.modBay p haltDoneBay).bay p = haltDoneBay (s.bay p) := bay_modBay_self s p _
  have h := retireTo_retiresTo (s.get CUE_SEQSTAT_PC p) (cueFrame_modBay s p (f := haltDoneBay) rfl) (fun h => h) (by rw [hu]; exact hs)
  refine ⟨get_put_state _ p (by decide), ?_, ?_, ?_⟩
  · rw [haltRetired, get_put_state_pc, h.seq.pc]
    exact Nat.mod_eq_of_lt (bits_lt _ _ _)
  · rw [haltRetired, bay_put, h.own, hu]; rfl
  · exact cueFrame_mono (cueFrame_trans h.frame (cueFrame_put _ CUE_SEQSTAT_STATE 7 p 0)) fun r hr => hr.elim (fun h => h.resolve_right id) id

theorem HaltRetired.ro (h : HaltRetired s t p) : t.ro = s.ro := by rw [h.frame.rest]

/-- Another bay's sequencer shows what it did. -/
theorem get_seqstat_of_frame (h : CueFrame s t p (· = seqstat p)) {q : Nat} (hq : q ≠ p) : t.get CUE_SEQSTAT_STATE q = s.get CUE_SEQSTAT_STATE q := by
  have hne : (⟨CUE_SEQSTAT_STATE.reg, q, 0⟩ : Reg) ≠ seqstat p := fun e => hq (congrArg Reg.unit e)
  rw [get_def, get_def, h.regs _ hne (by decide : RegName.CUE_SEQSTAT ≠ .OBS_CNT)]

theorem phys_of_frame (h : CueFrame s t p (· = seqstat p)) (lb : Nat) : t.phys lb = s.phys lb :=
  phys_of_raw (fun r hr => h.regs r (fun e => by rw [e] at hr; exact absurd hr (by decide : RegName.CUE_SEQSTAT ≠ .UST_MAP)) (by rw [hr]; decide)) lb

/-- HALT retires: the command's lane decides what follows. -/
theorem haltDone_eq (hhalt : (s.bay p).halted = true) (hquiet : s.quiet p = true) (hstate : s.get CUE_SEQSTAT_STATE p = 3)
    (hstop : (s.bay p).stop ≠ .pointers) (hcid : (s.bay p).cid = some id) (hcmd : (haltRetired s p).cmd id = some c) :
    s.haltDone p = if (laneBays c.mask).all fun lb => (haltRetired s p).get CUE_SEQSTAT_STATE ((haltRetired s p).phys lb) == 7 then
      (haltRetired s p).endCmd id else (haltRetired s p).settleLane id := by
  have hact : (!(s.bay p).halted || !s.quiet p || s.get CUE_SEQSTAT_STATE p != 3 || (s.bay p).stop == .pointers) = false := by
    simp [hhalt, hquiet, hstate, hstop]
  unfold State.haltDone
  simp only [hact, Bool.false_eq_true, if_false, hcid]
  change (match (haltRetired s p).cmd id with | none => haltRetired s p | some c => _) = _
  rw [hcmd]
  rfl

/-- A command that is neither stopping nor aborting goes on when a bay comes to rest. -/
theorem settleLane_of_running (hcmd : s.cmd id = some c) (hrun : c.phase = .running) : s.settleLane id = s := by
  unfold State.settleLane
  simp only [hcmd, hrun]
  split <;> rfl

theorem execHaltRetire_eq {lb : Nat} (hrun : BayRuns s lb) : exec (.haltRetire lb) s = .next (s.haltDone (s.phys lb)) :=
  onBay_of_bayRuns hrun fun p => s.haltDone p

theorem execSchedOverrun_eq {lb : Nat} (hlb : lb < 64) (hclk : s.clocked = true) : exec (.schedOverrun lb) s = .next (s.overrun (s.phys lb)) :=
  onBay_run s hlb hclk fun p => s.overrun p

/-- Under HOLD_LANE an overrun is counted and reported. -/
theorem overrun_of_hold (hcid : (s.bay p).cid = some id) (hcmd : s.cmd id = some c) (hwaits : s.waits p = true)
    (hphase : c.phase = .running ∨ c.phase = .stopping) (hovr : c.ovr = 0) :
    s.overrun p = (s.bump RUN_OVERRUN_COUNT).modCmd id fun x => x.addS cSCHED_OVERRUN := by
  have hact : (!s.waits p || (c.phase != .running && c.phase != .stopping)) = false := by
    rcases hphase with h | h <;> simp [hwaits, h]
  simp only [State.overrun, hcid, hcmd, hact, Bool.false_eq_true, if_false, hovr, if_true]

/-- HALT retires; overruns are counted. -/
theorem haltRetiresAndOverrunsCount : HaltRetiresAndOverrunsCount := by
  refine ⟨?halt, ?overrun⟩
  case halt =>
    intro s lb id c lb' hrun p hhalt hquiet hstate hstop hs hcid hcmd hphase hmem hne hother
    have h := haltRetired_haltRetired hs
    have hcmd' := (cmd_of_ro h.ro id).trans hcmd
    refine ⟨haltRetired s p, ?exec, h.state, h.pc, h.own, h.frame⟩
    case exec =>
      rw [execHaltRetire_eq hrun, haltDone_eq hhalt hquiet hstate hstop hcid hcmd', if_neg, settleLane_of_running hcmd' hphase]
      intro hall
      have hdone := List.all_eq_true.mp hall lb' hmem
      rw [phys_of_frame h.frame, get_seqstat_of_frame h.frame hne] at hdone
      exact hother (by simpa using hdone)
  case overrun =>
    intro s lb id c hlb hclk p hcid hcmd hwaits hphase hovr
    refine ⟨_, by rw [execSchedOverrun_eq hlb hclk, overrun_of_hold hcid hcmd hwaits hphase hovr], ?count, ?own, fun i hi => ?others,
      fun r hr => ?raw, ?rest⟩
    case count => exact get_bump_counted s RUN_OVERRUN_COUNT 1 0 0 (by decide)
    case own => exact cmd_modCmd_self (fun c => addS_id c _) ((cmd_of_ro (by rw [bump_eq]) id).trans hcmd)
    case others => exact (cmd_modCmd_ne (fun c => addS_id c _) hi).trans (cmd_of_ro (by rw [bump_eq]) i)
    case raw => exact raw_bump_ne s RUN_OVERRUN_COUNT 1 0 0 hr
    case rest => rw [State.modCmd, bump_eq]

/-- With the lane's last HALT its command has ended. -/
theorem lastHaltEndsTheCommand : LastHaltEndsTheCommand := by
  intro s lb id c hrun p hhalt hquiet hstate hstop hs hcid hcmd hall
  have h := haltRetired_haltRetired hs
  have hcmd' := (cmd_of_ro h.ro id).trans hcmd
  refine ⟨_, ?exec, cmd_endCmd (haltRetired s p) id⟩
  rw [execHaltRetire_eq hrun, haltDone_eq hhalt hquiet hstate hstop hcid hcmd', if_pos]
  refine List.all_eq_true.mpr fun lb' hmem => ?_
  rw [phys_of_frame h.frame, beq_iff_eq]
  by_cases hp : s.phys lb' = p
  · rw [hp]; exact h.state
  · rw [get_seqstat_of_frame h.frame hp]; exact hall lb' hmem hp

/-- Settles O18: HALT's retirement shows DONE; the lane's other bays decide whether its command ends with it. -/
theorem haltEndsItsBayAndTheCommand : Obligations.HaltEndsItsBayAndTheCommand := ⟨haltRetiresAndOverrunsCount, lastHaltEndsTheCommand⟩

/-! ## Stops (R96, R98) -/

/-- A bay whose units have stopped holds nothing that waits. -/
structure Discarded (b : Bay) : Prop where
  posts   : b.posts = []
  dq      : b.dq = []
  halted  : b.halted = false
  stall   : b.stall = none
  present : b.present = none

theorem haltUnits_discarded (s : State) (p : Nat) : Discarded ((s.haltUnits p).bay p) := by
  unfold State.haltUnits
  dsimp only
  rw [bay_modDie, bay_modBay_self]
  exact ⟨rfl, rfl, rfl, rfl, rfl⟩

/-- A bay that a stop has reached. -/
def receiveStop (b : Bay) : Bay := { b with stopReq := .none }

/-- A bay that stops at once. -/
def stopAtOnce (b : Bay) : Bay := { b with stop := .pointers, saving := false }

theorem stop_stopAtOnce (b : Bay) : (stopAtOnce b).stop = .pointers := rfl

theorem discarded_stopAtOnce {b : Bay} (h : Discarded b) : Discarded (stopAtOnce b) := ⟨h.posts, h.dq, h.halted, h.stall, h.present⟩

theorem pointersStop_of_issuing (h : s.get CUE_SEQSTAT_STATE p = 3 ∨ s.get CUE_SEQSTAT_STATE p = 4) :
    s.pointersStop p = (((s.modBay p receiveStop).haltUnits p).put CUE_SEQSTAT_STATE 5 p).modBay p stopAtOnce := by
  unfold State.pointersStop
  exact if_pos h

theorem execStopReceive_of_pointers {lb : Nat} (hlb : lb < 64) (hclk : s.clocked = true) (hreq : (s.bay (s.phys lb)).stopReq = .pointers) :
    exec (.stopReceive lb) s = .next (s.pointersStop (s.phys lb)) := by
  rw [show exec (.stopReceive lb) s = execStopReceive lb s from rfl, execStopReceive, onBay_run s hlb hclk, hreq]

theorem execStopReceive_of_live {lb : Nat} (hlb : lb < 64) (hclk : s.clocked = true) (hreq : (s.bay (s.phys lb)).stopReq = .live) :
    exec (.stopReceive lb) s = .next (s.liveStop (s.phys lb)) := by
  rw [show exec (.stopReceive lb) s = execStopReceive lb s from rfl, execStopReceive, onBay_run s hlb hclk, hreq]

/-- A bay with a LIVE stop noted. -/
def noteLive (b : Bay) : Bay := { b with stopReq := .none, stop := .live }

theorem liveStop_of_running (h : s.get CUE_SEQSTAT_STATE p = 3) : s.liveStop p = s.modBay p noteLive := by
  unfold State.liveStop
  dsimp only
  rw [get_modBay, h]
  rfl

/-! ### A stopped bay becomes idle (R96, R148) -/

/-- A bay that comes to rest: its revolves are closed and no credit is awaited. -/
def restBay (b : Bay) : Bay := { b.closeRings with credits := [] }

theorem ring_restBay (b : Bay) (h : Tab.wf {} b.rings = true) (v : Nat) : (restBay b).ring v = { stall := (b.ring v).stall } :=
  get_mapVals ({} : RingEnd) (f := fun r => { stall := r.stall }) rfl b.rings v h

theorem drows_restBay (b : Bay) : (restBay b).drows = b.drows.filter toWings := by
  refine congrArg (fun f => b.drows.filter f) (funext fun r => ?_)
  unfold toWings
  cases r.dst <;> rfl

/-- A bay of a lane that is in neither of IDLE, DONE, FAULT and PARK keeps its command as it is. -/
theorem settleLane_of_busy (hcmd : s.cmd id = some c) {lb x : Nat} (hmem : lb ∈ laneBays c.mask)
    (hstate : s.get CUE_SEQSTAT_STATE (s.phys lb) = x) (hbusy : x ≠ 1 ∧ x ≠ 7 ∧ x ≠ 8 ∧ x ≠ 6) : s.settleLane id = s := by
  have hrest : s.laneAtRest c.mask = false := by
    refine List.all_eq_false.mpr ⟨lb, hmem, ?_⟩
    simp [hstate, hbusy]
  simp [State.settleLane, hcmd, hrest]

/-- The stopped bay shows IDLE, at rest. -/
def rested (s : State) (p : Nat) : State := (s.put CUE_SEQSTAT_STATE 1 p).modBay p restBay

theorem bay_rested (s : State) (p : Nat) : (rested s p).bay p = restBay (s.bay p) := by rw [rested, bay_modBay_self, bay_put]

theorem restBay_eq (b : Bay) : restBay b = { b with rings := (restBay b).rings, drows := b.drows.filter toWings, credits := [] } := by
  rw [← drows_restBay]; rfl

theorem state_rested (s : State) (p : Nat) : (rested s p).get CUE_SEQSTAT_STATE p = 1 := by
  rw [rested, get_modBay, get_put_state _ _ (by decide)]

theorem raw_rested (s : State) (p : Nat) {r : Reg} (hr : r ≠ seqstat p) : (rested s p).raw r = s.raw r := by
  rw [rested, raw_modBay, raw_put_ne _ _ _ _ _ hr]

theorem rested_cueFrame (s : State) (p : Nat) : CueFrame s (rested s p) p (· = seqstat p) :=
  cueFrame_mono (cueFrame_trans (cueFrame_put s CUE_SEQSTAT_STATE 1 p 0) (cueFrame_modBay _ p (f := restBay) rfl)) fun _ hr =>
    hr.resolve_right fun h => h

theorem otherBaysKept_of_cueFrame {out : Reg → Prop} (h : CueFrame s t p out) : OtherBaysKept s t p := by
  refine ⟨h.bays, ?_, ?_⟩ <;> rw [h.rest] <;> simp

theorem execBayStopDone_of_stopped {lb : Nat} (hlb : lb < 64) (hclk : s.clocked = true) (hstate : s.get CUE_SEQSTAT_STATE (s.phys lb) = 5)
    (hrel : s.unitsReleased (s.phys lb) = true) : exec (.bayStopDone lb) s = .next ((rested s (s.phys lb)).settleBay (s.phys lb)) := by
  rw [show exec (.bayStopDone lb) s = execBayStopDone lb s from rfl, execBayStopDone, onBay_run s hlb hclk]
  refine congrArg _ (if_neg ?_)
  simp [hstate, hrel]

/-- The lane of a bay that comes to rest goes on stopping while another bay of it stops. -/
theorem settleBay_rested (hcid : (s.bay p).cid = some id) (hcmd : s.cmd id = some c) {lb : Nat} (hmem : lb ∈ laneBays c.mask)
    (hne : s.phys lb ≠ p) (hstate : s.get CUE_SEQSTAT_STATE (s.phys lb) = 5) : (rested s p).settleBay p = rested s p := by
  have hframe := rested_cueFrame s p
  have hcid' : ((rested s p).bay p).cid = some id := by rw [bay_rested]; exact hcid
  rw [State.settleBay, hcid']
  refine settleLane_of_busy ((cmd_of_ro (by rw [hframe.rest]) id).trans hcmd) hmem (x := 5) ?_ (by decide)
  rw [phys_of_frame hframe, get_seqstat_of_frame hframe hne, hstate]

theorem modBay_rest (s : State) (p : Nat) (f : Bay → Bay) : s.modBay p f = { s with bays := (s.modBay p f).bays } := rfl

/-- Settles O19: a POINTERS stop discards what waits, a LIVE stop is noted, and a stopped bay comes to rest. -/
theorem stopsReachTheirBay : Obligations.StopsReachTheirBay := by
  refine ⟨?pointers, ?live, ?rest⟩
  case pointers =>
    intro s lb hlb hclk p hreq hstate
    have hexec := execStopReceive_of_pointers hlb hclk hreq
    rw [pointersStop_of_issuing hstate] at hexec
    obtain ⟨hposts, hdq, hhalted, hstall, hpresent⟩ := discarded_stopAtOnce (haltUnits_discarded (s.modBay p receiveStop) p)
    have hown : ((((s.modBay p receiveStop).haltUnits p).put CUE_SEQSTAT_STATE 5 p).modBay p stopAtOnce).bay p =
        stopAtOnce (((s.modBay p receiveStop).haltUnits p).bay p) := by rw [bay_modBay_self, bay_put]
    refine ⟨_, hexec, ?_, ?_⟩
    · rw [get_modBay, get_put_state _ _ (by decide)]
    · rw [hown]; exact ⟨stop_stopAtOnce _, hposts, hdq, hhalted, hstall, hpresent⟩
  case live =>
    intro s lb hlb hclk p hreq hstate
    have hexec := execStopReceive_of_live hlb hclk hreq
    rw [liveStop_of_running hstate] at hexec
    exact ⟨_, hexec, bay_modBay_self s p _, fun q hq => bay_modBay_ne s _ hq, modBay_rest s p _⟩
  case rest =>
    intro s lb id c lb' hlb hclk p hstate hrel hwf hcid hcmd hmem hne hbusy
    have hexec := execBayStopDone_of_stopped hlb hclk hstate hrel
    rw [settleBay_rested hcid hcmd hmem hne hbusy] at hexec
    have hframe := rested_cueFrame s p
    refine ⟨_, hexec, state_rested s p, ?_, fun v => ?_, ?_, otherBaysKept_of_cueFrame hframe, fun r hr => raw_rested s p hr⟩
    · rw [bay_rested]; rfl
    · rw [bay_rested]; exact ring_restBay _ hwf v
    · rw [bay_rested]; exact restBay_eq _

end Sys2Proof.Proofs
end

section
/-! LIVE saves and their fall-back (R98, R99, R193), which settles O20. -/

namespace Sys2Proof.Proofs

open Sys2Proof.Machine Sys2Proof.Laws Sys2Proof.Claims

variable {s t u : State} {p id lb : Nat} {c : Cmd}

/-! ## A pass over the bays of a lane -/

/-- A fold over a list without repetition in which only the step at `a` leads from `P` to `Q`, and the others keep them. -/
theorem foldl_visit {α σ : Type} {f : σ → α → σ} {P Q : σ → Prop} {l : List α} {x : σ} {a : α} (hl : l.Nodup) (ha : a ∈ l) (hx : P x)
    (before : ∀ y b, b ∈ l → b ≠ a → P y → P (f y b)) (here : ∀ y, P y → Q (f y a)) (after : ∀ y b, b ∈ l → b ≠ a → Q y → Q (f y b)) :
    Q (l.foldl f x) := by
  obtain ⟨l₁, l₂, rfl⟩ := List.append_of_mem ha
  have ne_of {b : α} (hb : b ∈ l₁ ∨ b ∈ l₂) : b ≠ a := by
    rintro rfl
    rw [List.nodup_middle, List.nodup_cons, List.mem_append] at hl
    exact hl.1 hb
  rw [List.foldl_append, List.foldl_cons]
  refine List.foldlRecOn _ f (here _ ?_) fun y hy b hb => after y b (by simp [hb]) (ne_of (Or.inr hb)) hy
  exact List.foldlRecOn _ f hx fun y hy b hb => before y b (by simp [hb]) (ne_of (Or.inl hb)) hy

theorem laneBays_nodup (mask : W64) : (laneBays mask).Nodup := List.nodup_range.filter _

/-- Two logical bays of a lane apart from each other serve two physical bays. -/
theorem phys_ne_of_apart {mask : W64} (h : laneApart s mask) {x y : Nat} (hx : x ∈ laneBays mask) (hy : y ∈ laneBays mask) (hne : x ≠ y) :
    s.phys x ≠ s.phys y := by
  have : Std.Symm fun x y => s.phys x ≠ s.phys y := ⟨fun _ _ h => h.symm⟩
  exact h.forall hx hy hne

theorem foldl_keeps {α β : Type} (g : State → β) {f : State → α → State} (h : ∀ s x, g (f s x) = g s) (l : List α) (s : State) :
    g (l.foldl f s) = g s := by
  induction l generalizing s with
  | nil => rfl
  | cons x l ih => rw [List.foldl_cons, ih, h]

/-! ## A stop of a lane (R104, R317) -/

/-- A bay that a stop of its lane reaches, showing `st`. -/
def askStop (k : StopKind) (st : Nat) (b : Bay) : Bay :=
  if b.cid.isNone || b.stop == .pointers || !(st == 2 || st == 3 || st == 4 || st == 6) then b else { b with stopReq := k }

theorem stopLane_eq (s : State) (mask : W64) (k : StopKind) : s.stopLane mask k = (laneBays mask).foldl (fun s lb =>
    s.modBay (s.phys lb) (askStop k (s.get CUE_SEQSTAT_STATE (s.phys lb)))) s := rfl

theorem wings_askStop (k : StopKind) (st : Nat) (b : Bay) : (askStop k st b).wings = b.wings := by
  unfold askStop
  split <;> rfl

/-- What a change of a bay keeps, every bay keeps. -/
theorem keeps_modBay {β : Type} (g : Bay → β) {f : Bay → Bay} (hf : ∀ b, g (f b) = g b) (s : State) (p q : Nat) :
    g ((s.modBay p f).bay q) = g (s.bay q) := by
  by_cases hq : q = p
  · rw [hq, bay_modBay_self, hf]
  · rw [bay_modBay_ne s _ hq]

theorem stopLane_regs (s : State) (mask : W64) (k : StopKind) : (s.stopLane mask k).regs = s.regs :=
  foldl_keeps State.regs (fun s _ => modBay_regs s _ _) _ s

theorem stopLane_ro (s : State) (mask : W64) (k : StopKind) : (s.stopLane mask k).ro = s.ro :=
  foldl_keeps State.ro (fun s _ => modBay_ro s _ _) _ s

theorem stopLane_mem (s : State) (mask : W64) (k : StopKind) : (s.stopLane mask k).mem = s.mem :=
  foldl_keeps State.mem (fun s _ => modBay_mem s _ _) _ s

theorem stopLane_wings (s : State) (mask : W64) (k : StopKind) (q : Nat) : ((s.stopLane mask k).bay q).wings = (s.bay q).wings :=
  foldl_keeps (fun s => (s.bay q).wings) (fun s _ => keeps_modBay Bay.wings (wings_askStop k _) s _ q) _ s

/-- A running or waiting bay of the lane is asked to stop. -/
theorem stopReq_stopLane {mask : W64} (k : StopKind) (hap : laneApart s mask) (hmem : lb ∈ laneBays mask)
    (hcid : (s.bay (s.phys lb)).cid.isSome = true) (hstop : (s.bay (s.phys lb)).stop ≠ .pointers)
    (hstate : s.get CUE_SEQSTAT_STATE (s.phys lb) = 3 ∨ s.get CUE_SEQSTAT_STATE (s.phys lb) = 4) :
    ((s.stopLane mask k).bay (s.phys lb)).stopReq = k := by
  rw [stopLane_eq]
  refine (foldl_visit (P := fun y : State => y.regs = s.regs ∧ y.bay (s.phys lb) = s.bay (s.phys lb))
    (Q := fun y : State => y.regs = s.regs ∧ (y.bay (s.phys lb)).stopReq = k) (laneBays_nodup mask) hmem ⟨rfl, rfl⟩ ?_ ?_ ?_).2
  · rintro y b hb hne ⟨hr, hy⟩
    refine ⟨hr, ?_⟩
    rw [phys_of_regs_eq hr, bay_modBay_ne y _ (phys_ne_of_apart hap hb hmem hne).symm, hy]
  · rintro y ⟨hr, hy⟩
    refine ⟨hr, ?_⟩
    rw [phys_of_regs_eq hr, bay_modBay_self, hy, get_of_regs_eq hr]
    have hreach : ((s.bay (s.phys lb)).cid.isNone || (s.bay (s.phys lb)).stop == .pointers ||
        !(s.get CUE_SEQSTAT_STATE (s.phys lb) == 2 || s.get CUE_SEQSTAT_STATE (s.phys lb) == 3 || s.get CUE_SEQSTAT_STATE (s.phys lb) == 4 ||
          s.get CUE_SEQSTAT_STATE (s.phys lb) == 6)) = false := by
      obtain ⟨i, hi⟩ := Option.isSome_iff_exists.mp hcid
      rcases hstate with h | h <;> simp [hi, hstop, h]
    unfold askStop
    rw [hreach]
    rfl
  · rintro y b hb hne ⟨hr, hy⟩
    refine ⟨hr, ?_⟩
    rw [phys_of_regs_eq hr, bay_modBay_ne y _ (phys_ne_of_apart hap hb hmem hne).symm, hy]

/-! ## A LIVE stop that comes too late (R99) -/

/-- A LIVE stop reported late. -/
def lateCmd (c : Cmd) : Cmd := { c.addS cEXIT_LATE with liveStop := false }

theorem lateCmd_id (c : Cmd) : (lateCmd c).id = c.id := addS_id c _

/-- Every bay of a lane counts the late stop. -/
def countLate (s : State) (mask : W64) : State := (laneBays mask).foldl (fun s lb => s.bump CUE_STOPCNT_EXITLATE 1 (s.phys lb)) s

theorem fallBack_eq (h : s.cmd id = some c) : s.fallBack id = (countLate (s.modCmd id lateCmd) c.mask).stopLane c.mask .pointers := by
  rw [State.fallBack, h]
  rfl

/-- Only the stop counters of its bays. -/
structure LateCounted (s t : State) : Prop where
  raw  : ∀ r, r.name ≠ .CUE_STOPCNT → t.raw r = s.raw r
  rest : t = { s with regs := t.regs }

theorem LateCounted.phys (h : LateCounted s t) (lb : Nat) : t.phys lb = s.phys lb :=
  phys_of_raw (fun r hr => h.raw r (by rw [hr]; decide)) lb

theorem LateCounted.bump (h : LateCounted s t) (p : Nat) : LateCounted s (t.bump CUE_STOPCNT_EXITLATE 1 p) := by
  refine ⟨fun r hr => ?_, ?_⟩
  · rw [raw_bump_ne t _ _ _ _ fun e => hr (by rw [e]), h.raw r hr]
  · rw [bump_eq, h.rest]

theorem countLate_counted (s : State) (mask : W64) : LateCounted s (countLate s mask) :=
  List.foldlRecOn _ _ ⟨fun _ _ => rfl, rfl⟩ fun _ h _ _ => h.bump _

theorem get_countLate {mask : W64} (hap : laneApart s mask) (hmem : lb ∈ laneBays mask) :
    (countLate s mask).get CUE_STOPCNT_EXITLATE (s.phys lb) = counted CUE_STOPCNT_EXITLATE (s.get CUE_STOPCNT_EXITLATE (s.phys lb)) 1 := by
  have other {y : State} {b x : Nat} (hb : b ∈ laneBays mask) (hne : b ≠ lb) (h : LateCounted s y ∧ y.get CUE_STOPCNT_EXITLATE (s.phys lb) = x) :
      LateCounted s (y.bump CUE_STOPCNT_EXITLATE 1 (y.phys b)) ∧
        (y.bump CUE_STOPCNT_EXITLATE 1 (y.phys b)).get CUE_STOPCNT_EXITLATE (s.phys lb) = x := by
    obtain ⟨hl, hy⟩ := h
    have hunit : (⟨CUE_STOPCNT_EXITLATE.reg, s.phys lb, 0⟩ : Reg) ≠ ⟨CUE_STOPCNT_EXITLATE.reg, s.phys b, 0⟩ := fun e =>
      phys_ne_of_apart hap hb hmem hne (congrArg Reg.unit e).symm
    exact ⟨hl.bump _, by rw [hl.phys, get_bump_ne y _ _ _ _ _ _ _ hunit, hy]⟩
  refine (foldl_visit (P := fun y : State => LateCounted s y ∧ y.get CUE_STOPCNT_EXITLATE (s.phys lb) = s.get CUE_STOPCNT_EXITLATE (s.phys lb))
    (Q := fun y : State => LateCounted s y ∧ y.get CUE_STOPCNT_EXITLATE (s.phys lb) = counted CUE_STOPCNT_EXITLATE (s.get CUE_STOPCNT_EXITLATE (s.phys lb)) 1)
    (laneBays_nodup mask) hmem ⟨⟨fun _ _ => rfl, rfl⟩, rfl⟩ (fun _ _ => other) ?_ (fun _ _ => other)).2
  rintro y ⟨hl, hy⟩
  exact ⟨hl.bump _, by rw [hl.phys, get_bump_counted y _ _ _ _ (by decide), hy]⟩

theorem execExitLate_eq (hclk : s.clocked = true) (hcmd : s.cmd id = some c) (hphase : c.phase = .stopping) (hlive : c.liveStop = true)
    (hlate : ∃ lb ∈ laneBays c.mask, s.get CUE_SEQSTAT_STATE (s.phys lb) ≠ 6) : exec (.exitLate id) s = .next (s.fallBack id) := by
  obtain ⟨lb, hmem, hstate⟩ := hlate
  have hall : (laneBays c.mask).all (fun lb => s.get CUE_SEQSTAT_STATE (s.phys lb) == 6) = false :=
    List.all_eq_false.mpr ⟨lb, hmem, by simpa using hstate⟩
  rw [show exec (.exitLate id) s = execExitLate id s from rfl, execExitLate, hcmd]
  simp [hclk, hphase, hlive, hall]

/-- A LIVE stop not in effect within EXIT_GAP is counted, reported and becomes a POINTERS stop. -/
theorem fallBack_reports (hcmd : s.cmd id = some c) (hap : laneApart s c.mask) : (s.fallBack id).cmd id = some (lateCmd c) ∧
    (∀ lb ∈ laneBays c.mask, (s.fallBack id).get CUE_STOPCNT_EXITLATE (s.phys lb) =
      counted CUE_STOPCNT_EXITLATE (s.get CUE_STOPCNT_EXITLATE (s.phys lb)) 1) ∧
    (∀ lb ∈ laneBays c.mask, (s.bay (s.phys lb)).cid.isSome = true → (s.bay (s.phys lb)).stop ≠ .pointers →
      (s.get CUE_SEQSTAT_STATE (s.phys lb) = 3 ∨ s.get CUE_SEQSTAT_STATE (s.phys lb) = 4) →
      ((s.fallBack id).bay (s.phys lb)).stopReq = .pointers) ∧
    (∀ q, ((s.fallBack id).bay q).wings = (s.bay q).wings) ∧ (s.fallBack id).mem = s.mem ∧
    ∀ r, r.name ≠ .CUE_STOPCNT → (s.fallBack id).raw r = s.raw r := by
  have hcnt := countLate_counted (s.modCmd id lateCmd) c.mask
  have hget {lb : Nat} (hmem : lb ∈ laneBays c.mask) := get_countLate (s := s.modCmd id lateCmd) hap hmem
  have hcmd' : (countLate (s.modCmd id lateCmd) c.mask).cmd id = some (lateCmd c) := by
    rw [cmd_of_ro (s := s.modCmd id lateCmd) (by rw [hcnt.rest]), cmd_modCmd_self lateCmd_id hcmd]
  have hbay (q : Nat) : (countLate (s.modCmd id lateCmd) c.mask).bay q = s.bay q := by rw [hcnt.rest]; rfl
  have hmem' : (countLate (s.modCmd id lateCmd) c.mask).mem = s.mem := by rw [hcnt.rest]; rfl
  have hphys (lb : Nat) : (countLate (s.modCmd id lateCmd) c.mask).phys lb = s.phys lb := hcnt.phys lb
  have hraw (r : Reg) (hr : r.name ≠ .CUE_STOPCNT) : (countLate (s.modCmd id lateCmd) c.mask).raw r = s.raw r := hcnt.raw r hr
  rw [fallBack_eq hcmd]
  generalize countLate (s.modCmd id lateCmd) c.mask = u at *
  have hap' : laneApart u c.mask := hap.imp fun h => by rwa [hphys, hphys]
  refine ⟨?_, fun lb hmem => ?_, fun lb hmem hcid hstop hstate => ?_, fun q => ?_, ?_, fun r hr => ?_⟩
  · rw [cmd_of_ro (stopLane_ro ..), hcmd']
  · rw [get_of_regs_eq (stopLane_regs ..)]; exact hget hmem
  · have hst : u.get CUE_SEQSTAT_STATE (s.phys lb) = s.get CUE_SEQSTAT_STATE (s.phys lb) := by
      rw [get_def, hraw _ (by decide : RegName.CUE_SEQSTAT ≠ .CUE_STOPCNT), get_def]
    have := stopReq_stopLane (s := u) .pointers hap' hmem
    rw [hphys, hbay, hst] at this
    exact this hcid hstop hstate
  · rw [stopLane_wings, hbay]
  · rw [stopLane_mem, hmem']
  · rw [State.raw, stopLane_regs]; exact hraw r hr

/-! ## Writes of DDR (R193) -/

/-- Memory outside `n` bytes at `a` reads as it did. -/
def MemOut (a n : Nat) (s t : State) : Prop := ∀ x, (x < a ∨ a + n ≤ x) → t.mem.read x = s.mem.read x

theorem memOut_of_eq {a n : Nat} (h : t.mem = s.mem) : MemOut a n s t := fun _ _ => by rw [h]

theorem MemOut.trans {a n : Nat} (h : MemOut a n s t) (g : MemOut a n t u) : MemOut a n s u := fun x hx => (g x hx).trans (h x hx)

theorem MemOut.mono {a n b m : Nat} (h : MemOut b m s t) (hs : ∀ x, (x < a ∨ a + n ≤ x) → x < b ∨ b + m ≤ x) : MemOut a n s t :=
  fun x hx => h x (hs x hx)

theorem runAt_range {a : Nat} {bs : Bytes} {x : Nat × Byte} (hx : x ∈ runAt a bs) : a ≤ x.1 ∧ x.1 < a + bs.length := by
  induction bs generalizing a with
  | nil => exact absurd hx List.not_mem_nil
  | cons b bs ih =>
    rw [List.length_cons]
    rcases List.mem_cons.mp hx with rfl | hx
    · exact ⟨Nat.le_refl a, by omega⟩
    · have := ih hx
      omega

/-- Bytes written to a granule are discarded or reach memory. -/
theorem mem_granulePut (s : State) (g : Nat) (bs : List (Nat × Byte)) :
    (s.granulePut g bs).1.mem = s.mem ∨ (s.granulePut g bs).1.mem = s.mem.put bs := by
  have hu := ((((Within.refl (k := {}) s).depotAccess g true (bs.length == 64)).busAccess g (s.depotHit g)).count (portBlk (s.chanOf g / 8)) 0x41
    (s.chanOf g % 8) 1).markStale g
  have hu := hu.mem rfl
  unfold State.granulePut
  dsimp only
  generalize State.markStale _ g = u at hu
  split
  · exact Or.inl ((((Within.refl (k := {}) u).bump MEM_ECC_UNCORR 1 (s.chanOf g) 0 (by decide)).errAddr g true).mem rfl |>.trans hu)
  · rw [← hu]
    split
    · exact Or.inl rfl
    · exact Or.inr ((((Within.refl (k := {}) _).bump MEM_ECC_CORR 1 (s.chanOf g) 0 (by decide)).errAddr g false).mem rfl)
    · exact Or.inr rfl
    · exact Or.inr rfl

theorem memOut_granuleWrite (s : State) (a : Nat) (bs : Bytes) : MemOut a bs.length s (s.granuleWrite a bs).1 := by
  unfold State.granuleWrite
  split
  · exact memOut_of_eq rfl
  · intro x hx
    rcases mem_granulePut s (a / 64 * 64) (runAt a bs) with h | h
    · rw [h]
    · rw [h]
      refine read_put_of_not_mem _ fun y hy e => ?_
      have := runAt_range hy
      omega

theorem memOut_ddrWriteGo (fuel : Nat) (s : State) (a : Nat) (bs : Bytes) : MemOut a bs.length s (State.ddrWriteGo fuel s a bs).1 := by
  induction fuel generalizing s a bs with
  | zero => exact memOut_of_eq rfl
  | succ fuel ih =>
    unfold State.ddrWriteGo
    split
    · exact memOut_of_eq rfl
    · dsimp only
      have hfirst := memOut_granuleWrite s a (bs.take (64 - a % 64))
      have hrest := ih (s.granuleWrite a (bs.take (64 - a % 64))).1 (a + (64 - a % 64)) (bs.drop (64 - a % 64))
      rw [List.length_take] at hfirst
      rw [List.length_drop] at hrest
      exact (hfirst.mono fun x hx => by omega).trans (hrest.mono fun x hx => by omega)

theorem memOut_ddrWrite (s : State) (a : Nat) (bs : Bytes) : MemOut a bs.length s (s.ddrWrite a bs).1 :=
  memOut_ddrWriteGo (bs.length + 1) s a bs

/-! ## A LIVE save (R98) -/

/-- A scope of memory writes. -/
def memScope : Scope := { mem := true }

/-- The bytes of a bay's record. -/
def recordBytes (s : State) : Bytes := (List.range 128).flatMap fun k => leBytes 8 (Config.freeValue (s.free + k)).toNat

theorem length_leBytes (n x : Nat) : (leBytes n x).length = n := by
  induction n generalizing x with
  | zero => rfl
  | succ n ih => rw [leBytes, List.length_cons, ih]

theorem length_recordBytes (s : State) : (recordBytes s).length = 1024 := by
  simp [recordBytes, List.length_flatMap, length_leBytes]

/-- The record is written at `a` of DDR, and nothing else of memory changes. -/
structure RecordSaved (a : Nat) (s t : State) : Prop where
  within : Within memScope s t
  mem    : MemOut a 1024 s t

theorem saveRecord_saved {a : Nat} (h : s.place a = .ddr) : RecordSaved a s (s.saveRecord a) := by
  have hw : s.saveRecord a = ({ s with free := s.free + 128 }.ddrWrite a (recordBytes s)).1 := by
    have hp : State.place { s with free := s.free + 128 } a = .ddr := h
    rw [State.saveRecord, State.devWrite, hp]
    rfl
  refine ⟨?_, ?_⟩
  · rw [hw]
    exact Within.ddrWrite (k := memScope) (t := { s with free := s.free + 128 }) (Within.of_eq (Within.refl s) rfl rfl rfl rfl rfl) rfl a _
  · have hout := memOut_ddrWrite { s with free := s.free + 128 } a (recordBytes s)
    rw [length_recordBytes] at hout
    rw [hw]
    exact (memOut_of_eq rfl).trans hout

/-- Nothing changed but bay `p`. -/
structure Ported (s v : State) (p : Nat) : Prop where
  bays : ∀ q, q ≠ p → v.bay q = s.bay q
  rest : v = { s with bays := v.bays }

theorem wingsPort_nil (h : (s.bay p).granted whoLive.2 id = true) : ∃ v, s.wingsPort p whoLive id [] = (v, true) ∧ Ported s v p := by
  unfold State.wingsPort
  dsimp only
  split
  · exact ⟨_, rfl, fun q hq => bay_setBay_ne s _ hq, rfl⟩
  · exact ⟨s, by simp [h, Bay.passes], fun _ _ => rfl, rfl⟩

/-- A bay whose save is complete. -/
def saveOver (b : Bay) : Bay := { b with saving := false }

/-- A bay's stash takes its record. -/
def stash (s : State) (lb p : Nat) : State := { s with stashes := Tab.insert (Tab.erase s.stashes lb) lb (s.stashOf p) }

/-- A bay's record has been written at `a` and it parks. -/
def parked (s : State) (lb p a : Nat) : State := (stash ((s.saveRecord a).bump CUE_STOPCNT_PARKS 1 p) lb p).modBay p saveOver

theorem saveDone_eq {a : Nat} {v : State} (hsav : (s.bay p).saving = true) (hstate : s.get CUE_SEQSTAT_STATE p = 6) (hquiet : s.quiet p = true)
    (hcred : (s.bay p).credits = []) (hcid : (s.bay p).cid = some id) (hranges : liveRanges (s.bay p).part.ranges (s.get CUE_LIVEMASK_MASK p) = [])
    (ha : s.stashAddr lb = a) (hperm : s.unpermitted a 1024 true = none) (hsize : 1024 ≤ s.stashSize)
    (hport : s.wingsPort p whoLive id [] = (v, true)) : s.saveDone lb p = (parked v lb p a).settleLane id := by
  have hact : (!(s.bay p).saving || s.get CUE_SEQSTAT_STATE p != 6 || !s.quiet p || !(s.bay p).credits.isEmpty) = false := by
    simp [hsav, hstate, hquiet, hcred]
  unfold State.saveDone
  dsimp only
  rw [hact, hcid, hranges, ha]
  dsimp only
  rw [show 1024 + liveLen [] = 1024 from rfl, hperm, show rangeLines [] false = [] from rfl, hport]
  simp only [Bool.false_eq_true, if_false, if_neg (Nat.not_lt.mpr hsize)]
  rfl

theorem mem_insert {α : Type} (t : Tab α) (i : Nat) (v : α) : (i, v) ∈ Tab.insert t i v := by
  induction t with
  | nil => exact List.mem_singleton.mpr rfl
  | cons x t ih =>
    obtain ⟨k, w⟩ := x
    rw [Tab.insert]
    split
    · exact List.mem_cons_self
    · exact List.mem_cons_of_mem _ ih

/-- The record of a bay, of registers that stay. -/
structure RecordOf (s : State) (p : Nat) (x : Stash) : Prop where
  valid  : x.valid = true
  sheet  : x.sheet = s.get CUE_SHEETNO_SHEET p
  pc     : x.pc = s.get CUE_SEQSTAT_PC p
  ldepth : x.ldepth = s.get CUE_SEQSTAT_LDEPTH p
  sems   : x.sems = (List.range 64).map fun i => s.get CUE_SEM_VALUE p i

theorem stashOf_recordOf (s : State) (p : Nat) : RecordOf s p (s.stashOf p) := ⟨rfl, rfl, rfl, rfl, rfl⟩

/-- Registers that a save leaves. -/
def savedRegs (n : RegName) : Prop := n ∉ asideRegs ∧ n ≠ .CUE_STOPCNT

theorem get_of_saved (h : ∀ r : Reg, savedRegs r.name → t.raw r = s.raw r) (f : Fld) (q i : Nat) (hf : savedRegs f.reg) :
    t.get f q i = s.get f q i := by
  rw [get_def, h _ hf, get_def]

theorem RecordOf.of_raw {x : Stash} (h : RecordOf t p x) (hr : ∀ r, savedRegs r.name → t.raw r = s.raw r) : RecordOf s p x := by
  have get := get_of_saved hr
  refine ⟨h.valid, ?_, ?_, ?_, ?_⟩
  · rw [h.sheet, get _ _ _ ⟨by decide, by decide⟩]
  · rw [h.pc, get _ _ _ ⟨by decide, by decide⟩]
  · rw [h.ldepth, get _ _ _ ⟨by decide, by decide⟩]
  · rw [h.sems]
    exact List.map_congr_left fun i _ => get _ _ _ ⟨by decide, by decide⟩

/-- A bay that has saved its record. -/
structure Parked (s t : State) (lb p a : Nat) : Prop where
  saving : (t.bay p).saving = false
  parks  : t.get CUE_STOPCNT_PARKS p = counted CUE_STOPCNT_PARKS (s.get CUE_STOPCNT_PARKS p) 1
  stash  : ∃ x, (lb, x) ∈ t.stashes ∧ RecordOf s p x
  mem    : MemOut a 1024 s t
  bays   : ∀ q, q ≠ p → t.bay q = s.bay q
  raw    : ∀ r, savedRegs r.name → t.raw r = s.raw r
  cmds   : ∀ i, (t.cmd i).map unreported = (s.cmd i).map unreported

theorem parked_parked {a : Nat} {v : State} (hv : Ported s v p) (ha : s.place a = .ddr) : Parked s (parked v lb p a) lb p a := by
  have hva : v.place a = .ddr := by rw [hv.rest]; exact ha
  have hraw (r : Reg) : v.raw r = s.raw r := by rw [hv.rest]; rfl
  have hmem : v.mem = s.mem := by rw [hv.rest]
  have hcmd (i : Nat) : v.cmd i = s.cmd i := by rw [hv.rest]; rfl
  obtain ⟨hwithin, hout⟩ := saveRecord_saved hva
  unfold parked
  generalize v.saveRecord a = w at hwithin hout
  have hw (r : Reg) (hr : savedRegs r.name) : (w.bump CUE_STOPCNT_PARKS 1 p).raw r = s.raw r := by
    rw [raw_bump_ne w _ _ _ _ fun e => hr.2 (by rw [e]), hwithin.raw r hr.1 List.not_mem_nil, hraw]
  have hbays (q : Nat) : (stash (w.bump CUE_STOPCNT_PARKS 1 p) lb p).bay q = v.bay q := by
    rw [stash, bump_eq]
    exact congrArg (fun b => Tab.get {} b q) (hwithin.bays rfl)
  refine ⟨?saving, ?parks, ?stash, ?mem, fun q hq => ?bays, fun r hr => ?raw, fun i => ?cmds⟩
  case saving => rw [bay_modBay_self]; rfl
  case parks =>
    have hkept : w.get CUE_STOPCNT_PARKS p = s.get CUE_STOPCNT_PARKS p := by
      rw [get_def, hwithin.raw _ (by decide : RegName.CUE_STOPCNT ∉ asideRegs) List.not_mem_nil, hraw, get_def]
    exact (get_bump_counted w CUE_STOPCNT_PARKS 1 p 0 (by decide)).trans (by rw [hkept])
  case stash => exact ⟨_, mem_insert _ lb _, (stashOf_recordOf _ p).of_raw hw⟩
  case mem =>
    refine ((memOut_of_eq hmem).trans hout).trans (memOut_of_eq ?_)
    rw [modBay_mem, stash, bump_eq]
  case bays => rw [bay_modBay_ne _ _ hq, hbays, hv.bays q hq]
  case raw => rw [raw_modBay]; exact hw r hr
  case cmds =>
    refine Eq.trans ?_ ((hwithin.cmds rfl i).trans (by rw [hcmd]))
    rw [stash, bump_eq]
    rfl

/-- A save ends in PARK, and its lane goes on while another bay of it runs. -/
theorem saveDone_parks {a lb' : Nat} (hsav : (s.bay p).saving = true) (hstate : s.get CUE_SEQSTAT_STATE p = 6) (hquiet : s.quiet p = true)
    (hcred : (s.bay p).credits = []) (hgrant : (s.bay p).granted whoLive.2 id = true) (hcid : (s.bay p).cid = some id) (hcmd : s.cmd id = some c)
    (hranges : liveRanges (s.bay p).part.ranges (s.get CUE_LIVEMASK_MASK p) = []) (ha : s.stashAddr lb = a)
    (hperm : s.unpermitted a 1024 true = none) (hplace : s.place a = .ddr) (hsize : 1024 ≤ s.stashSize)
    (hmem : lb' ∈ laneBays c.mask) (hbusy : s.get CUE_SEQSTAT_STATE (s.phys lb') = 3) : Parked s (s.saveDone lb p) lb p a := by
  obtain ⟨v, hport, hv⟩ := wingsPort_nil hgrant
  have h := parked_parked (lb := lb) hv hplace
  rw [saveDone_eq hsav hstate hquiet hcred hcid hranges ha hperm hsize hport]
  obtain ⟨c', hcmd', hsame⟩ := Option.map_eq_some_iff.mp ((h.cmds id).trans (congrArg _ hcmd))
  have hmask : c'.mask = c.mask := (congrArg Cmd.mask hsame : (unreported c').mask = (unreported c).mask)
  have hphys : (parked v lb p a).phys lb' = s.phys lb' := phys_of_raw (fun r hr => h.raw r (by rw [hr]; exact ⟨by decide, by decide⟩)) lb'
  rwa [settleLane_of_busy hcmd' (lb := lb') (x := 3) (by rw [hmask]; exact hmem) ?_ (by decide)]
  rw [hphys, get_of_saved h.raw _ _ _ ⟨by decide, by decide⟩, hbusy]

/-- Settles O20: the record is all that a save without live ranges writes; a late LIVE stop is counted on each bay of its lane. -/
theorem liveSaveParksOrFallsBack : Obligations.LiveSaveParksOrFallsBack := by
  refine ⟨?save, ?late⟩
  case save =>
    intro s lb id c lb' hlb hclk p a hsav hstate hquiet hcred hgrant hcid hcmd hranges hperm hplace hsize hmem hne hbusy
    have h := saveDone_parks hsav hstate hquiet hcred hgrant hcid hcmd hranges rfl hperm hplace hsize hmem hbusy
    obtain ⟨x, hx, hrec⟩ := h.stash
    exact ⟨_, onBay_run s hlb hclk fun p => s.saveDone lb p, h.saving, h.parks,
      ⟨x, hx, hrec.valid, hrec.sheet, hrec.pc, hrec.ldepth, hrec.sems⟩, h.mem, h.bays⟩
  case late =>
    intro s id c hclk hcmd hphase hlive hlate hap
    exact ⟨_, execExitLate_eq hclk hcmd hphase hlive hlate, fallBack_reports hcmd hap⟩

end Sys2Proof.Proofs
end

section
/-! A run-time fault keeps its code (R87, R104): what stopping a bay's units and its lane may change, which settles O4. -/

namespace Sys2Proof.Proofs

open Sys2Proof.Machine Sys2Proof.Laws Sys2Proof.Claims

/-- A scope in which a bay and its lane stop: CUE_FAULT is none of its registers. -/
def stopScope : Scope :=
  { extra := [.CUE_SEQSTAT, .CUE_SHEETNO, .CUE_ARRECC, .OBS_PHOTOSTAT, .OBS_RINGCTL, .OBS_RINGSTAT, .OBS_RINGWR, .OBS_RINGRD, .RUN_PREEMPT]
    mem := true, bays := true, cids := true, cmds := true }

theorem stopScope_releases : stopScope.Releases := ⟨rfl, rfl, by decide, by decide⟩

theorem stopScope_records : stopScope.Records := ⟨rfl, rfl, by decide, by decide, by decide, by decide⟩

namespace Within

variable {s t : State}

/-- Any change of a bay. -/
theorem anyBay (h : Within stopScope s t) (p : Nat) (f : Bay → Bay) : Within stopScope s (t.modBay p f) := h.modBay_freely stopScope_releases p f

/-- Any change of the started commands. -/
theorem anyCmd (h : Within stopScope s t) (id : Nat) (f : Cmd → Cmd) : Within stopScope s (t.modCmd id f) :=
  h.trans ⟨fun _ _ _ => rfl, fun _ => rfl, fun _ => rfl, fun _ _ => rfl, fun hc => absurd (show true = false from hc) (by decide), rfl⟩

/-! ## A bay's units stop (R96) -/

theorem bayFlag (h : Within stopScope s t) (p b : Nat) : Within stopScope s (t.bayFlag p b) := by
  unfold State.bayFlag
  split
  · exact h.anyCmd _ _
  · exact h

theorem bayStatus (h : Within stopScope s t) (p code : Nat) : Within stopScope s (t.bayStatus p code) := by
  unfold State.bayStatus
  split
  · exact h.anyCmd _ _
  · exact h

theorem corrRise (h : Within stopScope s t) (p n : Nat) : Within stopScope s (t.corrRise p n) :=
  ite ((h.anyBay p _).bayTrigger p) (h.anyBay p _)

theorem arrayEcc (h : Within stopScope s t) (p arr : Nat) (keys : Nat → Bool) : Within stopScope s (t.arrayEcc p arr keys) := by
  unfold State.arrayEcc
  have hs := ((h.bump_extra CUE_ARRECC_CORR ((((t.bay p).arr arr).errs.filter fun e => keys e.1).filter fun e => e.2 == .corr).length p 0
    (by decide)).bump_extra CUE_ARRECC_UNCORR ((((t.bay p).arr arr).errs.filter fun e => keys e.1).filter fun e => e.2 == .uncorr).length p 0
    (by decide)).anyBay p fun b => b.modArr arr fun a => { a with errs := a.errs.filter fun e => !(keys e.1 && e.2 == .corr) }
  have hc := ite (c := ((((t.bay p).arr arr).errs.filter fun e => keys e.1).filter fun e => e.2 == .corr).length = 0) hs
    ((hs.bayFlag p 1).corrRise p ((((t.bay p).arr arr).errs.filter fun e => keys e.1).filter fun e => e.2 == .corr).length)
  exact ite hc ((hc.bayStatus p cECC_UNCORR).bayTrigger p)

theorem feedRows (h : Within stopScope s t) (p arr : Nat) (f : FeedOp) (m : Nat) : Within stopScope s (t.feedRows p arr f m) := by
  unfold State.feedRows
  exact ite h ((foldl (fun _ _ hu => hu.anyBay p _) _ (h.arrayEcc p arr _)).anyBay p _)

theorem ringMove (h : Within stopScope s t) (p : Nat) (op : Opnd) (n : Nat) : Within stopScope s (t.ringMove p op n) := by
  unfold State.ringMove
  split
  · exact h
  · exact h.anyBay p _

theorem shareRows (h : Within stopScope s t) (p : Nat) (f : FeedOp) (reach : Nat → Nat → Bool) : Within stopScope s (t.shareRows p f reach) := by
  unfold State.shareRows
  exact h.anyBay p _

theorem haltArray (h : Within stopScope s t) (p arr : Nat) : Within stopScope s (t.haltArray p arr) := by
  unfold State.haltArray State.fresh
  dsimp only
  refine anyBay ?_ p _
  have hs : Within stopScope s { t with free := t.free + 1 + 1 } := h.of_eq rfl rfl rfl rfl rfl
  generalize { t with free := t.free + 1 + 1 } = u at hs
  split
  case' h_1 => refine ite (anyBay ?_ p _) ?_
  all_goals
    split
    · exact ite (ite (((hs.feedRows p arr _ _).ringMove p _ _).shareRows p _ _) ((hs.feedRows p arr _ _).ringMove p _ _)) hs
    · exact hs

theorem photoAbandon (h : Within stopScope s t) (p : Nat) : Within stopScope s (t.photoAbandon p) := by
  unfold State.photoAbandon
  split
  · exact h
  · exact ((h.anyBay p _).bump_extra OBS_PHOTOSTAT_ABANDON 1 _ 0 (by decide)).put_extra OBS_PHOTOSTAT_BUSY 0 _ 0 (by decide)

theorem haltUnits (h : Within stopScope s t) (p : Nat) : Within stopScope s (t.haltUnits p) := by
  unfold State.haltUnits
  exact (((foldl (fun _ a hu => hu.haltArray p a) _ h).photoAbandon p).anyBay p _).modDie _ _

/-! ## A lane stops (R104, R310, R311, R317) -/

theorem stopLane (h : Within stopScope s t) (mask : W64) (x : StopKind) : Within stopScope s (t.stopLane mask x) := by
  rw [stopLane_eq]
  exact foldl (fun _ _ hu => hu.anyBay _ _) _ h

theorem requeueCmd (h : Within stopScope s t) (id : Nat) : Within stopScope s (t.requeueCmd id) := by
  unfold State.requeueCmd
  split
  · exact h
  · next c _ =>
    have hs := (((h.dropCmd rfl id).releaseStaging id).releaseLane stopScope_releases c.mask id).bump_extra RUN_PREEMPT_PTR 1 0 0 (by decide)
    dsimp only
    split
    · exact hs.modBoard _ _
    · exact hs
    · exact hs.modDie _ _

theorem settleLane (h : Within stopScope s t) (id : Nat) : Within stopScope s (t.settleLane id) := by
  unfold State.settleLane
  split
  · exact h
  · next c _ =>
    refine ite h ?_
    split
    · exact h.endCmd stopScope_releases stopScope_records rfl id
    · refine ite h (ite ?_ (h.requeueCmd id))
      have hs := foldl (f := fun (s : State) lb => (s.put CUE_SHEETNO_ACTIVE 0 (s.phys lb)).modBay (s.phys lb) fun b => { b with cid := none, stop := .none })
        (fun _ _ hu => (hu.put_extra CUE_SHEETNO_ACTIVE 0 _ 0 (by decide)).anyBay _ _)
        (laneBays c.mask) ((h.anyCmd id fun c => { c with phase := .parked }).bump_extra RUN_PREEMPT_LIVE 1 0 0 (by decide))
      dsimp only
      split
      · exact hs.modBoard _ _
      · exact hs
    · exact h

end Within

variable {s : State} {p : Nat}

/-- CUE_FAULT takes a fault's code and PC. -/
def faultNoted (s : State) (p code pc : Nat) : State := (s.put CUE_FAULT_CODE code p).put CUE_FAULT_PC pc p

/-- A fault changes nothing of CUE_FAULT after noting itself there. -/
theorem fault_within (s : State) (p code pc : Nat) : Within stopScope (faultNoted s p code pc) (s.fault p code pc) := by
  unfold State.fault
  refine Within.ite (Within.refl _) ?_
  have hs := ((Within.refl (faultNoted s p code pc)).haltUnits p).put_extra CUE_SEQSTAT_STATE 8 p 0 (by decide)
  dsimp only
  split
  · exact hs
  · next id _ =>
    have hc := (hs.anyBay p fun b => { b with stopReq := .none }).anyCmd id fun c => { c.setF code with phase := .aborting }
    split
    · exact hc
    · exact (hc.stopLane _ .pointers).settleLane id

theorem get_fault_of_within {t : State} (h : Within stopScope s t) {f : Fld} (hf : f.reg = .CUE_FAULT) : t.get f p = s.get f p := by
  rw [get_def, h.raw _ (hf ▸ (by decide : RegName.CUE_FAULT ∉ asideRegs)) (hf ▸ (by decide : RegName.CUE_FAULT ∉ stopScope.extra)), get_def]

theorem faultNoted_code {code : Nat} (h : code < 2 ^ 8) (pc : Nat) : (faultNoted s p code pc).get CUE_FAULT_CODE p = code := by
  rw [faultNoted, get_put_disjoint _ CUE_FAULT_PC CUE_FAULT_CODE _ _ _ (by decide) rfl (Or.inr (by decide)), get_put_self _ _ _ _ _ (by decide)]
  exact Nat.mod_eq_of_lt h

theorem faultNoted_pc {pc : Nat} (h : pc < 2 ^ 14) (code : Nat) : (faultNoted s p code pc).get CUE_FAULT_PC p = pc := by
  rw [faultNoted, get_put_self _ _ _ _ _ (by decide)]
  exact Nat.mod_eq_of_lt h

/-- A fifth open loop is the fault LOOP_DEPTH at its LOOP. -/
theorem fifthLoopFaults : FifthLoopFaults := by
  intro s lb n hq hdepth
  have h := fault_within s (s.phys lb) cLOOP_DEPTH (s.get CUE_SEQSTAT_PC (s.phys lb))
  refine ⟨_, issueCue_of_issues hq (loopCue_of_ge (n := n) hdepth), ?_, ?_⟩
  · rw [get_fault_of_within h rfl, faultNoted_code (by decide)]
  · rw [get_fault_of_within h rfl, faultNoted_pc (pc := s.get CUE_SEQSTAT_PC (s.phys lb)) (bits_lt _ _ _)]

/-- Settles O4: LOOP and ENDL change a count, a body and the depth; a fifth LOOP is a fault that CUE_FAULT keeps. -/
theorem loopsCountAndNestToFour : Obligations.LoopsCountAndNestToFour := ⟨loopsCountTheirBodies, fifthLoopFaults⟩

end Sys2Proof.Proofs
end

section
/-! What the loader's reads of the catalogue, the part table and the bodies may change (R80, R81, R82, R303). -/

namespace Sys2Proof.Proofs

open Sys2Proof.Machine Sys2Proof.Laws Sys2Proof.Claims

/-- A scope of reads. -/
def readScope : Scope := { bays := true }

/-- A scope of loads: entries of the resident-sheet table are dropped. -/
def loadScope : Scope := { extra := [.CUE_RESTAB_LO], bays := true }

namespace Within

variable {k : Scope} {s t : State}

/-- A read charged to a command. -/
theorem readFor {a n : Nat} {x : State × Bytes × EccSeen} (h : Within k s t) (hb : k.bays = true) (who : Option Nat)
    (hx : t.devReadAll a n = x) : Within k s (x.1.cmdEcc who x.2.2) :=
  cmdEcc (hx ▸ h.devReadAll hb a n) who x.2.2

theorem catalogue (h : Within k s t) (hb : k.bays = true) (who : Option Nat) (sheet : Nat) : Within k s (t.catalogue who sheet).1 := by
  unfold State.catalogue
  split
  · exact h
  · next im _ =>
    have hr := (h.devReadAll hb (im.catbase + 16 * sheet) 16).cmdEcc who (t.devReadAll (im.catbase + 16 * sheet) 16).2.2
    exact ite_fst h (ite_fst hr hr)

theorem readPlan (h : Within k s t) (hb : k.bays = true) (who : Option Nat) (sheet : Nat) (mask : W64) (image hdr : Nat) :
    Within k s (t.readPlan who sheet mask image hdr).1 := by
  unfold State.readPlan
  refine ite_fst h ?_
  split
  · exact h.winFault _ false
  · split
    next hx =>
    have hhead := h.readFor hb who hx
    extract_lets v w n
    split
    · exact hhead.winFault _ false
    · split
      next hy =>
      have htable := readFor (t := v) hhead hb who hy
      exact ite_fst htable (ite_fst htable (ite_fst htable (ite_fst htable htable)))

theorem sheetFor (h : Within k s t) (hb : k.bays = true) (c : Cmd) : Within k s (t.sheetFor c).1 := by
  have hcat := h.catalogue hb (some c.id) c.sheet
  unfold State.sheetFor
  split
  · next e => rw [e] at hcat; exact hcat
  · next u image hdr e =>
    rw [e] at hcat
    refine ite_fst hcat ?_
    have hplan := hcat.readPlan hb (some c.id) c.sheet c.mask image hdr
    split
    · next e => rw [e] at hplan; exact hplan
    · next e => rw [e] at hplan; exact hplan

theorem dropOverlaps (h : Within k s t) (hb : k.bays = true) (hx : .CUE_RESTAB_LO ∈ k.extra) (p base lenm1 : Nat) :
    Within k s (t.dropOverlaps p base lenm1) := by
  unfold State.dropOverlaps
  exact foldl (fun _ e hu => ite ((hu.put_extra CUE_RESTAB_LO_VALID 0 p e hx).modBay hb p rfl) hu) _ h

theorem loadBody (h : Within k s t) (hb : k.bays = true) (hx : .CUE_RESTAB_LO ∈ k.extra) (c : Cmd) (pl : SheetPlan) (opens : List (Nat × Cue))
    (r : PartRow) : Within k s (t.loadBody c pl opens r).1 := by
  have writes {v : State} (hv : Within k s v) (p base : Nat) (cues : List (Nat × Nat)) : Within k s (v.writeCues p base cues) := hv.modBay hb p rfl
  unfold State.loadBody
  extract_lets a
  split
  · exact h.winFault _ false
  · split
    next hread =>
    exact writes ((h.readFor hb (some c.id) hread).dropOverlaps hb hx _ _ _) _ _ _

end Within

variable {s u : State} {c : Cmd} {hdr : Nat} {pl : SheetPlan}

/-- A sheet of resident parts: each bay of the lane has its entry. -/
theorem resident_of_sheetFor (h : s.sheetFor c = (u, .ok (hdr, none))) {lb : Nat} (hmem : lb ∈ laneBays c.mask) :
    ∃ e, u.residentEntry (u.phys lb) c.sheet hdr = some e := by
  unfold State.sheetFor at h
  split at h
  · cases h
  · next v image hdr' _ =>
    dsimp only at h
    split at h
    · next hall =>
      cases h
      exact Option.isSome_iff_exists.mp (List.all_eq_true.mp hall lb hmem)
    · split at h
      · cases h
      · cases h

end Sys2Proof.Proofs
end

section
/-! A pass over the bays of a lane, and how a command takes its lane and starts it (R75, R80, R82, R84, R88, R97, R101, R102). -/

namespace Sys2Proof.Proofs

open Sys2Proof.Machine Sys2Proof.Laws Sys2Proof.Claims

variable {s t u : State} {p id lb e : Nat} {c : Cmd} {ns : List RegName} {mask : W64}

/-! ## Changes of one bay -/

/-- Only bay `p` and its registers of some names changed; its cue memory stays. -/
structure OnBay (ns : List RegName) (p : Nat) (s t : State) : Prop where
  raw  : ∀ r, r.unit ≠ p ∨ r.name ∉ ns → t.raw r = s.raw r
  bays : ∀ q, q ≠ p → t.bay q = s.bay q
  cues : (t.bay p).cueMem = (s.bay p).cueMem
  mem  : t.mem = s.mem
  ro   : t.ro = s.ro

namespace OnBay

theorem refl (s : State) : OnBay ns p s s := ⟨fun _ _ => rfl, fun _ _ => rfl, rfl, rfl, rfl⟩

theorem trans (h : OnBay ns p s t) (g : OnBay ns p t u) : OnBay ns p s u :=
  ⟨fun r hr => (g.raw r hr).trans (h.raw r hr), fun q hq => (g.bays q hq).trans (h.bays q hq), g.cues.trans h.cues, g.mem.trans h.mem,
    g.ro.trans h.ro⟩

theorem ite {b : Prop} [Decidable b] (ht : OnBay ns p s t) (hu : OnBay ns p s u) : OnBay ns p s (if b then t else u) := by
  split <;> assumption

theorem foldl {α : Type} {f : State → α → State} (hf : ∀ t a, OnBay ns p s t → OnBay ns p s (f t a)) (l : List α) (h : OnBay ns p s t) :
    OnBay ns p s (l.foldl f t) := by
  induction l generalizing t with
  | nil => exact h
  | cons a l ih => exact ih (hf t a h)

theorem put (h : OnBay ns p s t) (f : Fld) (x i : Nat) (hf : f.reg ∈ ns) : OnBay ns p s (t.put f x p i) := by
  refine h.trans ⟨fun r hr => raw_put_ne t f x p i ?_, fun _ _ => rfl, rfl, rfl, rfl⟩
  rintro rfl
  exact hr.elim (fun h => h rfl) fun h => h hf

theorem clear (h : OnBay ns p s t) (n : RegName) (hn : n ∈ ns) : OnBay ns p s (t.clear n p) := by
  refine h.trans ⟨fun r hr => raw_clear_ne t n p 0 ?_, fun _ _ => rfl, rfl, rfl, rfl⟩
  rintro rfl
  exact hr.elim (fun h => h rfl) fun h => h hn

theorem clearAll (h : OnBay ns p s t) (n : RegName) (hn : n ∈ ns) : OnBay ns p s (t.clearAll n p) := by
  refine h.trans ⟨fun r hr => ?_, fun _ _ => rfl, rfl, rfl, rfl⟩
  rw [raw_clearAll, if_neg]
  rintro ⟨h₁, h₂⟩
  exact hr.elim (fun h => h h₂) fun h => h (h₁ ▸ hn)

theorem modBay (h : OnBay ns p s t) {f : Bay → Bay} (hf : (f (t.bay p)).cueMem = (t.bay p).cueMem) : OnBay ns p s (t.modBay p f) :=
  h.trans ⟨fun _ _ => rfl, fun _ hq => bay_modBay_ne t f hq, by rw [bay_modBay_self, hf], rfl, rfl⟩

theorem modDie (h : OnBay ns p s t) (d : Nat) (f : Die → Die) : OnBay ns p s (t.modDie d f) :=
  h.trans ⟨fun _ _ => rfl, fun _ _ => rfl, rfl, rfl, rfl⟩

theorem get (h : OnBay ns p s t) {f : Fld} (hf : f.reg ∉ ns) (q i : Nat) : t.get f q i = s.get f q i := by
  rw [get_def, h.raw _ (Or.inr hf), get_def]

theorem phys (h : OnBay ns p s t) (hn : .UST_MAP ∉ ns) (lb : Nat) : t.phys lb = s.phys lb :=
  phys_of_raw (fun r hr => h.raw r (Or.inr (by rw [hr]; exact hn))) lb

end OnBay

/-! ## A pass over a lane -/

/-- Only the bays of a lane and registers of some names changed. -/
structure OnLane (ns : List RegName) (mask : W64) (s t : State) : Prop where
  raw  : ∀ r, r.name ∉ ns → t.raw r = s.raw r
  bays : ∀ q, (∀ lb ∈ laneBays mask, s.phys lb ≠ q) → t.bay q = s.bay q
  mem  : t.mem = s.mem
  ro   : t.ro = s.ro

theorem OnLane.phys (h : OnLane ns mask s t) (hn : .UST_MAP ∉ ns) (lb : Nat) : t.phys lb = s.phys lb :=
  phys_of_raw (fun r hr => h.raw r (by rw [hr]; exact hn)) lb

theorem OnLane.get (h : OnLane ns mask s t) {f : Fld} (hf : f.reg ∉ ns) (q i : Nat) : t.get f q i = s.get f q i := by
  rw [get_def, h.raw _ hf, get_def]

theorem OnLane.step (h : OnLane ns mask s t) (hn : .UST_MAP ∉ ns) (hmem : lb ∈ laneBays mask) (g : OnBay ns (t.phys lb) t u) :
    OnLane ns mask s u := by
  refine ⟨fun r hr => (g.raw r (Or.inr hr)).trans (h.raw r hr), fun q hq => ?_, g.mem.trans h.mem, g.ro.trans h.ro⟩
  rw [g.bays q fun e => hq lb hmem (by rw [← h.phys hn, e]), h.bays q hq]

/-- A pass of steps on one bay each is a change of the lane. -/
theorem onLane_foldl {f : State → Nat → State} (hn : .UST_MAP ∉ ns) (hf : ∀ t lb, OnBay ns (t.phys lb) t (f t lb)) :
    OnLane ns mask s ((laneBays mask).foldl f s) :=
  List.foldlRecOn _ f ⟨fun _ _ => rfl, fun _ _ => rfl, rfl, rfl⟩ fun t h lb hmem => h.step hn hmem (hf t lb)

/-- `t` holds bay `p` and its registers as `s` does. -/
structure SameBay (p : Nat) (s t : State) : Prop where
  raw : ∀ r, r.unit = p → t.raw r = s.raw r
  bay : t.bay p = s.bay p

theorem SameBay.trans (h : SameBay p s t) (g : SameBay p t u) : SameBay p s u :=
  ⟨fun r hr => (g.raw r hr).trans (h.raw r hr), g.bay.trans h.bay⟩

theorem SameBay.get (h : SameBay p s t) (f : Fld) (i : Nat) : t.get f p i = s.get f p i := by
  rw [get_def, h.raw _ rfl, get_def]

theorem OnBay.sameBay {q : Nat} (h : OnBay ns q s t) (hq : q ≠ p) : SameBay p s t :=
  ⟨fun r hr => h.raw r (Or.inl (by rw [hr]; exact hq.symm)), h.bays p hq.symm⟩

/-- The step of a pass at `lb` finds its bay as it was before the pass, and what it leaves there stays. -/
theorem foldl_own {f : State → Nat → State} (hn : .UST_MAP ∉ ns) (hf : ∀ t lb, OnBay ns (t.phys lb) t (f t lb)) (hap : laneApart s mask)
    (hmem : lb ∈ laneBays mask) : ∃ t, OnLane ns mask s t ∧ SameBay (s.phys lb) s t ∧
      SameBay (s.phys lb) (f t lb) ((laneBays mask).foldl f s) := by
  have other {t : State} {b : Nat} (ht : OnLane ns mask s t) (hb : b ∈ laneBays mask) (hne : b ≠ lb) : SameBay (s.phys lb) t (f t b) :=
    (hf t b).sameBay (by rw [ht.phys hn]; exact phys_ne_of_apart hap hb hmem hne)
  refine (foldl_visit (P := fun t => OnLane ns mask s t ∧ SameBay (s.phys lb) s t)
    (Q := fun u => OnLane ns mask s u ∧ ∃ t, OnLane ns mask s t ∧ SameBay (s.phys lb) s t ∧ SameBay (s.phys lb) (f t lb) u)
    (laneBays_nodup mask) hmem ⟨⟨fun _ _ => rfl, fun _ _ => rfl, rfl, rfl⟩, fun _ _ => rfl, rfl⟩ ?before ?here ?after).2
  case before => exact fun t b hb hne ⟨ht, hs⟩ => ⟨ht.step hn hb (hf t b), hs.trans (other ht hb hne)⟩
  case here => exact fun t ⟨ht, hs⟩ => ⟨ht.step hn hmem (hf t lb), t, ht, hs, fun _ _ => rfl, rfl⟩
  case after => exact fun u b hb hne ⟨hu, t, ht, hs, hown⟩ => ⟨hu.step hn hb (hf u b), t, ht, hs, hown.trans (other hu hb hne)⟩

/-! ## A command takes its lane (R82, R84) -/

/-- Registers that show a bay's command. -/
def takeRegs : List RegName := [.CUE_SHEETNO, .CUE_SEQSTAT]

/-- A bay taken by command `id`. -/
def takenBay (id : Nat) (b : Bay) : Bay := { b.walkOff with cid := some id }

/-- Command `id` takes a bay that does not resume. -/
def takeBay (id : Nat) (c : Cmd) (loads : Nat → Bool) (s : State) (lb : Nat) : State :=
  (((s.put CUE_SHEETNO_SHEET c.sheet (s.phys lb)).put CUE_SHEETNO_ACTIVE 1 (s.phys lb)).modBay (s.phys lb) (takenBay id)).put
    CUE_SEQSTAT_STATE (if loads lb then 2 else 1) (s.phys lb)

theorem takeLane_eq (hres : c.resume = false) (s : State) (id : Nat) (loads : Nat → Bool) :
    s.takeLane id c loads = (laneBays c.mask).foldl (takeBay id c loads) s := by
  unfold State.takeLane
  simp only [hres, Bool.false_eq_true, false_and, if_false]
  rfl

/-- The end of a bay's walk-on changes its arrays alone. -/
theorem walkOff_keeps {β : Type} (g : Bay → β) (hg : ∀ b a f, g (b.modArr a f) = g b) (b : Bay) : g b.walkOff = g b := by
  rw [Bay.walkOff, List.foldl_cons, List.foldl_cons, List.foldl_cons, List.foldl_nil, hg, hg, hg]

theorem cueMem_takenBay (id : Nat) (b : Bay) : (takenBay id b).cueMem = b.cueMem := walkOff_keeps Bay.cueMem (fun _ _ _ => rfl) b

theorem wings_takenBay (id : Nat) (b : Bay) : (takenBay id b).wings = b.wings := walkOff_keeps Bay.wings (fun _ _ _ => rfl) b

theorem takeBay_onBay (id : Nat) (c : Cmd) (loads : Nat → Bool) (s : State) (lb : Nat) : OnBay takeRegs (s.phys lb) s (takeBay id c loads s lb) := by
  unfold takeBay
  generalize s.phys lb = p
  exact ((((OnBay.refl s).put CUE_SHEETNO_SHEET c.sheet 0 (by decide)).put CUE_SHEETNO_ACTIVE 1 0 (by decide)).modBay (cueMem_takenBay id _)).put
    CUE_SEQSTAT_STATE _ 0 (by decide)

theorem state_takeBay (id : Nat) (c : Cmd) (loads : Nat → Bool) (s : State) (lb : Nat) :
    (takeBay id c loads s lb).get CUE_SEQSTAT_STATE (s.phys lb) = if loads lb then 2 else 1 := by
  rw [takeBay, get_put_state _ _ (by split <;> decide)]

theorem bay_takeBay (id : Nat) (c : Cmd) (loads : Nat → Bool) (s : State) (lb : Nat) :
    (takeBay id c loads s lb).bay (s.phys lb) = takenBay id (s.bay (s.phys lb)) := by
  rw [takeBay, bay_put, bay_modBay_self, bay_put, bay_put]

theorem active_takeBay (id : Nat) (c : Cmd) (loads : Nat → Bool) (s : State) (lb : Nat) :
    (takeBay id c loads s lb).get CUE_SHEETNO_ACTIVE (s.phys lb) = 1 := by
  rw [takeBay, get_put_ne _ _ _ _ _ _ _ _ (reg_ne_of_name (by decide) _ _ _ _), get_modBay, get_put_self _ _ _ _ _ (by decide)]
  rfl

/-- A bay of a lane that command `id` took. -/
structure Taken (s t : State) (id lb : Nat) (loads : Bool) : Prop where
  state  : t.get CUE_SEQSTAT_STATE (s.phys lb) = if loads then 2 else 1
  active : t.get CUE_SHEETNO_ACTIVE (s.phys lb) = 1
  own    : t.bay (s.phys lb) = takenBay id (s.bay (s.phys lb))

theorem takeLane_onLane (hres : c.resume = false) (s : State) (id : Nat) (loads : Nat → Bool) :
    OnLane takeRegs c.mask s (s.takeLane id c loads) := by
  rw [takeLane_eq hres]
  exact onLane_foldl (by decide) (takeBay_onBay id c loads)

theorem takeLane_taken (hres : c.resume = false) (id : Nat) (loads : Nat → Bool) (hap : laneApart s c.mask) (hmem : lb ∈ laneBays c.mask) :
    Taken s (s.takeLane id c loads) id lb (loads lb) := by
  rw [takeLane_eq hres]
  obtain ⟨t, hlane, hsame, hown⟩ := foldl_own (by decide) (takeBay_onBay id c loads) hap hmem
  have hphys : t.phys lb = s.phys lb := hlane.phys (by decide) lb
  refine ⟨?_, ?_, ?_⟩
  · rw [hown.get, ← hphys, state_takeBay]
  · rw [hown.get, ← hphys, active_takeBay]
  · rw [hown.bay, ← hphys, bay_takeBay, hphys, hsame.bay]

/-! ## A bay starts (R75, R82, R88, R97, R101, R102) -/

/-- Registers that a start sets anew. -/
def startRegs : List RegName :=
  [.CUE_AGBASE, .CUE_AGDIM, .CUE_SEM, .CUE_LOOP, .CUE_FAULT, .CUE_LIVEMASK, .CUE_SEQSTAT, .CUE_RESSTAT, .CUE_TOKEN]

theorem applyKept_onBay (h : OnBay startRegs p s t) (token : W64) : OnBay startRegs p s (t.applyKept p token) := by
  unfold State.applyKept
  have hk := h.put CUE_RESSTAT_KEPT 0 0 (by decide)
  exact .ite h (.ite hk (((hk.modBay (by rfl)).put CUE_RESSTAT_HELD 0 0 (by decide)).put CUE_TOKEN_TOKEN 0 0 (by decide)))

theorem applyHeld_onBay (h : OnBay startRegs p s t) (part : ResPart) : OnBay startRegs p s (t.applyHeld p part) := by
  unfold State.applyHeld
  exact .ite h (((h.modBay (by rfl)).put CUE_RESSTAT_HELD 1 0 (by decide)).put CUE_TOKEN_TOKEN _ 0 (by decide))

theorem applySeed_onBay (h : OnBay startRegs p s t) : OnBay startRegs p s (t.applySeed p) := by
  unfold State.applySeed
  split
  · exact h.modBay rfl
  · exact h

/-- The semaphores and registers of a bay that starts. -/
def startRegsSet (s : State) (p : Nat) (sems : List (Nat × Nat)) : State :=
  let s := ((((s.clearAll .CUE_AGBASE p).clearAll .CUE_AGDIM p).clearAll .CUE_SEM p).clearAll .CUE_LOOP p)
  let s := sems.foldl (fun s x => s.put CUE_SEM_VALUE x.2 p x.1) s
  ((s.clear .CUE_FAULT p).clear .CUE_LIVEMASK p).clear .CUE_SEQSTAT p

theorem startRegsSet_onBay (s : State) (p : Nat) (sems : List (Nat × Nat)) : OnBay startRegs p s (startRegsSet s p sems) := by
  have hall := ((((OnBay.refl (ns := startRegs) (p := p) s).clearAll .CUE_AGBASE (by decide)).clearAll .CUE_AGDIM (by decide)).clearAll
    .CUE_SEM (by decide)).clearAll .CUE_LOOP (by decide)
  exact (((OnBay.foldl (fun _ x h => h.put CUE_SEM_VALUE x.2 x.1 (by decide)) sems hall).clear .CUE_FAULT (by decide)).clear
    .CUE_LIVEMASK (by decide)).clear .CUE_SEQSTAT (by decide)

/-- A bay with what its part sets before it forgets its last run. -/
def prepared (s : State) (p : Nat) (part : ResPart) : State :=
  (((startRegsSet s p part.sems).applyKept p part.token).applyHeld p part).applySeed p

theorem prepared_onBay (s : State) (p : Nat) (part : ResPart) : OnBay startRegs p s (prepared s p part) :=
  applySeed_onBay (applyHeld_onBay (applyKept_onBay (startRegsSet_onBay s p _) _) _)

/-- A bay that forgets its last run and takes its part's entry. -/
def forgets (s : State) (lb p id e hdr : Nat) : State :=
  (s.modBay p fun b => b.forStart id e hdr s.clk.ca).modDie (lb / 8) fun d =>
    { d with ctx := Tab.mod {} d.ctx (lb % 8) fun x => { x with ord := 0 } }

theorem forgets_onBay (s : State) (lb p id e hdr : Nat) : OnBay ns p s (forgets s lb p id e hdr) :=
  ((OnBay.refl s).modBay (f := fun b => b.forStart id e hdr s.clk.ca) rfl).modDie _ _

/-- A bay all but its PC and STATE started. -/
def begun (s : State) (lb e : Nat) (c : Cmd) : State :=
  forgets (prepared s (s.phys lb) (Tab.get {} (s.bay (s.phys lb)).resParts e)) lb (s.phys lb) c.id e c.hdrcrc

theorem startBay_of_resident (h : s.residentEntry (s.phys lb) c.sheet c.hdrcrc = some e) : s.startBay lb c =
    ((begun s lb e c).put CUE_SEQSTAT_PC ((begun s lb e c).get CUE_RESTAB_LO_BASE (s.phys lb) e) (s.phys lb)).put CUE_SEQSTAT_STATE 3 (s.phys lb) := by
  unfold State.startBay
  extract_lets p
  rw [show s.residentEntry p c.sheet c.hdrcrc = some e from h]
  rfl

theorem startBay_of_absent (h : s.residentEntry (s.phys lb) c.sheet c.hdrcrc = none) : s.startBay lb c = s := by
  unfold State.startBay
  extract_lets p
  rw [show s.residentEntry p c.sheet c.hdrcrc = none from h]

theorem begun_onBay (s : State) (lb e : Nat) (c : Cmd) : OnBay startRegs (s.phys lb) s (begun s lb e c) :=
  (prepared_onBay s _ _).trans (forgets_onBay _ lb _ _ e _)

theorem cid_begun (s : State) (lb e : Nat) (c : Cmd) : ((begun s lb e c).bay (s.phys lb)).cid = some c.id := by
  rw [begun, forgets, bay_modDie, bay_modBay_self]
  rfl

theorem startBay_onBay (c : Cmd) (s : State) (lb : Nat) : OnBay startRegs (s.phys lb) s (s.startBay lb c) := by
  cases h : s.residentEntry (s.phys lb) c.sheet c.hdrcrc with
  | none => rw [startBay_of_absent h]; exact OnBay.refl s
  | some e =>
    rw [startBay_of_resident h]
    exact ((begun_onBay s lb e c).put CUE_SEQSTAT_PC _ 0 (by decide)).put CUE_SEQSTAT_STATE 3 0 (by decide)

/-- The bay runs at its part's first cue. -/
structure RunsAt (t : State) (p id base : Nat) : Prop where
  state : t.get CUE_SEQSTAT_STATE p = 3
  pc    : t.get CUE_SEQSTAT_PC p = base
  cid   : (t.bay p).cid = some id

theorem startBay_runsAt (h : s.residentEntry (s.phys lb) c.sheet c.hdrcrc = some e) :
    RunsAt (s.startBay lb c) (s.phys lb) c.id (s.get CUE_RESTAB_LO_BASE (s.phys lb) e) := by
  rw [startBay_of_resident h, (begun_onBay s lb e c).get (by decide)]
  refine ⟨get_put_state _ _ (by decide), ?_, ?_⟩
  · rw [get_put_state_pc, get_put_self _ _ _ _ _ (by decide)]
    exact Nat.mod_eq_of_lt (bits_lt _ _ _)
  · rw [bay_put, bay_put, cid_begun]

theorem RunsAt.of_same {base : Nat} (h : RunsAt s p id base) (g : SameBay p s t) : RunsAt t p id base :=
  ⟨by rw [g.get, h.state], by rw [g.get, h.pc], by rw [g.bay, h.cid]⟩

/-- The bays of a lane start together. -/
def startLane (s : State) (c : Cmd) : State := (laneBays c.mask).foldl (fun s lb => s.startBay lb c) s

theorem startLane_onLane (s : State) (c : Cmd) : OnLane startRegs c.mask s (startLane s c) := onLane_foldl (by decide) (startBay_onBay c)

/-- The resident-sheet table decides alone which entry matches. -/
theorem residentEntry_congr (h : ∀ r : Reg, (r.name = .CUE_RESTAB_LO ∨ r.name = .CUE_RESTAB_HI) → t.raw r = s.raw r) (p sheet hdr : Nat) :
    t.residentEntry p sheet hdr = s.residentEntry p sheet hdr := by
  have get (f : Fld) (i : Nat) (hf : f.reg = .CUE_RESTAB_LO ∨ f.reg = .CUE_RESTAB_HI) : t.get f p i = s.get f p i := by
    rw [get_def, h _ hf, get_def]
  unfold State.residentEntry State.flag
  simp only [get CUE_RESTAB_LO_VALID _ (Or.inl rfl), get CUE_RESTAB_LO_SHEET _ (Or.inl rfl), get CUE_RESTAB_HI_HDRCRC _ (Or.inr rfl)]

theorem startLane_runsAt (hap : laneApart s c.mask) (hmem : lb ∈ laneBays c.mask) (h : s.residentEntry (s.phys lb) c.sheet c.hdrcrc = some e) :
    RunsAt (startLane s c) (s.phys lb) c.id (s.get CUE_RESTAB_LO_BASE (s.phys lb) e) ∧
      ((startLane s c).bay (s.phys lb)).cueMem = (s.bay (s.phys lb)).cueMem := by
  obtain ⟨t, hlane, hsame, hown⟩ := foldl_own (by decide) (startBay_onBay c) hap hmem
  have hphys : t.phys lb = s.phys lb := hlane.phys (by decide) lb
  have hentry : t.residentEntry (t.phys lb) c.sheet c.hdrcrc = some e := by
    rw [hphys, residentEntry_congr (s := s) (fun r hr => hlane.raw r (by rcases hr with hr | hr <;> rw [hr] <;> decide)), h]
  have hruns := startBay_runsAt hentry
  have hcues := (startBay_onBay c t lb).cues
  rw [hphys] at hruns hcues
  refine ⟨?_, ?_⟩
  · rw [← hsame.get]
    exact hruns.of_same hown
  · exact (congrArg Bay.cueMem hown.bay).trans (hcues.trans (congrArg Bay.cueMem hsame.bay))

end Sys2Proof.Proofs
end

section
/-! RUN commands and the end of a sheet's load (R75, R80 to R82, R84, R309), which settles O32. -/

namespace Sys2Proof.Proofs

open Sys2Proof.Machine Sys2Proof.Laws Sys2Proof.Claims

variable {k : Scope} {s t u w : State} {p id lb e hdr : Nat} {c c' : Cmd} {pl : SheetPlan} {r : PartRow}

/-! ## What a started command keeps until it runs -/

/-- Two commands run the same sheet on the same lane. -/
structure SameRun (c c' : Cmd) : Prop where
  id     : c'.id = c.id
  sheet  : c'.sheet = c.sheet
  mask   : c'.mask = c.mask
  hdrcrc : c'.hdrcrc = c.hdrcrc
  staged : c'.staged = c.staged
  resume : c'.resume = c.resume

theorem SameRun.trans {c₁ c₂ c₃ : Cmd} (h : SameRun c₁ c₂) (g : SameRun c₂ c₃) : SameRun c₁ c₃ :=
  ⟨g.id.trans h.id, g.sheet.trans h.sheet, g.mask.trans h.mask, g.hdrcrc.trans h.hdrcrc, g.staged.trans h.staged, g.resume.trans h.resume⟩

theorem sameRun_of_unreported (h : unreported c' = unreported c) : SameRun c c' := by
  have field {β : Type} (g : Cmd → β) : g (unreported c') = g (unreported c) := congrArg g h
  exact ⟨field Cmd.id, field Cmd.sheet, field Cmd.mask, field Cmd.hdrcrc, field Cmd.staged, field Cmd.resume⟩

theorem Within.sameRun (h : Within k s t) (hk : k.cmds = false) (hs : s.cmd id = some c) : ∃ c', t.cmd id = some c' ∧ SameRun c c' := by
  obtain ⟨c', hc', hsame⟩ := h.cmd_some hk hs
  exact ⟨c', hc', sameRun_of_unreported hsame⟩

theorem Within.get (h : Within k s t) {f : Fld} (ha : f.reg ∉ asideRegs) (he : f.reg ∉ k.extra) (q i : Nat) : t.get f q i = s.get f q i := by
  rw [get_def, h.raw _ ha he, get_def]

theorem Within.phys (h : Within k s t) (he : .UST_MAP ∉ k.extra) (lb : Nat) : t.phys lb = s.phys lb :=
  phys_of_raw (fun r hr => h.raw r (by rw [hr]; decide) (by rw [hr]; exact he)) lb

theorem laneApart_of_phys {mask : W64} (h : ∀ lb, t.phys lb = s.phys lb) (hap : laneApart s mask) : laneApart t mask :=
  hap.imp fun hne => by rwa [h, h]

/-! ## Records with the rings off (R373) -/

/-- Ring 1, of the COMMAND records, is off. -/
def recordsOff (s : State) : Prop := s.get OBS_RINGCTL_EN 1 = 0

theorem recordsOff_of_ringsOff (h : ringsOff s) : recordsOff s := by
  have h := h 1 (by decide)
  have hlt : s.get OBS_RINGCTL_EN 1 < 2 := bits_lt _ _ _
  unfold State.flag at h
  unfold recordsOff
  rcases Nat.lt_succ_iff_lt_or_eq.mp hlt with h0 | h1
  · omega
  · rw [h1] at h
    exact absurd h (by decide)

theorem commandRecord_of_off (h : recordsOff s) (c : Cmd) (end_ : Bool) (code : Nat) : s.commandRecord c end_ code = s := by
  have hoff : s.flag OBS_RINGCTL_EN 1 = false := by
    unfold State.flag
    rw [show s.get OBS_RINGCTL_EN 1 = 0 from h]
    rfl
  unfold State.commandRecord State.ringWrite
  simp [hoff]

/-! ## A seed point that waited for the lane's start (R37) -/

/-- A pending seed point takes place. -/
def seeded (s : State) : State := if s.ro.seedPending then s.seedPoint else s

theorem seedPorts_keeps {β : Type} (g : State → β) (hport : ∀ s p f, g (s.modPort p f) = g s) (now : W64) (s : State) :
    g (seedPorts now s) = g s :=
  foldl_keeps g (f := seedPort now) (fun s p => by unfold seedPort State.reseedPort; exact hport s p _) (List.range 4) s

theorem seedBays_keeps {β : Type} (g : State → β) (hbay : ∀ now s lb, g (seedBay now s lb) = g s) (now : W64) (s : State) :
    g (seedBays now s) = g s :=
  foldl_keeps g (hbay now) (List.range 64) s

/-- A seed point changes tollhouses, bays and what the running order knows of seeds. -/
theorem seedPoint_keeps {β : Type} (g : State → β) (hend : ∀ s, g (endSeedPoint s) = g s) (hport : ∀ s p f, g (s.modPort p f) = g s)
    (hbay : ∀ now s lb, g (seedBay now s lb) = g s) (s : State) : g s.seedPoint = g s :=
  calc g s.seedPoint = g (endSeedPoint (seedPorts (seedTime s) (seedBays (seedTime s) s))) := congrArg g (seedPoint_eq s)
    _ = g (seedPorts (seedTime s) (seedBays (seedTime s) s)) := hend _
    _ = g (seedBays (seedTime s) s) := seedPorts_keeps g hport _ _
    _ = g s := seedBays_keeps g hbay _ _

theorem seedPoint_regs (s : State) : s.seedPoint.regs = s.regs :=
  seedPoint_keeps State.regs (fun _ => rfl) (fun _ _ _ => rfl) seedBay_regs s

theorem seedBay_mem (now : W64) (s : State) (lb : Nat) : (seedBay now s lb).mem = s.mem := by
  unfold seedBay takeSeed
  split <;> rfl

theorem seedPoint_mem (s : State) : s.seedPoint.mem = s.mem :=
  seedPoint_keeps State.mem (fun _ => rfl) (fun _ _ _ => rfl) seedBay_mem s

theorem seedBay_cmd (i : Nat) (now : W64) (s : State) (lb : Nat) : (seedBay now s lb).cmd i = s.cmd i := cmd_of_ro (takeSeed_ro _ _ _) i

theorem seedPoint_cmd (s : State) (i : Nat) : s.seedPoint.cmd i = s.cmd i :=
  seedPoint_keeps (fun s => s.cmd i) (fun _ => rfl) (fun _ _ _ => rfl) (seedBay_cmd i) s

theorem cueMem_seededBay (seed : W64) (b : Bay) : (seededBay seed b).cueMem = b.cueMem := by
  unfold seededBay
  split <;> rfl

theorem seedBay_cueMem (q : Nat) (now : W64) (s : State) (lb : Nat) : ((seedBay now s lb).bay q).cueMem = (s.bay q).cueMem := by
  by_cases hq : q = s.phys lb
  · rw [hq, seedBay_bay_self, cueMem_seededBay]
  · rw [seedBay_bay_ne _ _ hq]

theorem seedPoint_cueMem (s : State) (q : Nat) : (s.seedPoint.bay q).cueMem = (s.bay q).cueMem :=
  seedPoint_keeps (fun s => (s.bay q).cueMem) (fun _ => rfl) (fun _ _ _ => rfl) (seedBay_cueMem q) s

/-- What a seed point leaves. -/
structure SeedKept (s t : State) : Prop where
  regs : t.regs = s.regs
  mem  : t.mem = s.mem
  cmd  : ∀ i, t.cmd i = s.cmd i
  cues : ∀ q, (t.bay q).cueMem = (s.bay q).cueMem

theorem seeded_kept (s : State) : SeedKept s (seeded s) := by
  unfold seeded
  split
  · exact ⟨seedPoint_regs s, seedPoint_mem s, seedPoint_cmd s, seedPoint_cueMem s⟩
  · exact ⟨rfl, rfl, fun _ => rfl, fun _ => rfl⟩

theorem seeded_of_not_pending (h : s.ro.seedPending = false) : seeded s = s := by
  unfold seeded
  rw [h]
  rfl

/-! ## The lane goes (R75) -/

def runningCmd (c : Cmd) : Cmd := { c with phase := .running, plan := none }

theorem laneGo_eq (hcmd : s.cmd id = some c) (hres : c.resume = false) :
    s.laneGo id = ((startLane (seeded s) c).commandRecord c false cOK).modCmd id runningCmd := by
  have hport : s.restorePort c = (s, true) := by
    unfold State.restorePort
    rw [hres]
    rfl
  unfold State.laneGo
  rw [hcmd]
  dsimp only
  rw [hport]
  simp only [hres, Bool.false_eq_true, if_false]
  rfl

/-- The lane of a command has gone from `s`. -/
structure LaneWent (s t : State) (id : Nat) (c : Cmd) : Prop where
  phase : (t.cmd id).map (·.phase) = some .running
  raw   : ∀ r, r.name ∉ startRegs → t.raw r = s.raw r
  bays  : ∀ q, (∀ lb ∈ laneBays c.mask, s.phys lb ≠ q) → t.bay q = (seeded s).bay q
  mem   : t.mem = s.mem
  runs  : ∀ lb ∈ laneBays c.mask, ∀ e, s.residentEntry (s.phys lb) c.sheet c.hdrcrc = some e →
    RunsAt t (s.phys lb) c.id (s.get CUE_RESTAB_LO_BASE (s.phys lb) e) ∧ (t.bay (s.phys lb)).cueMem = (s.bay (s.phys lb)).cueMem

theorem laneGo_went (hcmd : s.cmd id = some c) (hres : c.resume = false) (hoff : recordsOff s) (hap : laneApart s c.mask) :
    LaneWent s (s.laneGo id) id c := by
  have hseed := seeded_kept s
  have hlane := startLane_onLane (seeded s) c
  have hraw (r : Reg) : (seeded s).raw r = s.raw r := by rw [State.raw, hseed.regs, State.raw]
  have hphys (lb : Nat) : (seeded s).phys lb = s.phys lb := phys_of_regs_eq hseed.regs lb
  have hrec : (startLane (seeded s) c).commandRecord c false cOK = startLane (seeded s) c :=
    commandRecord_of_off (show _ = 0 by rw [hlane.get (by decide), get_of_regs_eq hseed.regs]; exact hoff) c false cOK
  have hcmd' : (startLane (seeded s) c).cmd id = some c := by rw [cmd_of_ro hlane.ro, hseed.cmd, hcmd]
  rw [laneGo_eq hcmd hres, hrec]
  refine ⟨?phase, fun r hr => ?raw, fun q hq => ?bays, hlane.mem.trans hseed.mem, fun lb hmem e he => ?runs⟩
  case phase => rw [cmd_modCmd_self (f := runningCmd) (fun _ => rfl) hcmd']; rfl
  case raw => exact (hlane.raw r hr).trans (hraw r)
  case bays => exact hlane.bays q fun lb hmem => by rw [hphys]; exact hq lb hmem
  case runs =>
    have hentry : (seeded s).residentEntry ((seeded s).phys lb) c.sheet c.hdrcrc = some e := by
      rw [hphys, residentEntry_congr (s := s) (fun r _ => hraw r), he]
    obtain ⟨hruns, hcues⟩ := startLane_runsAt (laneApart_of_phys hphys hap) hmem hentry
    rw [hphys, get_of_regs_eq hseed.regs] at hruns
    rw [hphys, hseed.cues] at hcues
    exact ⟨⟨hruns.state, hruns.pc, hruns.cid⟩, hcues⟩

/-! ## A RUN command (R309, R311) -/

/-- A command whose start has been noted. -/
def notedCmd (now : Nat) (c : Cmd) : Cmd := { c with noted := true, start := now }

/-- The start of a RUN command is noted at its source alone. -/
structure Noted (s t : State) (id : Nat) (c : Cmd) : Prop where
  regs : t.regs = s.regs
  mem  : t.mem = s.mem
  pend : t.ro.seedPending = s.ro.seedPending
  cmd  : ∃ c', t.cmd id = some c' ∧ SameRun c c'

theorem noteStart_noted (hcmd : s.cmd id = some c) (hop : c.op = 1) : Noted s (s.noteStart id) id c := by
  have hself : (s.modCmd id (notedCmd s.clk.el)).cmd id = some (notedCmd s.clk.el c) := cmd_modCmd_self (fun _ => rfl) hcmd
  unfold State.noteStart
  simp only [hcmd, hop, if_true]
  split
  · exact ⟨rfl, rfl, rfl, c, hcmd, rfl, rfl, rfl, rfl, rfl, rfl⟩
  · split <;> exact ⟨rfl, rfl, rfl, _, hself, rfl, rfl, rfl, rfl, rfl, rfl⟩

/-- A command that loads. -/
def loadingCmd (hdr : Nat) (pl : Option SheetPlan) (c : Cmd) : Cmd := { c with hdrcrc := hdr, plan := pl, phase := .loading }

/-- A RUN command is ready: its lane is free and nothing holds its start. -/
structure Ready (s : State) (id : Nat) (c : Cmd) : Prop where
  cmd    : s.cmd id = some c
  op     : c.op = 1
  phase  : c.phase = .starting
  resume : c.resume = false
  staged : c.staged = some true
  free   : s.laneFree c = true
  starts : s.mayStart = true

theorem sheetFor_within (h : (s.noteStart id).sheetFor c = (u, .ok x)) : Within readScope (s.noteStart id) u := by
  have := (Within.refl (k := readScope) (s.noteStart id)).sheetFor rfl c
  rwa [h] at this

/-- The reads of a ready command's sheet leave what its start needs. -/
structure SheetRead (s u : State) (id : Nat) (c : Cmd) : Prop where
  raw  : ∀ r, r.name ∉ asideRegs → u.raw r = s.raw r
  mem  : u.mem = s.mem
  pend : u.ro.seedPending = s.ro.seedPending
  cmd  : ∃ c', u.cmd id = some c' ∧ SameRun c c'

theorem sheetRead_of_ready {x : Nat × Option SheetPlan} (hr : Ready s id c) (h : (s.noteStart id).sheetFor c = (u, .ok x)) : SheetRead s u id c := by
  obtain ⟨hregs, hmem, hpend, c₁, hc₁, hsame⟩ := noteStart_noted hr.cmd hr.op
  have hread := sheetFor_within h
  obtain ⟨c₂, hc₂, hsame'⟩ := hread.sameRun rfl hc₁
  refine ⟨fun r hr => ?_, (hread.mem rfl).trans hmem, hread.pend.trans hpend, c₂, hc₂, hsame.trans hsame'⟩
  rw [hread.raw r hr List.not_mem_nil, State.raw, hregs, State.raw]

theorem SheetRead.phys (h : SheetRead s u id c) (lb : Nat) : u.phys lb = s.phys lb :=
  phys_of_raw (fun r hr => h.raw r (by rw [hr]; decide)) lb

theorem SheetRead.recordsOff (h : SheetRead s u id c) (hoff : recordsOff s) : recordsOff u := by
  unfold Proofs.recordsOff
  rw [get_def, h.raw _ (by decide : RegName.OBS_RINGCTL ∉ asideRegs), ← get_def _ OBS_RINGCTL_EN]
  exact hoff

/-- A command takes its lane: it goes at once, or its sheet loads. -/
def takesLane (u : State) (id : Nat) (c : Cmd) (hdr : Nat) : Option SheetPlan → State
  | none => ((u.modCmd id (loadingCmd hdr none)).takeLane id c fun _ => false).laneGo id
  | some pl => (u.modCmd id (loadingCmd hdr (some pl))).takeLane id c fun lb => pl.rows.any fun r => r.bay == lb && !r.resident

theorem runStart_eq {pl : Option SheetPlan} (hr : Ready s id c) (h : (s.noteStart id).sheetFor c = (u, .ok (hdr, pl))) :
    s.runStart id = takesLane u id c hdr pl := by
  obtain ⟨c', hc', hsame⟩ := (sheetRead_of_ready hr h).cmd
  have hgo : ¬ (c.phase ≠ .starting ∨ c.op ≠ 1 ∨ s.laneFree c = false ∨ s.mayStart = false) := by
    simp [hr.phase, hr.op, hr.free, hr.starts]
  have hstage : u.grantStaging c = u := by
    unfold State.grantStaging
    rw [hr.staged]
    rfl
  have hstaged : ((u.cmd id).any fun x => x.staged == some false) = false := by
    rw [hc', Option.any_some, hsame.staged, hr.staged]
    rfl
  unfold State.runStart
  rw [hr.cmd]
  dsimp only
  rw [if_neg hgo, h]
  dsimp only
  simp only [hr.resume, Bool.false_eq_true, false_and, if_false, hstage, hstaged, and_false]
  cases pl <;> rfl

theorem execRunCommand_eq (hclk : s.clocked = true) : exec (.runCommand id) s = .next (s.runStart id) := by
  rw [show exec (.runCommand id) s = execRunCommand id s from rfl, execRunCommand, if_pos hclk]

/-- Nothing but the lane's bays changed when the command took it, and the lane goes. -/
theorem resident_goes (hr : Ready s id c) (hread : SheetRead s u id c) (hoff : recordsOff s) (hpend : s.ro.seedPending = false)
    (hap : laneApart s c.mask) (hres : ∀ lb ∈ laneBays c.mask, ∃ e, u.residentEntry (u.phys lb) c.sheet hdr = some e) :
    ((takesLane u id c hdr none).cmd id).map (·.phase) = some .running ∧
      (∀ lb ∈ laneBays c.mask, RunsAt (takesLane u id c hdr none) (s.phys lb) id
        (u.get CUE_RESTAB_LO_BASE (s.phys lb) ((u.residentEntry (s.phys lb) c.sheet hdr).getD 0)) ∧
        (takesLane u id c hdr none).get CUE_SHEETNO_ACTIVE (s.phys lb) = 1) ∧
      (∀ q, (∀ lb ∈ laneBays c.mask, s.phys lb ≠ q) → (takesLane u id c hdr none).bay q = u.bay q) ∧
      (takesLane u id c hdr none).mem = s.mem := by
  obtain ⟨c', hc', hsame⟩ := hread.cmd
  have hphys : ∀ lb, (u.modCmd id (loadingCmd hdr none)).phys lb = s.phys lb := hread.phys
  have hap' := laneApart_of_phys hphys hap
  have hlane := takeLane_onLane hr.resume (u.modCmd id (loadingCmd hdr none)) id fun _ => false
  have htaken {lb : Nat} (hmem : lb ∈ laneBays c.mask) := takeLane_taken hr.resume id (fun _ => false) hap' hmem
  have hcmd : ((u.modCmd id (loadingCmd hdr none)).takeLane id c fun _ => false).cmd id = some (loadingCmd hdr none c') := by
    rw [cmd_of_ro hlane.ro, cmd_modCmd_self (f := loadingCmd hdr none) (fun _ => rfl) hc']
  unfold takesLane
  generalize (u.modCmd id (loadingCmd hdr none)).takeLane id c (fun _ => false) = w at *
  have hwphys (lb : Nat) : w.phys lb = s.phys lb := (hlane.phys (by decide) lb).trans (hphys lb)
  have hwraw (r : Reg) (hr : r.name ∉ takeRegs) : w.raw r = u.raw r := hlane.raw r hr
  have hmask : (loadingCmd hdr none c').mask = c.mask := hsame.mask
  have hsheet : (loadingCmd hdr none c').sheet = c.sheet := hsame.sheet
  have hid : (loadingCmd hdr none c').id = id := (cmd_id hc' : c'.id = id)
  have hwoff : recordsOff w := (hlane.get (f := OBS_RINGCTL_EN) (by decide) 1 0).trans (hread.recordsOff hoff)
  have hwent := laneGo_went hcmd (hsame.resume.trans hr.resume) hwoff (by rw [hmask]; exact laneApart_of_phys hwphys hap)
  have hseeded : seeded w = w := seeded_of_not_pending (by rw [hlane.ro]; exact hread.pend.trans hpend)
  refine ⟨hwent.phase, fun lb hmem => ?lane, fun q hq => ?others, ?mem⟩
  case lane =>
    obtain ⟨e, he⟩ := hres lb hmem
    rw [hread.phys] at he
    have hentry : w.residentEntry (w.phys lb) (loadingCmd hdr none c').sheet (loadingCmd hdr none c').hdrcrc = some e := by
      rw [hwphys, hsheet, ← he]
      exact residentEntry_congr (fun r hr => hwraw r (by rcases hr with hr | hr <;> rw [hr] <;> decide)) _ _ _
    have hruns := (hwent.runs lb (by rw [hmask]; exact hmem) e hentry).1
    rw [hwphys, hid, get_def, hwraw _ (by decide : RegName.CUE_RESTAB_LO ∉ takeRegs), ← get_def _ CUE_RESTAB_LO_BASE] at hruns
    refine ⟨by rw [he]; exact hruns, ?_⟩
    rw [get_def, hwent.raw _ (by decide : RegName.CUE_SHEETNO ∉ startRegs), ← get_def _ CUE_SHEETNO_ACTIVE, ← hphys]
    exact (htaken hmem).active
  case others =>
    rw [hwent.bays q fun lb hmem => by rw [hwphys]; exact hq lb (by rwa [← hmask]), hseeded]
    exact hlane.bays q fun lb hmem => by rw [hphys]; exact hq lb hmem
  case mem => exact hwent.mem.trans (hlane.mem.trans hread.mem)

/-- A RUN command starts its resident sheet, or loads it. -/
theorem runCommandStartsItsSheet : RunCommandStartsItsSheet := by
  refine ⟨?resident, ?loads⟩
  case resident =>
    intro s u id c hdr hclk hoff hcmd hop hphase hres hstaged hfree hstart hpend hsheet hhdr hap
    have hready : Ready s id c := ⟨hcmd, hop, hphase, hres, hstaged, hfree, hstart⟩
    obtain ⟨hrun, hlane, hothers, hmem⟩ := resident_goes hready (sheetRead_of_ready hready hsheet) (recordsOff_of_ringsOff hoff) hpend hap
      fun lb hmem => resident_of_sheetFor hsheet hmem
    refine ⟨_, by rw [execRunCommand_eq hclk, runStart_eq hready hsheet], hrun, fun lb hlb => ?_, hothers, hmem⟩
    obtain ⟨⟨hstate, hpc, hcid⟩, hactive⟩ := hlane lb hlb
    exact ⟨hstate, hpc, hcid, hactive⟩
  case loads =>
    intro s u id c hdr pl hclk hoff hcmd hop hphase hres hstaged hfree hstart hsheet hap
    have hready : Ready s id c := ⟨hcmd, hop, hphase, hres, hstaged, hfree, hstart⟩
    have hread := sheetRead_of_ready hready hsheet
    obtain ⟨c', hc', hsame⟩ := hread.cmd
    have hlane := takeLane_onLane hres (u.modCmd id (loadingCmd hdr (some pl))) id fun lb => pl.rows.any fun r => r.bay == lb && !r.resident
    refine ⟨_, by rw [execRunCommand_eq hclk, runStart_eq hready hsheet, takesLane], ?cmd, fun lb hmem => ?lane, ?mem⟩
    case cmd => rw [cmd_of_ro hlane.ro, cmd_modCmd_self (f := loadingCmd hdr (some pl)) (fun _ => rfl) hc']; rfl
    case lane =>
      have hphys : (u.modCmd id (loadingCmd hdr (some pl))).phys lb = s.phys lb := hread.phys lb
      have htaken := takeLane_taken hres id (fun lb => pl.rows.any fun r => r.bay == lb && !r.resident)
        (laneApart_of_phys (t := u.modCmd id (loadingCmd hdr (some pl))) hread.phys hap) hmem
      rw [← hphys]
      refine ⟨htaken.state, by rw [htaken.own]; rfl, ?_, ?_⟩
      · rw [htaken.own, wings_takenBay]; rfl
      · rw [htaken.own, cueMem_takenBay]; rfl
    case mem => exact hlane.mem.trans hread.mem

end Sys2Proof.Proofs
end

section
/-! The end of a sheet's load (R80 to R82): its part enters the resident-sheet table and the lane goes, or the command ends refused.
This settles O32. -/

namespace Sys2Proof.Proofs

open Sys2Proof.Machine Sys2Proof.Laws Sys2Proof.Claims

variable {k : Scope} {s t u w : State} {p id lb e hdr code : Nat} {c c' : Cmd} {pl : SheetPlan} {r : PartRow} {mask : W64}

/-! ## A body has arrived (R81) -/

/-- The one body of a loading command has been read: `u` is the state and `code` its refusal or OK. -/
structure BodyRead (s u : State) (id : Nat) (c : Cmd) (pl : SheetPlan) (r : PartRow) (code : Nat) : Prop where
  cmd   : s.cmd id = some c
  phase : c.phase = .loading
  plan  : c.plan = some pl
  rows  : pl.rows = [r]
  loads : r.resident = false
  read  : s.loadBody c pl (s.sheetOpens pl c.sheet) r = (u, code)

theorem firstRefusal_single (b code : Nat) : firstRefusal [(b, code)] = if code = cOK then none else some code := by
  unfold firstRefusal
  by_cases h : code = cOK <;> simp [h]

theorem loadDone_eq (h : BodyRead s u id c pl r code) :
    s.loadDone id = if code = cOK then (u.enterPart c pl r).laneGo id else u.refuseCmd id code := by
  unfold State.loadDone
  simp only [h.cmd, h.plan, h.phase, decide_true, h.rows, List.filter_cons, h.loads, Bool.not_false, if_true, List.filter_nil, List.foldl_cons,
    List.foldl_nil, h.read, List.nil_append, firstRefusal_single]
  by_cases hc : code = cOK <;> simp [hc]

theorem execSheetLoadDone_eq (hclk : s.clocked = true) : exec (.sheetLoadDone id) s = .next (s.loadDone id) := by
  rw [show exec (.sheetLoadDone id) s = execSheetLoadDone id s from rfl, execSheetLoadDone, if_pos hclk]

theorem BodyRead.within (h : BodyRead s u id c pl r code) : Within loadScope s u := by
  have hb := (Within.refl (k := loadScope) s).loadBody rfl (by decide) c pl (s.sheetOpens pl c.sheet) r
  rwa [h.read] at hb

theorem recordsOff_of_within (h : Within k s t) (hk : .OBS_RINGCTL ∉ k.extra) (hoff : recordsOff s) : recordsOff t :=
  (h.get (f := OBS_RINGCTL_EN) (by decide) hk 1 0).trans hoff

/-! ## A part becomes resident (R80) -/

/-- Registers of the resident-sheet table. -/
def tableRegs : List RegName := [.CUE_RESTAB_LO, .CUE_RESTAB_HI]

/-- An entry of the resident-sheet table takes a part. -/
def tableEntry (s : State) (p e sheet base lenm1 hdr : Nat) : State :=
  ((((s.put CUE_RESTAB_LO_VALID 1 p e).put CUE_RESTAB_LO_SHEET sheet p e).put CUE_RESTAB_LO_BASE base p e).put CUE_RESTAB_LO_LENM1 lenm1 p e).put
    CUE_RESTAB_HI_HDRCRC hdr p e

/-- The entry shows the part. -/
structure EntryShows (t : State) (p e sheet base hdr : Nat) : Prop where
  valid : t.flag CUE_RESTAB_LO_VALID p e = true
  sheet : t.get CUE_RESTAB_LO_SHEET p e = sheet
  base  : t.get CUE_RESTAB_LO_BASE p e = base
  hdr   : t.get CUE_RESTAB_HI_HDRCRC p e = hdr

theorem tableEntry_shows {sheet base lenm1 hdr : Nat} (hs : sheet < 2 ^ 12) (hb : base < 2 ^ 14) (hh : hdr < 2 ^ 32) (s : State) (p e : Nat) :
    EntryShows (tableEntry s p e sheet base lenm1 hdr) p e sheet base hdr := by
  have crc {f : Fld} (hf : f.reg = .CUE_RESTAB_LO) (t : State) : (t.put CUE_RESTAB_HI_HDRCRC hdr p e).get f p e = t.get f p e :=
    get_put_ne t _ _ _ _ _ _ _ (reg_ne_of_name (by rw [hf]; decide) _ _ _ _)
  unfold tableEntry
  refine ⟨?_, ?_, ?_, ?_⟩
  · unfold State.flag
    rw [crc rfl, get_put_disjoint _ CUE_RESTAB_LO_LENM1 CUE_RESTAB_LO_VALID _ _ _ (by decide) rfl (Or.inr (by decide)),
      get_put_disjoint _ CUE_RESTAB_LO_BASE CUE_RESTAB_LO_VALID _ _ _ (by decide) rfl (Or.inr (by decide)),
      get_put_disjoint _ CUE_RESTAB_LO_SHEET CUE_RESTAB_LO_VALID _ _ _ (by decide) rfl (Or.inr (by decide)), get_put_self _ _ _ _ _ (by decide)]
    rfl
  · rw [crc rfl, get_put_disjoint _ CUE_RESTAB_LO_LENM1 CUE_RESTAB_LO_SHEET _ _ _ (by decide) rfl (Or.inr (by decide)),
      get_put_disjoint _ CUE_RESTAB_LO_BASE CUE_RESTAB_LO_SHEET _ _ _ (by decide) rfl (Or.inr (by decide)), get_put_self _ _ _ _ _ (by decide)]
    exact Nat.mod_eq_of_lt hs
  · rw [crc rfl, get_put_disjoint _ CUE_RESTAB_LO_LENM1 CUE_RESTAB_LO_BASE _ _ _ (by decide) rfl (Or.inr (by decide)), get_put_self _ _ _ _ _ (by decide)]
    exact Nat.mod_eq_of_lt hb
  · rw [get_put_self _ _ _ _ _ (by decide)]
    exact Nat.mod_eq_of_lt hh

/-- Another entry stays. -/
theorem raw_tableEntry_ne {sheet base lenm1 hdr : Nat} (s : State) (p : Nat) {r : Reg} (hr : r.idx ≠ e) :
    (tableEntry s p e sheet base lenm1 hdr).raw r = s.raw r := by
  have put (t : State) (f : Fld) (x : Nat) : (t.put f x p e).raw r = t.raw r := raw_put_ne t f x p e fun h => hr (by rw [h])
  unfold tableEntry
  rw [put, put, put, put, put]

/-- A bay keeps a part's tables under its entry. -/
def keepPart (e : Nat) (part : ResPart) (b : Bay) : Bay :=
  { b with resParts := Tab.set {} b.resParts e part, resOrder := (b.resOrder.filter fun x => x != e) ++ [e] }

/-- The tables of a part's body. -/
def partOf (s : State) (pl : SheetPlan) (r : PartRow) : ResPart :=
  let x := bodyParts r (s.devBytes (pl.image + 16 * r.ofs) r.bodyLen)
  { ranges := x.1.map rangeOf, sems := x.2.1.map fun v => (fld v 5 0, fld v 31 16), stage := r.stage, token := pl.token, exitGap := pl.exitGap }

theorem enterPart_eq (s : State) (c : Cmd) (pl : SheetPlan) (r : PartRow) : s.enterPart c pl r =
    (tableEntry s (s.phys r.bay) (s.freeEntry (s.phys r.bay)) c.sheet r.base r.lenm1 pl.hdrcrc).modBay (s.phys r.bay)
      (keepPart (s.freeEntry (s.phys r.bay)) (partOf s pl r)) := rfl

theorem enterPart_onBay (s : State) (c : Cmd) (pl : SheetPlan) (r : PartRow) : OnBay tableRegs (s.phys r.bay) s (s.enterPart c pl r) := by
  rw [enterPart_eq]
  generalize s.phys r.bay = p
  exact ((((((OnBay.refl s).put CUE_RESTAB_LO_VALID 1 _ (by decide)).put CUE_RESTAB_LO_SHEET _ _ (by decide)).put CUE_RESTAB_LO_BASE _ _
    (by decide)).put CUE_RESTAB_LO_LENM1 _ _ (by decide)).put CUE_RESTAB_HI_HDRCRC _ _ (by decide)).modBay (f := keepPart _ _) rfl

theorem freeEntry_lt (h : ∃ e, e < 32 ∧ s.flag CUE_RESTAB_LO_VALID p e = false) : s.freeEntry p < 32 := by
  obtain ⟨e, he, hfree⟩ := h
  have hsome : ((List.range 32).find? fun e => !s.flag CUE_RESTAB_LO_VALID p e).isSome = true :=
    List.find?_isSome.mpr ⟨e, List.mem_range.mpr he, by rw [hfree]; rfl⟩
  obtain ⟨f, hf⟩ := Option.isSome_iff_exists.mp hsome
  unfold State.freeEntry
  rw [hf]
  exact List.mem_range.mp (List.mem_of_find?_eq_some hf)

/-- The entry of a part that no entry matched before is the one that matches. -/
theorem residentEntry_of_entered {sheet base hdr : Nat} (he : e < 32) (hshow : EntryShows t p e sheet base hdr)
    (hother : ∀ r : Reg, r.idx ≠ e → t.raw r = s.raw r) (hnone : s.residentEntry p sheet hdr = none) : t.residentEntry p sheet hdr = some e := by
  have hmatch : (t.flag CUE_RESTAB_LO_VALID p e && t.get CUE_RESTAB_LO_SHEET p e == sheet && t.get CUE_RESTAB_HI_HDRCRC p e == hdr) = true := by
    rw [hshow.valid, hshow.sheet, hshow.hdr]
    simp
  have hsome : (t.residentEntry p sheet hdr).isSome = true := List.find?_isSome.mpr ⟨e, List.mem_range.mpr he, hmatch⟩
  obtain ⟨f, hf⟩ := Option.isSome_iff_exists.mp hsome
  rw [hf]
  by_contra hne
  have hfe : f ≠ e := fun h => hne (by rw [h])
  have get (g : Fld) : t.get g p f = s.get g p f := by rw [get_def, hother _ hfe, get_def]
  have hold := List.find?_some hf
  have hnew := List.find?_eq_none.mp hnone f (List.mem_of_find?_eq_some hf)
  unfold State.flag at hold hnew
  rw [get, get, get] at hold
  exact hnew hold

/-- A part has entered the table: what the lane's start needs of it. -/
structure Entered (s t : State) (p : Nat) (c : Cmd) (pl : SheetPlan) (r : PartRow) : Prop where
  onBay : OnBay tableRegs p s t
  entry : ∃ e, t.residentEntry p c.sheet pl.hdrcrc = some e ∧ t.get CUE_RESTAB_LO_BASE p e = r.base

theorem enterPart_entered (hsheet : c.sheet < 4096) (hbase : r.base < 2 ^ 14) (hcrc : pl.hdrcrc < 2 ^ 32)
    (hnone : s.residentEntry (s.phys r.bay) c.sheet pl.hdrcrc = none) (hfree : ∃ e, e < 32 ∧ s.flag CUE_RESTAB_LO_VALID (s.phys r.bay) e = false) :
    Entered s (s.enterPart c pl r) (s.phys r.bay) c pl r := by
  refine ⟨enterPart_onBay s c pl r, s.freeEntry (s.phys r.bay), ?_⟩
  have hshow := tableEntry_shows (lenm1 := r.lenm1) hsheet hbase hcrc s (s.phys r.bay) (s.freeEntry (s.phys r.bay))
  have hmatch := residentEntry_of_entered (freeEntry_lt hfree) hshow (fun q hq => raw_tableEntry_ne s (s.phys r.bay) hq) hnone
  rw [enterPart_eq, get_modBay, hshow.base, residentEntry_congr fun r _ => raw_modBay _ _ _ r, hmatch]
  exact ⟨rfl, rfl⟩

/-! ## The lane of a loaded sheet goes (R82) -/

/-- The lane of a one-bay sheet that has loaded issues its first cue. -/
theorem loaded_goes (h : BodyRead s u id c pl r cOK) (hoff : recordsOff s) (hres : c.resume = false) (hbays : laneBays c.mask = [lb])
    (hcrc : c.hdrcrc = pl.hdrcrc) (hent : Entered u w (s.phys lb) c pl r) :
    ((w.laneGo id).cmd id).map (·.phase) = some .running ∧ RunsAt (w.laneGo id) (s.phys lb) id r.base ∧
      ((w.laneGo id).residentEntry (s.phys lb) c.sheet pl.hdrcrc).isSome = true ∧
      ((w.laneGo id).bay (s.phys lb)).cueMem = (u.bay (s.phys lb)).cueMem ∧ (w.laneGo id).mem = s.mem := by
  have hread := h.within
  obtain ⟨c', hc', hsame⟩ := hread.sameRun rfl h.cmd
  obtain ⟨e, hentry, hbase⟩ := hent.entry
  have hphys (x : Nat) : w.phys x = s.phys x := (hent.onBay.phys (by decide) x).trans (hread.phys (by decide) x)
  have hwcmd : w.cmd id = some c' := (cmd_of_ro hent.onBay.ro id).trans hc'
  have hwoff : recordsOff w := (hent.onBay.get (f := OBS_RINGCTL_EN) (by decide) 1 0).trans (recordsOff_of_within hread (by decide) hoff)
  have hlane : laneBays c'.mask = [lb] := by rw [hsame.mask, hbays]
  have hwent := laneGo_went hwcmd (hsame.resume.trans hres) hwoff (by unfold laneApart; rw [hlane]; exact List.pairwise_singleton _ _)
  have hentry' : w.residentEntry (w.phys lb) c'.sheet c'.hdrcrc = some e := by rw [hphys, hsame.sheet, hsame.hdrcrc, hcrc, hentry]
  obtain ⟨hruns, hcues⟩ := hwent.runs lb (by rw [hlane]; exact List.mem_singleton_self lb) e hentry'
  rw [hphys, hbase, cmd_id hc'] at hruns
  rw [hphys] at hcues
  refine ⟨hwent.phase, hruns, ?_, hcues.trans hent.onBay.cues, hwent.mem.trans (hent.onBay.mem.trans (hread.mem rfl))⟩
  rw [residentEntry_congr (s := w) (fun r hr => hwent.raw r (by rcases hr with hr | hr <;> rw [hr] <;> decide)), hentry]
  rfl

/-! ## A refused command ends (R75, R81) -/

/-- A bay that has left its command. -/
def releasedBay (b : Bay) : Bay :=
  { b.closeRings with
    cid := none, entry := none, stall := none, halted := false, stopReq := .none, stop := .none
    saving := false, credits := [], present := none }

theorem releaseBay_onBay (s : State) (p : Nat) : OnBay takeRegs p s (s.releaseBay p) :=
  (((OnBay.refl (ns := takeRegs) (p := p) s).put CUE_SEQSTAT_STATE 1 0 (by decide)).put CUE_SHEETNO_ACTIVE 0 0 (by decide)).modBay
    (f := releasedBay) rfl

theorem state_releaseBay (s : State) (p : Nat) : (s.releaseBay p).get CUE_SEQSTAT_STATE p = 1 := by
  unfold State.releaseBay
  rw [get_modBay, get_put_ne _ _ _ _ _ _ _ _ (reg_ne_of_name (by decide) _ _ _ _), get_put_state _ _ (by decide)]

/-- A bay of the command is idle once its lane is released. -/
theorem state_releaseLane (hmem : lb ∈ laneBays mask) (hcid : (s.bay (s.phys lb)).cid = some id) :
    (s.releaseLane mask id).get CUE_SEQSTAT_STATE (s.phys lb) = 1 := by
  have step (y : State) (b : Nat) : (s.phys lb = y.phys b ∧ (y.bay (s.phys lb)).cid = some id ∧
      (if (y.bay (y.phys b)).cid = some id then y.releaseBay (y.phys b) else y).get CUE_SEQSTAT_STATE (s.phys lb) = 1) ∨
      SameBay (s.phys lb) y (if (y.bay (y.phys b)).cid = some id then y.releaseBay (y.phys b) else y) := by
    split
    · next hb =>
      by_cases hp : s.phys lb = y.phys b
      · exact Or.inl ⟨hp, by rw [hp]; exact hb, by rw [hp]; exact state_releaseBay y _⟩
      · exact Or.inr ((releaseBay_onBay y _).sameBay fun e => hp e.symm)
    · exact Or.inr ⟨fun _ _ => rfl, rfl⟩
  have map (y : State) (b x : Nat) : (if (y.bay (y.phys b)).cid = some id then y.releaseBay (y.phys b) else y).phys x = y.phys x := by
    split
    · exact (releaseBay_onBay y _).phys (by decide) x
    · rfl
  refine (foldl_visit (P := fun y : State => (∀ x, y.phys x = s.phys x) ∧
      ((y.bay (s.phys lb)).cid = some id ∨ y.get CUE_SEQSTAT_STATE (s.phys lb) = 1))
    (Q := fun y : State => y.get CUE_SEQSTAT_STATE (s.phys lb) = 1) (laneBays_nodup mask) hmem ⟨fun _ => rfl, Or.inl hcid⟩ ?before ?here ?after)
  case before =>
    rintro y b - - ⟨hphys, hy⟩
    refine ⟨fun x => (map y b x).trans (hphys x), ?_⟩
    rcases step y b with ⟨-, -, h⟩ | h
    · exact Or.inr h
    · rw [h.bay, h.get]
      exact hy
  case here =>
    rintro y ⟨hphys, hy⟩
    rw [hphys]
    split
    · exact state_releaseBay y _
    · next hb => exact hy.resolve_left hb
  case after =>
    intro y b _ _ hy
    rcases step y b with ⟨-, -, h⟩ | h
    · exact h
    · rw [h.get]
      exact hy

theorem state_put_idle (h : s.get CUE_SEQSTAT_STATE p = 1) (q : Nat) : (s.put CUE_SEQSTAT_STATE 1 q).get CUE_SEQSTAT_STATE p = 1 := by
  by_cases hp : p = q
  · rw [hp, get_put_state _ _ (by decide)]
  · rw [get_put_ne _ _ _ _ _ _ _ _ fun e => hp (congrArg Reg.unit e), h]

/-- A bay in IDLE stays so when the stashes of a parked command go. -/
theorem state_unpark (h : s.get CUE_SEQSTAT_STATE p = 1) : (s.unpark mask).get CUE_SEQSTAT_STATE p = 1 := by
  refine List.foldlRecOn (motive := fun y : State => y.get CUE_SEQSTAT_STATE p = 1) _ _ h fun y hy lb _ => ?_
  dsimp only
  split
  · exact state_put_idle (s := { y with stashes := Tab.erase y.stashes lb }) hy _
  · exact hy

theorem bay_releaseStaging (s : State) (id q : Nat) : (s.releaseStaging id).bay q = s.bay q := by
  rw [State.bay, ((Within.refl (k := {}) s).releaseStaging id).bays rfl, State.bay]

theorem state_givesBack (hmem : lb ∈ laneBays c.mask) (hcid : (s.bay (s.phys lb)).cid = some id) :
    (givesBack s id c).get CUE_SEQSTAT_STATE (s.phys lb) = 1 := by
  have hphys : (s.releaseStaging id).phys lb = s.phys lb := ((Within.refl (k := {}) s).releaseStaging id).phys List.not_mem_nil lb
  have hrel : ((s.releaseStaging id).releaseLane c.mask id).get CUE_SEQSTAT_STATE (s.phys lb) = 1 := by
    rw [← hphys]
    exact state_releaseLane hmem (by rw [hphys, bay_releaseStaging, hcid])
  unfold givesBack
  dsimp only
  split
  · exact state_unpark hrel
  · exact hrel

/-- With the rings off the record of a command's end changes at most the mark of its frame. -/
theorem endRecorded_of_off (hoff : recordsOff s) (c : Cmd) : endRecorded s c = s ∨ endRecorded s c = s.markLost := by
  unfold endRecorded
  rw [commandRecord_of_off hoff, ite_self]
  dsimp only
  split
  · exact Or.inr rfl
  · exact Or.inl rfl

/-- A command that ends with the rings off: memory stays, and its bays are idle. -/
structure EndsQuietly (s t : State) (id : Nat) (c : Cmd) : Prop where
  mem   : t.mem = s.mem
  state : ∀ lb ∈ laneBays c.mask, (s.bay (s.phys lb)).cid = some id → t.get CUE_SEQSTAT_STATE (s.phys lb) = 1

theorem endCmd_endsQuietly (hcmd : s.cmd id = some c) (hoff : recordsOff s) : EndsQuietly s (s.endCmd id) id c := by
  have haud := (Within.refl (k := readScope) s).audited rfl id
  obtain ⟨c', hc', hsame⟩ := haud.sameRun rfl hcmd
  have hphys (x : Nat) := haud.phys List.not_mem_nil x
  have hoff' := recordsOff_of_within haud List.not_mem_nil hoff
  rw [endCmd_eq, hc']
  dsimp only
  generalize audited s id = a at *
  have hrec : (endRecorded a c').mem = a.mem ∧ (endRecorded a c').bays = a.bays ∧ (endRecorded a c').regs = a.regs := by
    rcases endRecorded_of_off hoff' c' with h | h <;> rw [h] <;> exact ⟨rfl, rfl, rfl⟩
  obtain ⟨hmem, hbays, hregs⟩ := hrec
  have hback := (Within.refl (k := releaseScope) ((endRecorded a c').dropCmd id)).givesBack releaseScope_releases id c'
  have hout := (Within.refl (k := {}) (givesBack ((endRecorded a c').dropCmd id) id c')).outcome c'
  refine ⟨(hout.mem rfl).trans ((hback.mem rfl).trans (hmem.trans (haud.mem rfl))), fun lb hlb hcid => ?_⟩
  have hdrop : ((endRecorded a c').dropCmd id).phys lb = s.phys lb := (phys_of_regs_eq hregs lb).trans (hphys lb)
  have hcid' : (((endRecorded a c').dropCmd id).bay (s.phys lb)).cid = some id :=
    (congrArg (fun b => (Tab.get {} b (s.phys lb)).cid) hbays).trans ((haud.cids rfl _).trans hcid)
  have hstate := state_givesBack (s := (endRecorded a c').dropCmd id) (c := c') (id := id) (lb := lb) (by rw [hsame.mask]; exact hlb)
    (by rw [hdrop]; exact hcid')
  rw [hout.get (by decide) List.not_mem_nil, ← hdrop, hstate]

theorem setF_run (c : Cmd) (code : Nat) : (c.setF code).id = c.id ∧ (c.setF code).mask = c.mask := by
  unfold Cmd.setF
  split <;> exact ⟨rfl, rfl⟩

/-- The body of a one-bay sheet has arrived: its lane goes or its command ends. -/
theorem sheetLoadEndsInTheFirstCue : SheetLoadEndsInTheFirstCue := by
  refine ⟨?goes, ?refused⟩
  case goes =>
    intro s u id c pl r lb hclk hoff hcmd hphase hres hplan hrows hload hbays hbay hbody hcrc hcrcw hsheet hbase p hnone hfree
    have hread : BodyRead s u id c pl r cOK := ⟨hcmd, hphase, hplan, hrows, hload, hbody⟩
    have hphys : u.phys r.bay = s.phys lb := by rw [hbay]; exact hread.within.phys (by decide) lb
    have hent := enterPart_entered hsheet hbase hcrcw (by rw [hphys]; exact hnone) (by rw [hphys]; exact hfree)
    rw [hphys] at hent
    obtain ⟨hrun, hat, hresident, hcues, hmem⟩ := loaded_goes hread (recordsOff_of_ringsOff hoff) hres hbays hcrc hent
    exact ⟨_, by rw [execSheetLoadDone_eq hclk, loadDone_eq hread, if_pos rfl], hrun, hat.state, hat.pc, hresident, hcues, hmem⟩
  case refused =>
    intro s u id c pl r code hclk hoff hcmd hphase hplan hrows hload hbody hcode
    have hread : BodyRead s u id c pl r code := ⟨hcmd, hphase, hplan, hrows, hload, hbody⟩
    have hwithin := hread.within
    obtain ⟨c', hc', hsame⟩ := hwithin.sameRun rfl hcmd
    have hset : (u.modCmd id fun c => c.setF code).cmd id = some (c'.setF code) := cmd_modCmd_self (fun c => (setF_run c code).1) hc'
    have huoff := recordsOff_of_within hwithin (by decide) (recordsOff_of_ringsOff hoff)
    have hend := endCmd_endsQuietly hset huoff
    refine ⟨_, by rw [execSheetLoadDone_eq hclk, loadDone_eq hread, if_neg hcode, State.refuseCmd], cmd_endCmd _ id, hend.mem.trans (hwithin.mem rfl),
      fun lb hmem hcid => ?_⟩
    have hphys : (u.modCmd id fun c => c.setF code).phys lb = s.phys lb := hwithin.phys (by decide) lb
    rw [← hphys]
    exact hend.state lb (by rw [(setF_run c' code).2, hsame.mask]; exact hmem) (by rw [hphys]; exact hcid)

/-- Settles O32: a RUN command takes its lane, and the lane starts at once or when the body of its sheet has passed its checks. -/
theorem runCommandsLoadAndStart : Obligations.RunCommandsLoadAndStart := ⟨runCommandStartsItsSheet, sheetLoadEndsInTheFirstCue⟩

end Sys2Proof.Proofs
end

section
/-! Cue words (R107, R108, R112 to R126): the fields of a word, the word that fields make and the bits they use; a cue's words are the
words of its layout, which settles O57. -/

namespace Sys2Proof.Proofs

open Sys2Proof.Machine Sys2Proof.Laws

variable {n w w1 w0 : Nat} {L : List (Nat × Nat)} {vs : List Nat} {q : Cue}

/-! ## Words and their fields -/

/-- The contents of a layout's fields, given by their highest and lowest bit, in a word. -/
def fieldsOf (L : List (Nat × Nat)) (w : Nat) : List Nat := L.map fun f => fld w f.1 f.2

/-- The word that holds some values in a layout's fields and is 0 elsewhere. -/
def wordOf : List (Nat × Nat) → List Nat → Nat
  | f :: L, v :: vs => v * 2 ^ f.2 + wordOf L vs
  | _, _ => 0

/-- The bits of a layout's fields. -/
def maskOf (L : List (Nat × Nat)) : Nat := L.foldr (fun f m => ones f.1 f.2 ||| m) 0

/-- The fields stand below bit `n`, each below the one before it. -/
def descends : Nat → List (Nat × Nat) → Bool
  | _, [] => true
  | n, f :: L => decide (f.2 ≤ f.1) && decide (f.1 < n) && descends f.2 L

/-- Each value fits its field. -/
def FieldsFit : List (Nat × Nat) → List Nat → Prop := List.Forall₂ fun f v => v < 2 ^ (f.1 + 1 - f.2)

theorem fld_lt (w hi lo : Nat) : fld w hi lo < 2 ^ (hi + 1 - lo) := bits_lt _ _ _

theorem fieldsOf_fit (L : List (Nat × Nat)) (w : Nat) : FieldsFit L (fieldsOf L w) := by
  induction L with
  | nil => exact .nil
  | cons f L ih => exact .cons (fld_lt w f.1 f.2) ih

theorem wordOf_lt (hL : descends n L = true) (hv : FieldsFit L vs) : wordOf L vs < 2 ^ n := by
  induction hv generalizing n with
  | nil => exact Nat.two_pow_pos n
  | @cons f v L vs hf _ ih =>
    simp only [descends, Bool.and_eq_true, decide_eq_true_eq] at hL
    obtain ⟨⟨hlo, hhi⟩, hL⟩ := hL
    calc v * 2 ^ f.2 + wordOf L vs < (v + 1) * 2 ^ f.2 := by rw [Nat.succ_mul]; exact Nat.add_lt_add_left (ih hL) _
      _ ≤ 2 ^ (f.1 + 1 - f.2) * 2 ^ f.2 := Nat.mul_le_mul_right _ hf
      _ = 2 ^ (f.1 + 1) := by rw [← Nat.pow_add, Nat.sub_add_cancel (by omega)]
      _ ≤ 2 ^ n := Nat.pow_le_pow_right (by decide) hhi

/-- What stands above a layout's fields does not reach them. -/
theorem fieldsOf_add_wordOf (hL : descends n L = true) (hv : FieldsFit L vs) (x : Nat) : fieldsOf L (x * 2 ^ n + wordOf L vs) = vs := by
  induction hv generalizing n x with
  | nil => rfl
  | @cons f v L vs hf hvs ih =>
    simp only [descends, Bool.and_eq_true, decide_eq_true_eq] at hL
    obtain ⟨⟨hlo, hhi⟩, hL⟩ := hL
    have hword : x * 2 ^ n + wordOf (f :: L) (v :: vs) = (x * 2 ^ (n - f.2) + v) * 2 ^ f.2 + wordOf L vs := by
      rw [wordOf, Nat.add_mul, Nat.mul_assoc, ← Nat.pow_add, Nat.sub_add_cancel (by omega), Nat.add_assoc]
    have hfield : fld ((x * 2 ^ (n - f.2) + v) * 2 ^ f.2 + wordOf L vs) f.1 f.2 = v := by
      rw [fld, bits, Nat.add_comm, Nat.add_mul_div_right _ _ (Nat.two_pow_pos _), Nat.div_eq_of_lt (wordOf_lt hL hvs), Nat.zero_add,
        show n - f.2 = (f.1 + 1 - f.2) + (n - f.1 - 1) by omega, Nat.pow_add, Nat.mul_left_comm, Nat.mul_add_mod, Nat.mod_eq_of_lt hf]
    rw [hword, fieldsOf, List.map_cons, hfield]
    exact congrArg (v :: ·) (ih hL _)

theorem fieldsOf_wordOf (hL : descends n L = true) (hv : FieldsFit L vs) : fieldsOf L (wordOf L vs) = vs := by
  simpa using fieldsOf_add_wordOf hL hv 0

theorem and_ones (w hi lo : Nat) (h : lo ≤ hi) : w &&& ones hi lo = fld w hi lo * 2 ^ lo := by
  have hones : ones hi lo = (2 ^ (hi + 1 - lo) - 1) * 2 ^ lo := by
    rw [ones, Nat.sub_mul, Nat.one_mul, ← Nat.pow_add, Nat.sub_add_cancel (by omega)]
  refine Nat.eq_of_testBit_eq fun i => ?_
  rw [hones, Nat.testBit_and, Nat.testBit_mul_two_pow, Nat.testBit_mul_two_pow, Nat.testBit_two_pow_sub_one, fld, testBit_bits]
  by_cases hi : lo ≤ i
  · simp [hi, Bool.and_comm]
  · simp [hi]

/-- The word that a word's own fields make is the word on the layout's bits. -/
theorem wordOf_fieldsOf (hL : descends n L = true) (w : Nat) : wordOf L (fieldsOf L w) = w &&& maskOf L := by
  induction L generalizing n with
  | nil => exact (Nat.and_zero w).symm
  | cons f L ih =>
    simp only [descends, Bool.and_eq_true, decide_eq_true_eq] at hL
    obtain ⟨⟨hlo, -⟩, hL⟩ := hL
    have hlow := wordOf_lt hL (fieldsOf_fit L w)
    rw [maskOf, List.foldr_cons, ← maskOf, Nat.and_or_distrib_left, and_ones w _ _ hlo, ← ih hL, Nat.mul_comm,
      ← Nat.two_pow_add_eq_or_of_lt hlow, Nat.mul_comm]
    rfl

/-- A word uses the bits of `m` alone when it uses no others than those and a field's, and the field is 0. -/
theorem and_eq_self_iff_field_zero {m hi lo : Nat} (h : lo ≤ hi) (hm : m &&& ones hi lo = 0) :
    w &&& m = w ↔ w &&& (m ||| ones hi lo) = w ∧ fld w hi lo = 0 := by
  rw [Nat.and_or_distrib_left, and_ones w hi lo h]
  refine ⟨fun hw => ?_, fun ⟨hw, hz⟩ => ?_⟩
  · have hz : fld w hi lo * 2 ^ lo = 0 := by rw [← and_ones w hi lo h, ← hw, Nat.and_assoc, hm, Nat.and_zero]
    exact ⟨by rw [hz, Nat.or_zero, hw], (Nat.mul_eq_zero.mp hz).resolve_right (Nat.two_pow_pos lo).ne'⟩
  · simpa [hz] using hw

/-! ## The layouts (R107, R112 to R126) -/

/-- The fields of word 1 by opcode, the opcode first. -/
def layout1 : Nat → List (Nat × Nat)
  | 0x01 => [(63, 59), (58, 56), (50, 48), (47, 45), (15, 0)]
  | 0x02 => [(63, 59), (58, 57), (56, 53), (52, 52), (51, 51), (50, 50), (49, 49), (48, 40), (39, 33), (19, 0)]
  | 0x03 => [(63, 59), (58, 57), (56, 53), (52, 49), (48, 48), (47, 47), (46, 46), (45, 45), (44, 44), (43, 34), (31, 20), (19, 0)]
  | 0x04 => [(63, 59), (58, 57), (56, 53), (52, 51), (50, 50), (49, 46), (45, 45), (44, 44), (43, 43), (42, 42), (41, 41), (40, 40),
      (39, 38), (37, 35), (31, 20), (19, 10), (9, 3)]
  | 0x05 => [(63, 59), (58, 56), (55, 55), (54, 54), (53, 51), (50, 50), (49, 49), (48, 46), (45, 45), (44, 39), (18, 0)]
  | 0x06 => [(63, 59), (58, 56), (55, 51), (50, 50), (49, 44), (43, 39), (31, 28), (27, 16)]
  | 0x07 => [(63, 59), (13, 8), (7, 0)]
  | 0x08 => [(63, 59), (58, 58), (21, 16), (13, 8), (7, 0)]
  | 0x09 => [(63, 59), (15, 0)]
  | 0x0B => [(63, 59), (58, 58), (57, 57), (56, 56), (48, 32), (31, 0)]
  | 0x0C => [(63, 59), (15, 0)]
  | 0x0D => [(63, 59), (58, 57), (56, 56), (55, 51), (50, 37), (31, 16)]
  | 0x0E => [(63, 59), (58, 57), (56, 56), (55, 48), (47, 37), (31, 16)]
  | 0x0F => [(63, 59), (58, 56), (55, 52), (43, 32)]
  | _ => [(63, 59)]

/-- The fields of word 0 by opcode. -/
def layout0 : Nat → List (Nat × Nat)
  | 0x01 => [(47, 0)]
  | 0x02 => [(19, 0)]
  | 0x04 => [(63, 60), (59, 40), (39, 20), (19, 0)]
  | 0x06 => [(16, 0)]
  | 0x0B => [(19, 0)]
  | 0x0D => [(39, 20), (19, 0)]
  | 0x0E => [(59, 40), (39, 20), (19, 0)]
  | _ => []

theorem layout1_descends (op : Nat) : descends 64 (layout1 op) = true := by
  unfold layout1; split <;> rfl

theorem layout0_descends (op : Nat) : descends 64 (layout0 op) = true := by
  unfold layout0; split <;> rfl

/-- The opcode of a cue (R107). -/
def opcodeOf : Cue → Nat
  | .set .. => 0x01 | .loadw .. => 0x02 | .feed .. => 0x03 | .drain .. => 0x04 | .move .. => 0x05 | .ring .. => 0x06
  | .wait .. => 0x07 | .post .. => 0x08 | .loop .. => 0x09 | .endl => 0x0A | .mark .. => 0x0B | .exit .. => 0x0C
  | .prompt .. => 0x0D | .matcher .. => 0x0E | .walk .. => 0x0F | .halt => 0x10

/-- The values of a cue's fields in word 1. -/
def values1 : Cue → List Nat
  | .set kind ag dim ext _ _ => [0x01, kind, ag, dim, ext]
  | .loadw arr fmt sp dense ovf col ktm1 ntm1 src _ => [0x02, arr, fmt, b1 sp, b1 dense, b1 ovf, b1 col, ktm1, ntm1, src]
  | .feed arr fmt wfmt sp swap acc share col mm1 a0 src => [0x03, arr, fmt, wfmt, b1 sp, b1 swap, b1 acc, b1 share, b1 col, mm1, a0, src]
  | .drain arr fmt rnd sat act bias ztap deriv sp24 add clear dsc lay a0 rdm1 ndm1 _ _ _ _ =>
    [0x04, arr, fmt, rnd, b1 sat, act, b1 bias, b1 ztap, b1 deriv, b1 sp24, b1 add, b1 clear, dsc, lay, a0, rdm1, ndm1]
  | .move eng sen sstep sag den dstep dag done dsem desc =>
    [0x05, eng, b1 sen, b1 sstep, sag, b1 den, b1 dstep, dag, b1 done, dsem, desc]
  | .ring rop rv role peer prv nslm1 slszm1 _ => [0x06, rop, rv, b1 role, peer, prv, nslm1, slszm1]
  | .wait sem n => [0x07, sem, n]
  | .post nofence bay sem n => [0x08, b1 nofence, bay, sem, n]
  | .loop nm1 => [0x09, nm1]
  | .endl => [0x0A]
  | .mark latch photo strobe lenm1 tag _ => [0x0B, b1 latch, b1 photo, b1 strobe, lenm1, tag]
  | .exit mask => [0x0C, mask]
  | .prompt stg sel ntile pred kval _ _ => [0x0D, stg, b1 sel, ntile, pred, kval]
  | .matcher mode iof lam1 lbm1 opn _ _ _ => [0x0E, mode, b1 iof, lam1, lbm1, opn]
  | .walk arrm duty durm1 => [0x0F, arrm, duty, durm1]
  | .halt => [0x10]

/-- The values of a cue's fields in word 0. -/
def values0 : Cue → List Nat
  | .set _ _ _ _ base _ => [base]
  | .loadw _ _ _ _ _ _ _ _ _ side => [side]
  | .drain _ _ _ _ _ _ _ _ _ _ _ _ _ _ _ _ dfn dst bsrc zadr => [dfn, dst, bsrc, zadr]
  | .ring _ _ _ _ _ _ _ base => [base]
  | .mark _ _ _ _ _ src => [src]
  | .prompt _ _ _ _ _ src dst => [src, dst]
  | .matcher _ _ _ _ _ srca srcb dst => [srca, srcb, dst]
  | _ => []

/-- A SET reads its STRIDE in the low half of what it reads as BASE. -/
def strideInBase : Cue → Prop
  | .set _ _ _ _ base stride => stride = base % 2 ^ 32
  | _ => True

/-- A SET of BASE has no extent, and one of a dimension nothing above its STRIDE. -/
def unusedZero : Cue → Prop
  | .set kind _ _ ext base _ => (kind = 0 ∨ base < 2 ^ 32) ∧ (kind = 1 ∨ ext = 0)
  | _ => True

theorem bit_eq_iff {i : Nat} {b : Bool} : bit w i = b ↔ fld w i i = b1 b := by
  have h : fld w i i = b1 (bit w i) := by
    rw [fld, bits, Nat.add_sub_cancel_left, pow_one, ← Nat.toNat_testBit]
    unfold bit
    cases w.testBit i <;> rfl
  rw [h]
  cases b <;> cases bit w i <;> decide

theorem b1_le (b : Bool) : b1 b ≤ 1 := by cases b <;> decide

theorem fld_low_half (w : Nat) : fld w 31 0 = fld w 47 0 % 2 ^ 32 := by unfold fld bits; omega

theorem fld_high_zero_iff (w : Nat) : fld w 47 32 = 0 ↔ fld w 47 0 < 2 ^ 32 := by unfold fld bits; omega

theorem fits_iff (q : Cue) : q.fits = true ↔
    FieldsFit (layout1 (opcodeOf q)) (values1 q) ∧ FieldsFit (layout0 (opcodeOf q)) (values0 q) ∧ strideInBase q ∧ unusedZero q := by
  cases q <;> simp [Cue.fits, opcodeOf, layout1, layout0, values1, values0, strideInBase, unusedZero, FieldsFit, b1_le, and_assoc]

theorem cueEncode_eq (hs : strideInBase q) (hu : unusedZero q) :
    cueEncode q = (wordOf (layout1 (opcodeOf q)) (values1 q), wordOf (layout0 (opcodeOf q)) (values0 q)) := by
  cases q <;> simp [cueEncode, opcodeOf, layout1, layout0, values1, values0, wordOf, Nat.add_assoc]
  case set kind ag dim ext base stride =>
    intro hk
    rw [show stride = base % 2 ^ 32 from hs, Nat.mod_eq_of_lt (hu.1.resolve_left hk)]

/-! ## Decoding (R107, R112 to R126) -/

/-- Two words decode to a cue exactly where its fields stand in them. -/
theorem cueDecode_eq_some_iff : cueDecode w1 w0 = some q ↔
    fieldsOf (layout1 (opcodeOf q)) w1 = values1 q ∧ fieldsOf (layout0 (opcodeOf q)) w0 = values0 q ∧ strideInBase q := by
  refine ⟨fun h => ?fields, fun h => ?decodes⟩
  case fields =>
    unfold cueDecode at h
    split at h
    case h_17 => cases h
    all_goals
      next hop =>
      cases h
      simp [opcodeOf, layout1, layout0, values1, values0, strideInBase, fieldsOf, fld_low_half, ← bit_eq_iff, show fld w1 63 59 = _ from hop]
  case decodes =>
    cases q <;> simp [opcodeOf, layout1, layout0, values1, values0, strideInBase, fieldsOf, ← bit_eq_iff] at h <;>
      simp [cueDecode, cueOp, fld_low_half, h]

theorem cueOp_of_decode (h : cueDecode w1 w0 = some q) : cueOp w1 = opcodeOf q := by
  obtain ⟨hval, -, -⟩ := cueDecode_eq_some_iff.mp h
  cases q <;> exact (List.cons.inj hval).1

/-! ## Reserved bits (R9, R108) -/

theorem cueMask1_eq (h : cueOp w1 ≠ 1) : cueMask1 w1 = maskOf (layout1 (cueOp w1)) := by
  unfold cueMask1
  split
  case h_1 hop => exact absurd hop h
  case h_15 => simp_all [layout1, maskOf]
  all_goals next hop => rw [hop]; decide

theorem cueMask0_eq (h : cueOp w1 ≠ 1) : cueMask0 w1 = maskOf (layout0 (cueOp w1)) := by
  unfold cueMask0
  split
  case h_1 hop => exact absurd hop h
  case h_8 => simp_all [layout0, maskOf]
  all_goals next hop => rw [hop]; decide

/-- What a SET's word 1 leaves unused: the extent, but for a dimension of kind 1. -/
theorem set_reserved1 (h : cueOp w1 = 1) : w1 &&& cueMask1 w1 = w1 ↔
    w1 &&& maskOf (layout1 1) = w1 ∧ (fld w1 58 56 = 1 ∨ fld w1 15 0 = 0) := by
  have hlayout : maskOf (layout1 1) = (ones 63 59 ||| (ones 58 56 ||| ones 50 45)) ||| ones 15 0 := by decide
  by_cases hk : fld w1 58 56 = 1
  · have hm : cueMask1 w1 = maskOf (layout1 1) := by simp only [cueMask1, h, hk, if_true]; decide
    simp [hm, hk]
  · have hm : cueMask1 w1 = ones 63 59 ||| (ones 58 56 ||| ones 50 45) := by simp only [cueMask1, h, hk, if_false, Nat.or_zero]
    rw [hm, hlayout, and_eq_self_iff_field_zero (hi := 15) (lo := 0) (by decide) (by decide)]
    simp [hk]

/-- What a SET's word 0 leaves unused: all above the stride, but for a SET of BASE. -/
theorem set_reserved0 (h : cueOp w1 = 1) : w0 &&& cueMask0 w1 = w0 ↔
    w0 &&& maskOf (layout0 1) = w0 ∧ (fld w1 58 56 = 0 ∨ fld w0 47 0 < 2 ^ 32) := by
  have hlayout : maskOf (layout0 1) = ones 31 0 ||| ones 47 32 := by decide
  by_cases hk : fld w1 58 56 = 0
  · have hm : cueMask0 w1 = maskOf (layout0 1) := by simp only [cueMask0, h, hk, if_true]; decide
    simp [hm, hk]
  · have hm : cueMask0 w1 = ones 31 0 := by simp only [cueMask0, h, hk, if_false]
    rw [hm, hlayout, and_eq_self_iff_field_zero (hi := 47) (lo := 32) (by decide) (by decide), fld_high_zero_iff]
    simp [hk]

/-- Where two words decode to a cue no reserved bit is set exactly where the words are those of its fields. -/
theorem cueReservedOk_iff (h : cueDecode w1 w0 = some q) : cueReservedOk w1 w0 = true ↔
    wordOf (layout1 (opcodeOf q)) (values1 q) = w1 ∧ wordOf (layout0 (opcodeOf q)) (values0 q) = w0 ∧ unusedZero q := by
  have hop := cueOp_of_decode h
  obtain ⟨hval1, hval0, -⟩ := cueDecode_eq_some_iff.mp h
  rw [← hval1, ← hval0, wordOf_fieldsOf (layout1_descends _), wordOf_fieldsOf (layout0_descends _), cueReservedOk, Bool.and_eq_true, beq_iff_eq,
    beq_iff_eq]
  by_cases hset : opcodeOf q = 1
  · rw [set_reserved1 (hop.trans hset), set_reserved0 (hop.trans hset), hset]
    cases q <;> cases hset
    simp only [opcodeOf, layout1, layout0, fieldsOf, values1, values0, List.map_cons, List.map_nil, List.cons.injEq] at hval1 hval0
    obtain ⟨-, hkind, -, -, hext, -⟩ := hval1
    obtain ⟨hbase, -⟩ := hval0
    rw [hkind, hext, hbase, unusedZero]
    tauto
  · have hunused : unusedZero q := by cases q <;> trivial
    rw [cueMask1_eq (by rw [hop]; exact hset), cueMask0_eq (by rw [hop]; exact hset), hop]
    tauto

/-- Settles O57: the fields of a layout and the word they make determine each other, a decoded cue's fields are its words', and no reserved
bit is set exactly in the words that fields make. -/
theorem cueWordsAndCuesCorrespond : Obligations.CueWordsAndCuesCorrespond := by
  refine ⟨fun q hq => ?encoded, fun w1 w0 q _ _ hres hdec => ?decoded⟩
  case encoded =>
    obtain ⟨hfit1, hfit0, hstride, hunused⟩ := (fits_iff q).mp hq
    have hdec : cueDecode (cueEncode q).1 (cueEncode q).2 = some q := by
      rw [cueEncode_eq hstride hunused, cueDecode_eq_some_iff]
      exact ⟨fieldsOf_wordOf (layout1_descends _) hfit1, fieldsOf_wordOf (layout0_descends _) hfit0, hstride⟩
    refine ⟨?_, ?_, hdec, (cueReservedOk_iff hdec).mpr ?_⟩ <;> rw [cueEncode_eq hstride hunused]
    · exact wordOf_lt (layout1_descends _) hfit1
    · exact wordOf_lt (layout0_descends _) hfit0
    · exact ⟨rfl, rfl, hunused⟩
  case decoded =>
    obtain ⟨hw1, hw0, hunused⟩ := (cueReservedOk_iff hdec).mp hres
    obtain ⟨hval1, hval0, hstride⟩ := cueDecode_eq_some_iff.mp hdec
    refine ⟨(fits_iff q).mpr ⟨?_, ?_, hstride, hunused⟩, by rw [cueEncode_eq hstride hunused, hw1, hw0]⟩
    · rw [← hval1]; exact fieldsOf_fit _ _
    · rw [← hval0]; exact fieldsOf_fit _ _

end Sys2Proof.Proofs
end

section
/-! Cues at issue that start no array (R85, R117, R118, R123, R125, R371, R385): MOVE and HALT wait, MATCH joins the matcher queue, MARK
latches and strobes. This settles O6, O10 and O11. -/

namespace Sys2Proof.Proofs

open Sys2Proof.Machine Sys2Proof.Laws Sys2Proof.Claims

variable {s t u : State} {p : Nat} {i j k : Issue}

/-! ## MOVE and HALT (R85, R117, R118) -/

theorem stallCue_inBay (s : State) (p c : Nat) : InBay s (s.stallCue p c) p := (inBay_modBay s p _).trans (inBay_modBay _ p _)

theorem bay_stallCue (s : State) (p c : Nat) : (s.stallCue p c).bay p = { (s.bay p).waitFor s.clk.ca c with stall := some c } := by
  rw [State.stallCue, State.cause, bay_modBay_self, bay_modBay_self]

/-- The request of a MOVE at issue (R117). -/
def moveReqOf (s : State) (p eng : Nat) (sen sstep : Bool) (sag : Nat) (den dstep : Bool) (dag : Nat) (done : Bool) (dsem desc : Nat) : MoveReq :=
  { seq := s.nextMove, eng := moveEngine p eng, desc := desc, srcAg := if sen then some (s.agAddr p sag) else none,
    dstAg := if den then some (s.agAddr p dag) else none, done := if done then some dsem else none, pc := s.get CUE_SEQSTAT_PC p,
    steps := (if sstep then [sag] else []) ++ (if dstep then [dag] else []) }

def presentMove (m : MoveReq) (b : Bay) : Bay := { b with present := some m }

/-- Settles O6: MOVE counts its number, stalls and stands presented; HALT marks its bay and nothing else. -/
theorem moveAndHaltWait : Obligations.MoveAndHaltWait := by
  refine ⟨?move, ?halt⟩
  case move =>
    intro s lb eng sen sstep sag den dstep dag done dsem desc hq p
    have hin m := (stallCue_inBay { s with nextMove := s.nextMove + 1 } p 6).trans (inBay_modBay _ p (presentMove m))
    refine ⟨_, moveReqOf s p eng sen sstep sag den dstep dag done dsem desc, issueCue_of_issues hq rfl, ?_, rfl, rfl, rfl, rfl, rfl, rfl, rfl,
      rfl, (hin _).bays, (hin _).rest⟩
    rw [bay_modBay_self, bay_stallCue]
    rfl
  case halt =>
    intro s lb hq p
    exact ⟨_, issueCue_of_issues hq rfl, bay_modBay_self _ _ _, fun q hq => bay_modBay_ne _ _ hq, rfl⟩

/-! ## MATCH (R125) -/

/-- The first MATCH's reads at the crossbar leave the queue but for that mark. -/
structure MatchAsked (b c : Bay) : Prop where
  queue : matches_ c = matches_ b
  own   : c = { b with matchQ := c.matchQ, xreqs := c.xreqs }

theorem askMatch_asked (b : Bay) : MatchAsked b b.askMatch := by
  unfold Bay.askMatch
  split
  case h_2 => exact ⟨rfl, rfl⟩
  case h_1 m rest hq =>
    split
    · exact ⟨rfl, rfl⟩
    · unfold Bay.ask
      split
      · exact ⟨by simp [matches_, hq], rfl⟩
      · exact ⟨by simp [matches_, hq], rfl⟩

/-- The operands of a cue resolve and their generators step: registers of generators and ends of revolves change. -/
theorem done_own (hr : Resolves s p i) : (i.done p).bay p = { s.bay p with rings := (i.s.bay p).rings } := by
  rw [← hr.own, (done_stepsGenerators i p).rest]
  rfl

theorem done_cueFrame (hr : Resolves s p i) : CueFrame s (i.done p) p (isGenerator p) := by
  have hgen := done_stepsGenerators i p
  refine ⟨fun r hr' _ => by rw [hgen.raw r hr', hr.inBay.raw], fun q hq => ?_, by rw [done_own hr], ?_⟩
  · rw [← hr.inBay.bays q hq, hgen.rest]; rfl
  · have hsteps : KeepsBeyondCues i.s (i.done p) := by unfold KeepsBeyondCues; rw [hgen.rest]
    exact hr.inBay.keepsBeyondCues.trans hsteps

/-- A MATCH joins its queue, whose head presents its reads. -/
def joinMatch (m : MatchOp) (b : Bay) : Bay := { b with matchQ := b.matchQ ++ [m] }.askMatch

theorem joinMatch_asked (m : MatchOp) (b : Bay) : MatchAsked { b with matchQ := b.matchQ ++ [m] } (joinMatch m b) := askMatch_asked _

/-- The entry of a MATCH with its operands resolved. -/
def matchOf (s : State) (p mode : Nat) (iof : Bool) (lam1 lbm1 opn : Nat) (oa ob od : Opnd) : MatchOp :=
  { bitmap := mode == 1, iof := iof, la := lam1 + 1, lb := lbm1 + 1, opn := if opn = 0 then 65536 else opn, srca := oa, srcb := ob, dst := od,
    pc := s.get CUE_SEQSTAT_PC p, ord := (s.bay p).ord }

theorem matchCue_joins {mode lam1 lbm1 opn sa sb dd : Nat} {iof : Bool} {oa ob od : Opnd} (hroom : (s.bay p).matchQ.length < 2)
    (ha : Issue.wop { s := s } p sa (matchLenA lam1) 0 false (s.bay p).ord = .ok (i, oa))
    (hb : i.wop p sb (matchLenB mode lam1 lbm1) 0 false (s.bay p).ord = .ok (j, ob))
    (hd : j.wop p dd (matchLenD mode lam1 lbm1) 0 true (s.bay p).ord = .ok (k, od)) :
    matchCue mode s p (.matcher mode iof lam1 lbm1 opn sa sb dd) =
      some (((k.done p).modBay p (joinMatch (matchOf s p mode iof lam1 lbm1 opn oa ob od))).retireCue p) := by
  simp only [matchCue, ne_eq, not_true_eq_false, if_false, if_neg (show ¬ 2 ≤ (s.bay p).matchQ.length by omega), ha, hb, hd, bind,
    Except.bind, pure, Except.pure]
  rfl

/-- The command of a MATCH issues the cue of its mode. -/
theorem exec_match {lb mode lam1 lbm1 opn sa sb dd : Nat} {iof : Bool} {c : Instr}
    (hc : c = .matchAssoc lb ∧ mode = 0 ∨ c = .matchBitmap lb ∧ mode = 1) (hq : Issues s lb (.matcher mode iof lam1 lbm1 opn sa sb dd))
    (ht : matchCue mode s (s.phys lb) (.matcher mode iof lam1 lbm1 opn sa sb dd) = some t) : exec c s = .next t := by
  obtain ⟨rfl, rfl⟩ | ⟨rfl, rfl⟩ := hc <;> exact issueCue_of_issues hq ht

/-- A MATCH that has joined retires: its bay and its frame. -/
theorem joinMatch_retires (m : MatchOp) (hr : Resolves s p k) (hs : (s.bay p).samples = []) :
    RetiresTo s ((k.done p).modBay p (joinMatch m)) (((k.done p).modBay p (joinMatch m)).retireCue p) p (s.get CUE_SEQSTAT_PC p + 1)
      (isGenerator p) ∧
    ((k.done p).modBay p (joinMatch m)).bay p = joinMatch m { s.bay p with rings := (k.s.bay p).rings } := by
  have hjoin := joinMatch_asked m { s.bay p with rings := (k.s.bay p).rings }
  have hbay : ((k.done p).modBay p (joinMatch m)).bay p = joinMatch m { s.bay p with rings := (k.s.bay p).rings } := by
    rw [bay_modBay_self, done_own hr]
  have hframe : CueFrame s ((k.done p).modBay p (joinMatch m)) p (isGenerator p) :=
    cueFrame_mono (cueFrame_trans (done_cueFrame hr) (cueFrame_modBay _ p (by rw [done_own hr, hjoin.own]))) fun r h => h.resolve_right id
  exact ⟨retireCue_retiresTo hframe (by simp [isGenerator, seqstat]) (by rw [hbay, hjoin.own]; exact hs), hbay⟩

/-- Settles O10: the operands resolve, the MATCH joins the queue and the cue retires. -/
theorem matchJoinsTheMatcherQueue : Obligations.MatchJoinsTheMatcherQueue := by
  intro s lb c mode iof lam1 lbm1 opn sa sb dd i oa j ob k od hq hc p ord hroom ha hb hd
  have hr : Resolves s p k := (((Resolves.refl s p).wop ha).wop hb).wop hd
  obtain ⟨hret, hbay⟩ := joinMatch_retires (matchOf s p mode iof lam1 lbm1 opn oa ob od) hr hq.plain.2
  have hjoin := joinMatch_asked (matchOf s p mode iof lam1 lbm1 opn oa ob od) { s.bay p with rings := (k.s.bay p).rings }
  refine ⟨_, exec_match hc hq (matchCue_joins hroom ha hb hd), ?queue, ?own, hret.seq, hret.frame⟩
  case queue =>
    rw [hret.own, hbay]
    exact hjoin.queue.trans List.map_append
  case own => rw [hret.own, hbay, hjoin.own]; rfl

/-! ## MARK (R123, R371, R385) -/

/-- The registers that a bay's latch takes. -/
def isLatch (p : Nat) (r : Reg) : Prop := r = ⟨.OBS_LATCHTAG, p, 0⟩ ∨ r = ⟨.OBS_LATCHODO, p, 0⟩ ∨ named .OBS_LATCHCNT p r

/-- The counters of bay `p`, the tag and the odometer stand in its latch. -/
structure Latched (s t : State) (p tag : Nat) : Prop where
  tag    : t.get OBS_LATCHTAG_TAG p = tag % 2 ^ 32
  odo    : t.get OBS_LATCHODO_CYCLES p = s.clk.odo % 2 ^ 64
  counts : ∀ i, i < 8 → t.get OBS_LATCHCNT_COUNT p i = s.get OBS_CNT_COUNT (bayBlk p) i
  raw    : KeepsRegs (isLatch p) s t
  rest   : t = { s with regs := t.regs }

/-- The tag and the odometer are latched. -/
def latchHead (s : State) (p tag : Nat) : State := (s.put OBS_LATCHTAG_TAG tag p).put OBS_LATCHODO_CYCLES s.clk.odo p

/-- One counter is latched. -/
def latchCounter (p : Nat) (s : State) (i : Nat) : State := s.put OBS_LATCHCNT_COUNT (s.get OBS_CNT_COUNT (bayBlk p) i) p i

theorem latchHead_keeps (s : State) (p tag : Nat) : KeepsRegs (isLatch p) s (latchHead s p tag) := fun r hr => by
  obtain ⟨htag, hr⟩ := not_or.mp hr
  obtain ⟨hodo, -⟩ := not_or.mp hr
  rw [latchHead, raw_put_ne _ _ _ _ _ hodo, raw_put_ne _ _ _ _ _ htag]

/-- A latched counter is a register of the latch alone. -/
theorem raw_latchCounter (s : State) (p i : Nat) {r : Reg} (h : r ≠ ⟨.OBS_LATCHCNT, p, i⟩) : (latchCounter p s i).raw r = s.raw r :=
  raw_put_ne s _ _ _ _ h

theorem raw_latchCounters (s : State) (p n : Nat) {r : Reg} (h : ¬ named .OBS_LATCHCNT p r) :
    ((List.range n).foldl (latchCounter p) s).raw r = s.raw r :=
  List.foldlRecOn (motive := fun t : State => t.raw r = s.raw r) _ _ rfl fun t ht i _ => by
    rw [raw_latchCounter t p i fun e => h (by subst e; exact ⟨rfl, rfl⟩), ht]

theorem get_latchCounters (s : State) (p : Nat) {i n : Nat} (hi : i < n) :
    ((List.range n).foldl (latchCounter p) s).get OBS_LATCHCNT_COUNT p i = s.get OBS_CNT_COUNT (bayBlk p) i := by
  have counter (t : State) (a : Nat) : (latchCounter p t a).get OBS_CNT_COUNT (bayBlk p) i = t.get OBS_CNT_COUNT (bayBlk p) i :=
    get_put_ne t _ _ _ _ _ _ _ (reg_ne_of_name (by decide) _ _ _ _)
  refine foldl_range_visit (P := fun t : State => t.get OBS_CNT_COUNT (bayBlk p) i = s.get OBS_CNT_COUNT (bayBlk p) i)
    (Q := fun t : State => t.get OBS_LATCHCNT_COUNT p i = s.get OBS_CNT_COUNT (bayBlk p) i) hi rfl
    (fun t a _ _ ht => (counter t a).trans ht) (fun t ht => ?_) fun t a _ ha ht => ?_
  · rw [latchCounter, get_put_self _ _ _ _ _ (by decide), ht]
    exact Nat.mod_eq_of_lt (bits_lt _ _ _)
  · rw [latchCounter, get_put_ne _ _ _ _ _ _ _ _ fun e => ha (congrArg Reg.idx e).symm, ht]

theorem latchCounters_rest (s : State) (p n : Nat) : (List.range n).foldl (latchCounter p) s =
    { s with regs := ((List.range n).foldl (latchCounter p) s).regs } :=
  List.foldlRecOn (motive := fun t : State => t = { s with regs := t.regs }) _ _ rfl fun t ht i _ => by
    conv_lhs => rw [latchCounter, ht]
    rfl

theorem markLatch_latched (h : s.flag OBS_USER_EN_EN = false) (tag : Nat) : Latched s (s.markLatch p tag) p tag := by
  have hraw : KeepsRegs (isLatch p) s ((List.range 8).foldl (latchCounter p) (latchHead s p tag)) := fun r hr => by
    rw [raw_latchCounters _ p 8 fun hn => hr (Or.inr (Or.inr hn)), latchHead_keeps s p tag r hr]
  have hlatch : s.markLatch p tag = (List.range 8).foldl (latchCounter p) (latchHead s p tag) := by
    refine if_neg ?_
    have huser := hraw ⟨.OBS_USER_EN, 0, 0⟩ (by simp [isLatch, named])
    change ¬ (State.flag ((List.range 8).foldl (latchCounter p) (latchHead s p tag)) OBS_USER_EN_EN = true)
    rw [State.flag, get_def, huser]
    exact ne_true_of_eq_false h
  rw [hlatch]
  refine ⟨?_, ?_, fun i hi => ?_, hraw, latchCounters_rest _ p 8⟩
  · rw [get_def, raw_latchCounters _ p 8 (by simp [named]), ← get_def, latchHead, get_put_ne _ _ _ _ _ _ _ _ (by simp),
      get_put_self _ _ _ _ _ (by decide)]
  · rw [get_def, raw_latchCounters _ p 8 (by simp [named]), ← get_def, latchHead, get_put_self _ _ _ _ _ (by decide)]
  · rw [get_latchCounters _ p hi, latchHead, get_put_ne _ _ _ _ _ _ _ _ (by simp), get_put_ne _ _ _ _ _ _ _ _ (by simp)]

/-- EVT_IO pulses: STROBE on an enabled output that is no input. -/
def pulses (s : State) (strobe : Bool) : Bool := strobe && s.flag OBS_EVT_STROBE && !s.flag OBS_EVT_TRIG

/-- The pin's account of a MARK: a pulse that begins counts, and every pulse ends 100 ns on. -/
def strobed (s : State) (strobe : Bool) : Obs :=
  { s.obs with
    strobe := if pulses s strobe = true ∧ s.obs.strobeEnd ≤ s.clk.el then s.obs.strobe + 1 else s.obs.strobe
    strobeEnd := if pulses s strobe = true then s.clk.el + 100 else s.obs.strobeEnd }

theorem markStrobe_eq (s : State) (strobe : Bool) : (if strobe then s.markStrobe else s) = { s with obs := strobed s strobe } := by
  cases strobe with
  | false => rfl
  | true =>
    simp only [if_true, State.markStrobe, strobed, pulses, Bool.true_and]
    split
    · next h => simp only [h, true_and, ← Nat.not_lt, ite_not]
    · next h => simp [h]

/-- A MARK's state before it retires: latched where LATCH is set, and the pin's account. -/
def marked (s : State) (p : Nat) (latch strobe : Bool) (tag : Nat) : State :=
  { (if latch then s.markLatch p tag else s) with obs := strobed (if latch then s.markLatch p tag else s) strobe }

theorem markCue_eq (s : State) (p : Nat) (latch strobe : Bool) (lenm1 tag src : Nat) :
    markCue s p (.mark latch false strobe lenm1 tag src) = some ((marked s p latch strobe tag).retireCue p) := by
  rw [marked, ← markStrobe_eq]
  rfl

/-- What a MARK changes before it retires. -/
structure Marked (s u : State) (p : Nat) (latch strobe : Bool) (tag : Nat) : Prop where
  taken : latch = true → u.get OBS_LATCHTAG_TAG p = tag % 2 ^ 32 ∧ u.get OBS_LATCHODO_CYCLES p = s.clk.odo % 2 ^ 64 ∧
    ∀ i, i < 8 → u.get OBS_LATCHCNT_COUNT p i = s.get OBS_CNT_COUNT (bayBlk p) i
  raw   : ∀ r, latch = false ∨ ¬ isLatch p r → u.raw r = s.raw r
  rest  : u = { s with regs := u.regs, obs := strobed s strobe }

theorem marked_marked (h : s.flag OBS_USER_EN_EN = false) (latch strobe : Bool) (tag : Nat) :
    Marked s (marked s p latch strobe tag) p latch strobe tag := by
  cases latch with
  | false => exact ⟨fun h => absurd h (by decide), fun _ _ => rfl, rfl⟩
  | true =>
    have hl := markLatch_latched (p := p) h tag
    refine ⟨fun _ => ⟨hl.tag, hl.odo, hl.counts⟩, fun r hr => hl.raw r (hr.resolve_left (by decide)), ?_⟩
    have hevt : (s.markLatch p tag).raw ⟨.OBS_EVT, 0, 0⟩ = s.raw ⟨.OBS_EVT, 0, 0⟩ := hl.raw _ (by simp [isLatch, named])
    have hpulses : pulses (s.markLatch p tag) strobe = pulses s strobe := by simp only [pulses, State.flag, get_def, hevt]
    have hobs : strobed (s.markLatch p tag) strobe = strobed s strobe := by
      simp only [strobed, hpulses]
      rw [hl.rest]
    rw [marked, if_pos rfl, hobs]
    conv_lhs => rw [hl.rest]

/-- Settles O11: the latch, then the strobe, then retirement. -/
theorem markLatchesAndStrobes : Obligations.MarkLatchesAndStrobes := by
  intro s lb latch strobe lenm1 tag src hq huser p out
  have hm := marked_marked (p := p) huser latch strobe tag
  have hexec := issueCue_of_issues hq (markCue_eq s p latch strobe lenm1 tag src)
  generalize marked s p latch strobe tag = u at hm hexec
  have hbay : ∀ q, u.bay q = s.bay q := fun q => by rw [hm.rest]; rfl
  have hret := retireCue_retired u p (by rw [hbay]; exact hq.plain.2)
  have hseq : SameSeqstat s u p := hm.raw _ (Or.inr (by simp [isLatch, named, seqstat]))
  generalize u.retireCue p = t at hexec hret
  have hget (f : Fld) (i : Nat) (hs : f.reg ≠ .CUE_SEQSTAT) (hc : f.reg ≠ .OBS_CNT) : t.get f p i = u.get f p i := by
    rw [get_def, hret.raw _ (reg_ne_of_name hs _ _ _ _) hc, get_def]
  have hobs : t.obs = { strobed s strobe with bwCount := t.obs.bwCount } := by
    conv_lhs => rw [hret.rest, hm.rest]
  refine ⟨_, hexec, fun hl => ?latch, by rw [hobs]; rfl, by rw [hobs]; rfl, by rw [hobs]; rfl, ?seq, ?own, fun q hq => ?bays,
    fun r hr hn hout => ?raw, ?rest⟩
  case latch =>
    obtain ⟨htag, hodo, hcounts⟩ := hm.taken hl
    rw [hget _ _ (by decide) (by decide), hget _ _ (by decide) (by decide)]
    exact ⟨htag, hodo, fun i hi => by rw [hget _ _ (by decide) (by decide), hcounts i hi]⟩
  case seq => rw [← hseq.get (f := CUE_SEQSTAT_PC) rfl]; exact seqAt_of_retired hret hseq
  case own => rw [← hbay]; exact bay_of_retired hret (by rw [hbay]; exact hq.plain.2)
  case bays => rw [hret.bays q hq, hbay]
  case raw => rw [hret.raw r hr hn, hm.raw r (hout.imp_right fun h => by simp only [isLatch]; tauto)]
  case rest =>
    conv_lhs => rw [hret.rest, hm.rest]
    rw [hobs]

end Sys2Proof.Proofs
end

section
/-! The end of a WALK (R126) and the bay crossbar's grants and ageing (R136, R137), which settles O15. -/

namespace Sys2Proof.Proofs

open Sys2Proof.Machine Sys2Proof.Laws Sys2Proof.Claims

variable {s t u : State} {p : Nat} {b : Bay} {x y : XReq} {a c : Nat × Nat × Bool} {ra rc : List (Nat × Nat × Bool)}

/-! ## The end of a WALK -/

/-- WALK number `o` leaves a FEED queue that it heads. -/
def leaveWalk (o : Nat) (x : Arr) : Arr :=
  match x.fq with
  | .walk _ _ _ o' :: rest => if o' = o then { x with fq := rest } else x
  | _ => x

theorem acc_leaveWalk (o : Nat) (x : Arr) : (leaveWalk o x).acc = x.acc := by
  unfold leaveWalk
  split
  · split <;> rfl
  · rfl

theorem map_fq_leaveWalk (o : Nat) (x : Arr) : (leaveWalk o x).fq.map unstarted = match x.fq with
    | .walk d u c o' :: r => if o' = o then r.map unstarted else unstarted (.walk d u c o') :: r.map unstarted
    | l => l.map unstarted := by
  unfold leaveWalk
  split
  · next d u c o' r h =>
    by_cases ho : o' = o
    · simp [ho]
    · simp [ho, h]
  · rfl

/-- WALK number `o` leaves every FEED queue that it heads. -/
def leaveWalks (o : Nat) (b : Bay) : Bay := [0, 1, 2].foldl (fun b a => b.modArr a (leaveWalk o)) b

theorem arr_leaveWalks (o : Nat) (b : Bay) (a : Nat) : (leaveWalks o b).arr a = if a ∈ [0, 1, 2] then leaveWalk o (b.arr a) else b.arr a :=
  arr_foldl_modArr _ (by decide) b a

theorem execWalkEnd_eq {lb o : Nat} (hrun : BayRuns s lb) (hdone : (s.bay (s.phys lb)).walkDone = some o)
    (hcid : (s.bay (s.phys lb)).cid.isSome = true) : exec (.walkEnd lb) s = .next ((s.modBay (s.phys lb) (leaveWalks o)).kick (s.phys lb)) := by
  obtain ⟨cid, hcid⟩ := Option.isSome_iff_exists.mp hcid
  change execWalkEnd lb s = _
  simp only [execWalkEnd, onBay_of_bayRuns hrun, hdone, State.shedHolds, hrun.2.2, hcid, Option.isNone_some, Bool.false_and, Bool.or_false,
    Bool.false_eq_true, if_false]
  rfl

/-- The oldest WALK ends. -/
theorem walk_ends {lb o : Nat} (hrun : BayRuns s lb) (hdone : (s.bay (s.phys lb)).walkDone = some o)
    (hcid : (s.bay (s.phys lb)).cid.isSome = true) :
    let p := s.phys lb
    ∃ t, exec (.walkEnd lb) s = .next t ∧
      (∀ a, a < 3 → feeds (t.bay p) a = match (s.bay p).arr a |>.fq with
        | .walk d u c x :: r => if x = o then r.map unstarted else unstarted (.walk d u c x) :: r.map unstarted
        | l => l.map unstarted) ∧
      (∀ a, ((t.bay p).arr a).acc = ((s.bay p).arr a).acc) ∧ (t.bay p).wings = (s.bay p).wings ∧
      OtherBaysKept s t p ∧ ∀ r, t.raw r = s.raw r := by
  intro p
  have hin : InBay s ((s.modBay p (leaveWalks o)).kick p) p := (inBay_modBay s p _).trans (kick_inBay _ p)
  have hstart := kick_started (s.modBay p (leaveWalks o)) p
  rw [bay_modBay_self] at hstart
  refine ⟨_, execWalkEnd_eq hrun hdone hcid, fun a ha => ?feeds, fun a => ?acc, ?wings, hin.otherBaysKept, hin.raw⟩
  case feeds =>
    rw [hstart.feeds_eq, feeds, arr_leaveWalks, if_pos (by simp; omega), leaveWalk]
    exact map_fq_leaveWalk o _
  case acc =>
    rw [(hstart.arr a).acc, arr_leaveWalks]
    split
    · exact acc_leaveWalk o _
    · rfl
  case wings => rw [hstart.own]; rfl

/-! ## Grants (R136, R137) -/

/-- No wings and no register changed. -/
structure KeepsWings (s t : State) : Prop where
  wings : ∀ q, (t.bay q).wings = (s.bay q).wings
  raw   : ∀ r, t.raw r = s.raw r

theorem KeepsWings.trans (h : KeepsWings s t) (k : KeepsWings t u) : KeepsWings s u :=
  ⟨fun q => (k.wings q).trans (h.wings q), fun r => (k.raw r).trans (h.raw r)⟩

theorem keepsWings_modBay (s : State) (p : Nat) {f : Bay → Bay} (hf : ∀ b, (f b).wings = b.wings) : KeepsWings s (s.modBay p f) := by
  refine ⟨fun q => ?_, fun _ => rfl⟩
  by_cases hq : q = p
  · rw [hq, bay_modBay_self, hf]
  · rw [bay_modBay_ne _ _ hq]

theorem wings_ask (b : Bay) (who : Nat × Nat) (ord : Nat) (lines : List (Nat × Nat × Bool)) : (b.ask who ord lines).wings = b.wings := by
  unfold Bay.ask
  split <;> rfl

theorem presentRow_keepsWings (s : State) (p : Nat) : KeepsWings s (s.presentRow p) := by
  unfold State.presentRow
  dsimp only
  split
  · exact ⟨fun _ => rfl, fun _ => rfl⟩
  · split
    · exact ⟨fun _ => rfl, fun _ => rfl⟩
    · have own rows who ord lines := keepsWings_modBay s p (f := fun b => Bay.ask { b with drows := rows } who ord lines) fun b => wings_ask _ _ _ _
      split
      · exact own _ _ _ _
      · exact (own _ _ _ _).trans (keepsWings_modBay _ _ fun b => wings_ask b _ _ _)

/-- Presenting accesses changes no wings and no register. -/
theorem present_keepsWings (s : State) (p : Nat) : KeepsWings s (s.present p) := by
  have hkick : KeepsWings s (s.kick p) := by
    refine ⟨fun q => ?_, (kick_inBay s p).raw⟩
    by_cases hq : q = p
    · rw [hq, (kick_started s p).own]
    · rw [(kick_inBay s p).bays q hq]
  exact (hkick.trans (keepsWings_modBay _ p fun b => by rw [(askMatch_asked b).own])).trans (presentRow_keepsWings _ p)

/-- Two requesters for one block, the first of them best: its access alone is granted. -/
theorem grantsOf_pair (hx : x.lines = a :: ra) (hy : y.lines = c :: rc) (hwho : x.who ≠ y.who) (hblock : accessBlock a = accessBlock c)
    (hafter : y.before x = false) : grantsOf [x, y] = [a] := by
  have heads : firstReqs [x, y] = [x, y] := by simp [firstReqs, hwho.symm]
  simp [grantsOf, heads, bestReq, hafter, hx, hy, hblock]

/-- The best requester's access is served and the other waits. -/
theorem served_pair (hx : x.lines = a :: ra) (hy : y.lines = c :: rc) (hapart : a.1 ≠ c.1 ∨ a.2.1 ≠ c.2.1) :
    x.served true [a] = { x with lines := ra, waited := 0, aged := false } ∧ y.served true [a] = { y with waited := y.waited + 1 } := by
  have hne : sameAccess c a = false := by
    simp only [sameAccess, Bool.and_eq_false_iff, beq_eq_false_iff_ne]
    exact hapart.imp Ne.symm Ne.symm
  have hself : sameAccess a a = true := by simp [sameAccess]
  simp [XReq.served, hx, hy, hne, hself]

/-- The requests of `b` after a cycle whose grants are those of `old`. -/
def afterGrants (old b : Bay) : Bay :=
  let xs := b.xreqs.map fun x => x.served (((firstReqs old.xreqs).map fun x => (x.who, x.ord)).contains (x.who, x.ord)) old.grants
  { b with
    xreqs := xs.filter fun x => !x.lines.isEmpty
    xdone := b.xdone ++ ((xs.filter fun x => x.note && x.lines.isEmpty).map fun x => (x.who, x.ord)) }

theorem afterGrants_pair (hb : b.xreqs = [x, y]) (hx : x.lines = a :: ra) (hy : y.lines = c :: rc) (hwho : x.who ≠ y.who)
    (hblock : accessBlock a = accessBlock c) (hapart : a.1 ≠ c.1 ∨ a.2.1 ≠ c.2.1) (hafter : y.before x = false) : afterGrants b b =
      { b with
        xreqs := (if ra = [] then [] else [{ x with lines := ra, waited := 0, aged := false }]) ++ [{ y with waited := y.waited + 1 }]
        xdone := b.xdone ++ (if x.note = true ∧ ra = [] then [(x.who, x.ord)] else []) } := by
  obtain ⟨hsx, hsy⟩ := served_pair hx hy hapart
  have heads : firstReqs [x, y] = [x, y] := by simp [firstReqs, hwho.symm]
  have grants : b.grants = [a] := by rw [Bay.grants, hb, grantsOf_pair hx hy hwho hblock hafter]
  simp only [afterGrants, grants, hb, heads, List.map_cons, List.map_nil, List.contains_cons, beq_self_eq_true, Bool.true_or, Bool.or_true, hsx, hsy]
  by_cases hra : ra = []
  · cases x.note <;> simp [hra, hy]
  · cases x.note <;> simp [hra, hy]

/-- A read of words without errors changes nothing (R135). -/
theorem wingsSeen_of_clean (h : (s.bay p).wingsErr = []) (words : List Nat) : s.wingsSeen p words = (s, {}) :=
  List.foldlRecOn (motive := fun y : State × EccSeen => y = (s, {})) words _ rfl fun y hy w _ => by simp [hy, h, markOf]

theorem wingsRead_of_clean (h : (s.bay p).wingsErr = []) (words : List Nat) : s.wingsRead p words = s := by
  rw [State.wingsRead, wingsSeen_of_clean h]
  rfl

/-- How many first requests a cycle leaves waiting. -/
def waitingHeads (b : Bay) : Nat := ((firstReqs b.xreqs).filter fun x => !(x.lines.head?.any fun a => b.grants.any (sameAccess a))).length

/-- The reads of a cycle's grants meet their words' errors (R135). -/
def readGrants (s : State) (p : Nat) (b : Bay) : State :=
  b.grants.foldl (fun s g => if b.readsAt g then s.wingsRead p (accessWords g) else s) s

theorem readGrants_of_clean (h : (s.bay p).wingsErr = []) (b : Bay) : readGrants s p b = s :=
  List.foldlRecOn (motive := fun v => v = s) _ _ rfl fun v hv g _ => by rw [hv, wingsRead_of_clean h, ite_self]

/-- One cycle of the crossbar of bay `p`, its accesses presented: the stalls count, the reads are met and the requests served. -/
def grantCycle (s : State) (p : Nat) : State :=
  (readGrants (s.count (bayBlk p) 0x09 0 (waitingHeads (s.bay p))) p (s.bay p)).modBay p (afterGrants (s.bay p))

theorem execCrossbarGrant_eq {lb : Nat} (hrun : BayRuns s lb) :
    exec (.crossbarGrant lb) s = .next (grantCycle (s.present (s.phys lb)) (s.phys lb)) :=
  onBay_of_bayRuns hrun fun p => grantCycle (s.present p) p

/-! ## Ageing (R137) -/

def ageRequests (b : Bay) : Bay := { b with xreqs := b.xreqs.map fun x => if 64 ≤ x.waited then { x with aged := true } else x }

theorem age_eq (x : XReq) : (if 64 ≤ x.waited then { x with aged := true } else x) = { x with aged := x.aged || decide (64 ≤ x.waited) } := by
  split
  · next h => simp [h]
  · next h => simp [h]

theorem execCrossbarAge_eq {lb : Nat} (hlb : lb < 64) (hclk : s.clocked = true) :
    exec (.crossbarAge lb) s = .next (s.modBay (s.phys lb) ageRequests) :=
  onBay_run s hlb hclk fun p => s.modBay p ageRequests

/-- Settles O15: the WALK leaves its queues and the units start; a grant serves one access; ageing marks requests. -/
theorem walkEndsAndCrossbarServes : Obligations.WalkEndsAndCrossbarServes := by
  refine ⟨fun s lb o hrun hdone hcid => walk_ends hrun hdone hcid, ?grant, ?age⟩
  case grant =>
    intro s lb x y a ra c rc hrun p u hreqs herr hx hy hwho hord hblock hapart hbefore hafter
    have hv := count_counts (s := u) (bayBlk p) 0x09 0 (waitingHeads (u.bay p))
    have hexec := execCrossbarGrant_eq hrun
    rw [grantCycle, readGrants_of_clean (by rw [hv.bay]; exact herr)] at hexec
    generalize u.count (bayBlk p) 0x09 0 (waitingHeads (u.bay p)) = v at hv hexec
    have hin := inBay_modBay v p (afterGrants (u.bay p))
    have hkeep := present_keepsWings s p
    have hbay : (v.modBay p (afterGrants (u.bay p))).bay p = afterGrants (u.bay p) (u.bay p) := by
      rw [bay_modBay_self, hv.bay]
    refine ⟨_, hexec, ?_, ?_, ?_, otherBaysKept_trans (otherBaysKept_of_counts p hv) hin.otherBaysKept, fun r hr => ?_⟩
    · rw [hbay, afterGrants_pair hreqs hx hy hwho hblock hapart hafter]
    · rw [hbay, afterGrants_pair hreqs hx hy hwho hblock hapart hafter]
    · rw [hbay, ← hkeep.wings]; rfl
    · rw [hin.raw, hv.raw r hr, hkeep.raw]
  case age =>
    intro s lb hlb hclk p
    have hin := inBay_modBay s p ageRequests
    refine ⟨_, execCrossbarAge_eq hlb hclk, ?_⟩
    change (((s.modBay p ageRequests).bay p).xreqs.length = _ ∧ _)
    rw [bay_modBay_self]
    refine ⟨List.length_map _, fun i x hx => ?_, rfl, hin.otherBaysKept, hin.raw⟩
    simp [ageRequests, hx, age_eq]

end Sys2Proof.Proofs
end

section
/-! A stream engine accepts a presented MOVE (R85, R117, R118, R158 to R162, R320), which settles O23. -/

namespace Sys2Proof.Proofs

open Sys2Proof.Machine Sys2Proof.Laws Sys2Proof.Claims

variable {s : State} {e p : Nat} {r : MoveReq} {d : Desc}

/-- The queue entry of an accepted MOVE whose near side is no revolve. -/
def acceptedMove (s : State) (p : Nat) (r : MoveReq) (d : Desc) : MoveOp :=
  { id := r.seq, lbay := (s.logical p).getD 0, phys := p, cid := (s.bay p).cid, pc := r.pc, descNo := r.desc, desc := some d, done := r.done,
    ring := none, ord := (s.bay p).ord, acc := s.accepted, copying := .plain }

/-- The MOVE joins the engine's queue and takes the next number of the acceptances. -/
def joinEngine (s : State) (e : Nat) (m : MoveOp) : State :=
  { s.setEng e { q := (s.eng e).q ++ [m] } with accepted := s.accepted + 1 }

/-- The bay's MOVE stands presented no more and is outstanding. -/
def takeMove (seq : Nat) (b : Bay) : Bay := { b with present := none, stall := none, moves := b.moves ++ [seq] }

/-- The generators that the MOVE steps move. -/
def stepMove (s : State) (e p : Nat) (r : MoveReq) (d : Desc) : State :=
  Issue.done { s := (joinEngine s e (acceptedMove s p r d)).modBay p (takeMove r.seq), steps := r.steps } p

/-- The near side's first location has the device address the statement names. -/
theorem nearLoc_device {m : MoveOp} (hring : m.ring = none) : (s.nearLoc m d 0).device = nearDevice d m.phys := by
  unfold State.nearLoc nearDevice
  split
  · next h => simp [h, Loc.device]
  · next op _ hop => rw [hring] at hop; exact absurd hop (by simp)
  · next h _ =>
    rw [if_neg h]
    rfl

/-- Sides that do not meet are copied plainly. -/
theorem copyingOf_plain {near : Loc}
    (h : ∀ f, d.farExtent p = some f → meets f (near.device, near.device + d.nearLen - 1) = false) : s.copyingOf p d near = some .plain := by
  unfold State.copyingOf
  dsimp only
  split
  · rfl
  · next f hf => simp [h f hf]

theorem acceptMove_eq (hdesc : s.acceptDesc p r = (s, .ok d)) (h2 : d.nkind ≠ 2)
    (hapart : ∀ f, d.farExtent p = some f → meets f (nearDevice d p, nearDevice d p + d.nearLen - 1) = false) :
    s.acceptMove e p r = ((stepMove s e p r d).retireCue p).count (bayBlk p) 0x0E 0 1 := by
  have hcopy (m : MoveOp) (hm : m.ring = none) (hp : m.phys = p) : s.copyingOf p d (s.nearLoc m d 0) = some .plain := by
    refine copyingOf_plain fun f hf => ?_
    rw [nearLoc_device hm, hp]
    exact hapart f hf
  simp only [State.acceptMove, hdesc, if_neg h2, hcopy]
  rfl

theorem execStreamAccept_eq (he : e < 104) (hclk : s.clocked = true) (hshed : s.shed = false) (hroom : (s.eng e).q.length < engineDepth e)
    (hpres : s.presented e = some (p, r)) (hheld : s.heldMove e = none) : exec (.streamAccept e) s = .next (s.acceptMove e p r) := by
  change execStreamAccept e s = _
  rw [execStreamAccept, onUnit_lt s he]
  simp [hclk, hshed, hpres, hheld, show ¬ engineDepth e ≤ (s.eng e).q.length by omega]

/-- Generators that step, step after all else: only their registers change. -/
theorem stepMove_raw {x : Reg} (h : r.steps = [] ∨ x.name ≠ .CUE_AGDIM ∨ x.unit ≠ p) : (stepMove s e p r d).raw x = s.raw x := by
  by_cases hx : isGenerator p x
  · have hsteps : r.steps = [] := h.resolve_right fun h => h.elim (fun h => h hx.1) fun h => h hx.2
    simp only [stepMove, Issue.done, hsteps, List.dedup_nil, List.foldl_nil]
    rfl
  · exact (done_stepsGenerators _ p).raw x hx

theorem stepMove_rest : stepMove s e p r d =
    { (joinEngine s e (acceptedMove s p r d)).modBay p (takeMove r.seq) with regs := (stepMove s e p r d).regs } :=
  (done_stepsGenerators _ p).rest

/-- Settles O23: the MOVE joins the queue, the generators step, the cue retires and the acceptance is counted. -/
theorem streamAcceptTakesTheMove : Obligations.StreamAcceptTakesTheMove := by
  intro s e p r d he hclk hshed hroom hpres hheld hs herr hdesc h2 hapart
  have hexec := execStreamAccept_eq he hclk hshed hroom hpres hheld
  rw [acceptMove_eq hdesc h2 hapart] at hexec
  have hraw {x : Reg} := stepMove_raw (s := s) (e := e) (p := p) (r := r) (d := d) (x := x)
  have hrest := stepMove_rest (s := s) (e := e) (p := p) (r := r) (d := d)
  generalize stepMove s e p r d = u at hexec hraw hrest
  have hown : u.bay p = takeMove r.seq (s.bay p) := by rw [hrest]; exact bay_modBay_self _ _ _
  have hret := retireCue_retired (s := u) p (by rw [hown]; exact hs)
  have hseq : SameSeqstat s u p := hraw (Or.inr (Or.inl (by simp [seqstat])))
  generalize u.retireCue p = v at hexec hret
  have hcount := count_counts (s := v) (bayBlk p) 0x0E 0 1
  generalize v.count (bayBlk p) 0x0E 0 1 = t at hexec hcount
  have heng (x : Nat) : t.eng x = (joinEngine s e (acceptedMove s p r d)).eng x := by rw [hcount.rest, hret.rest, hrest]; rfl
  refine ⟨t, acceptedMove s p r d, hexec, ?queue, rfl, rfl, rfl, rfl, rfl, rfl, rfl, rfl, ?accepted, ?own, ?seq, fun x hx => ?engines,
    fun x hx hn hgen => ?raw, ?mem⟩
  case queue => rw [heng]; exact congrArg Engine.q (eng_setEng_self s e _)
  case accepted => rw [hcount.rest, hret.rest, hrest]; rfl
  case own => rw [hcount.bay, bay_of_retired hret (by rw [hown]; exact hs), hown]; rfl
  case seq =>
    have h := seqAt_of_retired hret hseq
    rw [hseq.get (f := CUE_SEQSTAT_PC) rfl] at h
    have hget (f : Fld) (hf : f.reg ≠ .OBS_CNT) : t.get f p = v.get f p := hcount.get f p 0 hf
    exact ⟨(hget _ (by decide)).trans h.pc, (hget _ (by decide)).trans h.state, (hget _ (by decide)).trans h.depth⟩
  case engines => rw [heng]; exact eng_setEng_ne s _ hx
  case raw => rw [hcount.raw x hn, hret.raw x hx hn, hraw hgen]
  case mem => rw [hcount.rest, hret.rest, hrest]; rfl

end Sys2Proof.Proofs
end

section
/-! PROMPT issued to a free prompter (R124, R228 to R230, R232): the PROMPT joins the die's queue, its cue retires and its stage starts.
This settles O9. -/

namespace Sys2Proof.Proofs

open Sys2Proof.Machine Sys2Proof.Laws Sys2Proof.Claims

variable {s t u v w : State} {p d lb : Nat} {x : PromptOp} {i : Issue} {out out' : Reg → Prop}

/-! ## What PROMPTs leave -/

/-- What a change for logical bay `lb`'s PROMPT leaves, `p` the bay that serves it: the frame of a PROMPT's issue, but for the registers of
`out` and without the sequencer. -/
structure KeepsPrompt (s t : State) (p lb : Nat) (out : Reg → Prop) : Prop where
  wings  : ∀ q, (t.bay q).wings = (s.bay q).wings
  green  : ∀ e, (t.die e).green = (s.die e).green
  mem    : t.mem = s.mem ∧ t.memErr = s.memErr
  bays   : ∀ q, q ≠ p → t.bay q = s.bay q
  dies   : ∀ e, e ≠ lb / 8 → t.die e = s.die e
  others : ∀ l, l < 8 → l ≠ lb % 8 → t.ctx (8 * (lb / 8) + l) = s.ctx (8 * (lb / 8) + l)
  regs   : ∀ r, ¬ out r → r.name ≠ .OBS_CNT → t.raw r = s.raw r

theorem KeepsPrompt.trans (h : KeepsPrompt s t p lb out) (k : KeepsPrompt t u p lb out') :
    KeepsPrompt s u p lb fun r => out r ∨ out' r where
  wings q := (k.wings q).trans (h.wings q)
  green e := (k.green e).trans (h.green e)
  mem := ⟨k.mem.1.trans h.mem.1, k.mem.2.trans h.mem.2⟩
  bays q hq := (k.bays q hq).trans (h.bays q hq)
  dies e he := (k.dies e he).trans (h.dies e he)
  others l hl hne := (k.others l hl hne).trans (h.others l hl hne)
  regs r hr hn := (k.regs r (fun ho => hr (Or.inr ho)) hn).trans (h.regs r (fun ho => hr (Or.inl ho)) hn)

theorem KeepsPrompt.mono (h : KeepsPrompt s t p lb out) (k : ∀ r, out r → out' r) : KeepsPrompt s t p lb out' :=
  { h with regs := fun r hr => h.regs r fun ho => hr (k r ho) }

/-- The context of logical bay `lb` among its die's. -/
theorem ctx_eq_of_die {e l : Nat} (hl : l < 8) (h : (t.die e).ctx = (s.die e).ctx) : t.ctx (8 * e + l) = s.ctx (8 * e + l) := by
  rw [State.ctx, State.ctx, show (8 * e + l) / 8 = e by omega, h]

/-- A change of registers and of the commands. -/
theorem keepsPrompt_of_regs (hraw : ∀ r, ¬ out r → r.name ≠ .OBS_CNT → t.raw r = s.raw r)
    (hrest : t = { s with regs := t.regs, ro := t.ro }) : KeepsPrompt s t p lb out := by
  have hbay q : t.bay q = s.bay q := by rw [hrest]; rfl
  have hdie e : t.die e = s.die e := by rw [hrest]; rfl
  refine ⟨fun q => by rw [hbay], fun e => by rw [hdie], ⟨?_, ?_⟩, fun q _ => hbay q, fun e _ => hdie e,
    fun l hl _ => ctx_eq_of_die hl (by rw [hdie]), hraw⟩ <;> rw [hrest]

theorem keepsPrompt_put (s : State) (f : Fld) (n l i : Nat) : KeepsPrompt s (s.put f n l i) p lb (· = ⟨f.reg, l, i⟩) :=
  keepsPrompt_of_regs (fun _ hr _ => raw_put_ne s f n l i hr) rfl

/-- A change inside one bay that leaves its wings. -/
theorem keepsPrompt_of_inBay (h : InBay s t p) (hw : (t.bay p).wings = (s.bay p).wings) : KeepsPrompt s t p lb fun _ => False := by
  have hdie e : t.die e = s.die e := by rw [h.rest]; rfl
  refine ⟨fun q => ?_, fun e => by rw [hdie], ⟨?_, ?_⟩, h.bays, fun e _ => hdie e,
    fun l hl _ => ctx_eq_of_die hl (by rw [hdie]), fun r _ _ => h.raw r⟩
  · by_cases hq : q = p
    · rw [hq, hw]
    · rw [h.bays q hq]
  · rw [h.rest]
  · rw [h.rest]

/-- A change of the PROMPTs of the die, or of what neither bays nor contexts nor green-room bytes show. -/
theorem keepsPrompt_modDie (s : State) {f : Die → Die} (hg : (f (s.die (lb / 8))).green = (s.die (lb / 8)).green)
    (hc : ∀ l, l ≠ lb % 8 → Tab.get {} (f (s.die (lb / 8))).ctx l = Tab.get {} (s.die (lb / 8)).ctx l) :
    KeepsPrompt s (s.modDie (lb / 8) f) p lb fun _ => False where
  wings _ := rfl
  green e := by
    by_cases he : e = lb / 8
    · rw [he, die_modDie_self, hg]
    · rw [die_modDie_ne _ _ he]
  mem := ⟨rfl, rfl⟩
  bays _ _ := rfl
  dies e he := die_modDie_ne _ _ he
  others l hl hne := by
    rw [State.ctx, State.ctx, show (8 * (lb / 8) + l) / 8 = lb / 8 by omega, show (8 * (lb / 8) + l) % 8 = l by omega, die_modDie_self, hc l hne]
  regs _ _ _ := rfl

theorem keepsPrompt_setCtx (s : State) (c : PCtx) : KeepsPrompt s (s.setCtx lb c) p lb fun _ => False :=
  keepsPrompt_modDie s rfl fun _ hl => get_set_ne _ _ _ hl

theorem ctx_setCtx_self (s : State) (lb : Nat) (c : PCtx) : (s.setCtx lb c).ctx lb = c := by
  rw [State.ctx, State.setCtx, die_modDie_self]
  exact get_set_self _ _ _ _

theorem prompts_setCtx (s : State) (lb d : Nat) (c : PCtx) : ((s.setCtx lb c).die d).prompts = (s.die d).prompts := by
  by_cases hd : d = lb / 8
  · rw [hd, State.setCtx, die_modDie_self]
  · rw [State.setCtx, die_modDie_ne _ _ hd]

theorem greenErr_setCtx (s : State) (lb d : Nat) (c : PCtx) : ((s.setCtx lb c).die d).greenErr = (s.die d).greenErr := by
  by_cases hd : d = lb / 8
  · rw [hd, State.setCtx, die_modDie_self]
  · rw [State.setCtx, die_modDie_ne _ _ hd]

/-! ## Saturations alone (R45) -/

theorem bump_zero (s : State) (f : Fld) (n i : Nat) : s.bump f 0 n i = s := rfl

theorem raw_numCount_sat (s : State) (p n : Nat) {r : Reg} (hr : r ≠ ⟨.CUE_NUMSAT, p, 0⟩) : (s.numCount p n 0 0).raw r = s.raw r := by
  have hbump := raw_bump_ne s CUE_NUMSAT_COUNT n p 0 hr
  unfold State.numCount
  rw [bump_zero, bump_zero]
  split
  · exact hbump
  · rw [bayFlag_eq]
    exact hbump

theorem keepsPrompt_numCount (s : State) (n : Nat) : KeepsPrompt s (s.numCount p n 0 0) p lb (· = ⟨.CUE_NUMSAT, p, 0⟩) :=
  keepsPrompt_of_regs (fun _ hr _ => raw_numCount_sat s p n hr) (numCount_numCounted s p n 0 0).rest

/-! ## The green room's and the wings' bytes a PROMPT reads -/

/-- Green-room words without errors are read without effect (R139). -/
theorem promptGreen_of_clean (h : (s.die d).greenErr = []) (p o n : Nat) : s.promptGreen p d o n = s := by
  simp [State.promptGreen, State.greenRead, h, markOf, bump_zero]

theorem greenByte_congr (hg : (t.die d).green = (s.die d).green) (he : (t.die d).greenErr = (s.die d).greenErr) (o : Nat) :
    t.greenByte d o = s.greenByte d o := by rw [State.greenByte, State.greenByte, hg, he]

theorem greenBytes_congr (h : ∀ o, t.greenByte d o = s.greenByte d o) (o n : Nat) : t.greenBytes d o n = s.greenBytes d o n := by
  induction n generalizing o with
  | zero => rfl
  | succ n ih => rw [State.greenBytes, State.greenBytes, h, ih]

theorem headerAt_congr (h : ∀ o, t.greenByte d o = s.greenByte d o) (pred : Nat) : headerAt t d pred = headerAt s d pred := by
  simp only [headerAt, greenBytes_congr h]

theorem byte_congr {b c : Bay} (hw : c.wings = b.wings) (he : c.wingsErr = b.wingsErr) (o : Nat) : c.byte o = b.byte o := by
  rw [Bay.byte, Bay.byte, hw, he]

theorem bytes_congr {b c : Bay} (h : ∀ o, c.byte o = b.byte o) (o n : Nat) : c.bytes o n = b.bytes o n := by
  induction n generalizing o with
  | zero => rfl
  | succ n ih => rw [Bay.bytes, Bay.bytes, h, ih]

theorem entries_congr {b c : Bay} (h : ∀ o, c.byte o = b.byte o) (o n : Nat) : c.entries o n = b.entries o n := by
  simp only [Bay.entries, bytes_congr h]

/-- The sums depend on the rows and the tiles that they are formed of. -/
theorem promptSums_congr {q x : PromptOp} (hb : ∀ o, (t.bay p).byte o = (s.bay p).byte o) (hg : ∀ o, t.greenByte d o = s.greenByte d o)
    (hn : x.ntile = q.ntile) (hs : x.src = q.src) (hp : x.pred = q.pred) (qn : Nat) (sums : Tab W32) :
    t.promptSums p d x qn sums = s.promptSums p d q qn sums := by
  simp only [State.promptSums, State.tileAt, hb, hg, hn, hs, hp]

/-! ## The prompter starts its only PROMPT -/

theorem promptStart_of_single (h : (s.die d).prompts = [x]) : s.promptStart d = s.promptBegin d := by
  simp only [State.promptStart, h, List.length_singleton, State.promptGo, ite_self]

theorem promptStart_of_empty (h : (s.die d).prompts = []) : s.promptStart d = s := by
  rw [State.promptStart, h]
  rfl

/-- The head PROMPT of a die is marked as executing. -/
def markHead (x : PromptOp) (y : Die) : Die := { y with prompts := [{ x with started := true }] }

/-- The PROMPT executes: it is marked, and the status names it (R124). -/
def markStarted (s : State) (d : Nat) (x : PromptOp) : State :=
  (((s.modDie d (markHead x)).put PRM_STAT_BUSY 1 d).put PRM_STAT_BAY (x.lbay % 8) d).put PRM_STAT_STG x.stg d

/-- The stage of a PROMPT that starts. -/
def startStage (s : State) (p d : Nat) (x : PromptOp) : State :=
  match x.stg with
  | 0 => s.startFirst p d x
  | 1 => s.startNext p d x
  | _ => s.startSelect p d x

theorem promptBegin_starts (h : (s.die d).prompts = [x]) (hnew : x.started = false) (hcol : (s.die d).colMove = none) (hshed : s.shed = false)
    (hgo : x.stg = 2 → (s.bay (s.phys x.lbay)).turn x.dst x.ord = .go) (hopen : s.greenHeld (s.phys x.lbay) d = false)
    (hport : s.listPort (s.phys x.lbay) x = (w, true)) : s.promptBegin d = startStage (markStarted w d x) (s.phys x.lbay) d x := by
  have hwait : (x.stg == 2 && (s.ctx x.lbay).listIn && (s.bay (s.phys x.lbay)).turn x.dst x.ord == .stall) = false := by
    by_cases h2 : x.stg = 2
    · simp [hgo h2]
    · simp [h2]
  simp only [State.promptBegin, h, hnew, hcol, hshed, hwait, hopen, hport, Option.isSome_none, Bool.or_false, Bool.false_eq_true, if_false]
  rfl

theorem listPort_of_product (h : x.stg ≠ 2) : s.listPort p x = (s, true) := if_neg fun hx => h hx.1

/-- What the start of a PROMPT shows: the marked PROMPT, the status, and no context changed. -/
structure PromptStarted (t : State) (d : Nat) (x : PromptOp) : Prop where
  prompts : (t.die d).prompts = [{ x with started := true }]
  busy    : t.get PRM_STAT_BUSY d = 1
  bay     : t.get PRM_STAT_BAY d = x.lbay % 8
  stg     : t.get PRM_STAT_STG d = x.stg

theorem markStarted_started (s : State) (h : x.stg < 4) : PromptStarted (markStarted s d x) d x := by
  have later (s : State) (f g : Fld) (n : Nat) (hf : f.lo + f.w ≤ 64) (e : g.reg = f.reg) (hd : g.lo + g.w ≤ f.lo ∨ f.lo + f.w ≤ g.lo) :
      (s.put f n d).get g d = s.get g d := get_put_disjoint s f g n d 0 hf e hd
  have own (s : State) (f : Fld) (n : Nat) (hf : f.lo + f.w ≤ 64) : (s.put f n d).get f d = n % 2 ^ f.w := get_put_self s f n d 0 hf
  unfold markStarted
  refine ⟨by rw [die_put, die_put, die_put, die_modDie_self, markHead], ?_, ?_, ?_⟩
  · rw [later _ PRM_STAT_STG PRM_STAT_BUSY _ (by decide) rfl (by decide), later _ PRM_STAT_BAY PRM_STAT_BUSY _ (by decide) rfl (by decide),
      own _ _ _ (by decide)]
    rfl
  · rw [later _ PRM_STAT_STG PRM_STAT_BAY _ (by decide) rfl (by decide), own _ _ _ (by decide)]
    exact Nat.mod_eq_of_lt (Nat.mod_lt _ (by decide))
  · rw [own _ _ _ (by decide)]
    exact Nat.mod_eq_of_lt h

theorem markStarted_keeps (s : State) (x : PromptOp) :
    KeepsPrompt s (markStarted s (lb / 8) x) p lb (· = ⟨.PRM_STAT, lb / 8, 0⟩) :=
  ((((keepsPrompt_modDie s rfl fun _ _ => rfl).trans (keepsPrompt_put _ PRM_STAT_BUSY 1 _ 0)).trans
    (keepsPrompt_put _ PRM_STAT_BAY _ _ 0)).trans (keepsPrompt_put _ PRM_STAT_STG _ _ 0)).mono fun r hr => by
      simpa [or_assoc] using hr

/-! ## The PROMPT joins the queue and its cue retires -/

theorem keepsPrompt_of_cueFrame (h : CueFrame s t p out) : KeepsPrompt s t p lb out := by
  have hdie e : t.die e = s.die e := by rw [h.rest]; rfl
  refine ⟨fun q => ?_, fun e => by rw [hdie], ⟨?_, ?_⟩, h.bays, fun e _ => hdie e, fun l hl _ => ctx_eq_of_die hl (by rw [hdie]), h.regs⟩
  · by_cases hq : q = p
    · rw [hq, h.wings]
    · rw [h.bays q hq]
  · rw [h.rest]
  · rw [h.rest]

def queuePrompt (x : PromptOp) (y : Die) : Die := { y with prompts := y.prompts ++ [x] }

/-- The bay presents what the PROMPT reads of its wings. -/
def askPrompt (ord : Nat) (lines : List (Nat × Nat × Bool)) (b : Bay) : Bay := b.ask whoPrompt ord lines

theorem askPrompt_own (ord : Nat) (lines : List (Nat × Nat × Bool)) (b : Bay) :
    askPrompt ord lines b = { b with xreqs := (askPrompt ord lines b).xreqs } := by
  unfold askPrompt Bay.ask
  split <;> rfl

/-- The PROMPT has joined the queue, before its cue retires. -/
def joinPrompter (i : Issue) (p d : Nat) (x : PromptOp) (lines : List (Nat × Nat × Bool)) : State :=
  ((i.done p).modDie d (queuePrompt x)).modBay p (askPrompt x.ord lines)

/-- A PROMPT has joined its die's empty queue and its cue has retired. -/
structure PromptQueued (s v : State) (p lb : Nat) (x : PromptOp) (lines : List (Nat × Nat × Bool)) : Prop where
  die   : v.die (lb / 8) = { s.die (lb / 8) with prompts := [x] }
  own   : ∃ rings, v.bay p = retired (askPrompt x.ord lines { s.bay p with rings := rings })
  curt  : v.curt = s.curt
  seq   : SeqAt s v p (s.get CUE_SEQSTAT_PC p + 1)
  keeps : KeepsPrompt s v p lb fun r => r = seqstat p ∨ isGenerator p r

theorem joinPrompter_queued {lines : List (Nat × Nat × Bool)} (hr : Resolves s p i) (hempty : (s.die (lb / 8)).prompts = [])
    (hs : (s.bay p).samples = []) : PromptQueued s ((joinPrompter i p (lb / 8) x lines).retireCue p) p lb x lines := by
  have hdone := done_cueFrame hr
  have hdie e : (i.done p).die e = s.die e := by rw [hdone.rest]; rfl
  have hbay : (joinPrompter i p (lb / 8) x lines).bay p = askPrompt x.ord lines { s.bay p with rings := (i.s.bay p).rings } := by
    rw [joinPrompter, bay_modBay_self]
    exact congrArg _ (done_own hr)
  have hret := retireCue_retired (s := joinPrompter i p (lb / 8) x lines) p (by rw [hbay, askPrompt_own]; exact hs)
  have hseq : SameSeqstat s (joinPrompter i p (lb / 8) x lines) p := hdone.regs _ (by simp [isGenerator, seqstat]) (seqstat_name_ne p)
  have hjoin : KeepsPrompt s (joinPrompter i p (lb / 8) x lines) p lb fun r => isGenerator p r := by
    refine (((keepsPrompt_of_cueFrame hdone).trans (keepsPrompt_modDie _ rfl fun _ _ => rfl)).trans
      (keepsPrompt_of_inBay (inBay_modBay _ p _) ?_)).mono (by simp)
    rw [bay_modBay_self, askPrompt_own]
  refine ⟨?die, ⟨(i.s.bay p).rings, ?own⟩, ?curt, ?seq,
    (hjoin.trans (keepsPrompt_of_cueFrame (cueFrame_of_retired hret))).mono fun r => Or.symm⟩
  case die =>
    have h : ((joinPrompter i p (lb / 8) x lines).retireCue p).die (lb / 8) = queuePrompt x ((i.done p).die (lb / 8)) := by
      rw [hret.rest]
      exact die_modDie_self _ _ _
    rw [h, hdie, queuePrompt, hempty]
    rfl
  case own => rw [bay_of_retired hret (by rw [hbay, askPrompt_own]; exact hs), hbay]
  case curt =>
    have h : (joinPrompter i p (lb / 8) x lines).curt = s.curt := by
      change (i.done p).curt = s.curt
      rw [hdone.rest]
    rw [← h, hret.rest]
  case seq =>
    rw [← hseq.get (f := CUE_SEQSTAT_PC) rfl]
    exact seqAt_of_retired hret hseq

theorem PromptQueued.raw {lines : List (Nat × Nat × Bool)} (h : PromptQueued s v p lb x lines) {r : Reg}
    (hr : r.name ≠ .CUE_SEQSTAT ∧ r.name ≠ .CUE_AGDIM ∧ r.name ≠ .OBS_CNT) : v.raw r = s.raw r := by
  obtain ⟨hseq, hgen, hcnt⟩ := hr
  refine h.keeps.regs r (fun ho => ?_) hcnt
  exact ho.elim (fun e => hseq (by rw [e]; rfl)) fun g => hgen g.1

theorem PromptQueued.phys {lines : List (Nat × Nat × Bool)} (h : PromptQueued s v p lb x lines) (l : Nat) : v.phys l = s.phys l :=
  phys_of_raw (fun r hr => h.raw (by rw [hr]; decide)) l

theorem PromptQueued.shed {lines : List (Nat × Nat × Bool)} (h : PromptQueued s v p lb x lines) : v.shed = s.shed := by
  rw [State.shed, State.shed, State.flag, State.flag, get_def, get_def, h.raw (by decide)]

theorem PromptQueued.greenHeld {lines : List (Nat × Nat × Bool)} (h : PromptQueued s v p lb x lines) (q d : Nat) :
    v.greenHeld q d = s.greenHeld q d := by
  have hon : v.bayOn q = s.bayOn q := by rw [State.bayOn, State.bayOn, get_def, get_def, h.raw (by simp)]
  simp only [State.greenHeld, State.covers, State.logical, h.curt, h.phys, hon]

theorem PromptQueued.ctx {lines : List (Nat × Nat × Bool)} (h : PromptQueued s v p lb x lines) : v.ctx lb = s.ctx lb := by
  rw [State.ctx, State.ctx, h.die]

theorem PromptQueued.greenByte {lines : List (Nat × Nat × Bool)} (h : PromptQueued s v p lb x lines) (o : Nat) :
    v.greenByte (lb / 8) o = s.greenByte (lb / 8) o := greenByte_congr (by rw [h.die]) (by rw [h.die]) o

theorem PromptQueued.wingsErr {lines : List (Nat × Nat × Bool)} (h : PromptQueued s v p lb x lines) :
    (v.bay p).wingsErr = (s.bay p).wingsErr := by
  obtain ⟨rings, h⟩ := h.own
  rw [h, askPrompt_own]
  rfl

theorem PromptQueued.byte {lines : List (Nat × Nat × Bool)} (h : PromptQueued s v p lb x lines) (o : Nat) :
    (v.bay p).byte o = (s.bay p).byte o := byte_congr (h.keeps.wings p) h.wingsErr o

/-! ## What a starting stage finds -/

/-- The registers that a PROMPT may change before its stage runs. -/
def startReg (p lb : Nat) (r : Reg) : Prop := r = seqstat p ∨ isGenerator p r ∨ r = ⟨.PRM_STAT, lb / 8, 0⟩

/-- A PROMPT `x` that has just been marked as executing: the bytes, the context and the frame are those of `s`, where it was issued. -/
structure PromptReady (s m : State) (p lb : Nat) (x : PromptOp) : Prop where
  ctx       : m.ctx lb = s.ctx lb
  greenErr  : (m.die (lb / 8)).greenErr = (s.die (lb / 8)).greenErr
  byte      : ∀ o, (m.bay p).byte o = (s.bay p).byte o
  wingsErr  : (m.bay p).wingsErr = (s.bay p).wingsErr
  started   : PromptStarted m (lb / 8) x
  keeps     : KeepsPrompt s m p lb (startReg p lb)
  seq       : SeqAt s m p (s.get CUE_SEQSTAT_PC p + 1)

theorem seqAt_of_same {pc : Nat} (h : SeqAt s t p pc) (k : SameSeqstat t u p) : SeqAt s u p pc :=
  ⟨(k.get rfl).trans h.pc, (k.get rfl).trans h.state, (k.get rfl).trans h.depth⟩

theorem die_markStarted (s : State) (d : Nat) (x : PromptOp) : (markStarted s d x).die d = markHead x (s.die d) := by
  rw [markStarted, die_put, die_put, die_put, die_modDie_self]

theorem bay_markStarted (s : State) (d : Nat) (x : PromptOp) (q : Nat) : (markStarted s d x).bay q = s.bay q := by
  rw [markStarted, bay_put, bay_put, bay_put, bay_modDie]

theorem promptReady_of_queued {lines : List (Nat × Nat × Bool)} (h : PromptQueued s v p lb x lines) (hin : InBay v w p)
    (hw : (w.bay p).wings = (v.bay p).wings) (he : (w.bay p).wingsErr = (v.bay p).wingsErr) (hstg : x.stg < 4) :
    PromptReady s (markStarted w (lb / 8) x) p lb x := by
  have hdie : w.die (lb / 8) = { s.die (lb / 8) with prompts := [x] } := by rw [← h.die, hin.rest]; rfl
  have hmark : (markStarted w (lb / 8) x).die (lb / 8) = markHead x { s.die (lb / 8) with prompts := [x] } := by rw [die_markStarted, hdie]
  have hseq : SameSeqstat v (markStarted w (lb / 8) x) p := by
    refine ((markStarted_keeps w x).regs (lb := lb) (p := p) _ ?_ (seqstat_name_ne p)).trans (hin.raw _)
    simp [seqstat]
  refine ⟨by rw [State.ctx, State.ctx, hmark, markHead], by rw [hmark, markHead], fun o => ?_, by rw [bay_markStarted, he, h.wingsErr],
    markStarted_started w hstg,
    ((h.keeps.trans (keepsPrompt_of_inBay hin hw)).trans (markStarted_keeps w x)).mono fun r hr => ?_, seqAt_of_same h.seq hseq⟩
  · rw [bay_markStarted, byte_congr hw he, h.byte]
  · simpa [startReg, or_assoc] using hr

theorem PromptReady.greenByte {m : State} (h : PromptReady s m p lb x) (o : Nat) : m.greenByte (lb / 8) o = s.greenByte (lb / 8) o :=
  greenByte_congr (h.keeps.green _) h.greenErr o

/-- The sums formed where the PROMPT starts are those of where it was issued. -/
theorem PromptReady.sums {m : State} (h : PromptReady s m p lb x) (qn : Nat) (sums : Tab W32) :
    m.promptSums p (lb / 8) x qn sums = s.promptSums p (lb / 8) { x with started := true } qn sums :=
  promptSums_congr h.byte h.greenByte rfl rfl rfl qn sums

/-- The frame of a PROMPT whose stage has run. -/
theorem promptFrame_of_ready {m : State} (h : PromptReady s m p lb x)
    (k : KeepsPrompt m t p lb fun r => r = ⟨.PRM_STAT, lb / 8, 0⟩ ∨ r = ⟨.PRM_CTX, lb / 8, lb % 8⟩ ∨ r = ⟨.CUE_NUMSAT, p, 0⟩) :
    PromptFrame s t p lb := by
  have hk := h.keeps.trans k
  have hseq : SameSeqstat m t p := k.regs _ (by simp [seqstat]) (seqstat_name_ne p)
  refine ⟨hk.wings, hk.green, hk.mem, hk.bays, hk.dies, hk.others, fun r hs hg hp hc hn => hk.regs r ?_, seqAt_of_same h.seq hseq⟩
  rintro ((rfl | hr | rfl) | rfl | rfl | rfl)
  · exact hs rfl
  · exact hg hr
  · exact hp rfl
  · exact hp rfl
  · exact hc rfl
  · exact hn rfl

/-- The start's marks stand after a stage that leaves the die's PROMPTs and the status. -/
theorem PromptStarted.of_same (h : PromptStarted s d x) (hp : (t.die d).prompts = (s.die d).prompts)
    (hr : t.raw ⟨.PRM_STAT, d, 0⟩ = s.raw ⟨.PRM_STAT, d, 0⟩) : PromptStarted t d x := by
  have hget (f : Fld) (hf : f.reg = .PRM_STAT) : t.get f d = s.get f d := by rw [get_def, get_def, hf, hr]
  exact ⟨hp.trans h.prompts, (hget _ rfl).trans h.busy, (hget _ rfl).trans h.bay, (hget _ rfl).trans h.stg⟩

/-! ## FIRST and NEXT form their sums (R228, R229) -/

/-- A header's fields, and so its checks, are its words' alone. -/
theorem field_of_header {c c' : PCtx} (h : c.header = c'.header) : c.f = c'.f := by
  funext i hi lo
  rw [PCtx.f, PCtx.f, h]

theorem uses_of_header {c c' : PCtx} (h : c.header = c'.header) : c.uses = c'.uses := by
  funext n
  simp only [PCtx.uses, PCtx.fop, PCtx.fmt, PCtx.sp, field_of_header h]

theorem q_of_header {c c' : PCtx} (h : c.header = c'.header) : c.q = c'.q := by simp only [PCtx.q, field_of_header h]

theorem bad_of_header {c c' : PCtx} (h : c.header = c'.header) : c.bad = c'.bad := by
  simp only [PCtx.bad, PCtx.pol, PCtx.audk, PCtx.mthr, PCtx.fop, PCtx.fmt, PCtx.afmt, PCtx.nout, PCtx.kd, PCtx.sp, PCtx.fcols, PCtx.faud,
    PCtx.base, PCtx.stride, PCtx.dst, PCtx.planes, uses_of_header h, field_of_header h]
  rfl

theorem misaligned_of_header {c c' : PCtx} (h : c.header = c'.header) : c.misaligned = c'.misaligned := by
  simp only [PCtx.misaligned, PCtx.base, PCtx.stride, uses_of_header h, field_of_header h]

/-- Without pending audits the next FIRST evaluates none (R234). -/
theorem audit_of_none (h : (s.ctx lb).audits = []) : s.audit lb = s.setCtx lb (s.ctx lb) := by
  have hctx : { (s.ctx lb) with audits := [] } = s.ctx lb := by rw [← h]
  simp [State.audit, State.auditIf, h, hctx]

/-- The context that a FIRST loads: its header, and the rest of what the bay had. -/
def loadedCtx (s : State) (lb pred : Nat) : PCtx := { (s.ctx lb) with header := headerAt s (lb / 8) pred, valid := true }

/-- FIRST's products replace the sums, and its context stands at the first neuron. -/
def formFirst (s : State) (p lb : Nat) (x : PromptOp) (c : PCtx) : State :=
  let r := s.promptSums p (lb / 8) x c.q []
  (((s.setCtx lb { c with sums := r.1 }).put PRM_CTX_NEXTN 0 (lb / 8) (lb % 8)).put PRM_CTX_VALID 1 (lb / 8) (lb % 8)).numCount p r.2 0 0

/-- NEXT's products are added to the sums. -/
def formNext (s : State) (p lb : Nat) (x : PromptOp) (c : PCtx) : State :=
  let r := s.promptSums p (lb / 8) x c.q c.sums
  (s.setCtx lb { c with sums := r.1 }).numCount p r.2 0 0

theorem startFirst_eq (hx : x.lbay = lb) (haud : (s.ctx lb).audits = []) (herr : (s.die (lb / 8)).greenErr = [])
    (hbad : (loadedCtx s lb x.pred).bad = false) (hmis : (loadedCtx s lb x.pred).misaligned = false)
    (hq : x.ntile % (loadedCtx s lb x.pred).q = 0) :
    s.startFirst p (lb / 8) x = formFirst (s.setCtx lb (s.ctx lb)) p lb x (loadedCtx s lb x.pred) := by
  have hload : loadedCtx (s.setCtx lb (s.ctx lb)) lb x.pred = loadedCtx s lb x.pred := by
    have hg o : (s.setCtx lb (s.ctx lb)).greenByte (lb / 8) o = s.greenByte (lb / 8) o :=
      greenByte_congr ((keepsPrompt_setCtx (p := p) s _).green _) (greenErr_setCtx s lb _ _) o
    rw [loadedCtx, loadedCtx, ctx_setCtx_self, headerAt_congr hg]
  have hclean : ((s.setCtx lb (s.ctx lb)).die (lb / 8)).greenErr = [] := (greenErr_setCtx s lb _ _).trans herr
  obtain rfl := hx
  rw [State.startFirst, audit_of_none haud]
  generalize s.setCtx x.lbay (s.ctx x.lbay) = a at hload hclean
  change (if (loadedCtx a x.lbay x.pred).bad = true then _ else if (loadedCtx a x.lbay x.pred).misaligned = true then _
    else if x.ntile % (loadedCtx a x.lbay x.pred).q ≠ 0 then _ else _) = _
  rw [hload, if_neg (by simp [hbad]), if_neg (by simp [hmis]), if_neg (by simp [hq]), ← hload]
  simp only [promptGreen_of_clean hclean]
  rfl

theorem startNext_eq (hx : x.lbay = lb) (herr : (s.die (lb / 8)).greenErr = []) (hvalid : (s.ctx lb).valid = true)
    (hq : x.ntile % (s.ctx lb).q = 0) : s.startNext p (lb / 8) x = formNext s p lb x (s.ctx lb) := by
  simp [State.startNext, formNext, hx, hvalid, hq, promptGreen_of_clean herr]

theorem die_numCount (s : State) (p n d : Nat) : (s.numCount p n 0 0).die d = s.die d := by
  rw [(numCount_numCounted s p n 0 0).rest]
  rfl

/-- The registers that forming sums changes. -/
def sumsReg (p lb : Nat) (r : Reg) : Prop := r = ⟨.PRM_CTX, lb / 8, lb % 8⟩ ∨ r = ⟨.CUE_NUMSAT, p, 0⟩

/-- Sums stand formed in the bay's context `c`, `n` of them saturated. -/
structure SumsFormed (s t : State) (p lb : Nat) (c : PCtx) (n : Nat) : Prop where
  ctx     : t.ctx lb = c
  prompts : (t.die (lb / 8)).prompts = (s.die (lb / 8)).prompts
  sat     : t.get CUE_NUMSAT_COUNT p = min (s.get CUE_NUMSAT_COUNT p + n) (2 ^ 32 - 1)
  keeps   : KeepsPrompt s t p lb (sumsReg p lb)

/-- Registers of the context put, the context set and the saturations counted. -/
theorem sumsFormed_of_put (c : PCtx) (n : Nat) (hrest : u = { s.setCtx lb c with regs := u.regs })
    (hraw : ∀ r, r ≠ ⟨.PRM_CTX, lb / 8, lb % 8⟩ → u.raw r = s.raw r) : SumsFormed s (u.numCount p n 0 0) p lb c n := by
  have hd e : u.die e = (s.setCtx lb c).die e := by rw [hrest]; rfl
  have hset : KeepsPrompt (s.setCtx lb c) u p lb (· = ⟨.PRM_CTX, lb / 8, lb % 8⟩) :=
    keepsPrompt_of_regs (fun r hr _ => hraw r hr) (by rw [hrest])
  refine ⟨?_, ?_, ?_, (((keepsPrompt_setCtx s c).trans hset).trans (keepsPrompt_numCount u n)).mono fun r hr => ?_⟩
  · rw [State.ctx, die_numCount, hd, ← State.ctx, ctx_setCtx_self]
  · rw [die_numCount, hd, prompts_setCtx]
  · rw [(numCount_numCounted u p n 0 0).sat, get_def, hraw _ (reg_ne_of_name (by decide) _ _ _ _), ← get_def]
    rfl
  · simpa [sumsReg] using hr

theorem formNext_formed (s : State) (p lb : Nat) (x : PromptOp) (c : PCtx) :
    SumsFormed s (formNext s p lb x c) p lb { c with sums := (s.promptSums p (lb / 8) x c.q c.sums).1 }
      (s.promptSums p (lb / 8) x c.q c.sums).2 := sumsFormed_of_put _ _ rfl fun _ _ => rfl

/-- Two puts change registers only. -/
theorem put_put_rest (s : State) (f g : Fld) (x y l n i j : Nat) :
    (s.put f x l i).put g y n j = { s with regs := ((s.put f x l i).put g y n j).regs } := rfl

theorem formFirst_formed (s : State) (p lb : Nat) (x : PromptOp) (c : PCtx) :
    SumsFormed s (formFirst s p lb x c) p lb { c with sums := (s.promptSums p (lb / 8) x c.q []).1 } (s.promptSums p (lb / 8) x c.q []).2 :=
  sumsFormed_of_put _ _ (put_put_rest _ _ _ _ _ _ _ _ _) fun r hr => by rw [raw_put_ne _ _ _ _ _ hr, raw_put_ne _ _ _ _ _ hr]; rfl

theorem raw_formNext (s : State) (p lb : Nat) (x : PromptOp) (c : PCtx) {r : Reg} (hr : r ≠ ⟨.CUE_NUMSAT, p, 0⟩) :
    (formNext s p lb x c).raw r = s.raw r := raw_numCount_sat _ p _ hr

/-- FIRST's context stands at neuron 0 and is valid. -/
theorem get_formFirst (s : State) (p lb : Nat) (x : PromptOp) (c : PCtx) :
    (formFirst s p lb x c).get PRM_CTX_NEXTN (lb / 8) (lb % 8) = 0 ∧ (formFirst s p lb x c).get PRM_CTX_VALID (lb / 8) (lb % 8) = 1 := by
  have hnum (u : State) (f : Fld) (n : Nat) (hf : f.reg = .PRM_CTX) :
      (u.numCount p n 0 0).get f (lb / 8) (lb % 8) = u.get f (lb / 8) (lb % 8) := by
    rw [get_def, raw_numCount_sat _ p n (reg_ne_of_name (by rw [hf]; decide) _ _ _ _), get_def]
  constructor
  · rw [formFirst, hnum _ _ _ rfl, get_put_disjoint _ PRM_CTX_VALID PRM_CTX_NEXTN _ _ _ (by decide) rfl (by decide),
      get_put_self _ _ _ _ _ (by decide)]
    rfl
  · rw [formFirst, hnum _ _ _ rfl, get_put_self _ _ _ _ _ (by decide)]
    rfl

/-! ## The cue -/

/-- The entry of a PROMPT with its operands resolved. -/
def promptOf (s : State) (lb stg : Nat) (sel : Bool) (ntile pred kval src : Nat) (dst : Opnd) : PromptOp :=
  { lbay := lb, stg := stg, sel := sel, ntile := ntile, pred := pred, kval := kval, src := src, dst := dst,
    pc := s.get CUE_SEQSTAT_PC (s.phys lb), ord := (s.bay (s.phys lb)).ord }

/-- FIRST and NEXT join the queue with their rows' reads. -/
theorem promptCue_product {stg ntile pred kval src dst qn : Nat} {sel : Bool} {o : Opnd} (h2 : stg ≠ 2) (hfree : PrompterFree s lb)
    (hqn : s.promptQ (s.phys lb) stg pred = qn)
    (hsrc : Issue.wop { s := s } (s.phys lb) src (promptSrcLen ntile qn) 0 false (s.bay (s.phys lb)).ord = .ok (i, o)) :
    promptCue stg s (s.phys lb) (.prompt stg sel ntile pred kval src dst) =
      some (((joinPrompter i (s.phys lb) (lb / 8) (promptOf s lb stg sel ntile pred kval o.ofs (.wings 0))
        (lineReads o.ofs (promptSrcLen ntile qn))).retireCue (s.phys lb)).promptStart (lb / 8)) := by
  obtain ⟨hlog, hdie⟩ := hfree.serves
  simp only [promptCue, hlog, hdie, hfree.queue.1, Option.getD_some, List.any_nil, hqn, h2, hsrc, bind, Except.bind, pure, Except.pure,
    ne_eq, not_true_eq_false, Bool.false_eq_true, if_false]
  rfl

/-- The rank blocks that NEXT's and SELECT's operand lengths are counted with are those of the header loaded. -/
theorem promptQ_loaded {stg : Nat} (hlog : s.logical p = some lb) (hstg : stg ≠ 0) (pred : Nat) : s.promptQ p stg pred = (s.ctx lb).q := by
  simp [State.promptQ, hlog, hstg]

/-- SELECT joins the queue; its reads wait for its start. -/
theorem promptCue_select {ntile pred kval src dst : Nat} {sel : Bool} {o : Nat} (hfree : PrompterFree s lb)
    (hdst : Issue.wop { s := s } (s.phys lb) dst (promptDstLen ntile (s.ctx lb).q) 0 (!(s.ctx lb).listIn) (s.bay (s.phys lb)).ord =
      .ok (i, .wings o)) :
    promptCue 2 s (s.phys lb) (.prompt 2 sel ntile pred kval src dst) =
      some (((joinPrompter i (s.phys lb) (lb / 8) (promptOf s lb 2 sel ntile pred kval 0 (.wings o)) []).retireCue (s.phys lb)).promptStart
        (lb / 8)) := by
  obtain ⟨hlog, hdie⟩ := hfree.serves
  have hqn := promptQ_loaded hlog (show 2 ≠ 0 by decide) pred
  simp only [promptCue, hlog, hdie, hfree.queue.1, Option.getD_some, List.any_nil, hqn, hdst, bind, Except.bind, pure, Except.pure,
    ne_eq, not_true_eq_false, Bool.false_eq_true, if_false, if_true]
  rfl

/-- The rank blocks that FIRST's operand lengths are counted with are its header's. -/
theorem promptQ_first (s : State) (p pred : Nat) : s.promptQ p 0 pred = ({ header := headerAt s (p / 9) pred } : PCtx).q := by
  have hbits (v : Nat) : bits (v % 18446744073709551616) 48 2 = bits v 48 2 := by
    simp only [bits]
    omega
  simp [State.promptQ, PCtx.q, PCtx.f, headerAt, fld, hbits, List.range_succ]

/-! ## The stages start -/

theorem shed_of_mayIssue (h : s.mayIssue p = true) : s.shed = false := by
  simp only [State.mayIssue, Bool.and_eq_true, Bool.not_eq_true'] at h
  exact h.2

/-- The queued PROMPT is alone in a free prompter and starts. -/
theorem PromptQueued.starts {lines : List (Nat × Nat × Bool)} (h : PromptQueued s v (s.phys lb) lb x lines) (hfree : PrompterFree s lb)
    (hshed : s.shed = false) (hx : x.lbay = lb) (hnew : x.started = false) (hgo : x.stg = 2 → (v.bay (s.phys lb)).turn x.dst x.ord = .go)
    (hport : v.listPort (s.phys lb) x = (w, true)) :
    v.promptStart (lb / 8) = startStage (markStarted w (lb / 8) x) (s.phys lb) (lb / 8) x := by
  have hprompts : (v.die (lb / 8)).prompts = [x] := by rw [h.die]
  have hphys : v.phys x.lbay = s.phys lb := by rw [h.phys, hx]
  rw [promptStart_of_single hprompts, promptBegin_starts hprompts hnew (by rw [h.die]; exact hfree.queue.2) (h.shed.trans hshed)
    (by rwa [hphys]) (by rw [hphys, h.greenHeld, hfree.open_]) (by rwa [hphys]), hphys]

/-- The audits that FIRST finds are none, and its context stays. -/
theorem PromptReady.audited {m : State} (h : PromptReady s m p lb x) : PromptReady s (m.setCtx lb (m.ctx lb)) p lb x where
  ctx := (ctx_setCtx_self m lb _).trans h.ctx
  greenErr := (greenErr_setCtx m lb _ _).trans h.greenErr
  byte := h.byte
  wingsErr := h.wingsErr
  started := h.started.of_same (prompts_setCtx m lb _ _) rfl
  keeps := (h.keeps.trans (keepsPrompt_setCtx m _)).mono fun _ hr => hr.resolve_right id
  seq := seqAt_of_same h.seq rfl

/-- A PROMPT's sums formed: what its issue comes to. -/
structure SumsStarted (s t : State) (lb : Nat) (x : PromptOp) (c : PCtx) (n : Nat) : Prop where
  ctx     : t.ctx lb = c
  started : PromptStarted t (lb / 8) x
  sat     : t.get CUE_NUMSAT_COUNT (s.phys lb) = min (s.get CUE_NUMSAT_COUNT (s.phys lb) + n) (2 ^ 32 - 1)
  frame   : PromptFrame s t (s.phys lb) lb

theorem PromptReady.summed {m : State} {c : PCtx} {n : Nat} (h : PromptReady s m (s.phys lb) lb x)
    (k : SumsFormed m t (s.phys lb) lb c n) : SumsStarted s t lb x c n := by
  refine ⟨k.ctx, h.started.of_same k.prompts (k.keeps.regs _ (by simp [sumsReg]) (by simp)), ?_,
    promptFrame_of_ready h (k.keeps.mono fun _ => Or.inr)⟩
  rw [k.sat, get_def m, h.keeps.regs _ (by simp [startReg, seqstat, isGenerator]) (by simp), ← get_def]

/-- FIRST and NEXT stand marked in their prompter, with their rows' reads presented. -/
theorem product_ready {stg ntile pred kval src dst qn : Nat} {sel : Bool} {o : Opnd} (hstg : stg < 2) (hfree : PrompterFree s lb)
    (hq : Issues s lb (.prompt stg sel ntile pred kval src dst)) (hqn : s.promptQ (s.phys lb) stg pred = qn)
    (hsrc : Issue.wop { s := s } (s.phys lb) src (promptSrcLen ntile qn) 0 false (s.bay (s.phys lb)).ord = .ok (i, o)) :
    ∃ m, PromptReady s m (s.phys lb) lb (promptOf s lb stg sel ntile pred kval o.ofs (.wings 0)) ∧
      promptCue stg s (s.phys lb) (.prompt stg sel ntile pred kval src dst) =
        some (startStage m (s.phys lb) (lb / 8) (promptOf s lb stg sel ntile pred kval o.ofs (.wings 0))) := by
  have hqueued := joinPrompter_queued (x := promptOf s lb stg sel ntile pred kval o.ofs (.wings 0))
    (lines := lineReads o.ofs (promptSrcLen ntile qn)) ((Resolves.refl s (s.phys lb)).wop hsrc) hfree.queue.1 hq.plain.2
  refine ⟨_, promptReady_of_queued hqueued (InBay.refl _ _) rfl rfl (show stg < 4 by omega), ?_⟩
  rw [promptCue_product (by omega) hfree hqn hsrc,
    hqueued.starts hfree (shed_of_mayIssue hq.may) rfl rfl (fun h => absurd h (show stg ≠ 2 by omega))
      (listPort_of_product (show stg ≠ 2 by omega))]

/-- FIRST's start: the sums, the saturations and the context's place. -/
theorem PromptReady.first {m : State} {c : PCtx} (h : PromptReady s m (s.phys lb) lb x) (hx : x.lbay = lb) (hfree : PrompterFree s lb)
    (hc : c = { header := headerAt s (lb / 8) x.pred }) (hbad : c.bad = false) (hmis : c.misaligned = false) (hdiv : x.ntile % c.q = 0) :
    let r := s.promptSums (s.phys lb) (lb / 8) { x with started := true } c.q []
    let t := m.startFirst (s.phys lb) (lb / 8) x
    SumsStarted s t lb x { s.ctx lb with header := c.header, valid := true, sums := r.1 } r.2 ∧
      t.get PRM_CTX_NEXTN (lb / 8) (lb % 8) = 0 ∧ t.get PRM_CTX_VALID (lb / 8) (lb % 8) = 1 := by
  intro r t
  have hload : loadedCtx m lb x.pred = { s.ctx lb with header := c.header, valid := true } := by
    rw [loadedCtx, h.ctx, headerAt_congr h.greenByte, hc]
  have hheader : (loadedCtx m lb x.pred).header = c.header := by rw [hload]
  have hstart : t = formFirst (m.setCtx lb (m.ctx lb)) (s.phys lb) lb x (loadedCtx m lb x.pred) :=
    startFirst_eq hx (by rw [h.ctx]; exact hfree.clean.1) (by rw [h.greenErr]; exact hfree.clean.2) ((bad_of_header hheader).trans hbad)
      ((misaligned_of_header hheader).trans hmis) (by rw [q_of_header hheader]; exact hdiv)
  have hform := h.audited.summed (formFirst_formed (m.setCtx lb (m.ctx lb)) (s.phys lb) lb x (loadedCtx m lb x.pred))
  rw [h.audited.sums, q_of_header hheader] at hform
  rw [hstart]
  exact ⟨by rwa [hload] at hform ⊢, get_formFirst _ _ _ _ _⟩

/-- NEXT's start: the sums and the saturations. -/
theorem PromptReady.next {m : State} (h : PromptReady s m (s.phys lb) lb x) (hx : x.lbay = lb) (hfree : PrompterFree s lb)
    (hvalid : (s.ctx lb).valid = true) (hdiv : x.ntile % (s.ctx lb).q = 0) :
    let r := s.promptSums (s.phys lb) (lb / 8) { x with started := true } (s.ctx lb).q (s.ctx lb).sums
    let t := m.startNext (s.phys lb) (lb / 8) x
    SumsStarted s t lb x { s.ctx lb with sums := r.1 } r.2 ∧ t.raw ⟨.PRM_CTX, lb / 8, lb % 8⟩ = s.raw ⟨.PRM_CTX, lb / 8, lb % 8⟩ := by
  intro r t
  have hstart : t = formNext m (s.phys lb) lb x (s.ctx lb) := by
    rw [← h.ctx]
    exact startNext_eq hx (by rw [h.greenErr]; exact hfree.clean.2) (by rw [h.ctx]; exact hvalid) (by rw [h.ctx]; exact hdiv)
  have hform := h.summed (formNext_formed m (s.phys lb) lb x (s.ctx lb))
  rw [h.sums] at hform
  rw [hstart]
  exact ⟨hform, by rw [raw_formNext _ _ _ _ _ (by simp), h.keeps.regs _ (by simp [startReg, seqstat, isGenerator]) (by simp)]⟩

theorem promptFirstAndNextFormSums : PromptFirstAndNextFormSums := by
  refine ⟨?first, ?next⟩
  case first =>
    intro s lb sel ntile pred kval src dst i o hq hfree p d c q hbad hmis hdiv hsrc
    obtain ⟨m, hready, hcue⟩ := product_ready (by decide) hfree hq (by rw [promptQ_first, hfree.serves.2]) hsrc
    obtain ⟨hform, hnext, hvalid⟩ := hready.first rfl hfree rfl hbad hmis hdiv
    exact ⟨_, issueCue_of_issues hq hcue, hform.started.prompts, (congrArg PCtx.header hform.ctx :),
      (congrArg PCtx.valid hform.ctx :), (congrArg PCtx.sums hform.ctx :), hnext, hvalid, hform.started.busy, hform.started.bay,
      hform.started.stg, hform.sat, hform.frame⟩
  case next =>
    intro s lb sel ntile pred kval src dst i o hq hfree p d c q hvalid hdiv hsrc
    obtain ⟨m, hready, hcue⟩ := product_ready (by decide) hfree hq (promptQ_loaded hfree.serves.1 (by decide) pred) hsrc
    obtain ⟨hform, hraw⟩ := hready.next rfl hfree hvalid hdiv
    exact ⟨_, issueCue_of_issues hq hcue, hform.started.prompts, hform.ctx, hform.started.busy, hform.started.bay, hform.started.stg,
      hform.sat, hraw, hform.frame⟩

/-! ## SELECT (R230, R232) -/

/-- An access to a crossbar without requests is served in its first cycle: at most the bay's account of served requests changes. -/
structure PortServed (s t : State) (p : Nat) : Prop where
  inBay : InBay s t p
  own   : t.bay p = { s.bay p with xdone := (t.bay p).xdone }

theorem wingsPort_of_idle (h : (s.bay p).xreqs = []) (who : Nat × Nat) (ord : Nat) (lines : List (Nat × Nat × Bool)) :
    ∃ t, s.wingsPort p who ord lines = (t, true) ∧ PortServed s t p := by
  unfold State.wingsPort
  dsimp only
  split
  · exact ⟨_, rfl, ⟨fun q hq => bay_setBay_ne s _ hq, rfl⟩, by rw [bay_setBay_self]⟩
  · exact ⟨s, by simp [h, Bay.granted, Bay.passes], InBay.refl s p, rfl⟩

/-- A SELECT takes its list at its start. -/
def takeList (l : List Nat) (y : Die) : Die :=
  { y with prompts := match y.prompts with | z :: r => { z with list := l } :: r | [] => [] }

/-- The list that a SELECT of context `c` reads of its bay's wings (R232). -/
def listAt (b : Bay) (c : PCtx) (o ntile : Nat) : List Nat := if c.listIn then b.entries o (ntile / c.q * 64) else []

theorem startSelect_listed {o : Nat} (hx : x.lbay = lb) (hdst : x.dst = .wings o) (hvalid : (s.ctx lb).valid = true)
    (hdiv : x.ntile % (s.ctx lb).q = 0) (hlist : (s.ctx lb).listIn = true) (herr : (s.bay p).wingsErr = []) :
    s.startSelect p d x = s.modDie d (takeList ((s.bay p).entries o (x.ntile / (s.ctx lb).q * 64))) := by
  simp [State.startSelect, hx, hdst, hvalid, hdiv, hlist, Bay.turn, Bay.opOfs, wingsRead_of_clean herr]
  rfl

theorem startSelect_own (hx : x.lbay = lb) (hvalid : (s.ctx lb).valid = true) (hdiv : x.ntile % (s.ctx lb).q = 0)
    (hlist : (s.ctx lb).listIn = false) : s.startSelect p d x = s := by
  simp [State.startSelect, hx, hvalid, hdiv, hlist]

/-- The list of a SELECT passes the crossbar at once. -/
theorem PromptQueued.listPort (h : PromptQueued s v p lb x []) (hx : x.lbay = lb)
    (hidle : (s.ctx lb).listIn = true → (s.bay p).xreqs = []) : ∃ w, v.listPort p x = (w, true) ∧ PortServed v w p := by
  by_cases hlist : (s.ctx lb).listIn = true
  · have hxreqs : (v.bay p).xreqs = [] := by
      obtain ⟨rings, hown⟩ := h.own
      rw [hown]
      exact hidle hlist
    unfold State.listPort
    dsimp only
    split
    · exact wingsPort_of_idle hxreqs _ _ _
    · exact ⟨v, rfl, InBay.refl v p, rfl⟩
  · refine ⟨v, if_neg fun hgo => hlist ?_, InBay.refl v p, rfl⟩
    rw [← h.ctx, ← hx]
    exact hgo.2.2.1

/-- A SELECT that has started, with its list: what its issue comes to. -/
structure SelectStarted (s t : State) (lb : Nat) (x : PromptOp) (l : List Nat) : Prop where
  prompts : (t.die (lb / 8)).prompts = [{ x with started := true, list := l }]
  ctx     : t.ctx lb = s.ctx lb
  busy    : t.get PRM_STAT_BUSY (lb / 8) = 1
  bay     : t.get PRM_STAT_BAY (lb / 8) = x.lbay % 8
  stg     : t.get PRM_STAT_STG (lb / 8) = x.stg
  raw     : t.raw ⟨.PRM_CTX, lb / 8, lb % 8⟩ = s.raw ⟨.PRM_CTX, lb / 8, lb % 8⟩
  frame   : PromptFrame s t (s.phys lb) lb

theorem PromptReady.select {m : State} {o : Nat} (h : PromptReady s m (s.phys lb) lb x) (hx : x.lbay = lb) (hdst : x.dst = .wings o)
    (hempty : x.list = []) (hvalid : (s.ctx lb).valid = true) (hdiv : x.ntile % (s.ctx lb).q = 0)
    (herr : (s.ctx lb).listIn = true → (s.bay (s.phys lb)).wingsErr = []) :
    SelectStarted s (m.startSelect (s.phys lb) (lb / 8) x) lb x (listAt (s.bay (s.phys lb)) (s.ctx lb) o x.ntile) := by
  have hraw : m.raw ⟨.PRM_CTX, lb / 8, lb % 8⟩ = s.raw ⟨.PRM_CTX, lb / 8, lb % 8⟩ :=
    h.keeps.regs _ (by simp [startReg, seqstat, isGenerator]) (by simp)
  obtain ⟨hprompts, hbusy, hbay, hstg⟩ := h.started
  rw [← h.ctx] at hvalid hdiv
  by_cases hlist : (s.ctx lb).listIn = true
  · have hl : listAt (s.bay (s.phys lb)) (s.ctx lb) o x.ntile = (m.bay (s.phys lb)).entries o (x.ntile / (m.ctx lb).q * 64) := by
      rw [listAt, if_pos hlist, entries_congr h.byte, h.ctx]
    rw [startSelect_listed hx hdst hvalid hdiv (by rw [h.ctx]; exact hlist) (h.wingsErr.trans (herr hlist)), ← hl]
    refine ⟨?_, ?_, hbusy, hbay, hstg, hraw, promptFrame_of_ready h ((keepsPrompt_modDie m rfl fun _ _ => rfl).mono fun _ => False.elim)⟩
    · rw [die_modDie_self, takeList, hprompts]
    · rw [State.ctx, die_modDie_self]
      exact h.ctx
  · have hown : (s.ctx lb).listIn = false := by simpa using hlist
    rw [startSelect_own hx hvalid hdiv (by rw [h.ctx]; exact hown), listAt, if_neg hlist]
    refine ⟨?_, h.ctx, hbusy, hbay, hstg, hraw,
      promptFrame_of_ready h ((keepsPrompt_of_regs (fun _ _ _ => rfl) rfl : KeepsPrompt m m _ lb fun _ => False).mono fun _ => False.elim)⟩
    rw [hprompts, ← hempty]

theorem promptSelectStarts : PromptSelectStarts := by
  intro s lb sel ntile pred kval src dst i o hq hfree p d c hvalid hdiv hclean hdst
  have hqueued := joinPrompter_queued (x := promptOf s lb 2 sel ntile pred kval 0 (.wings o)) (lines := [])
    ((Resolves.refl s p).wop hdst) hfree.queue.1 hq.plain.2
  obtain ⟨w, hport, hin, hown⟩ := hqueued.listPort rfl fun h => (hclean h).1
  have hready := promptReady_of_queued hqueued hin (by rw [hown]) (by rw [hown]) (show 2 < 4 by decide)
  have hsel := hready.select rfl rfl rfl hvalid hdiv fun h => (hclean h).2
  have hcue := promptCue_select (sel := sel) (src := src) (pred := pred) (kval := kval) hfree hdst
  rw [hqueued.starts hfree (shed_of_mayIssue hq.may) rfl rfl (fun _ => rfl) hport] at hcue
  exact ⟨_, issueCue_of_issues hq hcue, hsel.prompts, hsel.ctx, hsel.busy, hsel.bay, hsel.stg, hsel.raw, hsel.frame⟩

/-- Settles O9: the PROMPT joins the queue, its cue retires, and its stage runs on the bytes and the context of its issue. -/
theorem promptStagesStart : Obligations.PromptStagesStart := ⟨promptFirstAndNextFormSums, promptSelectStarts⟩

end Sys2Proof.Proofs
end

section
/-! The ends of MATCH (R125, R225 to R227) and of PROMPT (R124, R230, R232), which settles O21. -/

namespace Sys2Proof.Proofs

open Sys2Proof.Machine Sys2Proof.Laws Sys2Proof.Claims

variable {s t u v : State} {p d : Nat} {m : MatchOp} {rest : List MatchOp} {q : PromptOp}

/-! ## A list stored in the wings -/

/-- Bytes at consecutive offsets stand as one run. -/
theorem put_runAt (m : Memory) (o : Nat) (bs : Bytes) : m.put (runAt o bs) = m.writeN o bs := by
  induction bs generalizing m o with
  | nil => rfl
  | cons b bs ih => exact ih (m.write o b) (o + 1)

/-- The bytes `bs` stand at `o` and no other byte changed. -/
structure ListStored (m m' : Memory) (o : Nat) (bs : Bytes) : Prop where
  inside  : ∀ (i : Nat) v, bs[i]? = some v → m'.read (o + i) = v
  outside : ∀ a, a < o ∨ o + bs.length ≤ a → m'.read a = m.read a

theorem listStored_put (m : Memory) (o : Nat) (bs : Bytes) : ListStored m (m.put (runAt o bs)) o bs := by
  rw [put_runAt]
  refine ⟨fun i v hv => ?_, fun a ha => read_writeN_out m o a bs ha⟩
  obtain ⟨hi, rfl⟩ := List.getElem?_eq_some_iff.mp hv
  exact read_writeN_in m o i bs hi

/-! ## The counters of the sparsity block (R237, R305) -/

theorem raw_sparseCount (s : State) (p : Nat) (f : Fld) (n : Nat) {r : Reg} (hr : r ≠ ⟨f.reg, p, 0⟩) :
    (s.sparseCount p f n).raw r = s.raw r := by
  unfold State.sparseCount
  split
  · rfl
  · rw [bayFlag_eq]
    exact raw_bump_ne s f n p 0 hr

theorem get_sparseCount (s : State) (p : Nat) (f : Fld) (n : Nat) (hf : f.lo + f.w ≤ 64) :
    (s.sparseCount p f n).get f p = counted f (s.get f p) n := by
  rw [← get_bump_counted s f n p 0 hf]
  unfold State.sparseCount
  split
  · next h => rw [h, bump_zero]
  · rw [bayFlag_eq]
    rfl

/-! ## MATCH -/

/-- The MATCH at the head leaves the queue and the next one presents its reads. -/
def popMatch (rest : List MatchOp) (b : Bay) : Bay := { b with matchQ := rest }.askMatch

theorem popMatch_asked (rest : List MatchOp) (b : Bay) : MatchAsked { b with matchQ := rest } (popMatch rest b) := askMatch_asked _

/-- The MATCH's indices out of bounds are counted and its list stored, before it leaves the queue. -/
def matchStored (s : State) (p : Nat) (r : Matched) (bs : List (Nat × Byte)) : State :=
  (s.sparseCount p SPR_IDXOOB_COUNT r.oob).wingsStore p p bs

/-- The list of a MATCH that ends. -/
def matchList (b : Bay) (m : MatchOp) : Bytes := listBytes (if m.bitmap then 2 else 4) m.lenD (b.matched m).out

theorem matchEnd_eq {x y z : Nat} (hshed : s.shed = false) (hqueue : (s.bay p).matchQ = m :: rest) (hx : m.srca = .wings x) (hy : m.srcb = .wings y)
    (hz : m.dst = .wings z) (hgrant : (s.bay p).granted whoMatch.2 m.ord = true) (hask : m.asked = true)
    (hgood : ((s.bay p).matched m).bad = false)
    (hport : s.wingsPort p whoMatchOut m.ord (lineStores (runAt z (matchList (s.bay p) m))) = (u, true)) (hphoto : (u.bay p).photo = none) :
    s.matchEnd p =
      ((matchStored u p ((s.bay p).matched m) (runAt z (matchList (s.bay p) m))).modBay p (popMatch rest)).kick p := by
  have htear : (u.sparseCount p SPR_IDXOOB_COUNT ((s.bay p).matched m).oob).tear p (runAt z (matchList (s.bay p) m)) =
      u.sparseCount p SPR_IDXOOB_COUNT ((s.bay p).matched m).oob := tear_of_no_photo (by rw [sparseCount_bay, hphoto]) _
  have hgo : [RingTurn.go, .go, .go].contains .closed = false ∧ [RingTurn.go, .go, .go].contains .stall = false := by decide
  simp only [matchList] at hport htear
  simp only [State.matchEnd, hqueue, State.shedHolds, hshed, hgrant, hx, hy, hz, hask, hgood, hgo, Bay.turn, Bay.opOfs, State.storeBay,
    State.holdsStore, State.storePort, if_true, bne_self_eq_false, Bool.false_and, Bool.not_true, Bool.or_false, Bool.false_eq_true,
    if_false, hport, htear, State.ringDone]
  rfl

/-- Bay `b` with the served requests of `c` and with `m` in its wings. -/
def servedBay (b c : Bay) (m : Memory) : Bay := { b with xdone := c.xdone, wings := m }

/-- The units start after a MATCH has left: its bay's queues but for the marks of what starts, accumulators and wings stay. -/
theorem started_popMatch {b c : Bay} (h : Started (popMatch rest b) c) :
    matches_ c = rest.map (fun x => { x with asked := false }) ∧ c.wings = b.wings ∧
      ∀ a, feeds c a = feeds b a ∧ loads c a = loads b a ∧ (c.arr a).acc = (b.arr a).acc := by
  have hasked := popMatch_asked rest b
  refine ⟨?_, ?_, fun a => ?_⟩
  · have hmatches : matches_ c = matches_ (popMatch rest b) := by rw [h.own]; rfl
    exact hmatches.trans hasked.queue
  · rw [h.own, hasked.own]
  · have harr : (popMatch rest b).arr a = b.arr a := by rw [hasked.own]; rfl
    rw [h.feeds_eq, h.loads_eq, (h.arr a).acc, feeds, loads, harr]
    exact ⟨rfl, rfl, rfl⟩

/-- A MATCH's list stands in its bay's wings and its indices out of bounds are counted. -/
structure MatchStored (s t : State) (p n : Nat) (bs : List (Nat × Byte)) : Prop where
  own   : ∃ c, t.bay p = servedBay (s.bay p) c ((s.bay p).wings.put bs)
  count : t.get SPR_IDXOOB_COUNT p = counted SPR_IDXOOB_COUNT (s.get SPR_IDXOOB_COUNT p) n
  kept  : OtherBaysKept s t p
  raw   : ∀ r, r ≠ ⟨.SPR_IDXOOB, p, 0⟩ → t.raw r = s.raw r

theorem matchStored_stored (hport : PortServed s u p) (herr : (s.bay p).wingsErr = []) (r : Matched) (bs : List (Nat × Byte)) :
    MatchStored s (matchStored u p r bs) p r.oob bs := by
  obtain ⟨hin, hown⟩ := hport
  have hbay := sparseCount_bay u p SPR_IDXOOB_COUNT r.oob p
  have hstored := wingsStore_of_clean (s := u.sparseCount p SPR_IDXOOB_COUNT r.oob) (p := p) (by rw [hbay, hown]; exact herr) p bs
  refine ⟨⟨u.bay p, ?_⟩, ?_, ?_, fun q hq => ?_⟩
  · rw [matchStored, hstored.own, hbay, hown]
    rfl
  · rw [matchStored, hstored.inBay.get, get_sparseCount _ _ _ _ (by decide), hin.get]
  · exact otherBaysKept_trans (otherBaysKept_trans hin.otherBaysKept (sparseCount_otherBaysKept u p _ _)) hstored.inBay.otherBaysKept
  · rw [matchStored, hstored.inBay.raw, raw_sparseCount _ _ _ _ hq, hin.raw]

theorem matchEndWritesItsList : MatchEndWritesItsList := by
  intro s lb m rest x y z hrun p b hqueue hx hy hz hgrant hask hidle hgood herr hphoto bs
  obtain ⟨u, hport, hserved⟩ := wingsPort_of_idle hidle whoMatchOut m.ord (lineStores (runAt z (matchList b m)))
  have hexec : exec (.matchEnd lb) s = .next (s.matchEnd p) := onBay_of_bayRuns hrun fun p => s.matchEnd p
  rw [matchEnd_eq hrun.2.2 hqueue hx hy hz hgrant hask hgood hport (by rw [hserved.own]; exact hphoto)] at hexec
  have hstored := matchStored_stored hserved herr ((s.bay p).matched m) (runAt z (matchList (s.bay p) m))
  generalize matchStored u p ((s.bay p).matched m) (runAt z (matchList (s.bay p) m)) = v at hexec hstored
  obtain ⟨⟨c, hown⟩, hcount, hkept, hraw⟩ := hstored
  have hlast := (inBay_modBay v p (popMatch rest)).trans (kick_inBay _ p)
  have hstart := kick_started (v.modBay p (popMatch rest)) p
  rw [bay_modBay_self, hown] at hstart
  obtain ⟨hmatches, hwings, harrs⟩ := started_popMatch hstart
  have hlist := listStored_put b.wings z bs
  refine ⟨_, hexec, hmatches, fun i v hv => ?_, fun a ha => ?_, ?_, harrs, otherBaysKept_trans hkept hlast.otherBaysKept,
    fun r hr => (hlast.raw r).trans (hraw r hr)⟩
  · rw [hwings]; exact hlist.inside i v hv
  · rw [hwings]; exact hlist.outside a ha
  · rw [hlast.get, hcount]; rfl

/-! ## The prompter is freed (R124) -/

/-- A PROMPT that executes already is not started again. -/
theorem promptStart_of_started (h : (s.die d).prompts = [q]) (hq : q.started = true) : s.promptStart d = s := by
  rw [promptStart_of_single h]
  simp [State.promptBegin, h, hq]

/-- The only PROMPT of a die leaves. -/
def noPrompts (y : Die) : Die := { y with prompts := [] }

/-- The prompter is free again, and the PROMPT's cycles are counted. -/
def freePrompter (s : State) (d : Nat) (q : PromptOp) : State :=
  ((s.modDie d noPrompts).put PRM_STAT_BUSY 0 d).count (dieBlk d) 0x25 0 (2 + 128 * q.ntile)

/-- Die `d`'s prompter stands free, and nothing else changed but counters. -/
structure Freed (s t : State) (d : Nat) : Prop where
  die  : t.die d = { s.die d with prompts := [] }
  dies : ∀ e, e ≠ d → t.die e = s.die e
  busy : t.get PRM_STAT_BUSY d = 0
  raw  : ∀ r, r ≠ ⟨.PRM_STAT, d, 0⟩ → r.name ≠ .OBS_CNT → t.raw r = s.raw r
  bays : t.bays = s.bays
  mem  : t.mem = s.mem

/-- A put and then a count change registers and the bandwidth counts only. -/
theorem counted_put_rest {f : Fld} {x l i : Nat} (h : Counts (s.put f x l i) t) :
    t = { s with regs := t.regs, obs := { s.obs with bwCount := t.obs.bwCount } } := by
  conv_lhs => rw [h.rest]
  rfl

theorem freePrompter_freed (s : State) (d : Nat) (q : PromptOp) : Freed s (freePrompter s d q) d := by
  have hcount := count_counts (s := (s.modDie d noPrompts).put PRM_STAT_BUSY 0 d) (dieBlk d) 0x25 0 (2 + 128 * q.ntile)
  have hrest := counted_put_rest hcount
  rw [← freePrompter] at hrest
  have hdie (e : Nat) : (freePrompter s d q).die e = (s.modDie d noPrompts).die e := by rw [hrest]; rfl
  refine ⟨?_, fun e he => ?_, ?_, fun r hr hn => ?_, ?_, ?_⟩
  · rw [hdie, die_modDie_self]; rfl
  · rw [hdie, die_modDie_ne _ _ he]
  · rw [freePrompter, hcount.get PRM_STAT_BUSY d 0 (by decide), get_put_self _ _ _ _ _ (by decide)]; rfl
  · rw [freePrompter, hcount.raw r hn, raw_put_ne _ _ _ _ _ hr]; rfl
  · rw [hrest]; rfl
  · rw [hrest]; rfl

/-- A PROMPT whose own end is done frees its prompter, which has nothing more to start. -/
theorem promptEnd_eq (hp : (s.die d).prompts = [q]) (hstarted : q.started = true) (hshed : s.shed = false)
    (hgrant : (s.bay (s.phys q.lbay)).granted whoPrompt.2 q.ord = true) (hopen : q.stg = 2 → s.greenHeld (s.phys q.lbay) d = false)
    (hfin : s.promptFinish (s.phys q.lbay) d q = .ok t) : s.promptEnd d = freePrompter t d q := by
  have hheld : (q.stg == 2 && s.greenHeld (s.phys q.lbay) d) = false := by
    by_cases h : q.stg = 2
    · rw [hopen h, Bool.and_false]
    · simp [h]
  have hempty : ((freePrompter t d q).die d).prompts = [] := by rw [(freePrompter_freed t d q).die]
  simp only [State.promptEnd, promptStart_of_started hp hstarted, hp, hstarted, State.shedHolds, hshed, hgrant, hheld, hfin, Bool.not_true,
    Bool.false_and, Bool.or_false, Bool.false_eq_true, if_false]
  exact promptStart_of_empty hempty

theorem exec_promptEnd (hd : d < 8) (hclk : s.clocked = true) : exec (.promptEnd d) s = .next (s.promptEnd d) := by
  change execPromptEnd d s = _
  rw [execPromptEnd, onUnit_lt s hd, if_pos hclk]

/-- FIRST and NEXT have nothing left to do at their end. -/
theorem product_ends {d : Nat} (hd : d < 8) (hclk : s.clocked = true) (hshed : s.shed = false) (hp : (s.die d).prompts = [q])
    (hstarted : q.started = true) (hstg : q.stg ≠ 2) (hgrant : (s.bay (s.phys q.lbay)).granted whoPrompt.2 q.ord = true) :
    ∃ t, exec (.promptEnd d) s = .next t ∧ (t.die d).prompts = [] ∧ t.get PRM_STAT_BUSY d = 0 ∧
      t.die d = { s.die d with prompts := [] } ∧ t.bays = s.bays ∧ t.mem = s.mem ∧ (∀ e, e ≠ d → t.die e = s.die e) ∧
      (∀ r, r ≠ ⟨.PRM_STAT, d, 0⟩ → r.name ≠ .OBS_CNT → t.raw r = s.raw r) := by
  have hfin : s.promptFinish (s.phys q.lbay) d q = .ok s := if_pos hstg
  have hfreed := freePrompter_freed s d q
  have hexec := exec_promptEnd hd hclk
  rw [promptEnd_eq hp hstarted hshed hgrant (fun h => absurd h hstg) hfin] at hexec
  exact ⟨_, hexec, by rw [hfreed.die], hfreed.busy, hfreed.die, hfreed.bays, hfreed.mem, hfreed.dies, hfreed.raw⟩

/-! ## SELECT's place in its context (R230, R232) -/

/-- SELECT's context after it: one SELECT more, NEXTN at `next` and `n` in the last list. -/
structure SelectCounted (s t : State) (d lb next n : Nat) : Prop where
  ctx   : t.ctx lb = { s.ctx lb with ord := (s.ctx lb).ord + 1 }
  next  : t.get PRM_CTX_NEXTN d (lb % 8) = next % 2 ^ 16
  last  : t.get PRM_CTX_LASTCNT d (lb % 8) = n % 2 ^ 16

/-- What frees the prompter leaves the bay's context. -/
theorem SelectCounted.freed {lb next n : Nat} (h : SelectCounted s t d lb next n) (hd : lb / 8 = d) (k : Freed t u d) :
    SelectCounted s u d lb next n := by
  have hget (f : Fld) (hf : f.reg = .PRM_CTX) : u.get f d (lb % 8) = t.get f d (lb % 8) := by
    rw [get_def, hf, k.raw _ (by simp) (by simp), get_def, hf]
  refine ⟨?_, (hget _ rfl).trans h.next, (hget _ rfl).trans h.last⟩
  rw [← h.ctx, State.ctx, State.ctx, hd, k.die]

/-- SELECT moves NEXTN and gives the length of its list. -/
def putSelect (s : State) (d l next n : Nat) : State := (s.put PRM_CTX_NEXTN next d l).put PRM_CTX_LASTCNT n d l

theorem get_putSelect (s : State) (d l next n : Nat) :
    (putSelect s d l next n).get PRM_CTX_NEXTN d l = next % 2 ^ 16 ∧ (putSelect s d l next n).get PRM_CTX_LASTCNT d l = n % 2 ^ 16 := by
  constructor
  · rw [putSelect, get_put_disjoint _ PRM_CTX_LASTCNT PRM_CTX_NEXTN _ _ _ (by decide) rfl (by decide), get_put_self _ _ _ _ _ (by decide)]
  · rw [putSelect, get_put_self _ _ _ _ _ (by decide)]

theorem putSelect_rest (s : State) (d l next n : Nat) : putSelect s d l next n = { s with regs := (putSelect s d l next n).regs } :=
  put_put_rest s _ _ _ _ _ _ _ _

/-- A SELECT of its bay is done: it counts, and no column moves where FOP is 0. -/
def countSelect (s : State) (lb : Nat) (c : PCtx) : State := s.setCtx lb { c with ord := c.ord + 1 }

theorem bays_countSelect (s : State) (lb : Nat) (c : PCtx) : (countSelect s lb c).bays = s.bays := rfl

theorem mem_countSelect (s : State) (lb : Nat) (c : PCtx) : (countSelect s lb c).mem = s.mem := rfl

theorem countSelect_counted {lb next n : Nat} {c : PCtx} (hc : c = t.ctx lb)
    (hget : s.get PRM_CTX_NEXTN d (lb % 8) = next % 2 ^ 16 ∧ s.get PRM_CTX_LASTCNT d (lb % 8) = n % 2 ^ 16) :
    SelectCounted t (countSelect s lb c) d lb next n := by
  obtain ⟨hnext, hlast⟩ := hget
  have hraw (r : Reg) : (countSelect s lb c).raw r = s.raw r := rfl
  refine ⟨by rw [countSelect, ctx_setCtx_self, hc], ?_, ?_⟩
  · rw [get_def, hraw, ← get_def, hnext]
  · rw [get_def, hraw, ← get_def, hlast]

/-! ## SELECT with LIST_IN (R232) -/

theorem handMove_of_no_columns {c : PCtx} (h : c.fop = 0) (l : List (Option Nat)) : s.handMove p d q c l = s := if_pos h

theorem endListed_eq {o : Nat} {c : PCtx} (hdst : q.dst = .wings o) (hfop : c.fop = 0) :
    s.endListed p d q c =
      countSelect (putSelect s d (q.lbay % 8) (s.get PRM_CTX_NEXTN d (q.lbay % 8) + q.ntile / c.q * 64)
        (q.list.filter (· != 0xFFFF)).length) q.lbay c := by
  rw [State.endListed, hdst, if_pos hfop, handMove_of_no_columns hfop, State.ringDone, countSelect, putSelect]

/-- SELECT with LIST_IN ends. -/
theorem listed_ends {d o : Nat} (hd : d < 8) (hclk : s.clocked = true) (hshed : s.shed = false) (hp : (s.die d).prompts = [q])
    (hstarted : q.started = true) (hstg : q.stg = 2) (hdie : q.lbay / 8 = d) (hdst : q.dst = .wings o)
    (hgrant : (s.bay (s.phys q.lbay)).granted whoPrompt.2 q.ord = true) (hopen : s.greenHeld (s.phys q.lbay) d = false)
    (hlist : (s.ctx q.lbay).listIn = true) (hfop : (s.ctx q.lbay).fop = 0) :
    ∃ t, exec (.promptEnd d) s = .next t ∧ (t.die d).prompts = [] ∧ t.get PRM_STAT_BUSY d = 0 ∧
      SelectCounted s t d q.lbay (s.get PRM_CTX_NEXTN d (q.lbay % 8) + q.ntile / (s.ctx q.lbay).q * 64)
        (q.list.filter (· != 0xFFFF)).length ∧ t.bays = s.bays ∧ t.mem = s.mem := by
  have hfin : s.promptFinish (s.phys q.lbay) d q = .ok (s.endListed (s.phys q.lbay) d q (s.ctx q.lbay)) := by
    simp only [State.promptFinish, hstg, hlist, ne_eq, not_true_eq_false, if_false, if_true]
  rw [endListed_eq hdst hfop] at hfin
  have hexec := exec_promptEnd hd hclk
  rw [promptEnd_eq hp hstarted hshed hgrant (fun _ => hopen) hfin] at hexec
  have hget := get_putSelect s d (q.lbay % 8) (s.get PRM_CTX_NEXTN d (q.lbay % 8) + q.ntile / (s.ctx q.lbay).q * 64)
    (q.list.filter (· != 0xFFFF)).length
  have hrest := putSelect_rest s d (q.lbay % 8) (s.get PRM_CTX_NEXTN d (q.lbay % 8) + q.ntile / (s.ctx q.lbay).q * 64)
    (q.list.filter (· != 0xFFFF)).length
  generalize putSelect s d (q.lbay % 8) _ _ = u at hexec hget hrest
  have hcounted := countSelect_counted (t := s) rfl hget
  have hfreed := freePrompter_freed (countSelect u q.lbay (s.ctx q.lbay)) d q
  refine ⟨_, hexec, by rw [hfreed.die], hfreed.busy, hcounted.freed hdie hfreed, ?_, ?_⟩
  · rw [hfreed.bays, bays_countSelect, hrest]
  · rw [hfreed.mem, mem_countSelect, hrest]

/-! ## SELECT with its own selection (R230) -/

/-- The neurons that a SELECT keeps. -/
def keptBy (s : State) (d : Nat) (q : PromptOp) (c : PCtx) : List Nat :=
  (s.select d q c (s.get PRM_CTX_NEXTN d (q.lbay % 8)) (q.ntile / c.q * 64)).1.take c.cap

/-- The list of a SELECT as stored. -/
def selectList (s : State) (d : Nat) (q : PromptOp) (c : PCtx) : Bytes := listBytes 2 (up256 (2 * (q.ntile / c.q * 64))) (keptBy s d q c)

/-- SELECT's saturations, its place and the neurons it drops are counted. -/
def countDrops (s : State) (p d l sat next n drop : Nat) : State := (putSelect (s.numCount p sat 0 0) d l next n).bump PRM_DROP_CAP drop d

/-- Only registers and the commands' flags changed. -/
def CountsOnly (s t : State) : Prop := t = { s with regs := t.regs, ro := t.ro }

theorem CountsOnly.trans (h : CountsOnly s t) (k : CountsOnly t u) : CountsOnly s u := by
  unfold CountsOnly at *
  rw [k, h]

theorem countsOnly_countDrops (s : State) (p d l sat next n drop : Nat) : CountsOnly s (countDrops s p d l sat next n drop) := by
  have hput (u : State) : CountsOnly u (putSelect u d l next n) := by
    unfold CountsOnly
    rw [putSelect_rest]
  have hbump (u : State) : CountsOnly u (u.bump PRM_DROP_CAP drop d) := by
    unfold CountsOnly
    rw [bump_eq]
  have hnum : CountsOnly s (s.numCount p sat 0 0) := (numCount_numCounted s p sat 0 0).rest
  exact (hnum.trans (hput _)).trans (hbump _)

theorem get_countDrops (s : State) (p d l sat next n drop : Nat) :
    (countDrops s p d l sat next n drop).get PRM_CTX_NEXTN d l = next % 2 ^ 16 ∧
      (countDrops s p d l sat next n drop).get PRM_CTX_LASTCNT d l = n % 2 ^ 16 := by
  have hbump (u : State) (f : Fld) (hf : f.reg = .PRM_CTX) : (u.bump PRM_DROP_CAP drop d).get f d l = u.get f d l :=
    get_bump_ne u PRM_DROP_CAP f drop d 0 d l (by simp [hf])
  rw [countDrops, hbump _ _ rfl, hbump _ _ rfl]
  exact get_putSelect _ d l next n

/-- A SELECT's place and drops counted and its list stored. -/
def selectStored (s : State) (p d l sat next n drop : Nat) (bs : List (Nat × Byte)) : State :=
  (countDrops s p d l sat next n drop).wingsStore p p bs

/-- A SELECT's list stands in its bay's wings and its place in its context's register. -/
structure SelectStored (s t : State) (p d l next n : Nat) (bs : List (Nat × Byte)) : Prop where
  wings : (t.bay p).wings = (s.bay p).wings.put bs
  bays  : ∀ e, e ≠ p → t.bay e = s.bay e
  dies  : t.dies = s.dies
  mem   : t.mem = s.mem
  place : t.get PRM_CTX_NEXTN d l = next % 2 ^ 16 ∧ t.get PRM_CTX_LASTCNT d l = n % 2 ^ 16

theorem selectStored_stored (hport : PortServed s u p) (herr : (s.bay p).wingsErr = []) (d l sat next n drop : Nat) (bs : List (Nat × Byte)) :
    SelectStored s (selectStored u p d l sat next n drop bs) p d l next n bs := by
  obtain ⟨hin, hown⟩ := hport
  have hcount := countsOnly_countDrops u p d l sat next n drop
  have hget := get_countDrops u p d l sat next n drop
  unfold selectStored
  generalize countDrops u p d l sat next n drop = v at hcount hget
  have hbay (e : Nat) : v.bay e = u.bay e := by rw [hcount]; rfl
  have hstored := wingsStore_of_clean (s := v) (p := p) (by rw [hbay, hown]; exact herr) p bs
  refine ⟨?_, fun e he => ?_, ?_, ?_, ?_⟩
  · rw [hstored.own, hbay, hown]
  · rw [hstored.inBay.bays e he, hbay, hin.bays e he]
  · rw [hstored.inBay.rest, hcount, hin.rest]
  · rw [hstored.inBay.rest, hcount, hin.rest]
  · rw [hstored.inBay.get, hstored.inBay.get]
    exact hget

theorem SelectStored.ctx {l next n : Nat} {bs : List (Nat × Byte)} (h : SelectStored s t p d l next n bs) (lb : Nat) : t.ctx lb = s.ctx lb := by
  rw [State.ctx, State.ctx, State.die, State.die, h.dies]

theorem endSelect_eq {o : Nat} {c : PCtx} (hdst : q.dst = .wings o) (hfop : c.fop = 0)
    (hport : s.wingsPort p whoPromptOut q.ord (lineStores (runAt o (selectList s d q c))) = (u, true))
    (hgreen : (u.die d).greenErr = []) (hphoto : (u.bay p).photo = none) (hctx : ∀ sat next n drop bs,
      (selectStored u p d (q.lbay % 8) sat next n drop bs).ctx q.lbay = c) :
    ∃ sat drop, s.endSelect p d q c = .ok (countSelect (selectStored u p d (q.lbay % 8) sat
      (s.get PRM_CTX_NEXTN d (q.lbay % 8) + q.ntile / c.q * 64) (keptBy s d q c).length drop (runAt o (selectList s d q c))) q.lbay c) := by
  rcases hsel : s.select d q c (s.get PRM_CTX_NEXTN d (q.lbay % 8)) (q.ntile / c.q * 64) with ⟨sel, sat, elig⟩
  have hkept : keptBy s d q c = sel.take c.cap := by rw [keptBy, hsel]
  have htear (next n drop : Nat) (bs : List (Nat × Byte)) :
      (countDrops u p d (q.lbay % 8) sat next n drop).tear p bs = countDrops u p d (q.lbay % 8) sat next n drop := by
    refine tear_of_no_photo ?_ bs
    rw [countsOnly_countDrops u p d (q.lbay % 8) sat next n drop]
    exact hphoto
  refine ⟨sat, sel.length - (sel.take c.cap).length, ?_⟩
  rw [selectList, hkept] at hport ⊢
  rw [State.endSelect, hdst, hsel]
  simp only [State.storeBay, State.holdsStore, State.storePort, Bay.opOfs, bne_self_eq_false, Bool.false_and, Bool.false_eq_true, if_false,
    if_true, hport, Bool.not_true, promptGreen_of_clean hgreen, State.ringDone]
  rw [← putSelect, ← countDrops, htear, ← selectStored, hctx, if_neg (by rw [hfop]; decide), handMove_of_no_columns hfop, ← countSelect]

/-- SELECT with its own selection ends. -/
theorem select_ends {d o : Nat} (hd : d < 8) (hclk : s.clocked = true) (hshed : s.shed = false) (hp : (s.die d).prompts = [q])
    (hstarted : q.started = true) (hstg : q.stg = 2) (hdie : q.lbay / 8 = d) (hdst : q.dst = .wings o)
    (hgrant : (s.bay (s.phys q.lbay)).granted whoPrompt.2 q.ord = true) (hopen : s.greenHeld (s.phys q.lbay) d = false)
    (hidle : (s.bay (s.phys q.lbay)).xreqs = []) (hlist : (s.ctx q.lbay).listIn = false) (hfop : (s.ctx q.lbay).fop = 0)
    (hgreen : (s.die d).greenErr = []) (herr : (s.bay (s.phys q.lbay)).wingsErr = []) (hphoto : (s.bay (s.phys q.lbay)).photo = none) :
    ∃ t, exec (.promptEnd d) s = .next t ∧ (t.die d).prompts = [] ∧ t.get PRM_STAT_BUSY d = 0 ∧
      ListStored (s.bay (s.phys q.lbay)).wings (t.bay (s.phys q.lbay)).wings o (selectList s d q (s.ctx q.lbay)) ∧
      SelectCounted s t d q.lbay (s.get PRM_CTX_NEXTN d (q.lbay % 8) + q.ntile / (s.ctx q.lbay).q * 64)
        (keptBy s d q (s.ctx q.lbay)).length ∧
      (∀ e, e ≠ s.phys q.lbay → t.bay e = s.bay e) ∧ t.mem = s.mem := by
  obtain ⟨u, hport, hserved⟩ := wingsPort_of_idle hidle whoPromptOut q.ord (lineStores (runAt o (selectList s d q (s.ctx q.lbay))))
  have hstored := selectStored_stored hserved herr d (q.lbay % 8)
  obtain ⟨sat, drop, hend⟩ := endSelect_eq hdst hfop hport (by rw [hserved.inBay.rest]; exact hgreen) (by rw [hserved.own]; exact hphoto)
    fun _ _ _ _ _ => (hstored _ _ _ _ _).ctx q.lbay
  have hfin : s.promptFinish (s.phys q.lbay) d q = s.endSelect (s.phys q.lbay) d q (s.ctx q.lbay) := by
    simp only [State.promptFinish, hstg, hlist, hdst, Bay.turn, ne_eq, not_true_eq_false, Bool.false_eq_true, if_false]
  have hexec := exec_promptEnd hd hclk
  rw [promptEnd_eq hp hstarted hshed hgrant (fun _ => hopen) (hfin.trans hend)] at hexec
  obtain ⟨hwings, hbays, -, hmem, hplace⟩ := hstored sat (s.get PRM_CTX_NEXTN d (q.lbay % 8) + q.ntile / (s.ctx q.lbay).q * 64)
    (keptBy s d q (s.ctx q.lbay)).length drop (runAt o (selectList s d q (s.ctx q.lbay)))
  generalize selectStored u (s.phys q.lbay) d (q.lbay % 8) sat _ _ drop _ = v at hexec hwings hbays hmem hplace
  have hcounted := countSelect_counted (t := s) rfl hplace
  have hfreed := freePrompter_freed (countSelect v q.lbay (s.ctx q.lbay)) d q
  have hbay (e : Nat) : (freePrompter (countSelect v q.lbay (s.ctx q.lbay)) d q).bay e = v.bay e := by
    rw [State.bay, hfreed.bays, bays_countSelect, ← State.bay]
  refine ⟨_, hexec, by rw [hfreed.die], hfreed.busy, ?_, hcounted.freed hdie hfreed, fun e he => ?_, ?_⟩
  · rw [hbay, hwings]
    exact listStored_put _ o _
  · rw [hbay, hbays e he]
  · rw [hfreed.mem, mem_countSelect, hmem]

theorem promptEndFreesThePrompter : PromptEndFreesThePrompter := by
  refine ⟨?product, ?listed, ?own⟩
  case product =>
    intro s d q hd hclk hshed hp _ hstarted hstg hgrant
    exact product_ends hd hclk hshed hp hstarted hstg hgrant
  case listed =>
    intro s d q o hd hclk hshed hp _ hstarted hstg hdie hdst p c span hgrant hopen hlist hfop
    obtain ⟨t, hexec, hprompts, hbusy, hcounted, hbays, hmem⟩ := listed_ends hd hclk hshed hp hstarted hstg hdie hdst hgrant hopen hlist hfop
    exact ⟨t, hexec, hprompts, hbusy, hcounted.next, hcounted.last, hcounted.ctx, hbays, hmem⟩
  case own =>
    intro s d q o hd hclk hshed hp _ hstarted hstg hdie hdst p c span hgrant hopen hidle hlist hfop hgreen herr hphoto kept bs
    obtain ⟨t, hexec, hprompts, hbusy, hstored, hcounted, hbays, hmem⟩ :=
      select_ends hd hclk hshed hp hstarted hstg hdie hdst hgrant hopen hidle hlist hfop hgreen herr hphoto
    exact ⟨t, hexec, hprompts, hbusy, hstored.inside, hstored.outside, hcounted.last, hcounted.next, hcounted.ctx, hbays, hmem⟩

/-- Settles O21: the MATCH stores its list and leaves its queue; the PROMPT does what its stage leaves to its end and frees the prompter. -/
theorem matcherAndPrompterEnd : Obligations.MatcherAndPrompterEnd := ⟨matchEndWritesItsList, promptEndFreesThePrompter⟩

end Sys2Proof.Proofs
end

section
/-! DDR addresses over channels (R191) and wings offsets over banks (R132), which settles O60. -/

namespace Sys2Proof.Proofs

open Sys2Proof.Machine

/-! ## Channels and granules (R191) -/

/-- What the higher address bits add to the channel within a 64 KiB block: the same for the block's 32 granules. -/
def blockHash (b : Nat) : Nat := b % 32 ^^^ b / 32 % 32

theorem blockHash_lt (b : Nat) : blockHash b < 32 :=
  Nat.xor_lt_two_pow (n := 5) (Nat.mod_lt _ (by decide)) (Nat.mod_lt _ (by decide))

/-- A channel is the granule's place in its block under the exclusive or with the block's own bits. -/
theorem chanHash_eq (a : Nat) : chanHash a = a / 2048 % 32 ^^^ blockHash (a / 65536) := by
  rw [chanHash, Nat.xor_assoc, blockHash, Nat.div_div_eq_div_mul]
  rfl

theorem chanHash_lt (a : Nat) : chanHash a < 32 := by
  rw [chanHash_eq]
  exact Nat.xor_lt_two_pow (n := 5) (Nat.mod_lt _ (by decide)) (blockHash_lt _)

theorem chanHash_granule (b : Nat) {i : Nat} (hi : i < 32) : chanHash (65536 * b + 2048 * i) = i ^^^ blockHash b := by
  rw [chanHash_eq, show (65536 * b + 2048 * i) / 2048 % 32 = i by omega, show (65536 * b + 2048 * i) / 65536 = b by omega]

/-- The bytes of a granule have its channel. -/
theorem chanHash_within_granule (g : Nat) {k : Nat} (hk : k < 2048) : chanHash (2048 * g + k) = chanHash (2048 * g) := by
  rw [chanHash_eq, chanHash_eq, show (2048 * g + k) / 2048 = 2048 * g / 2048 by omega,
    show (2048 * g + k) / 65536 = 2048 * g / 65536 by omega]

/-- One granule of a block lies in channel `c`: the one at place `c` under the exclusive or with the block's bits. -/
theorem filter_block_length (b : Nat) {c : Nat} (hc : c < 32) :
    ((List.range 32).filter fun j => chanHash (65536 * b + 2048 * j) == c).length = 1 := by
  have hplace : ∀ j ∈ List.range 32, (chanHash (65536 * b + 2048 * j) == c) = (j == c ^^^ blockHash b) := fun j hj => by
    rw [chanHash_granule b (List.mem_range.mp hj), Bool.eq_iff_iff, beq_iff_eq, beq_iff_eq]
    exact ⟨fun h => by rw [← h, Nat.xor_xor_cancel_right], fun h => by rw [h, Nat.xor_xor_cancel_right]⟩
  have hmem : c ^^^ blockHash b ∈ List.range 32 := List.mem_range.mpr (Nat.xor_lt_two_pow (n := 5) hc (blockHash_lt b))
  rw [List.filter_congr hplace, ← List.countP_eq_length_filter]
  exact List.count_eq_one_of_mem List.nodup_range hmem

/-- Of `n` blocks each channel holds `n` granules. -/
theorem filter_blocks_length (b n : Nat) {c : Nat} (hc : c < 32) :
    ((List.range (32 * n)).filter fun i => chanHash (65536 * b + 2048 * i) == c).length = n := by
  induction n with
  | zero => rfl
  | succ n ih =>
    have hblock : ((fun i => chanHash (65536 * b + 2048 * i) == c) ∘ fun j => 32 * n + j) =
        fun j => chanHash (65536 * (b + n) + 2048 * j) == c := by
      funext j
      rw [Function.comp_apply, show 65536 * b + 2048 * (32 * n + j) = 65536 * (b + n) + 2048 * j by ring]
    rw [Nat.mul_succ, List.range_add, List.filter_append, List.length_append, ih, List.filter_map, List.length_map, hblock,
      filter_block_length _ hc]

/-- Channel, granule and byte determine the address. -/
theorem address_determined {a b : Nat} (ha : a < 2 ^ 48) (hb : b < 2 ^ 48) (hc : chanHash a = chanHash b)
    (hg : localGranule a = localGranule b) (hk : a % 2048 = b % 2048) : a = b := by
  have hblock : a / 65536 = b / 65536 := by
    rwa [localGranule, localGranule, Nat.mod_eq_of_lt (by omega), Nat.mod_eq_of_lt (by omega)] at hg
  rw [chanHash_eq, chanHash_eq, hblock] at hc
  have hplace : a / 2048 % 32 = b / 2048 % 32 := Nat.xor_left_inj.mp hc
  omega

/-! ## Banks of the wings (R132) -/

theorem wingsBank_eq (o : Nat) : wingsBank (o / 2) = o / 2 ^ 23 % 4 * 128 + (o / 256 % 128 + o / 2 % 128) % 128 := by
  unfold wingsBank bits
  omega

theorem wingsRow_eq (o : Nat) : wingsRow (o / 2) = wingsBank (o / 2) * 32768 + o / 256 % 32768 := by
  unfold wingsRow bits
  omega

/-- A step along a row moves the bank by one modulo 128. -/
theorem wingsBank_row {o i : Nat} (ho : o % 256 = 0) (hi : i < 128) :
    wingsBank ((o + 2 * i) / 2) = o / 2 ^ 23 % 4 * 128 + (o / 256 % 128 + i) % 128 := by
  rw [wingsBank_eq, show (o + 2 * i) / 2 ^ 23 = o / 2 ^ 23 by omega, show (o + 2 * i) / 256 = o / 256 by omega,
    show (o + 2 * i) / 2 % 128 = i by omega]

/-- The 128 words of one 256 B row lie in different banks. -/
theorem row_banks_differ {o i j : Nat} (ho : o % 256 = 0) (hi : i < 128) (hj : j < 128)
    (h : wingsBank ((o + 2 * i) / 2) = wingsBank ((o + 2 * j) / 2)) : i = j := by
  rw [wingsBank_row ho hi, wingsBank_row ho hj] at h
  omega

/-- The words at one place of 128 successive rows lie in different banks. -/
theorem column_banks_differ {o i j : Nat} (hi : i < 128) (hj : j < 128)
    (h : wingsBank ((o + 256 * i) / 2) = wingsBank ((o + 256 * j) / 2)) : i = j := by
  rw [wingsBank_eq, wingsBank_eq] at h
  omega

/-- Settles O60: within a block a granule's place and the block's bits give its channel by an exclusive or, which either of them
undoes, and a step along a row or a column moves the bank by one modulo 128. -/
theorem addressesSpreadOverChannelsAndBanks : Obligations.AddressesSpreadOverChannelsAndBanks := by
  refine ⟨fun a => ⟨rfl, rfl⟩, fun b i j hi hj h => ?place, fun g k hk => ⟨chanHash_within_granule g hk, chanHash_lt _⟩,
    fun b n c => filter_blocks_length b n, fun a b => address_determined, fun o => ⟨wingsBank_eq o, wingsRow_eq o⟩,
    fun o i j => row_banks_differ, fun o i j _ => column_banks_differ⟩
  case place =>
    rw [chanHash_granule b hi, chanHash_granule b hj] at h
    exact Nat.xor_left_inj.mp h

end Sys2Proof.Proofs
end

section
/-! RING cues at issue (R120, R145, R146, R148, R154): OPEN and CLOSE, ACQ and TAKE, FILL and FREE, which settles O7 and O8. -/

namespace Sys2Proof.Proofs

open Sys2Proof.Machine Sys2Proof.Laws Sys2Proof.Claims

variable {s t u : State} {p q rv : Nat} {r x : RingEnd} {cs : List (Nat × Bool)}

/-! ## An end that changes and credits that are sent (R145, R146) -/

/-- Two contents of a bay with the same revolve ends, credits on their way, wings and cue samples. -/
structure SameEnds (b c : Bay) : Prop where
  rings   : c.rings = b.rings
  credits : c.credits = b.credits
  wings   : c.wings = b.wings
  samples : c.samples = b.samples

/-- Of all revolve ends only end `rv` of bay `p` changed, to `r`; bay `q` was sent the credits `cs`. -/
structure EndChanged (s t : State) (p rv : Nat) (r : RingEnd) (q : Nat) (cs : List (Nat × Bool)) : Prop where
  ring    : (t.bay p).ring rv = r
  others  : ∀ y v, (y ≠ p ∨ v ≠ rv) → (t.bay y).ring v = (s.bay y).ring v
  credits : (t.bay q).credits = (s.bay q).credits ++ cs
  bays    : ∀ y, y ≠ p → y ≠ q → t.bay y = s.bay y
  wings   : ∀ y, (t.bay y).wings = (s.bay y).wings
  samples : ∀ y, (t.bay y).samples = (s.bay y).samples

theorem ring_of_rings_eq {b c : Bay} (h : c.rings = b.rings) (v : Nat) : c.ring v = b.ring v := by rw [Bay.ring, h, ← Bay.ring]

/-- Bay `p` may change in what is neither a revolve end, a credit nor its wings or cue samples. -/
theorem EndChanged.own (h : EndChanged s u p rv r q cs) (hbays : ∀ y, y ≠ p → t.bay y = u.bay y)
    (hown : SameEnds (u.bay p) (t.bay p)) : EndChanged s t p rv r q cs := by
  have same (y : Nat) : SameEnds (u.bay y) (t.bay y) := by
    by_cases e : y = p
    · rw [e]; exact hown
    · rw [hbays y e]; exact ⟨rfl, rfl, rfl, rfl⟩
  refine ⟨?ring, fun y v hv => ?others, ?credits, fun y hy hq => ?bays, fun y => ?wings, fun y => ?samples⟩
  case ring => rw [ring_of_rings_eq hown.rings, h.ring]
  case others => rw [ring_of_rings_eq (same y).rings, h.others y v hv]
  case credits => rw [(same q).credits, h.credits]
  case bays => rw [hbays y hy, h.bays y hy hq]
  case wings => rw [(same y).wings, h.wings]
  case samples => rw [(same y).samples, h.samples]

/-- A write of the end. -/
theorem endChanged_setRing (s : State) (p rv : Nat) (r : RingEnd) (q : Nat) :
    EndChanged s (s.modBay p fun b => b.setRing rv r) p rv r q [] where
  ring := by rw [bay_modBay_self, ring_setRing_self]
  others y v hv := by
    by_cases e : y = p
    · rw [e, bay_modBay_self, ring_setRing_ne _ _ (hv.resolve_left fun h => h e)]
    · rw [bay_modBay_ne s _ e]
  credits := (keeps_modBay Bay.credits (f := (·.setRing rv r)) (fun _ => rfl) s p q).trans (List.append_nil _).symm
  bays y hy _ := bay_modBay_ne s _ hy
  wings := keeps_modBay Bay.wings (f := (·.setRing rv r)) (fun _ => rfl) s p
  samples := keeps_modBay Bay.samples (f := (·.setRing rv r)) (fun _ => rfl) s p

/-- One more write of the end. -/
theorem EndChanged.setRing (h : EndChanged s t p rv x q cs) (r : RingEnd) :
    EndChanged s (t.modBay p fun b => b.setRing rv r) p rv r q cs := by
  have k := endChanged_setRing t p rv r q
  refine ⟨k.ring, fun y v hv => (k.others y v hv).trans (h.others y v hv), ?_, fun y hy hq => (k.bays y hy hq).trans (h.bays y hy hq),
    fun y => (k.wings y).trans (h.wings y), fun y => (k.samples y).trans (h.samples y)⟩
  rw [k.credits, List.append_nil, h.credits]

/-- A bay to which a credit of end `y` is on its way. -/
def awaitCredit (y : RingEnd) (full : Bool) (b : Bay) : Bay := { b with credits := b.credits ++ [(y.prv, full)] }

/-- One more credit is sent to the bay at the other end. -/
theorem EndChanged.sendCredit (h : EndChanged s t p rv r q cs) {y : RingEnd} (hq : t.phys y.peer = q) (full : Bool) :
    EndChanged s (t.sendCredit y full) p rv r q (cs ++ [(y.prv, full)]) := by
  have hring (z v : Nat) : ((t.modBay q (awaitCredit y full)).bay z).ring v = (t.bay z).ring v :=
    keeps_modBay (fun b => b.ring v) (f := awaitCredit y full) (fun _ => rfl) t q z
  rw [show t.sendCredit y full = t.modBay q (awaitCredit y full) by rw [← hq]; rfl]
  refine ⟨by rw [hring, h.ring], fun z v hv => by rw [hring, h.others z v hv], ?credits, fun z hz hq => ?bays,
    fun z => (keeps_modBay Bay.wings (f := awaitCredit y full) (fun _ => rfl) t q z).trans (h.wings z),
    fun z => (keeps_modBay Bay.samples (f := awaitCredit y full) (fun _ => rfl) t q z).trans (h.samples z)⟩
  case credits => rw [bay_modBay_self, awaitCredit, h.credits, List.append_assoc]
  case bays => rw [bay_modBay_ne t _ hq, h.bays z hz hq]

/-! ## The cue's action and its retirement -/

/-- What the action of a RING cue leaves: its end and the credits it sends, and all that is no bay. -/
structure RingActs (s u : State) (p rv : Nat) (r : RingEnd) (q : Nat) (cs : List (Nat × Bool)) : Prop where
  ends : EndChanged s u p rv r q cs
  rest : u = { s with bays := u.bays }

theorem RingActs.raw (h : RingActs s u p rv r q cs) (y : Reg) : u.raw y = s.raw y := by rw [h.rest]; rfl

theorem RingActs.phys (h : RingActs s u p rv r q cs) (lb : Nat) : u.phys lb = s.phys lb :=
  phys_of_regs_eq (by rw [h.rest]) lb

theorem ringActs_setRing (s : State) (p rv : Nat) (r : RingEnd) (q : Nat) :
    RingActs s (s.modBay p fun b => b.setRing rv r) p rv r q [] := ⟨endChanged_setRing s p rv r q, rfl⟩

theorem RingActs.setRing (h : RingActs s t p rv x q cs) (r : RingEnd) :
    RingActs s (t.modBay p fun b => b.setRing rv r) p rv r q cs := ⟨h.ends.setRing r, by rw [h.rest]; rfl⟩

theorem RingActs.sendCredit (h : RingActs s t p rv r q cs) {y : RingEnd} (hq : s.phys y.peer = q) (full : Bool) :
    RingActs s (t.sendCredit y full) p rv r q (cs ++ [(y.prv, full)]) :=
  ⟨h.ends.sendCredit ((h.phys _).trans hq) full, by rw [h.rest]; rfl⟩

/-- What a RING cue leaves that acts on its end and retires. -/
structure RingRetires (s t : State) (p rv : Nat) (r : RingEnd) (q : Nat) (cs : List (Nat × Bool)) : Prop where
  ends : EndChanged s t p rv r q cs
  seq  : SeqAt s t p (s.get CUE_SEQSTAT_PC p + 1)
  regs : ∀ y, y ≠ seqstat p → y.name ≠ .OBS_CNT → t.raw y = s.raw y

theorem RingActs.retires (h : RingActs s u p rv r q cs) (hs : (s.bay p).samples = []) : RingRetires s (u.retireCue p) p rv r q cs := by
  have hu : (u.bay p).samples = [] := (h.ends.samples p).trans hs
  have hret := retireCue_retired u p hu
  have hpc : u.get CUE_SEQSTAT_PC p = s.get CUE_SEQSTAT_PC p := SameSeqstat.get (h.raw (seqstat p)) rfl
  refine ⟨h.ends.own hret.bays ?_, ?_, fun y hy hn => (hret.raw y hy hn).trans (h.raw y)⟩
  · rw [hret.own]; exact ⟨rfl, rfl, rfl, hu.symm⟩
  · rw [← hpc]; exact seqAt_of_retired hret (h.raw _)

/-- The bay's units may start after the retirement. -/
theorem RingRetires.kick (h : RingRetires s t p rv r q cs) : RingRetires s (t.kick p) p rv r q cs := by
  have hin := kick_inBay t p
  obtain ⟨hpc, hstate, hdepth⟩ := h.seq
  refine ⟨h.ends.own hin.bays ?_, ⟨?_, ?_, ?_⟩, fun y hy hn => (hin.raw y).trans (h.regs y hy hn)⟩
  · rw [(kick_started t p).own]; exact ⟨rfl, rfl, rfl, rfl⟩
  · rw [hin.get, hpc]
  · rw [hin.get, hstate]
  · rw [hin.get, hdepth]

/-- A RING cue of operation `rop` does what the operation's action gives. -/
theorem ringCue_of_ok {rop peer prv n z base : Nat} {role : Bool} {act : State → Nat → Nat → RingEnd → Cue → Except Nat State}
    (h : act s p rv ((s.bay p).ring rv) (.ring rop rv role peer prv n z base) = .ok t) :
    ringCue rop act s p (.ring rop rv role peer prv n z base) = some t := by
  simp only [ringCue, if_true, h]

/-! ## OPEN and CLOSE (R145, R148) -/

/-- An end as OPEN leaves it: the cue's geometry, and the stall count it had. -/
def openedEnd (role : Bool) (peer prv n z base stall : Nat) : RingEnd :=
  { opened := true, consumer := role, peer := peer, prv := prv, nsl := n + 1, slsz := 256 * (z + 1), base := base, stall := stall }

/-- OPEN of a consumer end sends an empty credit for each slot. -/
theorem ringActs_sendEmpty (h : RingActs s t p rv r q cs) {y : RingEnd} (hq : s.phys y.peer = q) (m : Nat) :
    RingActs s ((List.range m).foldl (fun s _ => s.sendCredit y false) t) p rv r q (cs ++ List.replicate m (y.prv, false)) := by
  induction m with
  | zero => simpa using h
  | succ m ih =>
    rw [List.range_succ, List.foldl_append, List.replicate_succ', ← List.append_assoc]
    exact ih.sendCredit hq false

theorem ringOpen_retires {lb peer prv n z base : Nat} {role : Bool} (hq : Issues s lb (.ring 0 rv role peer prv n z base))
    (hclosed : ((s.bay (s.phys lb)).ring rv).opened = false) :
    ∃ t, exec (.ringOpen lb) s = .next t ∧
      RingRetires s t (s.phys lb) rv (openedEnd role peer prv n z base ((s.bay (s.phys lb)).ring rv).stall) (s.phys peer)
        (if role then List.replicate (n + 1) (prv, false) else []) := by
  have hset := ringActs_setRing s (s.phys lb) rv (openedEnd role peer prv n z base ((s.bay (s.phys lb)).ring rv).stall) (s.phys peer)
  refine ⟨_, issueCue_of_issues hq (ringCue_of_ok (by simp only [hclosed, Bool.false_eq_true, if_false]; rfl)),
    RingActs.retires ?_ hq.plain.2⟩
  cases role with
  | false => exact hset
  | true => exact ringActs_sendEmpty hset rfl (n + 1)

/-- An end as CLOSE leaves it. -/
def closedEnd (r : RingEnd) : RingEnd := { r with opened := false, waiting := [], fills := [] }

theorem ringClose_retires {lb peer prv n z base : Nat} {role : Bool} (hq : Issues s lb (.ring 1 rv role peer prv n z base))
    (hopen : ((s.bay (s.phys lb)).ring rv).opened = true) :
    ∃ t, exec (.ringClose lb) s = .next t ∧
      t.bay (s.phys lb) = retired ((s.bay (s.phys lb)).setRing rv (closedEnd ((s.bay (s.phys lb)).ring rv))) ∧
      SeqAt s t (s.phys lb) (s.get CUE_SEQSTAT_PC (s.phys lb) + 1) ∧ CueFrame s t (s.phys lb) (· = seqstat (s.phys lb)) := by
  generalize hp : s.phys lb = p at hopen
  have hclose : CueFrame s (s.modBay p fun b => b.setRing rv (closedEnd ((s.bay p).ring rv))) p fun _ => False := cueFrame_modBay s p rfl
  have h := retireCue_retiresTo hclose id (by rw [bay_modBay_self, ← hp]; exact hq.plain.2)
  have hown : _ = retired _ := h.own.trans (by rw [bay_modBay_self])
  exact ⟨_, issueCue_of_issues hq (ringCue_of_ok (by rw [hp, if_pos hopen]; rfl)), hown, h.seq,
    cueFrame_mono h.frame fun r hr => hr.resolve_right id⟩

/-- Settles O7: OPEN writes its end and sends a consumer's empty credits, CLOSE writes its end, and both retire. -/
theorem ringOpenAndClose : Obligations.RingOpenAndClose := by
  refine ⟨?opens, ?closes⟩
  case opens =>
    intro s lb rv role peer prv n z base hq p hclosed
    obtain ⟨t, hexec, hends, hseq, hregs⟩ := ringOpen_retires hq hclosed
    exact ⟨t, hexec, hends.ring, hends.credits, hends.bays, hends.wings, hends.others, hseq, hregs⟩
  case closes =>
    intro s lb rv role peer prv n z base hq p hopen
    obtain ⟨t, hexec, hown, hseq, hframe⟩ := ringClose_retires hq hopen
    have hring (v : Nat) : (t.bay p).ring v = ((s.bay p).setRing rv (closedEnd ((s.bay p).ring rv))).ring v := by rw [hown]; rfl
    refine ⟨t, hexec, ?_, ?_, fun v hv => ?_, hseq, hframe⟩
    · rw [hring, ring_setRing_self]; rfl
    · rw [hring, ring_setRing_self]; rfl
    · rw [hring, ring_setRing_ne _ _ hv]

/-! ## ACQ and TAKE (R121, R146, R154) -/

/-- An ACQ or TAKE whose end counts a slot retires; the stall it had counts at its end. -/
theorem ringWait_retires {rop lb peer prv n z base : Nat} {role consumer : Bool} (hq : Issues s lb (.ring rop rv role peer prv n z base))
    (hopen : ((s.bay (s.phys lb)).ring rv).opened = true) (hcons : ((s.bay (s.phys lb)).ring rv).consumer = consumer)
    (hcount : 1 ≤ ((s.bay (s.phys lb)).ring rv).count) :
    ∃ t, issueCue lb s (ringCue rop fun s p rv r _ => ringWait consumer s p rv r) = .next t ∧
      SeqAt s t (s.phys lb) (s.get CUE_SEQSTAT_PC (s.phys lb) + 1) ∧ t.bay (s.phys lb) = retired (stalled (s.bay (s.phys lb)) rv s.clk.ca) ∧
      CueFrame s t (s.phys lb) (· = seqstat (s.phys lb)) := by
  obtain ⟨hown, hin⟩ := ringStalled_eq s (s.phys lb) rv
  have hframe : CueFrame s (s.ringStalled (s.phys lb) rv) (s.phys lb) fun _ => False :=
    ⟨fun r _ _ => hin.raw r, hin.bays, by rw [hown, stalled_rings], hin.keepsBeyondCues⟩
  have h := retireCue_retiresTo hframe id (by rw [hown, stalled_rings]; exact hq.plain.2)
  exact ⟨_, issueCue_of_issues hq (ringCue_of_ok (ringWait_of_counted hopen hcons hcount)), h.seq, by rw [h.own, hown],
    cueFrame_mono h.frame fun r hr => hr.resolve_right id⟩

/-! ## FILL and FREE (R146) -/

/-- An end whose FILL or FREE has issued with order number `ord`. -/
def givingEnd (r : RingEnd) (ord : Nat) : RingEnd :=
  { r with icursor := 0, iindex := (r.iindex + 1) % r.nsl, waiting := r.waiting ++ [ord], fills := r.fills ++ [ord] }

/-- An end whose FILL or FREE has issued and, with nothing waiting before it, has been performed. -/
def gaveEnd (r : RingEnd) : RingEnd :=
  { r with count := r.count - 1, index := (r.index + 1) % r.nsl, cursor := 0, icursor := 0, iindex := (r.iindex + 1) % r.nsl }

/-- An end that has passed its slot on. -/
def passedEnd (r : RingEnd) : RingEnd :=
  { r with count := r.count - 1, index := if r.nsl = 0 then 0 else (r.index + 1) % r.nsl, cursor := 0 }

/-- A slot passes: the end goes to its next slot and the other end is sent its credit. -/
theorem RingActs.advance (h : RingActs s t p rv r (s.phys r.peer) cs) :
    RingActs s (t.ringAdvance p rv) p rv (passedEnd r) (s.phys r.peer) (cs ++ [(r.prv, !r.consumer)]) := by
  unfold State.ringAdvance
  rw [h.ends.ring]
  exact (h.setRing _).sendCredit rfl _

/-- An end whose only waiting cue has its turn. -/
def turnedEnd (r : RingEnd) : RingEnd := { r with waiting := [], fills := [] }

/-- The FILL or FREE that waits alone at its end is performed. -/
theorem ringFills_of_single {ord : Nat} (hr : (s.bay p).ring rv = r) (hw : r.waiting = [ord]) (hf : r.fills = [ord]) :
    s.ringFills p rv 1 = (s.modBay p fun b => b.setRing rv (turnedEnd r)).ringAdvance p rv := by
  simp [State.ringFills, hr, hw, hf, turnedEnd]

theorem gaveEnd_eq (ord : Nat) (hnsl : 0 < r.nsl) (hw : r.waiting = []) (hf : r.fills = []) :
    gaveEnd r = passedEnd (turnedEnd (givingEnd r ord)) := by
  simp [gaveEnd, passedEnd, turnedEnd, givingEnd, hw, hf, hnsl.ne']

/-- FILL or FREE with nothing waiting before it passes its slot at once. -/
theorem ringActs_give (s : State) (p rv ord : Nat) (hnsl : 0 < r.nsl) (hw : r.waiting = []) (hf : r.fills = []) :
    RingActs s ((s.modBay p fun b => b.setRing rv (givingEnd r ord)).ringFills p rv 1) p rv (gaveEnd r) (s.phys r.peer) [(r.prv, !r.consumer)] := by
  have hissue := ringActs_setRing s p rv (givingEnd r ord) (s.phys r.peer)
  have hlone : (givingEnd r ord).waiting = [ord] ∧ (givingEnd r ord).fills = [ord] := by simp [givingEnd, hw, hf]
  rw [gaveEnd_eq ord hnsl hw hf, ringFills_of_single hissue.ends.ring hlone.1 hlone.2]
  exact (hissue.setRing (turnedEnd (givingEnd r ord))).advance

theorem ringGive_of_counted {consumer : Bool} {r : RingEnd} (hopen : r.opened = true) (hcons : r.consumer = consumer)
    (hcount : 1 ≤ r.count) (hw : r.waiting = []) : ringGive consumer s p rv r =
    .ok ((((s.modBay p fun b => b.setRing rv (givingEnd r (s.bay p).ord)).ringFills p rv 1).retireCue p).kick p) := by
  have hsome : (r.count == 0) = false := beq_eq_false_iff_ne.mpr (by omega)
  simp only [ringGive, hopen, hcons, hsome, Bool.not_true, bne_self_eq_false, Bool.or_self, Bool.false_eq_true, if_false, hw, List.length_nil,
    Nat.zero_add, givingEnd]

/-- FILL and FREE pass a slot and retire. -/
theorem ringGive_retires {rop lb peer prv n z base : Nat} {role consumer : Bool} (hq : Issues s lb (.ring rop rv role peer prv n z base))
    (hr : (s.bay (s.phys lb)).ring rv = r) (hopen : r.opened = true) (hcons : r.consumer = consumer) (hcount : 1 ≤ r.count)
    (hnsl : 0 < r.nsl) (hw : r.waiting = []) (hf : r.fills = []) :
    ∃ t, issueCue lb s (ringCue rop fun s p rv r _ => ringGive consumer s p rv r) = .next t ∧
      RingRetires s t (s.phys lb) rv (gaveEnd r) (s.phys r.peer) [(r.prv, !consumer)] := by
  refine ⟨_, issueCue_of_issues hq (ringCue_of_ok (by rw [hr]; exact ringGive_of_counted hopen hcons hcount hw)), RingRetires.kick ?_⟩
  rw [← hcons]
  exact (ringActs_give s _ rv _ hnsl hw hf).retires hq.plain.2

/-- Settles O8: ACQ and TAKE find a slot counted and retire, FILL and FREE pass theirs to the other end at once. -/
theorem ringSlotsPassBetweenTheEnds : Obligations.RingSlotsPassBetweenTheEnds := by
  refine ⟨?acq, ?take, ?give⟩
  case acq =>
    intro s lb rv role peer prv n z base hq p hopen hcons hcount
    exact ringWait_retires hq hopen hcons hcount
  case take =>
    intro s lb rv role peer prv n z base hq p hopen hcons hcount
    exact ringWait_retires hq hopen hcons hcount
  case give =>
    intro s lb c rop rv role peer prv n z base hq hop p r hopen hcons hcount hnsl hw hf
    obtain ⟨consumer, hexec, hcons, hfull⟩ : ∃ consumer, exec c s = issueCue lb s (ringCue rop fun s p rv r _ => ringGive consumer s p rv r) ∧
        r.consumer = consumer ∧ (!consumer) = decide (rop = 3) := by
      obtain ⟨rfl, rfl⟩ | ⟨rfl, rfl⟩ := hop
      · exact ⟨false, rfl, by simpa using hcons, rfl⟩
      · exact ⟨true, rfl, by simpa using hcons, rfl⟩
    obtain ⟨t, hnext, hends, hseq, hregs⟩ := ringGive_retires hq rfl hopen hcons hcount hnsl hw hf
    refine ⟨t, hexec.trans hnext, hends.ring, ?_, hends.bays, hends.wings, hseq, hregs⟩
    rw [← hfull]
    exact hends.credits

end Sys2Proof.Proofs
end

section
/-! Curtains (R149 to R153): the request, the start and the end, which settles O36. -/

namespace Sys2Proof.Proofs

open Sys2Proof.Machine Sys2Proof.Laws Sys2Proof.Claims

variable {s t u : State} {p d : Nat} {c : Curt}

/-! ## Events (R450) -/

theorem sendVec_rest (s : State) (v : Nat) : s.sendVec v = { s with regs := (s.sendVec v).regs, host := (s.sendVec v).host } := by
  unfold State.sendVec
  split
  · rfl
  · split
    · rfl
    · split <;> rfl

theorem raw_sendVec (s : State) (v : Nat) {r : Reg} (hr : ¬ named .MSIX_PBA 0 r) : (s.sendVec v).raw r = s.raw r := by
  unfold State.sendVec
  split
  · rfl
  · split
    · rfl
    · split
      · exact raw_setRaw_ne s _ fun e => hr (by rw [e]; exact ⟨rfl, rfl⟩)
      · rfl

theorem event_rest (s : State) (n : Nat) : s.event n = { s with regs := (s.event n).regs, host := (s.event n).host } := by
  unfold State.event
  dsimp only
  split
  · rfl
  · split
    · rw [sendVec_rest]; rfl
    · rfl

theorem bays_event (s : State) (n : Nat) : (s.event n).bays = s.bays := by rw [event_rest]

/-- An event touches its own registers only. -/
theorem raw_event (s : State) (n : Nat) {r : Reg} (hr : ¬ eventReg r) : (s.event n).raw r = s.raw r := by
  obtain ⟨hstat, hpba⟩ := not_or.mp hr
  have hput : (s.put HST_EVSTAT_EVENTS (s.get HST_EVSTAT_EVENTS + 2 ^ n)).raw r = s.raw r := raw_put_ne s _ _ _ _ hstat
  unfold State.event
  dsimp only
  split
  · rfl
  · split
    · rw [raw_sendVec _ _ hpba, hput]
    · exact hput

/-- An event sets its bit. -/
theorem eventSet_event (s : State) {n : Nat} (hn : n < 12) : eventSet (s.event n) n := by
  have hput (h : (s.get HST_EVSTAT_EVENTS).testBit n = false) :
      ((s.put HST_EVSTAT_EVENTS (s.get HST_EVSTAT_EVENTS + 2 ^ n)).get HST_EVSTAT_EVENTS).testBit n = true := by
    rw [get_put_self s _ _ _ _ (by decide), Nat.testBit_mod_two_pow, Nat.add_comm, Nat.testBit_two_pow_add_eq, h]
    simpa using hn
  unfold eventSet State.event
  dsimp only
  split
  · next h => exact h
  · next h =>
    have h := hput (Bool.eq_false_iff.mpr h)
    split
    · rw [get_def, raw_sendVec _ _ (fun e => absurd e.1 (by decide)), ← get_def, h]
    · exact h

/-! ## The request (R150) -/

/-- The register that shows a curtain. -/
def curtstat : Reg := ⟨.RST_CURTSTAT, 0, 0⟩

theorem raw_writeFields_curtctl (s : State) (v : Nat) : (s.writeFields ⟨.RST_CURTCTL, 0, 0⟩ v).raw ⟨.RST_CURTCTL, 0, 0⟩ =
    BitVec.ofNat 64 (putBits (putBits (s.raw ⟨.RST_CURTCTL, 0, 0⟩).toNat 8 1 (bits v 8 1)) 0 8 (bits v 0 8)) := raw_setRaw_self s _ _

/-- A field of RST_CURTCTL that the host has written. -/
theorem get_writeFields_curtctl (s : State) (v : Nat) {f : Fld} (hf : f = RST_CURTCTL_GRM ∨ f = RST_CURTCTL_KEEP) :
    (s.writeFields ⟨.RST_CURTCTL, 0, 0⟩ v).get f = bits v f.lo f.w := by
  have hlt : putBits (putBits (s.raw ⟨.RST_CURTCTL, 0, 0⟩).toNat 8 1 (bits v 8 1)) 0 8 (bits v 0 8) < 2 ^ 64 :=
    putBits_lt _ _ _ _ (putBits_lt _ _ _ _ (BitVec.isLt _) (by decide)) (by decide)
  obtain rfl | rfl := hf
  · rw [get_def, raw_writeFields_curtctl, BitVec.toNat_ofNat, Nat.mod_eq_of_lt hlt, bits_putBits_self]
    exact Nat.mod_eq_of_lt (bits_lt _ _ _)
  · rw [get_def, raw_writeFields_curtctl, BitVec.toNat_ofNat, Nat.mod_eq_of_lt hlt, bits_putBits_disjoint _ _ _ _ _ _ (Or.inr (by decide)),
      bits_putBits_self]
    exact Nat.mod_eq_of_lt (bits_lt _ _ _)

theorem put_rest (s : State) (f : Fld) (x u i : Nat) : s.put f x u i = { s with regs := (s.put f x u i).regs } := rfl

/-- The curtain that a write of `v` with GO requests. -/
def curtainOf (s : State) (v : W32) : Curt :=
  { bays := BitVec.ofNat 64 (s.get RST_CURTBAY_BAYS), grm := BitVec.ofNat 8 (bits v.toNat 0 8), keep := v.getLsbD 8 }

theorem wrCurtctl_of_go {v : W32} (hgo : v.getLsbD 9 = true) : (s.writeFields ⟨.RST_CURTCTL, 0, 0⟩ v.toNat).wrCurtctl v.toNat =
    (s.writeFields ⟨.RST_CURTCTL, 0, 0⟩ v.toNat).requestCurtain (curtainOf s v) := by
  have hbays : (s.writeFields ⟨.RST_CURTCTL, 0, 0⟩ v.toNat).get RST_CURTBAY_BAYS = s.get RST_CURTBAY_BAYS := by
    rw [get_def, raw_writeFields_ne s _ _ (reg_ne_of_name (by decide) _ _ _ _), get_def]
  have hkeep : (s.writeFields ⟨.RST_CURTCTL, 0, 0⟩ v.toNat).flag RST_CURTCTL_KEEP = v.getLsbD 8 := by
    rw [State.flag, get_writeFields_curtctl s _ (Or.inr rfl), BitVec.getLsbD, Nat.testBit_eq_decide_div_mod_eq]
    rfl
  rw [State.wrCurtctl, if_pos (show bit v.toNat 9 = true from hgo), hbays, hkeep, get_writeFields_curtctl s _ (Or.inl rfl), curtainOf]

/-- A write of GO records the curtain it asks for. -/
theorem curtain_requested {v : W32} (hw : HostWrites s ⟨.RST_CURTCTL, 0, 0⟩) (hgo : v.getLsbD 9 = true) (hnone : s.curtQ = none) :
    ∃ t, exec (.curtainGo v) s = .next t ∧ t.curtQ = some (curtainOf s v) ∧ t.get RST_CURTSTAT_QUEUED = 1 ∧
      KeepsRegs (fun r => r = ⟨.RST_CURTCTL, 0, 0⟩ ∨ r = ⟨.RST_CURTSTAT, 0, 0⟩) s t ∧ t = { s with regs := t.regs, curtQ := t.curtQ } := by
  have hexec : exec (.curtainGo v) s = .next ((s.writeFields ⟨.RST_CURTCTL, 0, 0⟩ v.toNat).wrCurtctl v.toNat) :=
    hostSet_of_hostWrites (n := 1) Nat.one_pos hw v.toNat fun s => s.wrCurtctl v.toNat
  rw [wrCurtctl_of_go hgo] at hexec
  have hrest := writeFields_eq s ⟨.RST_CURTCTL, 0, 0⟩ v.toNat
  have hraw : KeepsRegs (· = ⟨.RST_CURTCTL, 0, 0⟩) s (s.writeFields ⟨.RST_CURTCTL, 0, 0⟩ v.toNat) := fun r hr =>
    raw_writeFields_ne s _ _ hr
  generalize s.writeFields ⟨.RST_CURTCTL, 0, 0⟩ v.toNat = u at hexec hrest hraw
  rw [State.requestCurtain, show u.curtQ = none by rw [hrest, hnone]] at hexec
  refine ⟨_, hexec, rfl, get_put_self _ _ _ _ _ (by decide), fun r hr => ?_, by rw [put_rest, hrest]⟩
  obtain ⟨hctl, hstat⟩ := not_or.mp hr
  rw [raw_put_ne _ _ _ _ _ hstat, ← hraw r hctl]
  rfl

/-! ## The start: what a stop of units keeps while no command has started (R96, R151) -/

/-- Storage, the curtains' records and the running order stay, and no command has started. -/
structure CurtainKeeps (s t : State) : Prop where
  wings : ∀ q, (t.bay q).wings = (s.bay q).wings
  mem   : t.mem = s.mem
  curt  : t.curt = s.curt
  curtQ : t.curtQ = s.curtQ
  stat  : t.raw curtstat = s.raw curtstat
  ro    : t.ro = s.ro
  idle  : t.ro.cmds = []

theorem wings_foldl {α : Type} {f : Bay → α → Bay} (hf : ∀ b a, (f b a).wings = b.wings) (l : List α) (b : Bay) :
    (l.foldl f b).wings = b.wings :=
  List.foldlRecOn (motive := fun c : Bay => c.wings = b.wings) l f rfl fun c h a _ => (hf c a).trans h

theorem wings_ringDrop (b : Bay) (op : Opnd) (ord : Nat) : (b.ringDrop op ord).wings = b.wings := by
  cases op <;> rfl

theorem wings_cutDrain (b : Bay) (d : DrainOp) : (b.cutDrain d).wings = b.wings := by
  unfold Bay.cutDrain
  split
  · rfl
  · exact wings_ringDrop b _ _

/-- With no started command a bay at rest ends none. -/
theorem settleBay_of_idle {s : State} (h : s.ro.cmds = []) (p : Nat) : s.settleBay p = s := by
  unfold State.settleBay
  split
  · rw [State.settleLane, State.cmd, h]; rfl
  · rfl

namespace CurtainKeeps

theorem refl (h : s.ro.cmds = []) : CurtainKeeps s s := ⟨fun _ => rfl, rfl, rfl, rfl, rfl, rfl, h⟩

theorem trans (h : CurtainKeeps s t) (k : CurtainKeeps t u) : CurtainKeeps s u :=
  ⟨fun q => (k.wings q).trans (h.wings q), k.mem.trans h.mem, k.curt.trans h.curt, k.curtQ.trans h.curtQ, k.stat.trans h.stat,
    k.ro.trans h.ro, k.idle⟩

theorem ite {c : Prop} [Decidable c] (ht : CurtainKeeps s t) (hu : CurtainKeeps s u) : CurtainKeeps s (if c then t else u) := by
  split <;> assumption

theorem foldl {α : Type} {f : State → α → State} (hf : ∀ t a, CurtainKeeps s t → CurtainKeeps s (f t a)) (l : List α)
    (h : CurtainKeeps s t) : CurtainKeeps s (l.foldl f t) :=
  List.foldlRecOn (motive := CurtainKeeps s) l f h fun t ht a _ => hf t a ht

/-! ### Parts of the state -/

theorem put (h : CurtainKeeps s t) (f : Fld) (x v i : Nat) (hf : .RST_CURTSTAT ≠ f.reg) : CurtainKeeps s (t.put f x v i) :=
  ⟨h.wings, h.mem, h.curt, h.curtQ, (raw_put_ne t f x v i (reg_ne_of_name hf _ _ _ _)).trans h.stat, h.ro, h.idle⟩

theorem bump (h : CurtainKeeps s t) (f : Fld) (n v i : Nat) (hf : .RST_CURTSTAT ≠ f.reg) : CurtainKeeps s (t.bump f n v i) := by
  unfold State.bump
  exact ite h (h.put f _ v i hf)

theorem clear (h : CurtainKeeps s t) (n : RegName) (v i : Nat) (hn : .RST_CURTSTAT ≠ n) : CurtainKeeps s (t.clear n v i) :=
  ⟨h.wings, h.mem, h.curt, h.curtQ, (raw_clear_ne t n v i (reg_ne_of_name hn _ _ _ _)).trans h.stat, h.ro, h.idle⟩

theorem modBay (h : CurtainKeeps s t) (p : Nat) {f : Bay → Bay} (hf : ∀ b, (f b).wings = b.wings := by intro _; rfl) :
    CurtainKeeps s (t.modBay p f) :=
  ⟨fun q => (keeps_modBay Bay.wings hf t p q).trans (h.wings q), h.mem, h.curt, h.curtQ, h.stat, h.ro, h.idle⟩

theorem modDie (h : CurtainKeeps s t) (d : Nat) (f : Die → Die) : CurtainKeeps s (t.modDie d f) :=
  ⟨h.wings, h.mem, h.curt, h.curtQ, h.stat, h.ro, h.idle⟩

theorem setEng (h : CurtainKeeps s t) (e : Nat) (x : Engine) : CurtainKeeps s (t.setEng e x) :=
  ⟨h.wings, h.mem, h.curt, h.curtQ, h.stat, h.ro, h.idle⟩

theorem setLedger (h : CurtainKeeps s t) (l : List LedgerEntry) : CurtainKeeps s { t with ledger := l } :=
  ⟨h.wings, h.mem, h.curt, h.curtQ, h.stat, h.ro, h.idle⟩

theorem modCmd (h : CurtainKeeps s t) (id : Nat) (f : Cmd → Cmd) : CurtainKeeps s (t.modCmd id f) := by
  have hro : (t.modCmd id f).ro = t.ro := by rw [State.modCmd, h.idle, List.map_nil, ← h.idle]
  exact ⟨h.wings, h.mem, h.curt, h.curtQ, h.stat, hro.trans h.ro, by rw [hro, h.idle]⟩

/-! ### Messages, alerts and swaps (R355, R450) -/

theorem event (h : CurtainKeeps s t) (n : Nat) : CurtainKeeps s (t.event n) := by
  have hstat : (t.event n).raw curtstat = t.raw curtstat := raw_event t n (by simp [eventReg, named, curtstat])
  refine h.trans ⟨fun q => ?_, ?_, ?_, ?_, hstat, ?_, ?_⟩
  · rw [State.bay, bays_event, ← State.bay]
  all_goals rw [event_rest]
  exact h.idle

theorem alert (h : CurtainKeeps s t) : CurtainKeeps s t.alert := by
  have hp : CurtainKeeps s { t with pins := { t.pins with alertN := !t.alertSource } } :=
    ⟨h.wings, h.mem, h.curt, h.curtQ, h.stat, h.ro, h.idle⟩
  exact ite (hp.event 0) hp

theorem service (h : CurtainKeeps s t) : CurtainKeeps s t.service := (h.put _ _ _ _ (by decide)).alert

theorem requestSwap (h : CurtainKeeps s t) (lb : Nat) : CurtainKeeps s (t.requestSwap lb) := by
  unfold State.requestSwap State.setDomain
  split
  · next b _ _ =>
    have hs := ((h.modDie (lb / 8) fun x => { x with swap := some { lbay := lb } }).put ⟨.PWR_DOMSTAT, b, 1⟩ (b2n true) (lb / 8) 0
      (show RegName.RST_CURTSTAT ≠ .PWR_DOMSTAT by decide)).put UST_SWAP_STATE 1 0 0 (by decide)
    exact ite (hs.put UST_STAT_CAND 0 0 0 (by decide)).alert hs
  · exact (h.put UST_SWAP_STATE 5 0 0 (by decide)).event 5

theorem recordCandidate (h : CurtainKeeps s t) (lb : Nat) : CurtainKeeps s (t.recordCandidate lb) :=
  ((h.put UST_STAT_CAND 1 0 0 (by decide)).put UST_STAT_CBAY lb 0 0 (by decide)).alert

theorem swapCandidate (h : CurtainKeeps s t) (lb : Nat) : CurtainKeeps s (t.swapCandidate lb) := by
  unfold State.swapCandidate
  have hs := ite (c := t.flag UST_CFG_AUTO = true) (h.requestSwap lb) h
  generalize (if t.flag UST_CFG_AUTO = true then t.requestSwap lb else t) = v at hs
  have hr := ite (c := (!(t.die (lb / 8)).swap.isSome && v.flag UST_CFG_AUTO) = true) hs (hs.recordCandidate lb)
  exact ite hs (ite hr.service hr)

theorem bayTrigger (h : CurtainKeeps s t) (p : Nat) : CurtainKeeps s (t.bayTrigger p) := by
  unfold State.bayTrigger
  split
  · exact h.swapCandidate _
  · exact h

/-! ### The units of a bay -/

theorem bayFlag (h : CurtainKeeps s t) (p b : Nat) : CurtainKeeps s (t.bayFlag p b) := by
  unfold State.bayFlag
  split
  · exact h.modCmd _ _
  · exact h

theorem bayStatus (h : CurtainKeeps s t) (p code : Nat) : CurtainKeeps s (t.bayStatus p code) := by
  unfold State.bayStatus
  split
  · exact h.modCmd _ _
  · exact h

theorem corrRise (h : CurtainKeeps s t) (p n : Nat) : CurtainKeeps s (t.corrRise p n) :=
  ite ((h.modBay p).bayTrigger p) (h.modBay p)

theorem arrayEcc (h : CurtainKeeps s t) (p arr : Nat) (keys : Nat → Bool) : CurtainKeeps s (t.arrayEcc p arr keys) := by
  unfold State.arrayEcc
  have hs (n m : Nat) := ((h.bump CUE_ARRECC_CORR n p 0 (by decide)).bump CUE_ARRECC_UNCORR m p 0 (by decide)).modBay p
    (f := fun b => b.modArr arr fun a => { a with errs := a.errs.filter fun e => !(keys e.1 && e.2 == .corr) })
  have hc (n m k : Nat) := ite (c := k = 0) (hs n m) (((hs n m).bayFlag p 1).corrRise p k)
  exact ite (hc _ _ _) (((hc _ _ _).bayStatus p cECC_UNCORR).bayTrigger p)

theorem feedRows (h : CurtainKeeps s t) (p arr : Nat) (f : FeedOp) (m : Nat) : CurtainKeeps s (t.feedRows p arr f m) := by
  unfold State.feedRows
  exact ite h ((foldl (fun _ _ hu => hu.modBay p) _ (h.arrayEcc p arr _)).modBay p)

theorem ringMove (h : CurtainKeeps s t) (p : Nat) (op : Opnd) (n : Nat) : CurtainKeeps s (t.ringMove p op n) := by
  unfold State.ringMove
  split
  · exact h
  · exact h.modBay p

theorem shareRows (h : CurtainKeeps s t) (p : Nat) (f : FeedOp) (reach : Nat → Nat → Bool) : CurtainKeeps s (t.shareRows p f reach) := by
  unfold State.shareRows
  exact h.modBay p

theorem haltArray (h : CurtainKeeps s t) (p arr : Nat) : CurtainKeeps s (t.haltArray p arr) := by
  unfold State.haltArray State.fresh
  dsimp only
  have hs : CurtainKeeps s { t with free := t.free + 1 + 1 } := ⟨h.wings, h.mem, h.curt, h.curtQ, h.stat, h.ro, h.idle⟩
  generalize { t with free := t.free + 1 + 1 } = u at hs
  refine modBay ?units p fun b => ?queues
  case queues =>
    refine (wings_foldl (fun c l => ?load) _ _).trans (wings_foldl (fun c q => ?feed) _ b)
    case load =>
      split
      · rfl
      · exact wings_ringDrop c _ _
    case feed =>
      cases q with
      | feed f => exact wings_ringDrop c _ _
      | walk _ _ _ _ => rfl
  case units =>
    split
    case' h_1 => refine ite (modBay ?_ p fun _ => rfl) ?_
    all_goals
      split
      · exact ite (ite (((hs.feedRows p arr _ _).ringMove p _ _).shareRows p _ _) ((hs.feedRows p arr _ _).ringMove p _ _)) hs
      · exact hs

theorem photoAbandon (h : CurtainKeeps s t) (p : Nat) : CurtainKeeps s (t.photoAbandon p) := by
  unfold State.photoAbandon
  split
  · exact h
  · exact ((h.modBay p).bump OBS_PHOTOSTAT_ABANDON 1 _ 0 (by decide)).put OBS_PHOTOSTAT_BUSY 0 _ 0 (by decide)

theorem haltUnits (h : CurtainKeeps s t) (p : Nat) : CurtainKeeps s (t.haltUnits p) := by
  unfold State.haltUnits
  refine modDie (modBay ((foldl (fun _ a hu => hu.haltArray p a) _ h).photoAbandon p) p fun b => ?_) _ _
  refine (wings_foldl (fun c m => ?_) _ _).trans (wings_foldl wings_cutDrain _ b)
  rw [wings_ringDrop, wings_ringDrop, wings_ringDrop]

theorem settleBay (h : CurtainKeeps s t) (p : Nat) : CurtainKeeps s (t.settleBay p) := by
  rw [settleBay_of_idle h.idle]; exact h

theorem pointersStop (h : CurtainKeeps s t) (p : Nat) : CurtainKeeps s (t.pointersStop p) := by
  unfold State.pointersStop
  have hs := h.modBay p (f := fun b => { b with stopReq := .none })
  dsimp only
  generalize t.modBay p (fun b => { b with stopReq := .none }) = u at hs ⊢
  refine ite ?running (ite ?parked (ite ?loading (hs.settleBay p)))
  case running => exact ((hs.haltUnits p).put _ _ _ _ (by decide)).modBay p
  case parked =>
    have hstash : CurtainKeeps s (match u.logical p with | some lb => { u with stashes := Tab.erase u.stashes lb } | none => u) := by
      split
      · exact ⟨hs.wings, hs.mem, hs.curt, hs.curtQ, hs.stat, hs.ro, hs.idle⟩
      · exact hs
    exact ite ((hstash.haltUnits p).modBay p) (((hstash.put _ _ _ _ (by decide)).modBay p).settleBay p)
  case loading => exact ((hs.put _ _ _ _ (by decide)).modBay p).settleBay p

/-! ### A covered bay (R71, R151, R236) -/

theorem dropCheck (h : CurtainKeeps s t) (p : Nat) : CurtainKeeps s (t.dropCheck p) :=
  ite ((h.modBay p).bump UST_STAT_CHKABORT 1 0 0 (by decide)) h

theorem dropMove (h : CurtainKeeps s t) (e : Nat) (m : MoveOp) : CurtainKeeps s (t.dropMove e m) := by
  unfold State.dropMove
  exact ((h.setEng e _).setLedger _).modBay m.phys

theorem curtainPrompter (h : CurtainKeeps s t) (lb : Nat) : CurtainKeeps s (t.curtainPrompter lb) := by
  unfold State.curtainPrompter
  refine clear (foldl (fun _ _ hu => foldl (fun _ _ hv => hv.dropMove _ _) _ hu) _ (modDie ?_ _ _)) _ _ _ (by decide)
  exact ite (put (ite (h.put _ _ _ _ (by decide)) h) _ _ _ _ (by decide)) (ite (h.put _ _ _ _ (by decide)) h)

theorem curtainBay (h : CurtainKeeps s t) (p : Nat) : CurtainKeeps s (t.curtainBay p) := by
  unfold State.curtainBay
  have hs := ((h.dropCheck p).photoAbandon p).modBay p (f := fun b => { b with stopReq := .none })
  have hstop {c : Prop} [Decidable c] := ite (c := c) (hs.pointersStop p) hs
  dsimp only
  split
  · exact (modBay hstop p).curtainPrompter _
  · exact modBay hstop p

end CurtainKeeps

/-! ## The start (R151) -/

/-- The curtain `c` runs, its status shows it and its frame is excluded. -/
def curtainBegun (s : State) (c : Curt) : State :=
  (({ s with curt := some c, curtQ := none }.put RST_CURTSTAT_QUEUED 0).put RST_CURTSTAT_BUSY 1).markExcl

theorem markExcl_rest_of_puts (s : State) (f g : Fld) (x y u i v j : Nat) : ((s.put f x u i).put g y v j).markExcl =
    { s with regs := ((s.put f x u i).put g y v j).markExcl.regs, ro := { s.ro with frameExcl := true } } := rfl

/-- Beginning a curtain changes its own records alone. -/
theorem curtainBegun_rest (s : State) (c : Curt) : curtainBegun s c =
    { s with curt := some c, curtQ := none, regs := (curtainBegun s c).regs, ro := { s.ro with frameExcl := true } } :=
  markExcl_rest_of_puts { s with curt := some c, curtQ := none } RST_CURTSTAT_QUEUED RST_CURTSTAT_BUSY 0 1 0 0 0 0

theorem ro_curtainBegun (s : State) (c : Curt) : (curtainBegun s c).ro = { s.ro with frameExcl := true } := by
  rw [curtainBegun_rest]

theorem bays_curtainBegun (s : State) (c : Curt) : (curtainBegun s c).bays = s.bays := by rw [curtainBegun_rest]

theorem curtainStart_of_idle (hcurt : s.curt = none) (hq : s.curtQ = some c) (hidle : s.ro.cmds = []) :
    s.curtainStart = ((curtainBegun s c).coveredBays.foldl State.curtainBay (curtainBegun s c)).settleAll := by
  have hcmds : (curtainBegun s c).ro.cmds = [] := by rw [ro_curtainBegun, hidle]
  rw [State.curtainStart, hcurt, hq]
  dsimp only
  rw [← curtainBegun, hcmds, List.foldl_nil]

theorem settleAll_of_idle (h : s.ro.cmds = []) : s.settleAll = s := by
  rw [State.settleAll, h]; rfl

theorem get_markExcl (s : State) (f : Fld) (u i : Nat) : s.markExcl.get f u i = s.get f u i := rfl

theorem busy_curtainBegun (s : State) (c : Curt) : (curtainBegun s c).get RST_CURTSTAT_BUSY = 1 := by
  rw [curtainBegun, get_markExcl, get_put_self _ _ _ _ _ (by decide)]
  rfl

theorem queued_curtainBegun (s : State) (c : Curt) : (curtainBegun s c).get RST_CURTSTAT_QUEUED = 0 := by
  rw [curtainBegun, get_markExcl, get_put_disjoint _ RST_CURTSTAT_BUSY RST_CURTSTAT_QUEUED _ _ _ (by decide) rfl (Or.inl (by decide)),
    get_put_self _ _ _ _ _ (by decide), Nat.zero_mod]

/-- A curtain that waits starts; with no command to stop, storage stays. -/
theorem curtain_starts (hclk : s.clocked = true) (hcurt : s.curt = none) (hq : s.curtQ = some c) (hidle : s.ro.cmds = []) :
    ∃ t, exec .curtainStart s = .next t ∧ t.curt = some c ∧ t.curtQ = none ∧ t.get RST_CURTSTAT_BUSY = 1 ∧
      t.get RST_CURTSTAT_QUEUED = 0 ∧ t.ro.frameExcl = true ∧ (∀ p, (t.bay p).wings = (s.bay p).wings) ∧ t.mem = s.mem := by
  have hro := ro_curtainBegun s c
  have hstop := CurtainKeeps.foldl (fun _ p h => h.curtainBay p) (curtainBegun s c).coveredBays (CurtainKeeps.refl (by rw [hro, hidle]))
  have hexec : exec .curtainStart s = .next ((curtainBegun s c).coveredBays.foldl State.curtainBay (curtainBegun s c)) := by
    rw [show exec .curtainStart s = execCurtainStart s from rfl, execCurtainStart, onClock_run s hclk, curtainStart_of_idle hcurt hq hidle,
      settleAll_of_idle hstop.idle]
  refine ⟨_, hexec, by rw [hstop.curt, curtainBegun_rest], by rw [hstop.curtQ, curtainBegun_rest], ?busy, ?queued,
    by rw [hstop.ro, hro], fun p => ?wings, by rw [hstop.mem, curtainBegun_rest]⟩
  case busy => rw [get_def, show Reg.mk .RST_CURTSTAT 0 0 = curtstat from rfl, hstop.stat]; exact busy_curtainBegun s c
  case queued => rw [get_def, show Reg.mk .RST_CURTSTAT 0 0 = curtstat from rfl, hstop.stat]; exact queued_curtainBegun s c
  case wings => rw [hstop.wings, State.bay, bays_curtainBegun, ← State.bay]

/-! ## The end: covered bays (R152, R153) -/

/-- Only bay `p` and registers other than the curtain's status changed. -/
structure ZeroesIn (p : Nat) (s t : State) : Prop where
  bays : ∀ q, q ≠ p → t.bay q = s.bay q
  dies : t.dies = s.dies
  mem  : t.mem = s.mem
  stat : t.raw curtstat = s.raw curtstat

namespace ZeroesIn

theorem ite {b : Prop} [Decidable b] (ht : ZeroesIn p s t) (hu : ZeroesIn p s u) : ZeroesIn p s (if b then t else u) := by
  split <;> assumption

theorem modBay (s : State) (p : Nat) (f : Bay → Bay) : ZeroesIn p s (s.modBay p f) := ⟨fun _ hq => bay_modBay_ne s f hq, rfl, rfl, rfl⟩

theorem put (h : ZeroesIn p s t) (f : Fld) (x v i : Nat) (hf : .RST_CURTSTAT ≠ f.reg) : ZeroesIn p s (t.put f x v i) :=
  ⟨h.bays, h.dies, h.mem, (raw_put_ne t f x v i (reg_ne_of_name hf _ _ _ _)).trans h.stat⟩

theorem clear (h : ZeroesIn p s t) (n : RegName) (v : Nat) (hn : .RST_CURTSTAT ≠ n) : ZeroesIn p s (t.clear n v) :=
  ⟨h.bays, h.dies, h.mem, (raw_clear_ne t n v 0 (reg_ne_of_name hn _ _ _ _)).trans h.stat⟩

theorem clearAll (h : ZeroesIn p s t) (n : RegName) (v : Nat) (hn : .RST_CURTSTAT ≠ n) : ZeroesIn p s (t.clearAll n v) := by
  refine ⟨h.bays, h.dies, h.mem, ?_⟩
  rw [raw_clearAll, if_neg fun e => hn e.1, h.stat]

end ZeroesIn

theorem zeroBay_zeroesIn (s : State) (p : Nat) (keep : Bool) : ZeroesIn p s (s.zeroBay p keep) := by
  unfold State.zeroBay
  dsimp only
  have held {f : Bay → Bay} {k : Prop} [Decidable k] : ZeroesIn p s
      (if k then (s.modBay p f).put CUE_RESSTAT_KEPT 1 p else ((s.modBay p f).clear .CUE_RESSTAT p).clear .CUE_TOKEN p) :=
    ZeroesIn.ite ((ZeroesIn.modBay s p f).put _ _ _ _ (by decide)) (((ZeroesIn.modBay s p f).clear _ _ (by decide)).clear _ _ (by decide))
  have cleared {t : State} (h : ZeroesIn p s t) := (((((((h.clearAll .CUE_AGBASE p (by decide)).clearAll .CUE_AGDIM p (by decide)).clearAll
    .CUE_SEM p (by decide)).clearAll .CUE_LOOP p (by decide)).clearAll .CUE_RESTAB_LO p (by decide)).clearAll .CUE_RESTAB_HI p
    (by decide)).clear .CUE_FAULT p (by decide)).clear .CUE_LIVEMASK p (by decide)
  exact ZeroesIn.ite ((cleared held).clear _ _ (by decide)) (cleared held)

/-- A bay's storage is empty: it reads as zero. -/
structure ZeroBay (b : Bay) : Prop where
  wings    : b.wings = []
  wingsErr : b.wingsErr = []
  arrs     : b.arrs = []
  cueMem   : b.cueMem = []
  held     : b.held = []

theorem bay_clear (s : State) (n : RegName) (v i p : Nat) : (s.clear n v i).bay p = s.bay p := rfl

theorem bay_clearAll (s : State) (n : RegName) (v p : Nat) : (s.clearAll n v).bay p = s.bay p := rfl

theorem zeroBay_zero (s : State) (p : Nat) : ZeroBay ((s.zeroBay p false).bay p) := by
  unfold State.zeroBay
  simp only [Bool.false_and, Bool.false_eq_true, if_false, List.filter_false]
  split
  · simp only [bay_clear, bay_clearAll, bay_modBay_self]
    exact ⟨rfl, rfl, rfl, rfl, rfl⟩
  · simp only [bay_clear, bay_clearAll, bay_modBay_self]
    exact ⟨rfl, rfl, rfl, rfl, rfl⟩

/-- The bays of a list are zero; of the rest only registers other than the curtain's status changed. -/
structure BaysZero (l : List Nat) (s t : State) : Prop where
  zero : ∀ p ∈ l, ZeroBay (t.bay p)
  bays : ∀ p, p ∉ l → t.bay p = s.bay p
  dies : t.dies = s.dies
  mem  : t.mem = s.mem
  stat : t.raw curtstat = s.raw curtstat

theorem foldl_zeroBay (l : List Nat) (s : State) : BaysZero l s (l.foldl (fun s p => s.zeroBay p false) s) := by
  induction l generalizing s with
  | nil => exact ⟨fun _ hp => absurd hp List.not_mem_nil, fun _ _ => rfl, rfl, rfl, rfl⟩
  | cons a l ih =>
    have hrest := ih (s.zeroBay a false)
    have hone := zeroBay_zeroesIn s a false
    refine ⟨fun p hp => ?zero, fun p hp => ?bays, hrest.dies.trans hone.dies, hrest.mem.trans hone.mem, hrest.stat.trans hone.stat⟩
    case zero =>
      by_cases hl : p ∈ l
      · exact hrest.zero p hl
      · obtain rfl := (List.mem_cons.mp hp).resolve_right hl
        rw [List.foldl_cons, hrest.bays p hl]
        exact zeroBay_zero s p
    case bays =>
      obtain ⟨hne, hl⟩ := not_or.mp fun h => hp (List.mem_cons.mpr h)
      rw [List.foldl_cons, hrest.bays p hl, hone.bays p hne]

/-! ## The end: green rooms and swaps (R149, R360) -/

/-- Only dies and registers other than the curtain's status changed. -/
structure DiesChange (s t : State) : Prop where
  bays : t.bays = s.bays
  mem  : t.mem = s.mem
  stat : t.raw curtstat = s.raw curtstat

theorem DiesChange.put (h : DiesChange s t) (f : Fld) (x v i : Nat) (hf : .RST_CURTSTAT ≠ f.reg) : DiesChange s (t.put f x v i) :=
  ⟨h.bays, h.mem, (raw_put_ne t f x v i (reg_ne_of_name hf _ _ _ _)).trans h.stat⟩

theorem DiesChange.modDie (h : DiesChange s t) (d : Nat) (f : Die → Die) : DiesChange s (t.modDie d f) := ⟨h.bays, h.mem, h.stat⟩

theorem zeroGreens_diesChange (s : State) (m : Byte) : DiesChange s (s.zeroGreens m) :=
  List.foldlRecOn (motive := fun t => DiesChange s t) _ _ ⟨rfl, rfl, rfl⟩ fun t h d _ => by
    split
    · exact h.modDie d _
    · exact h

theorem green_zeroGreen (s : State) (d e : Nat) : ((s.zeroGreen d).die e).green = if e = d then [] else (s.die e).green := by
  unfold State.zeroGreen
  split
  · next h => rw [h, die_modDie_self]
  · next h => rw [die_modDie_ne s _ h]

/-- The green rooms of the mask are empty, the others stay. -/
theorem green_zeroGreens (s : State) (m : Byte) (hd : d < 8) :
    ((s.zeroGreens m).die d).green = if m.getLsbD d then [] else (s.die d).green := by
  have other {y : State} {e : Nat} (he : e ≠ d) : ((if m.getLsbD e then y.zeroGreen e else y).die d).green = (y.die d).green := by
    split
    · rw [green_zeroGreen, if_neg he.symm]
    · rfl
  refine foldl_range_visit (P := fun y : State => (y.die d).green = (s.die d).green)
    (Q := fun y : State => (y.die d).green = if m.getLsbD d then [] else (s.die d).green) hd rfl
    (fun y e _ he h => (other he).trans h) (fun y h => ?here) (fun y e _ he h => (other he).trans h)
  case here =>
    split
    · rw [green_zeroGreen, if_pos rfl]
    · exact h

/-- The swap of die `d` as the curtain leaves it. -/
def swapCopied (bays : W64) (s : State) (d : Nat) : State :=
  match (s.die d).swap with
  | some w =>
    if w.inF0 && !w.copied && bays.getLsbD w.lbay then
      (s.modDie d fun x => { x with swap := some { w with copied := true } }).put UST_SWAP_STATE 4
    else s
  | none => s

theorem curtainSwaps_eq (s : State) (bays : W64) : s.curtainSwaps bays = (List.range 8).foldl (swapCopied bays) s := rfl

theorem green_swapCopied (bays : W64) (s : State) (d e : Nat) : ((swapCopied bays s d).die e).green = (s.die e).green := by
  unfold swapCopied
  split
  · split
    · rw [die_put]
      by_cases h : e = d
      · rw [h, die_modDie_self]
      · rw [die_modDie_ne s _ h]
    · rfl
  · rfl

theorem green_curtainSwaps (s : State) (bays : W64) (d : Nat) : ((s.curtainSwaps bays).die d).green = (s.die d).green :=
  foldl_keeps (fun s => (s.die d).green) (fun s e => green_swapCopied bays s e d) _ s

theorem curtainSwaps_diesChange (s : State) (bays : W64) : DiesChange s (s.curtainSwaps bays) := by
  rw [curtainSwaps_eq]
  refine List.foldlRecOn (motive := fun t => DiesChange s t) _ _ ⟨rfl, rfl, rfl⟩ fun t h d _ => ?_
  unfold swapCopied
  split
  · split
    · exact (h.modDie d _).put _ _ _ _ (by decide)
    · exact h
  · exact h

/-! ## The end: status and event (R152, R450) -/

/-- A curtain's end in its status register and as event CURTAIN. -/
def curtainEnded (s : State) : State := ((s.put RST_CURTSTAT_BUSY 0).bumpWrap RST_CURTSTAT_DONE).event 4

theorem get_curtainEnded (s : State) {f : Fld} (hf : f.reg = .RST_CURTSTAT) :
    (curtainEnded s).get f = ((s.put RST_CURTSTAT_BUSY 0).bumpWrap RST_CURTSTAT_DONE).get f := by
  have hne : ¬ eventReg ⟨f.reg, 0, 0⟩ := by simp [eventReg, named, hf]
  rw [curtainEnded, get_def, raw_event _ _ hne, get_def]

theorem busy_curtainEnded (s : State) : (curtainEnded s).get RST_CURTSTAT_BUSY = 0 := by
  rw [get_curtainEnded s rfl, State.bumpWrap, get_put_disjoint _ RST_CURTSTAT_DONE RST_CURTSTAT_BUSY _ _ _ (by decide) rfl
    (Or.inr (by decide)), get_put_self _ _ _ _ _ (by decide), Nat.zero_mod]

theorem done_curtainEnded (s : State) : (curtainEnded s).get RST_CURTSTAT_DONE = (s.get RST_CURTSTAT_DONE + 1) % 2 ^ 16 := by
  rw [get_curtainEnded s rfl, State.bumpWrap, get_put_self _ _ _ _ _ (by decide), get_put_disjoint _ RST_CURTSTAT_BUSY RST_CURTSTAT_DONE
    _ _ _ (by decide) rfl (Or.inl (by decide))]

/-- Registers change, then an event happens. -/
theorem event_rest_of_regs (h : t = { s with regs := t.regs }) (n : Nat) :
    t.event n = { s with regs := (t.event n).regs, host := (t.event n).host } :=
  (event_rest t n).trans (congrArg (fun v : State => { v with regs := (t.event n).regs, host := (t.event n).host }) h)

theorem rest_bumpWrap_put (s : State) (f g : Fld) (x n v i w j : Nat) :
    (s.put f x v i).bumpWrap g n w j = { s with regs := ((s.put f x v i).bumpWrap g n w j).regs } := rfl

theorem curtainEnded_rest (s : State) : curtainEnded s = { s with regs := (curtainEnded s).regs, host := (curtainEnded s).host } :=
  event_rest_of_regs (rest_bumpWrap_put s RST_CURTSTAT_BUSY RST_CURTSTAT_DONE 0 1 0 0 0 0) 4

theorem curt_curtainEnded (s : State) : (curtainEnded s).curt = s.curt := by rw [curtainEnded_rest]

theorem mem_curtainEnded (s : State) : (curtainEnded s).mem = s.mem := by rw [curtainEnded_rest]

theorem bay_curtainEnded (s : State) (p : Nat) : (curtainEnded s).bay p = s.bay p :=
  congrArg (fun bays => Tab.get ({} : Bay) bays p) (show (curtainEnded s).bays = s.bays by rw [curtainEnded_rest])

theorem die_curtainEnded (s : State) (d : Nat) : (curtainEnded s).die d = s.die d :=
  congrArg (fun dies => Tab.get ({} : Die) dies d) (show (curtainEnded s).dies = s.dies by rw [curtainEnded_rest])

/-- What a curtain makes of the storage it covers. -/
def curtainZeroed (s : State) (c : Curt) : State :=
  { ((s.coveredBays.foldl (fun s p => s.zeroBay p c.keep) s).zeroGreens c.grm).curtainSwaps c.bays with curt := none }

theorem curtainDone_of_ready (hcurt : s.curt = some c) (hready : s.curtainReady = true) :
    s.curtainDone = curtainEnded (curtainZeroed s c) := by
  rw [State.curtainDone, hcurt]
  simp only [hready, Bool.not_true, Bool.false_eq_true, if_false]
  rw [curtainEnded, curtainZeroed]

/-- Covered storage reads as zero once every covered bay has stopped. -/
theorem curtain_ends (hclk : s.clocked = true) (hcurt : s.curt = some c) (hready : s.curtainReady = true) (hkeep : c.keep = false) :
    ∃ t, exec .curtainDone s = .next t ∧ t.curt = none ∧ t.get RST_CURTSTAT_BUSY = 0 ∧
      t.get RST_CURTSTAT_DONE = (s.get RST_CURTSTAT_DONE + 1) % 2 ^ 16 ∧ eventSet t 4 ∧
      (∀ p, p < 72 → s.covers p = true → ZeroBay (t.bay p)) ∧ (∀ p, s.covers p = false → t.bay p = s.bay p) ∧
      (∀ d, d < 8 → (t.die d).green = if c.grm.getLsbD d then [] else (s.die d).green) ∧ t.mem = s.mem := by
  have hexec : exec .curtainDone s = .next (curtainEnded (curtainZeroed s c)) := by
    rw [show exec .curtainDone s = execCurtainDone s from rfl, execCurtainDone, onClock_run s hclk, curtainDone_of_ready hcurt hready]
  rw [curtainZeroed, hkeep] at hexec
  have hbays := foldl_zeroBay s.coveredBays s
  generalize s.coveredBays.foldl (fun s p => s.zeroBay p false) s = u at hexec hbays
  have hdies := zeroGreens_diesChange u c.grm
  have hgreen (d : Nat) (hd : d < 8) := (green_curtainSwaps (u.zeroGreens c.grm) c.bays d).trans (green_zeroGreens u c.grm hd)
  have hswaps := curtainSwaps_diesChange (u.zeroGreens c.grm) c.bays
  generalize (u.zeroGreens c.grm).curtainSwaps c.bays = v at hexec hgreen hswaps
  have hbay (p : Nat) : v.bay p = u.bay p := by rw [State.bay, hswaps.bays, hdies.bays, ← State.bay]
  have hdone : ({ v with curt := none } : State).get RST_CURTSTAT_DONE = s.get RST_CURTSTAT_DONE :=
    congrArg (fun x : W64 => bits x.toNat 0 16) (hswaps.stat.trans (hdies.stat.trans hbays.stat))
  have hcovered (p : Nat) : p ∈ s.coveredBays ↔ p < 72 ∧ s.covers p = true := by simp [State.coveredBays]
  have hmem : v.mem = s.mem := hswaps.mem.trans (hdies.mem.trans hbays.mem)
  refine ⟨_, hexec, curt_curtainEnded _, busy_curtainEnded _, by rw [done_curtainEnded, hdone], eventSet_event _ (by decide),
    fun p hp hcov => ?zero, fun p hcov => ?others, fun d hd => ?green, (mem_curtainEnded _).trans hmem⟩
  case zero =>
    rw [bay_curtainEnded]
    exact hbay p ▸ hbays.zero p ((hcovered p).mpr ⟨hp, hcov⟩)
  case others =>
    rw [bay_curtainEnded]
    exact (hbay p).trans (hbays.bays p fun h => absurd hcov (by simp [((hcovered p).mp h).2]))
  case green =>
    rw [die_curtainEnded, show s.die d = u.die d by rw [State.die, ← hbays.dies, ← State.die]]
    exact hgreen d hd

/-- Settles O36: the request is a host write, the start stops the covered bays' units and stores nothing, and the end empties the covered
bays and green rooms one by one. -/
theorem curtainsRunToZeroStorage : Obligations.CurtainsRunToZeroStorage := by
  refine ⟨fun s v => curtain_requested, fun s c => curtain_starts, ?ends⟩
  case ends =>
    intro s c hclk hcurt hready hkeep
    obtain ⟨t, hexec, hnone, hbusy, hdone, hevent, hzero, hothers, hgreen, hmem⟩ := curtain_ends hclk hcurt hready hkeep
    refine ⟨t, hexec, hnone, hbusy, hdone, hevent, fun p hp hcov => ?_, hothers, hgreen, hmem⟩
    obtain ⟨hwings, herr, harrs, hcue, hheld⟩ := hzero p hp hcov
    exact ⟨hwings, herr, harrs, hcue, hheld⟩

end Sys2Proof.Proofs
end

section
/-! Memory windows (R171, R172): the staged windows a COMMIT takes and the committed ones in force, which settles O26. -/

namespace Sys2Proof.Proofs

open Sys2Proof.Machine Sys2Proof.Laws Sys2Proof.Claims

variable {s t : State} {w : Tab Window} {n : Nat}

/-! ## Staged windows -/

/-- The register that commits the windows and shows them pending. -/
def winctl : Reg := ⟨.STR_WINCTL, 0, 0⟩

/-- Staged window `n`. -/
def stagedWindow (s : State) (n : Nat) : Window :=
  { base := s.get STR_WINW0_BASE 0 n, limit := s.get STR_WINW1_LIMIT 0 n, rd := s.flag STR_WINW0_RD 0 n, w := s.flag STR_WINW0_W 0 n }

/-- Window `n` joins the staged ones where it permits something. -/
def stageWindow (s : State) (x : Tab Window) (n : Nat) : Tab Window :=
  if (stagedWindow s n).rd || (stagedWindow s n).w then Tab.set {} x n (stagedWindow s n) else x

theorem stagedWindows_eq (s : State) : s.stagedWindows = (List.range 64).foldl (stageWindow s) [] := rfl

theorem get_stageWindow_ne (x : Tab Window) {i : Nat} (h : n ≠ i) : Tab.get {} (stageWindow s x n) i = Tab.get {} x i := by
  unfold stageWindow
  split
  · exact get_set_ne _ _ _ h.symm
  · rfl

theorem get_stagedWindows (hn : n < 64) (hperm : s.flag STR_WINW0_RD 0 n = true ∨ s.flag STR_WINW0_W 0 n = true) :
    Tab.get {} s.stagedWindows n = stagedWindow s n := by
  have hjoins : ((stagedWindow s n).rd || (stagedWindow s n).w) = true := Bool.or_eq_true_iff.mpr hperm
  refine foldl_range_visit (f := stageWindow s) (P := fun _ => True) (Q := fun x => Tab.get {} x n = stagedWindow s n) hn trivial
    (fun _ _ _ _ _ => trivial) (fun x _ => ?_) fun x a _ ha h => (get_stageWindow_ne x ha).trans h
  rw [stageWindow, if_pos hjoins, get_set_self]

/-- Staged windows are read of their own registers. -/
theorem stagedWindow_congr (h : KeepsRegs (· = winctl) s t) (n : Nat) : stagedWindow t n = stagedWindow s n := by
  have h0 : t.raw ⟨.STR_WINW0, 0, n⟩ = s.raw ⟨.STR_WINW0, 0, n⟩ := h _ (reg_ne_of_name (by decide) _ _ _ _)
  have h1 : t.raw ⟨.STR_WINW1, 0, n⟩ = s.raw ⟨.STR_WINW1, 0, n⟩ := h _ (reg_ne_of_name (by decide) _ _ _ _)
  simp only [stagedWindow, State.flag, get_def, h0, h1]

/-! ## COMMIT -/

theorem windows_committed (hw : HostWrites s winctl) : ∃ t, exec .strWinctlCommit s = .next t ∧ t.get STR_WINCTL_PEND = 1 ∧
    (∃ w, t.winPend = some w ∧ ∀ n, n < 64 → (s.flag STR_WINW0_RD 0 n = true ∨ s.flag STR_WINW0_W 0 n = true) →
      Tab.get {} w n = stagedWindow s n) ∧
    KeepsRegs (· = winctl) s t ∧ t = { s with regs := t.regs, winPend := t.winPend } := by
  have hexec : exec .strWinctlCommit s = .next ((s.writeFields winctl 1).wrWinctl 1) :=
    hostSet_of_hostWrites (n := 1) Nat.one_pos hw 1 fun s => s.wrWinctl 1
  have hrest := writeFields_eq s winctl 1
  have hraw : KeepsRegs (· = winctl) s (s.writeFields winctl 1) := fun r hr => raw_writeFields_ne s _ _ hr
  generalize s.writeFields winctl 1 = u at hexec hrest hraw
  rw [State.wrWinctl, if_pos (by decide)] at hexec
  refine ⟨_, hexec, get_put_self _ _ _ _ _ (by decide), ⟨u.stagedWindows, rfl, fun n hn hperm => ?staged⟩, fun r hr => ?raw, ?rest⟩
  case staged =>
    have hu := stagedWindow_congr hraw n
    have hrd : (stagedWindow u n).rd = (stagedWindow s n).rd := by rw [hu]
    have hwr : (stagedWindow u n).w = (stagedWindow s n).w := by rw [hu]
    exact (get_stagedWindows hn (hperm.imp hrd.trans hwr.trans)).trans hu
  case raw => exact (raw_put_ne _ _ _ _ _ hr).trans (hraw r hr)
  case rest => rw [put_rest, hrest]

/-! ## Application -/

theorem applyWindows_eq (h : s.winPend = some w) : s.applyWindows = { s with windows := w, winPend := none }.put STR_WINCTL_PEND 0 := by
  rw [State.applyWindows, h]

/-- What the windows in force permit. -/
theorem permits_iff (s : State) (a : Nat) (wr : Bool) : s.permits a wr = true ↔
    s.place a ≠ .none ∧ ∃ x ∈ s.windows, x.2.base ≤ a / 64 ∧ a / 64 ≤ x.2.limit ∧ (if wr then x.2.w else x.2.rd) = true := by
  simp only [State.permits, Bool.and_eq_true, bne_iff_ne, List.any_eq_true, decide_eq_true_eq, and_assoc]

theorem windows_applied (hclk : s.clocked = true) (hidle : s.flag RUN_STAT_ACTIVE = false) (hpend : s.winPend = some w) :
    ∃ t, exec .windowApply s = .next t ∧ t.windows = w ∧ t.winPend = none ∧ t.get STR_WINCTL_PEND = 0 ∧
      (∀ a wr, t.permits a wr = true ↔ s.place a ≠ .none ∧ ∃ x ∈ w, x.2.base ≤ a / 64 ∧ a / 64 ≤ x.2.limit ∧
        (if wr then x.2.w else x.2.rd) = true) ∧
      KeepsRegs (· = winctl) s t ∧ t = { s with regs := t.regs, windows := w, winPend := none } := by
  have hexec : exec .windowApply s = .next s.applyWindows := by
    rw [show exec .windowApply s = execWindowApply s from rfl, execWindowApply, onClock_run s hclk, if_neg (by simp [hidle])]
  rw [applyWindows_eq hpend] at hexec
  exact ⟨_, hexec, rfl, rfl, get_put_self _ _ _ _ _ (by decide), fun a wr => permits_iff _ a wr, fun r hr => raw_put_ne _ _ _ _ _ hr, rfl⟩

/-- Settles O26: a COMMIT is a host write that takes the staged windows, each of which is set once, and the committed windows, applied, are
all that a permission asks. -/
theorem windowsAreCommittedAndApplied : Obligations.WindowsAreCommittedAndApplied :=
  ⟨fun _ hw => windows_committed hw, fun _ _ hclk hidle hpend => windows_applied hclk hidle hpend⟩

end Sys2Proof.Proofs
end

section
/-! What a MOVE's read of a sound granule of DDR leaves (R11, R171, R174, R192, R201): the accesses change counters and the depots only, and
the granule that comes back holds the bytes that DDR holds. -/

namespace Sys2Proof.Proofs

open Sys2Proof.Machine Sys2Proof.Laws Sys2Proof.Claims

variable {s t u : State} {a e : Nat} {m : MoveOp}

/-! ## Reads of sound DDR (R192, R201) -/

/-- Reads of sound DDR count, and change which lines a depot holds. -/
structure Reads (s t : State) : Prop where
  raw  : ∀ r, r.name ≠ .OBS_CNT → r.name ≠ .DEP_STAT → t.raw r = s.raw r
  rest : t = { s with regs := t.regs, obs := t.obs, ports := t.ports }

namespace Reads

theorem refl (s : State) : Reads s s := ⟨fun _ _ _ => rfl, rfl⟩

theorem trans (h : Reads s t) (k : Reads t u) : Reads s u := by
  refine ⟨fun r hc hd => (k.raw r hc hd).trans (h.raw r hc hd), ?_⟩
  rw [k.rest, h.rest]

theorem of_counts (h : Counts s t) : Reads s t := ⟨fun r hr _ => h.raw r hr, by rw [h.rest]⟩

theorem count (h : Reads s t) (blk ev unit n : Nat) : Reads s (t.count blk ev unit n) := h.trans (of_counts (count_counts t blk ev unit n))

theorem modPort (h : Reads s t) (p : Nat) (f : Port → Port) : Reads s (t.modPort p f) := h.trans ⟨fun _ _ _ => rfl, rfl⟩

theorem depotShow (h : Reads s t) (p : Nat) : Reads s (t.depotShow p) :=
  h.trans ⟨fun r _ hr => raw_put_ne t _ _ _ _ fun e => hr (by rw [e]), rfl⟩

theorem bay (h : Reads s t) (q : Nat) : t.bay q = s.bay q := by rw [h.rest]; rfl

theorem eng (h : Reads s t) (x : Nat) : t.eng x = s.eng x := by rw [h.rest]; rfl

theorem get (h : Reads s t) (f : Fld) (v i : Nat) (hc : f.reg ≠ .OBS_CNT) (hd : f.reg ≠ .DEP_STAT) : t.get f v i = s.get f v i := by
  rw [get_def, h.raw _ hc hd, get_def]

end Reads

theorem depotErrs_none (h : ddrSound s) (p : Nat) : (s.port p).depot.errs = [] := by
  obtain ⟨-, -, hports⟩ := h
  suffices ∀ t : Tab Port, (∀ x ∈ t, x.2.depot.errs = []) → (Tab.get {} t p).depot.errs = [] from this s.ports hports
  intro t ht
  induction t with
  | nil => rfl
  | cons x t ih =>
    obtain ⟨hx, ht⟩ := List.forall_mem_cons.mp ht
    rw [Tab.get]
    split
    · exact hx
    · exact ih ht

theorem depotDrop_reads (h : (s.port p).depot.errs = []) (sel : Nat → Bool) : Reads s (s.depotDrop p sel) := by
  unfold State.depotDrop State.depotBack
  simp only [h, List.filter_nil, List.map_nil, List.dedup_nil, List.flatMap_nil, List.length_nil]
  exact ((((Reads.refl s).modPort p _).depotShow p).count _ _ _ _).modPort p _

theorem depotAccess_reads (h : ddrSound s) (a : Nat) (write whole : Bool) : Reads s (s.depotAccess a write whole) := by
  have herrs : s.depotErrs (s.chanOf a / 8) a whole = s := by simp [State.depotErrs, depotErrs_none h]
  unfold State.depotAccess
  simp only [herrs]
  split
  · refine ((Reads.modPort ?_ _ _).depotShow _).count _ _ _ _
    split
    · split
      · exact Reads.refl s
      · exact depotDrop_reads (depotErrs_none h _) _
    · exact Reads.refl s
  · exact Reads.refl s

theorem busAccess_of_sound (h : s.busErr = []) (a : Nat) (hit : Bool) : s.busAccess a hit = (s, false) := by
  simp [State.busAccess, h, Tab.get]

theorem granuleRead_reads (h : ddrSound s) (a : Nat) (x : EccSeen) : ∃ t, s.granuleRead a x = (t, x) ∧ Reads s t := by
  have hd := depotAccess_reads h a false false
  have hbus : (s.depotAccess a false false).busErr = [] := by rw [hd.rest]; exact h.2.1
  have ht := hd.count (portBlk (s.chanOf a / 8)) 0x40 (s.chanOf a % 8) 1
  refine ⟨_, ?_, ht⟩
  have herr : markOf ((s.depotAccess a false false).count (portBlk (s.chanOf a / 8)) 0x40 (s.chanOf a % 8) 1).memErr (a / 64) = none := by
    rw [ht.rest, markOf, show s.memErr = [] from h.1]
    rfl
  simp only [State.granuleRead, busAccess_of_sound hbus, herr]

theorem granulesAt_granule (g : Nat) : granulesAt (g * 64) 64 = [g * 64] := by
  have hone : (64 - 1 + g * 64) / 64 + 1 - g * 64 / 64 = 1 := by omega
  rw [granulesAt, if_neg (by decide), hone]
  simp [List.range_succ]

/-- A sound granule is read as it stands. -/
theorem devRead_granule {g : Nat} (h : ddrSound s) (hp : s.place (g * 64) = .ddr) :
    ∃ t, s.devRead (g * 64) 64 = (t, s.ddrBytes (g * 64) 64, {}) ∧ Reads s t := by
  obtain ⟨t, ht, hreads⟩ := granuleRead_reads h (g * 64) {}
  refine ⟨t, ?_, hreads⟩
  simp only [State.devRead, hp, State.ddrRead, granulesAt_granule, List.foldl_cons, List.foldl_nil, ht]

theorem ddrBytes_congr (hm : t.mem = s.mem) (he : t.memErr = s.memErr) (a n : Nat) : t.ddrBytes a n = s.ddrBytes a n := by
  induction n generalizing a with
  | zero => rfl
  | succ n ih => simp only [State.ddrBytes, State.ddrByte, hm, he, ih]

/-! ## Causeways (R11) -/

theorem cross_counts (s : State) (d : Nat) (x : DieId) (n : Nat) (back : Bool) : Counts s (s.cross d x n back) := by
  refine foldl_counts s _ (fun s y => ?_) _
  have h := count_counts s (dieBlk y.1) (if back then 0x23 else 0x22) y.2 (units64 n)
  dsimp only
  split
  · exact h.trans (count_counts _ _ _ _ _)
  · exact h

theorem greenPort_counts (s : State) (m : MoveOp) (a : Nat) : Counts s (s.greenPort m a) := by
  unfold State.greenPort
  split
  · split
    · exact count_counts s _ _ _ _
    · exact Counts.refl s
  · exact Counts.refl s

theorem crossMove_counts (s : State) (m : MoveOp) (l : Loc) (n : Nat) (back : Bool) : Counts s (s.crossMove m l n back) := by
  unfold State.crossMove
  split
  · exact Counts.refl s
  · split
    · exact (greenPort_counts s m _).trans (cross_counts _ _ _ _ _)
    · exact Counts.refl s

/-! ## A granule fetched for a MOVE (R174) -/

theorem place_of_boot (h : t.boot = s.boot) (a : Nat) : t.place a = s.place a := by
  unfold State.place State.ddrSize State.reserveBase
  rw [h]

/-- A granule of DDR as it is fetched for a MOVE that does not watch it. -/
def granuleAt (s : State) (a : Nat) : Fetched := { granule := a / 64, bytes := s.ddrBytes (a / 64 * 64) 64 }

theorem fetch_granule (h : ddrSound s) (hw : s.watches m (a / 64) = false) (hp : s.place (a / 64 * 64) = .ddr) :
    ∃ t, s.fetch e m (.dev a) = (t, granuleAt s a) ∧ Reads s t := by
  have hc := crossMove_counts s m (.dev a) 64 true
  generalize hu : s.crossMove m (.dev a) 64 true = u at hc
  have hboot : u.boot = s.boot := by rw [hc.rest]
  have hsound : ddrSound u := by rw [hc.rest]; exact h
  obtain ⟨t, ht, hreads⟩ := devRead_granule hsound ((place_of_boot hboot _).trans hp)
  have hall := (Reads.of_counts hc).trans hreads
  have hwatch : t.watches m (a / 64) = false := by
    rw [← hw, State.watches, State.watches, place_of_boot (show t.boot = s.boot by rw [hall.rest])]
  have hbytes : u.ddrBytes (a / 64 * 64) 64 = s.ddrBytes (a / 64 * 64) 64 := ddrBytes_congr (by rw [hc.rest]) (by rw [hc.rest]) _ _
  refine ⟨t, ?_, hall⟩
  have hecc : t.moveEcc m {} = t := rfl
  simp only [State.fetch, hu, ht, hbytes, hecc, Loc.granule, Loc.device, hwatch, granuleAt, Bool.false_eq_true, if_false]

/-! ## Places no crossbar and no curtain holds (R137, R151) -/

theorem enginePort_ddr (hp : s.place a = .ddr) (e : Nat) (m : MoveOp) (key : Nat) (store : Bool) :
    s.enginePort e m (.dev a) key store = (s, true) := by
  simp only [State.enginePort, State.wingsLine, hp]

theorem covers_of_no_curtain (h : s.curt = none) (p : Nat) : s.covers p = false := by simp only [State.covers, h]

theorem coveredLoc_of_no_curtain (h : s.curt = none) (l : Loc) : s.coveredLoc l = false := by
  unfold State.coveredLoc
  split
  · rw [covers_of_no_curtain h, Bool.false_and]
  · split
    · rw [covers_of_no_curtain h, Bool.false_and]
    · rw [h]; rfl
    · rfl

/-! ## Commands on an engine -/

theorem eng_bump (s : State) (f : Fld) (n v i x : Nat) : (s.bump f n v i).eng x = s.eng x := by rw [bump_eq]; rfl

theorem onEngine_run (he : e < 104) (hclk : s.clocked = true) (f : State → State) :
    onUnit e 104 s (fun s => if s.clocked then f s else s) = .next (f s) := by
  rw [onUnit_lt s he, if_pos hclk]

/-! ## What a MOVE holds (R177) -/

/-- The MOVE holds other granules, in requests or kept; all else of it stays. -/
def HoldsOnly (m m' : MoveOp) : Prop := m' = { m with ra := m'.ra, reqs := m'.reqs, kept := m'.kept }

theorem HoldsOnly.trans {m₁ m₂ m₃ : MoveOp} (h : HoldsOnly m₁ m₂) (k : HoldsOnly m₂ m₃) : HoldsOnly m₁ m₃ := by
  unfold HoldsOnly at *
  rw [k, h]

theorem putFetched_holdsOnly (m : MoveOp) (f : Fetched) : HoldsOnly m (m.putFetched f) := by
  unfold MoveOp.putFetched
  dsimp only
  split <;> exact rfl

theorem fetched_of_empty (hreqs : m.reqs = []) (hkept : m.kept = []) (g : Nat) : m.fetched g = none := by
  simp [MoveOp.fetched, MoveOp.holding, hreqs, hkept]

end Sys2Proof.Proofs
end

section
/-! Run-ahead, refetches and the end of a MOVE (R117, R174, R176, R177), which settles O25. -/

namespace Sys2Proof.Proofs

open Sys2Proof.Machine Sys2Proof.Laws Sys2Proof.Claims

variable {s t : State} {a e : Nat} {m : MoveOp} {rest : List MoveOp} {f : Fetched}

/-! ## Run-ahead (R174) -/

/-- What a request holds of the granule at `a`: its bytes, or the note that it was dropped. -/
def requested (s : State) (a : Nat) : Fetched :=
  if s.permits a false = true then granuleAt s a else { granule := a / 64, bad := true }

theorem fetchAll_permitted (h : ddrSound s) (hw : s.watches m (a / 64) = false) (hp : s.place (a / 64 * 64) = .ddr)
    (hperm : s.permits a false = true) : ∃ t, s.fetchAll e m [.dev a] = some (t, [requested s a]) ∧ Reads s t := by
  obtain ⟨t, ht, hreads⟩ := fetch_granule (e := e) h hw hp
  refine ⟨t, ?_, hreads⟩
  have hgran : (Loc.dev a).granule = a / 64 := rfl
  simp only [State.fetchAll, State.mayRead, hperm, hgran, hw, ht, requested, Bool.not_true, Bool.false_and, Bool.false_eq_true,
    if_false, if_true, Option.map_some]

theorem fetchAll_dropped (hperm : s.permits a false = false) :
    s.fetchAll e m [.dev a] = some (s.bump STR_RADROP_COUNT 1 e, [requested s a]) := by
  have hgran : (Loc.dev a).granule = a / 64 := rfl
  simp only [State.fetchAll, State.mayRead, hperm, hgran, requested, Bool.not_false, Bool.false_eq_true, if_false, if_true, Option.map_some]

/-- Run-ahead's reads: nothing but counts and depots changed; of a dropped granule the engine's count alone. -/
structure RanAhead (s t : State) (e a : Nat) : Prop where
  drops : s.permits a false = false →
    t.get STR_RADROP_COUNT e = counted STR_RADROP_COUNT (s.get STR_RADROP_COUNT e) 1 ∧ t.ports = s.ports
  rest  : t = { s with regs := t.regs, obs := t.obs, ports := t.ports }

theorem fetchAll_ranAhead (h : ddrSound s) (hw : s.watches m (a / 64) = false) (hp : s.place (a / 64 * 64) = .ddr) :
    ∃ t, s.fetchAll e m [.dev a] = some (t, [requested s a]) ∧ RanAhead s t e a := by
  by_cases hperm : s.permits a false = true
  · obtain ⟨t, ht, hreads⟩ := fetchAll_permitted (e := e) h hw hp hperm
    exact ⟨t, ht, fun hno => absurd (hperm.symm.trans hno) (by decide), hreads.rest⟩
  · refine ⟨_, fetchAll_dropped (Bool.eq_false_iff.mpr hperm), fun _ => ⟨get_bump_counted s _ _ _ _ (by decide), ?_⟩, ?_⟩
    all_goals rw [bump_eq]

/-- MOVE `m'` stands in the place of MOVE `id` in its engine's queue. -/
def replaceMove (s : State) (e id : Nat) (m' : MoveOp) : State :=
  s.setEng e { q := (s.eng e).q.map fun x => if x.id = id then m' else x }

/-- One missing granule is fetched, and its request joins the MOVE's. -/
theorem runahead_eq {i j : Nat} {ls : List Loc} {fs : List Fetched} (hmove : runMove (s.eng e).q = some m) (hroom : (s.eng e).inflight < 64)
    (hi : i = s.nextSrc m (m.count - max m.m m.ra) (max m.m m.ra)) (hlt : i < m.count) (hsrc : (s.elemAt m i).src = some (.dev a, false))
    (hrun : s.runFrom m (a / 256) (512 / (s.elemAt m i).h) i = (j, ls)) (hmiss : m.missing ls = [.dev a]) (hcurt : s.curt = none)
    (hp : s.place a = .ddr) (hall : s.fetchAll e m [.dev a] = some (t, fs)) :
    s.runahead e = replaceMove t e m.id { m with ra := j, reqs := m.reqs ++ [{ m0 := i, m1 := j, gs := fs }] } := by
  have hdev : (Loc.dev a).device = a := rfl
  simp only [State.runahead, hmove, if_neg (Nat.not_le.mpr hroom), ← hi, hsrc, decide_eq_false (Nat.not_le.mpr hlt), hdev, hrun, hmiss,
    List.isEmpty_cons, List.any_cons, List.any_nil, coveredLoc_of_no_curtain hcurt, enginePort_ddr hp, hall, Bool.or_false, Bool.false_and,
    Bool.not_true, Bool.false_eq_true, if_false, replaceMove]

theorem exec_runahead (hrun : EngineRuns s e) : exec (.runaheadRequest e) s = .next (s.runahead e) := by
  obtain ⟨he, hclk, -⟩ := hrun
  exact onEngine_run he hclk fun s => s.runahead e

/-! ## Refetches of stale granules (R177) -/

/-- Granule `f` with the bytes that DDR holds now. -/
def refetchedGranule (s : State) (f : Fetched) : Fetched :=
  { f with bytes := s.ddrBytes (64 * f.granule) 64, watched := false, stale := false, refetch := false }

theorem putFetched_of_held (h : (m.fetched f.granule).isSome = true) : m.putFetched f =
    { m with
      reqs := m.reqs.map fun r => { r with gs := r.gs.map fun x => if x.granule = f.granule ∧ x.bad = false then f else x }
      kept := m.kept.map fun x => if x.granule = f.granule ∧ x.bad = false then f else x } := if_pos h

theorem refetched_eq (hq : (s.eng e).q = m :: rest) (hf : (m.holding.find? fun x => x.refetch) = some f) (hs : ddrSound s)
    (hp : s.place (64 * f.granule) = .ddr) : ∃ t, s.refetched e =
      (t.setEng e { q := m.putFetched (refetchedGranule s f) :: rest }).bump STR_STALE_REFETCH 1 e ∧ Reads s t := by
  rw [Nat.mul_comm] at hp
  obtain ⟨t, ht, hreads⟩ := devRead_granule hs hp
  rw [Nat.mul_comm] at ht
  refine ⟨t, ?_, hreads⟩
  have hecc : t.moveEcc m {} = t := rfl
  simp only [State.refetched, hq, hf, ht, hecc, refetchedGranule]

theorem exec_refetch (hrun : EngineRuns s e) : exec (.staleRefetch e) s = .next (s.refetched e) := by
  obtain ⟨he, hclk, -⟩ := hrun
  exact onEngine_run he hclk fun s => s.refetched e

/-! ## The end of a MOVE (R117, R176) -/

theorem moveDone_eq {sem : Nat} (hq : (s.eng e).q = m :: rest) (hend : m.count ≤ m.m) (hdone : m.done = some sem)
    (hle : s.get CUE_SEM_VALUE m.phys sem + 1 ≤ 65535) :
    s.moveDone e = (s.dropMove e m).put CUE_SEM_VALUE (s.get CUE_SEM_VALUE m.phys sem + 1) m.phys sem := by
  have hget : (s.dropMove e m).get CUE_SEM_VALUE m.phys sem = s.get CUE_SEM_VALUE m.phys sem := rfl
  simp only [State.moveDone, hq, if_neg (Nat.not_lt.mpr hend), hdone]
  rw [semAdd_of_le (by rw [hget]; exact hle), hget]

theorem exec_moveDone (he : e < 104) (hclk : s.clocked = true) : exec (.moveDone e) s = .next (s.moveDone e) :=
  onEngine_run he hclk fun s => s.moveDone e

/-- A MOVE has left its engine, its bay and the ledger. -/
structure Dropped (s t : State) (e : Nat) (m : MoveOp) : Prop where
  queue  : (t.eng e).q = (s.eng e).q.filter fun x => x.id != m.id
  own    : t.bay m.phys = { s.bay m.phys with moves := (s.bay m.phys).moves.erase m.id }
  ledger : ∀ l ∈ t.ledger, l ∈ s.ledger ∧ l.move ≠ m.id
  bays   : ∀ q, q ≠ m.phys → t.bay q = s.bay q
  engs   : ∀ x, x ≠ e → t.eng x = s.eng x
  rest   : t = { s with bays := t.bays, engines := t.engines, ledger := t.ledger }

theorem dropMove_dropped (s : State) (e : Nat) (m : MoveOp) : Dropped s (s.dropMove e m) e m where
  queue  := congrArg Engine.q (eng_setEng_self s e _)
  own    := bay_modBay_self _ _ _
  ledger := fun l hl => by simpa using List.mem_filter.mp (show l ∈ s.ledger.filter fun l => l.move != m.id from hl)
  bays   := fun _ hq => bay_modBay_ne _ _ hq
  engs   := fun _ hx => eng_setEng_ne s _ hx
  rest   := rfl

/-! ## The statement -/

/-- Settles O25: the missing granule is fetched or dropped and its request joins; the refetched bytes stand in the stale ones' place; a MOVE
that ends leaves, then its semaphore gains 1. -/
theorem runaheadRefetchAndDone : Obligations.RunaheadRefetchAndDone := by
  refine ⟨?ahead, ?refetch, ?done⟩
  case ahead =>
    intro s e m i j a ls hrun hmove hroom hi hlt hsrc hfrom hmiss hw hp hpg hs
    obtain ⟨t, ht, hahead⟩ := fetchAll_ranAhead (e := e) hs hw hpg
    have hexec := exec_runahead hrun
    obtain ⟨-, -, hcurt⟩ := hrun
    rw [runahead_eq hmove hroom hi hlt hsrc hfrom hmiss hcurt hp ht] at hexec
    have heng (x : Nat) : t.eng x = s.eng x := by rw [hahead.rest]; rfl
    refine ⟨_, hexec, ?_, hahead.drops, ?_, ?_, fun x hx => (eng_setEng_ne t _ hx).trans (heng x)⟩
    · rw [replaceMove, eng_setEng_self, heng]; rfl
    · rw [replaceMove, setEng_mem, hahead.rest]
    · rw [replaceMove, setEng_bays, hahead.rest]
  case refetch =>
    intro s e m rest f hrun hq hf hheld hp hs
    obtain ⟨t, ht, hreads⟩ := refetched_eq hq hf hs hp
    have hexec := exec_refetch hrun
    rw [ht] at hexec
    have hput := putFetched_of_held (f := refetchedGranule s f) hheld
    generalize m.putFetched (refetchedGranule s f) = m' at hexec hput
    refine ⟨_, m', hexec, ?queue, by rw [hput], by rw [hput]; rfl, by rw [hput]; rfl, ?count, ?mem, ?bays, fun x hx => ?engines⟩
    case queue => rw [eng_bump, eng_setEng_self]
    case count => rw [get_bump_counted _ _ _ _ _ (by decide), get_setEng, hreads.get _ _ _ (by decide) (by decide)]; rfl
    case mem => rw [bump_eq, hreads.rest]; rfl
    case bays => rw [bump_eq, hreads.rest]; rfl
    case engines => rw [eng_bump, eng_setEng_ne t _ hx, hreads.eng]
  case done =>
    intro s e m rest sem he hclk hq hend hdone hle
    have hexec := exec_moveDone he hclk
    rw [moveDone_eq hq hend hdone hle] at hexec
    have hd := dropMove_dropped s e m
    refine ⟨_, hexec, ?_, ?_, hd.own, hd.ledger, fun r hr => raw_put_ne _ _ _ _ _ hr, rfl, hd.bays, hd.engs⟩
    · rw [eng_put, hd.queue, hq]
    · rw [get_put_self _ _ _ _ _ (by decide)]
      exact Nat.mod_eq_of_lt (show _ < 65536 by omega)

end Sys2Proof.Proofs
end

section
/-! The bytes of a gathered granule (R170): the half bytes of an element's value, the bytes they make, and the store of an element's granule
in a bay's wings. -/

namespace Sys2Proof.Proofs

open Sys2Proof.Machine Sys2Proof.Laws Sys2Proof.Claims

variable {s : State} {m : MoveOp} {w : Piece} {p o h v n : Nat}

/-! ## Numbers, their bytes and half bytes -/

theorem leVal_byte {bs : Bytes} {j : Nat} {b : Byte} (hb : bs[j]? = some b) : leVal bs / 256 ^ j % 256 = b.toNat := by
  induction bs generalizing j with
  | nil => simp at hb
  | cons x bs ih =>
    have hx := x.isLt
    cases j with
    | zero =>
      obtain rfl : x = b := by simpa using hb
      rw [leVal]
      omega
    | succ j =>
      have hshift : (x.toNat + 256 * leVal bs) / 256 = leVal bs := by omega
      rw [leVal, Nat.pow_succ', ← Nat.div_div_eq_div_mul, hshift]
      exact ih (by simpa using hb)

theorem length_nibbles (n v : Nat) : (nibbles n v).length = n := by
  induction n generalizing v with
  | zero => rfl
  | succ n ih => rw [nibbles, List.length_cons, ih]

theorem getD_nibbles {n k : Nat} (v : Nat) (hk : k < n) : (nibbles n v).getD k 16 = v / 16 ^ k % 16 := by
  induction n generalizing v k with
  | zero => omega
  | succ n ih =>
    cases k with
    | zero => simp [nibbles]
    | succ k =>
      rw [nibbles, List.getD_cons_succ, ih (v / 16) (by omega), Nat.div_div_eq_div_mul, Nat.pow_succ, Nat.mul_comm]

/-! ## The half bytes of a piece -/

theorem get_foldl_set (vs : List Nat) (x : Tab Nat) (pos i k : Nat) :
    Tab.get 16 ((vs.zipIdx i).foldl (fun (t : Tab Nat) y => Tab.set 16 t (pos + y.2) y.1) x) k =
      if pos + i ≤ k ∧ k < pos + i + vs.length then vs.getD (k - (pos + i)) 16 else Tab.get 16 x k := by
  induction vs generalizing x i with
  | nil => exact (if_neg (by rw [List.length_nil]; omega)).symm
  | cons z vs ih =>
    rw [List.zipIdx_cons, List.foldl_cons, ih, List.length_cons]
    by_cases hk : k = pos + i
    · rw [if_neg (by omega), if_pos (by omega), hk, get_set_self, Nat.sub_self, List.getD_cons_zero]
    · rw [get_set_ne 16 x z hk]
      by_cases hin : pos + (i + 1) ≤ k ∧ k < pos + (i + 1) + vs.length
      · rw [if_pos hin, if_pos (by omega), show k - (pos + i) = k - (pos + (i + 1)) + 1 by omega, List.getD_cons_succ]
      · rw [if_neg hin, if_neg (by omega)]

/-- The value of `n` whole bytes gathered at a wings offset. -/
def elementPiece (p o n v : Nat) (src : Option Nat) : Piece :=
  ({ loc := Loc.base (.own p o) } : Piece).add (2 * Loc.inGranule (.own p o) + b2n false) (nibbles (2 * n) v) src

theorem get_elementPiece (p o n v : Nat) (src : Option Nat) (k : Nat) : Tab.get 16 (elementPiece p o n v src).nibs k =
    if 2 * (o % 64) ≤ k ∧ k < 2 * (o % 64) + 2 * n then v / 16 ^ (k - 2 * (o % 64)) % 16 else 16 := by
  refine (get_foldl_set (nibbles (2 * n) v) [] (2 * (o % 64)) 0 k).trans ?_
  rw [length_nibbles, Nat.add_zero]
  split
  · next hk => exact getD_nibbles v (by omega)
  · rfl

/-! ## The bytes of a piece -/

/-- Byte `b` of a piece, where half of it is written. -/
def pieceByte (s : State) (w : Piece) (b : Nat) : Option (Nat × Byte) :=
  let lo := Tab.get 16 w.nibs (2 * b)
  let hi := Tab.get 16 w.nibs (2 * b + 1)
  let old := (s.locByte w.loc b).toNat
  if lo = 16 ∧ hi = 16 then none
  else some (b, BitVec.ofNat 8 ((if lo = 16 then old % 16 else lo) + 16 * (if hi = 16 then old / 16 else hi)))

theorem pieceBytes_eq (s : State) (w : Piece) : s.pieceBytes w = (List.range 64).filterMap (pieceByte s w) := rfl

theorem written_of_pieceByte {x : Nat × Byte} {b : Nat} (h : pieceByte s w b = some x) :
    x.1 = b ∧ (Tab.get 16 w.nibs (2 * b) ≠ 16 ∨ Tab.get 16 w.nibs (2 * b + 1) ≠ 16) := by
  unfold pieceByte at h
  dsimp only at h
  split at h
  · exact absurd h (by simp)
  · next hne => exact ⟨by rw [← Option.some.inj h], not_and_or.mp hne⟩

theorem pieceBytes_nodup (s : State) (w : Piece) : ((s.pieceBytes w).map (·.1)).Nodup := by
  rw [pieceBytes_eq, List.map_filterMap]
  refine List.nodup_range.filterMap fun b c k hb hc => ?_
  obtain ⟨x, hx, rfl⟩ := Option.map_eq_some_iff.mp hb
  obtain ⟨y, hy, hxy⟩ := Option.map_eq_some_iff.mp hc
  exact (written_of_pieceByte hx).1.symm.trans (hxy.symm.trans (written_of_pieceByte hy).1)

theorem mem_pieceBytes {b : Nat} (hb : b < 64) (hlo : Tab.get 16 w.nibs (2 * b) ≠ 16) (hhi : Tab.get 16 w.nibs (2 * b + 1) ≠ 16) :
    (b, BitVec.ofNat 8 (Tab.get 16 w.nibs (2 * b) + 16 * Tab.get 16 w.nibs (2 * b + 1))) ∈ s.pieceBytes w := by
  refine List.mem_filterMap.mpr ⟨b, List.mem_range.mpr hb, ?_⟩
  simp only [hlo, hhi, false_and, if_false]

/-! ## An element's bytes in the wings -/

/-- The bytes of a gathered granule at their wings offsets. -/
def pieceAt (s : State) (o : Nat) (w : Piece) : List (Nat × Byte) := (s.pieceBytes w).map fun x => (o + x.1, x.2)

theorem pieceAt_nodup (s : State) (o : Nat) (w : Piece) : ((pieceAt s o w).map (·.1)).Nodup := by
  have hkeys : (pieceAt s o w).map (·.1) = ((s.pieceBytes w).map (·.1)).map (o + ·) := by
    rw [pieceAt, List.map_map, List.map_map]
    rfl
  rw [hkeys]
  exact (pieceBytes_nodup s w).map fun _ _ => Nat.add_left_cancel

theorem read_put_element {src : Option Nat} (hfit : o % 64 + n ≤ 64) (x : Memory) {i : Nat} (hi : i < n) :
    (x.put (pieceAt s (o / 64 * 64) (elementPiece p o n v src))).read (o + i) = BitVec.ofNat 8 (v / 256 ^ i) := by
  have hlo : Tab.get 16 (elementPiece p o n v src).nibs (2 * (o % 64 + i)) = v / 256 ^ i % 16 := by
    rw [get_elementPiece, if_pos (by omega), show 2 * (o % 64 + i) - 2 * (o % 64) = 2 * i by omega, Nat.pow_mul]
  have hhi : Tab.get 16 (elementPiece p o n v src).nibs (2 * (o % 64 + i) + 1) = v / 256 ^ i / 16 % 16 := by
    rw [get_elementPiece, if_pos (by omega), show 2 * (o % 64 + i) + 1 - 2 * (o % 64) = 2 * i + 1 by omega, Nat.pow_succ, Nat.pow_mul,
      ← Nat.div_div_eq_div_mul]
  have hmem := mem_pieceBytes (s := s) (w := elementPiece p o n v src) (b := o % 64 + i) (by omega) (by omega) (by omega)
  have hread := read_put_of_mem x (pieceAt_nodup s (o / 64 * 64) _) (List.mem_map_of_mem hmem)
  rw [show o + i = o / 64 * 64 + (o % 64 + i) by omega]
  refine hread.trans (BitVec.eq_of_toNat_eq ?_)
  rw [hlo, hhi, BitVec.toNat_ofNat, BitVec.toNat_ofNat]
  omega

theorem read_put_outside {src : Option Nat} (x : Memory) {a : Nat} (ha : a < o ∨ o + n ≤ a) :
    (x.put (pieceAt s (o / 64 * 64) (elementPiece p o n v src))).read a = x.read a := by
  refine read_put_of_not_mem x fun y hy => ?_
  obtain ⟨z, hz, rfl⟩ := List.mem_map.mp hy
  obtain ⟨b, -, hb⟩ := List.mem_filterMap.mp hz
  obtain ⟨rfl, hset⟩ := written_of_pieceByte hb
  have hin : 2 * (o % 64) ≤ 2 * z.1 + 1 ∧ 2 * z.1 < 2 * (o % 64) + 2 * n := by
    rw [get_elementPiece, get_elementPiece] at hset
    by_contra hout
    rw [if_neg (by omega), if_neg (by omega)] at hset
    simp at hset
  dsimp only
  omega

/-- A bay's own granule is stored where no curtain, no photocall and no word error meets it. -/
theorem storePiece_own (hloc : w.loc = .own p o) (hcurt : s.curt = none) (herr : (s.bay p).wingsErr = []) (hphoto : (s.bay p).photo = none) :
    Stored s (s.storePiece m w) p (pieceAt s o w) := by
  obtain ⟨t, ht, hstored⟩ := wingsPut_of_clean herr (pieceAt s o w)
  have hcross (n : Nat) : s.crossMove m (.own p o) n false = s := rfl
  have hecc : t.moveEcc m {} = t := rfl
  have heq : s.storePiece m w = t := by
    simp only [State.storePiece, coveredLoc_of_no_curtain hcurt, hloc, hcross, tear_of_no_photo hphoto, Bool.false_eq_true, if_false]
    rw [← pieceAt, ht]
    exact hecc
  rw [heq]
  exact hstored

end Sys2Proof.Proofs
end

section
/-! Delivery (R171, R173, R174, R180): an element read of DDR is stored in its bay's wings, one that no window permits stops its MOVE, which
settles O24. -/

namespace Sys2Proof.Proofs

open Sys2Proof.Machine Sys2Proof.Laws Sys2Proof.Claims

variable {s t u : State} {a e h p o v : Nat} {m m' : MoveOp} {rest : List MoveOp} {el : Elem}

/-! ## The bytes an element reads (R173) -/

theorem getElem_ddrBytes (s : State) (a : Nat) {n i : Nat} (hi : i < n) : (s.ddrBytes a n)[i]? = some (s.ddrByte (a + i)) := by
  induction n generalizing a i with
  | zero => omega
  | succ n ih =>
    cases i with
    | zero => rfl
    | succ i => rw [State.ddrBytes, List.getElem?_cons_succ, ih (a + 1) (by omega), Nat.add_assoc, Nat.add_comm 1 i]

theorem ddrByte_of_sound (hs : ddrSound s) (a : Nat) : s.ddrByte a = s.mem.read a := by
  obtain ⟨herr, -, -⟩ := hs
  simp [State.ddrByte, herr, markOf]

/-- The bytes of an element of `h` half bytes that begins at `a`, of the granule that holds it. -/
def elementBytes (s : State) (a h : Nat) : Bytes := ((granuleAt s a).bytes.drop (a % 64)).take (ceilDiv h 2)

theorem byte_of_value {n i : Nat} (hs : ddrSound s) (hfit : a % 64 + n ≤ 64) (hn : ceilDiv h 2 = n) (h1 : h ≠ 1) (hi : i < n) :
    BitVec.ofNat 8 (elemVal h false (elementBytes s a h) / 256 ^ i) = s.mem.read (a + i) := by
  have hbyte : (elementBytes s a h)[i]? = some (s.mem.read (a + i)) := by
    rw [elementBytes, granuleAt, List.getElem?_take_of_lt (by omega), List.getElem?_drop, getElem_ddrBytes s _ (by omega), ddrByte_of_sound hs]
    congr 2
    omega
  have hval : elemVal h false (elementBytes s a h) = leVal (elementBytes s a h) := if_neg h1
  refine BitVec.eq_of_toNat_eq ?_
  rw [hval, BitVec.toNat_ofNat]
  exact leVal_byte hbyte

/-! ## The demand (R171, R173, R174) -/

theorem racing_of_no_curtain (h : s.curt = none) (m : MoveOp) (l : Loc) (v : Nat) : s.racing m l v = (s, v) := by
  simp only [State.racing, covers_of_no_curtain h, Bool.false_and, Bool.false_eq_true, if_false]

/-- A permitted element of a granule that the MOVE does not hold is read at once. -/
theorem demand_ddr (hcurt : s.curt = none) (hs : ddrSound s) (hperm : s.permits a false = true) (hp : s.place a = .ddr)
    (hpg : s.place (a / 64 * 64) = .ddr) (hw : s.watches m (a / 64) = false) (hnew : m.fetched (a / 64) = none) :
    ∃ t m', s.demand e m h (.dev a) false = .val t m' (elemVal h false (elementBytes s a h)) ∧ Reads s t ∧ HoldsOnly m m' := by
  obtain ⟨t, ht, hreads⟩ := fetch_granule (e := e) hs hw hpg
  have hfault : s.srcFault (ceilDiv h 2) (.dev a) = none := if_pos hperm
  have hgran : (Loc.dev a).granule = a / 64 := rfl
  have hdev : (Loc.dev a).device = a := rfl
  have hcurt' : t.curt = none := by rw [hreads.rest]; exact hcurt
  refine ⟨t, _, ?_, hreads, (putFetched_holdsOnly m (granuleAt s a)).trans (putFetched_holdsOnly _ { granuleAt s a with taken := true })⟩
  simp only [State.demand, coveredLoc_of_no_curtain hcurt, hfault, hgran, hdev, hnew, hw, enginePort_ddr hp, ht,
    racing_of_no_curtain hcurt', elementBytes, Bool.false_and, Bool.not_true, Bool.false_eq_true, if_false]

/-- An element that no window permits is a WINDOW fault at its address. -/
theorem demand_refused (hcurt : s.curt = none) (hperm : s.permits a false = false) :
    s.demand e m h (.dev a) false = .fault s cWINDOW a := by
  have hfault : s.srcFault (ceilDiv h 2) (.dev a) = some a := if_neg (Bool.eq_false_iff.mp hperm)
  simp only [State.demand, coveredLoc_of_no_curtain hcurt, hfault, Bool.false_and, Bool.false_eq_true, if_false]

/-! ## The store (R170, R173) -/

/-- The last element of a MOVE that gathers nothing else is stored at once. -/
theorem gatherMove_last (hplain : m.copying = .plain) (hwbuf : m.wbuf = []) {n : Nat} (hh : el.h = 2 * n) :
    s.gatherMove m el (.own p o) false v true =
      (s.storePiece m (elementPiece p o n v (el.src.map fun x => x.1.granule)), m) := by
  have hsame : { m with wbuf := [], copying := .plain } = m := by rw [← hwbuf, ← hplain]
  simp only [State.gatherMove, State.storeOwn, hplain, hwbuf, hh, List.find?_nil, List.filter_nil, Option.getD_none, if_true, elementPiece,
    hsame]

theorem again_of_last (hlast : m.m + 1 = m.count) (side : Elem → Option (Loc × Bool)) (g : Nat) : s.again m side g = false := by
  rw [State.again, hlast, Nat.sub_self, State.later]

/-! ## What follows a delivered element (R369) -/

theorem moveBytes_counts (s : State) (e : Nat) (m : MoveOp) (h : Nat) : Counts s (s.moveBytes e m h) := by
  unfold State.moveBytes
  dsimp only
  split <;> exact count_counts s _ _ _ _

/-- The MOVE at its next element: requests that served their last element go, and granules that later elements read are kept. -/
def passed (s : State) (m : MoveOp) : MoveOp :=
  { m with
    m := m.m + 1
    ra := max m.ra (m.m + 1)
    kept := ((m.reqs.filter fun r => decide (r.m1 ≤ m.m + 1)).flatMap (fun r => r.gs) ++ m.kept).filter fun f =>
      !f.bad && s.again m Elem.src f.granule
    reqs := m.reqs.filter fun r => decide (m.m + 1 < r.m1) }

/-- A plain element passed: bytes are counted and the MOVE stands at its next element. -/
theorem passElem_plain (hbound : el.bound = false) (hpad : el.padg = false) (hring : m.ring = none)
    (hwatch : (m.desc.any fun d => d.watch) = false) : s.passElem e m el =
      (s.moveBytes e m el.h).setEng e { q := passed (s.moveBytes e m el.h) m :: (s.eng e).q.drop 1 } := by
  have heng : (s.moveBytes e m el.h).eng e = s.eng e := by rw [(moveBytes_counts s e m el.h).rest]; rfl
  simp only [State.passElem, State.trimLedger, hbound, hpad, hring, hwatch, heng, passed, Bool.false_eq_true, if_false, Bool.not_false, if_true]

/-! ## One element delivered (R173) -/

theorem dstFault_own (hfit : o + ceilDiv h 2 ≤ wingsSize) : s.dstFault h (.own p o) = none := if_neg (Nat.not_lt.mpr hfit)

theorem enginePort_own (hx : (s.bay p).xreqs = []) (e : Nat) (m : MoveOp) (key : Nat) (store : Bool) :
    ∃ t, s.enginePort e m (.own p o) key store = (t, true) ∧ PortServed s t p := wingsPort_of_idle hx _ _ _

/-- A MOVE that may transfer its element: one is left, nothing holds it back, and it reads through no revolve and copies plainly. -/
structure Transfers (s : State) (e : Nat) (m : MoveOp) (rest : List MoveOp) : Prop where
  queue  : (s.eng e).q = m :: rest
  left   : m.m < m.count
  ring   : m.ring = none
  plain  : m.copying = .plain
  wbuf   : m.wbuf = []
  behind : s.behind e m = false

theorem takeSnap_plain (h : m.copying = .plain) : s.takeSnap e m = (s, m, true) := if_pos (Or.inl h)

/-- The MOVE's last element, read and stored. -/
theorem deliver_eq {n : Nat} (hm : Transfers s e m rest) (hcurt : s.curt = none)
    (hel : s.elemAt m m.m = { h := 2 * n, src := some (.dev a, false), dst := some (.own p o, false) })
    (hread : s.demand e m (2 * n) (.dev a) false = .val t m' v) (hheld : HoldsOnly m m') (hlast : m.m + 1 = m.count)
    (hfit : o + ceilDiv (2 * n) 2 ≤ wingsSize) (hport : t.enginePort e m' (.own p o) (2 * m'.m + 1) true = (u, true)) :
    s.deliver e = (u.storePiece m' (elementPiece p o n v (some (a / 64)))).passElem e m'
      { h := 2 * n, src := some (.dev a, false), dst := some (.own p o, false) } := by
  obtain ⟨hqueue, hleft, hring, hplain, hwbuf, hbehind⟩ := hm
  have hmore : decide (m.count ≤ m.m) = false := decide_eq_false (Nat.not_le.mpr hleft)
  have hlast' : m'.m + 1 = m'.count := by rw [hheld]; exact hlast
  have hgather : u.gatherMove m' { h := 2 * n, src := some (.dev a, false), dst := some (.own p o, false) } (.own p o) false v true =
      (u.storePiece m' (elementPiece p o n v (some (a / 64))), m') :=
    gatherMove_last (by rw [hheld]; exact hplain) (by rw [hheld]; exact hwbuf) rfl
  simp only [State.deliver, hqueue, hmore, hbehind, hring, hel, Option.any_some, coveredLoc_of_no_curtain hcurt, takeSnap_plain hplain,
    State.sourceOf, hread, dstFault_own hfit, again_of_last hlast', hport, hgather, Bool.or_false, Bool.false_and, Bool.not_false,
    Bool.false_eq_true, if_false, if_true, Option.getD_none]

theorem exec_deliver (hrun : EngineRuns s e) : exec (.streamDeliver e) s = .next (s.deliver e) := by
  obtain ⟨he, hclk, -⟩ := hrun
  exact onEngine_run he hclk fun s => s.deliver e

/-! ## A MOVE that a fault stops (R180) -/

/-- The engine records the fault. -/
def recordFault (s : State) (e : Nat) (m : MoveOp) (code : Nat) : State :=
  ((s.put STR_FAULT_CODE code e).put STR_FAULT_DESC m.descNo e).put STR_FAULT_ELEM m.m e

/-- The engine has recorded the fault, and the MOVE has left. -/
def stopped (s : State) (e : Nat) (m : MoveOp) (code : Nat) : State := (recordFault s e m code).dropMove e m

theorem bay_winFault (s : State) (a : Nat) (wr : Bool) (q : Nat) : (s.winFault a wr).bay q = s.bay q := by
  rw [State.winFault, bay_put, bay_put]

theorem bay_recordFault (s : State) (e : Nat) (m : MoveOp) (code q : Nat) : (recordFault s e m code).bay q = s.bay q := by
  rw [recordFault, bay_put, bay_put, bay_put]

theorem raw_dropMove (s : State) (e : Nat) (m : MoveOp) (r : Reg) : (s.dropMove e m).raw r = s.raw r := rfl

theorem mem_recordFault (s : State) (e : Nat) (m : MoveOp) (code : Nat) : (recordFault s e m code).mem = s.mem := by
  rw [recordFault, put_mem, put_mem, put_mem]

theorem get_stopped (s : State) (e : Nat) (m : MoveOp) (code : Nat) (f : Fld) (v i : Nat) :
    (stopped s e m code).get f v i = (recordFault s e m code).get f v i := by
  rw [get_def, stopped, raw_dropMove, get_def]

theorem moveLive_stopped (s : State) (e : Nat) (m : MoveOp) (code : Nat) : (stopped s e m code).moveLive m = s.moveLive m := by
  have hcid : ((stopped s e m code).bay m.phys).cid = (s.bay m.phys).cid := by
    rw [stopped, (dropMove_dropped _ e m).own, bay_recordFault]
  rw [State.moveLive, hcid, State.moveLive]

theorem stopMove_eq (hring : m.ring = none) (hwbuf : m.wbuf = []) (code : Nat) : s.stopMove e m code =
    if s.moveLive m then (stopped s e m code).fault m.phys code m.pc else stopped s e m code := by
  have hflush : s.flushMove m = (s, m) := by rw [State.flushMove, hwbuf, List.foldl_nil, ← hwbuf]
  simp only [State.stopMove, hflush, hring]
  rw [← recordFault, ← stopped, moveLive_stopped]

theorem deliver_refused (hm : Transfers s e m rest) (hcurt : s.curt = none) (hsrc : (s.elemAt m m.m).src = some (.dev a, false))
    (hperm : s.permits a false = false) : s.deliver e = (s.winFault a false).stopMove e m cWINDOW := by
  obtain ⟨hqueue, hleft, hring, hplain, hwbuf, hbehind⟩ := hm
  have hmore : decide (m.count ≤ m.m) = false := decide_eq_false (Nat.not_le.mpr hleft)
  have hheld : ((s.elemAt m m.m).dst.any fun x => s.coveredLoc x.1 && !s.covers m.phys) = false := by
    simp only [coveredLoc_of_no_curtain hcurt, Bool.false_and]
    exact Option.any_false
  simp only [State.deliver, hqueue, hmore, hbehind, hring, hheld, takeSnap_plain hplain, State.sourceOf, hsrc, demand_refused hcurt hperm,
    Bool.or_false, Bool.false_eq_true, if_false, if_true]

/-- A stopped MOVE's fault as the engine shows it. -/
theorem fault_recorded (s : State) (e : Nat) (m : MoveOp) {code : Nat} (hcode : code < 2 ^ STR_FAULT_CODE.w) :
    (recordFault s e m code).get STR_FAULT_CODE e = code ∧ (recordFault s e m code).get STR_FAULT_DESC e = m.descNo % 2 ^ STR_FAULT_DESC.w ∧
    (recordFault s e m code).get STR_FAULT_ELEM e = m.m % 2 ^ STR_FAULT_ELEM.w := by
  unfold recordFault
  refine ⟨?_, ?_, get_put_self _ _ _ _ _ (by decide)⟩
  · rw [get_put_disjoint _ STR_FAULT_ELEM STR_FAULT_CODE _ _ _ (by decide) rfl (Or.inl (by decide)),
      get_put_disjoint _ STR_FAULT_DESC STR_FAULT_CODE _ _ _ (by decide) rfl (Or.inr (by decide)), get_put_self _ _ _ _ _ (by decide),
      Nat.mod_eq_of_lt hcode]
  · rw [get_put_disjoint _ STR_FAULT_ELEM STR_FAULT_DESC _ _ _ (by decide) rfl (Or.inl (by decide)), get_put_self _ _ _ _ _ (by decide)]

theorem get_recordFault_ne (s : State) (e : Nat) (m : MoveOp) (code : Nat) {f : Fld} (hf : .STR_FAULT ≠ f.reg) (v i : Nat) :
    (recordFault s e m code).get f v i = s.get f v i := by
  have hne (g : Fld) (hg : g.reg = .STR_FAULT) : (⟨f.reg, v, i⟩ : Reg) ≠ ⟨g.reg, e, 0⟩ := reg_ne_of_name (hg ▸ hf.symm) _ _ _ _
  rw [recordFault, get_put_ne _ _ _ _ _ _ _ _ (hne _ rfl), get_put_ne _ _ _ _ _ _ _ _ (hne _ rfl), get_put_ne _ _ _ _ _ _ _ _ (hne _ rfl)]

/-- STR_WINFAULT shows the address of a refused read. -/
theorem get_winFault_read (s : State) (a : Nat) : (s.winFault a false).get STR_WINFAULT_ADDR = a % 2 ^ STR_WINFAULT_ADDR.w ∧
    (s.winFault a false).get STR_WINFAULT_WR = 0 := by
  unfold State.winFault
  refine ⟨?_, get_put_self _ _ _ _ _ (by decide)⟩
  rw [get_put_disjoint _ STR_WINFAULT_WR STR_WINFAULT_ADDR _ _ _ (by decide) rfl (Or.inl (by decide)), get_put_self _ _ _ _ _ (by decide)]

/-! ## An element delivered (R173) -/

/-- `n` bytes of DDR stand in a bay's wings; no other byte of a store and no engine's queue changed. -/
structure Landed (s t : State) (a p o n : Nat) : Prop where
  inside  : ∀ i, i < n → (t.bay p).wings.read (o + i) = s.mem.read (a + i)
  outside : ∀ x, (x < o ∨ o + n ≤ x) → (t.bay p).wings.read x = (s.bay p).wings.read x
  mem     : t.mem = s.mem
  bays    : ∀ q, q ≠ p → t.bay q = s.bay q
  eng     : ∀ x, t.eng x = s.eng x

/-- Read, served at the crossbar, stored and counted, an element's bytes have landed. -/
theorem landed_of_stored {n : Nat} {w x : State} {src : Option Nat} (hs : ddrSound s) (hafit : a % 64 + n ≤ 64) (hofit : o % 64 + n ≤ 64)
    (hn : ceilDiv h 2 = n) (h1 : h ≠ 1) (hreads : Reads s t) (hserved : PortServed t u p)
    (hstored : Stored u w p (pieceAt u (o / 64 * 64) (elementPiece p o n (elemVal h false (elementBytes s a h)) src)))
    (hcounts : Counts w x) : Landed s x a p o n := by
  have hwings : (x.bay p).wings = ((s.bay p).wings).put
      (pieceAt u (o / 64 * 64) (elementPiece p o n (elemVal h false (elementBytes s a h)) src)) := by
    rw [hcounts.bay, hstored.own, hserved.own, hreads.bay]
  refine ⟨fun i hi => ?_, fun y hy => ?_, ?_, fun q hq => ?_, fun y => ?_⟩
  · rw [hwings, read_put_element hofit _ hi, byte_of_value hs hafit hn h1 hi]
  · rw [hwings, read_put_outside _ hy]
  · rw [hcounts.rest, hstored.inBay.rest, hserved.inBay.rest, hreads.rest]
  · rw [hcounts.bay, hstored.inBay.bays q hq, hserved.inBay.bays q hq, hreads.bay]
  · rw [hcounts.rest, hstored.inBay.rest, hserved.inBay.rest, hreads.rest]
    rfl

theorem element_delivered {n : Nat} (hm : Transfers s e m rest) (hlast : m.m + 1 = m.count) (hreqs : m.reqs = []) (hkept : m.kept = [])
    (hwatch : (m.desc.any fun d => d.watch) = false)
    (hel : s.elemAt m m.m = { h := 2 * n, src := some (.dev a, false), dst := some (.own p o, false) })
    (hafit : a % 64 + n ≤ 64) (hofit : o % 64 + n ≤ 64) (hp : s.place a = .ddr) (hpg : s.place (a / 64 * 64) = .ddr)
    (hperm : s.permits a false = true) (hs : ddrSound s) (hcurt : s.curt = none) (hwings : o + n ≤ wingsSize)
    (herr : (s.bay p).wingsErr = []) (hphoto : (s.bay p).photo = none) (hx : (s.bay p).xreqs = []) :
    ∃ x m', s.deliver e = x.setEng e { q := passed x m' :: rest } ∧ HoldsOnly m m' ∧ Landed s x a p o n := by
  have hn : ceilDiv (2 * n) 2 = n := by unfold ceilDiv; omega
  obtain ⟨t, m', hread, hreads, hheld⟩ := demand_ddr (e := e) (m := m) (h := 2 * n) hcurt hs hperm hp hpg
    (by rw [State.watches, hwatch, Bool.false_and]) (fetched_of_empty hreqs hkept _)
  obtain ⟨u, hport, hserved⟩ := enginePort_own (o := o) (s := t) (p := p) (by rw [hreads.bay]; exact hx) e m' (2 * m'.m + 1) true
  have hdel := deliver_eq hm hcurt hel hread hheld hlast (by rw [hn]; exact hwings) hport
  have hown : u.bay p = { s.bay p with xdone := (u.bay p).xdone } := by rw [hserved.own, hreads.bay]
  have hstored := storePiece_own (s := u) (m := m') (w := elementPiece p o n (elemVal (2 * n) false (elementBytes s a (2 * n))) (some (a / 64)))
    (p := p) rfl (by rw [hserved.inBay.rest, hreads.rest]; exact hcurt) (by rw [hown]; exact herr) (by rw [hown]; exact hphoto)
  generalize u.storePiece m' _ = w at hdel hstored
  rw [passElem_plain rfl rfl (by rw [hheld]; exact hm.ring) (by rw [hheld]; exact hwatch)] at hdel
  have hcounts := moveBytes_counts w e m' (2 * n)
  generalize w.moveBytes e m' (2 * n) = x at hdel hcounts
  have hland := landed_of_stored hs hafit hofit hn (by omega) hreads hserved hstored hcounts
  have hqueue : (w.eng e).q.drop 1 = rest := by
    rw [show w.eng e = x.eng e by rw [hcounts.rest]; rfl, hland.eng, hm.queue]
    rfl
  exact ⟨x, m', by rw [hdel, hqueue], hheld, hland⟩

/-! ## An element refused (R173, R180) -/

/-- An element refused: the fault is recorded and the MOVE leaves before its bay's fault. -/
theorem element_refused (hrun : EngineRuns s e) (hm : Transfers s e m rest) (hsrc : (s.elemAt m m.m).src = some (.dev a, false))
    (hperm : s.permits a false = false) :
    ∃ u, exec (.streamDeliver e) s = .next (if s.moveLive m then u.fault m.phys cWINDOW m.pc else u) ∧
      u.get STR_FAULT_CODE e = cWINDOW ∧ u.get STR_FAULT_DESC e = m.descNo % 2 ^ STR_FAULT_DESC.w ∧
      u.get STR_FAULT_ELEM e = m.m % 2 ^ STR_FAULT_ELEM.w ∧ u.get STR_WINFAULT_ADDR = a % 2 ^ STR_WINFAULT_ADDR.w ∧
      u.get STR_WINFAULT_WR = 0 ∧ (∀ x ∈ (u.eng e).q, x.id ≠ m.id) ∧ u.mem = s.mem ∧ (∀ q, (u.bay q).wings = (s.bay q).wings) := by
  have hexec := exec_deliver hrun
  obtain ⟨-, -, hcurt⟩ := hrun
  rw [deliver_refused hm hcurt hsrc hperm, stopMove_eq hm.ring hm.wbuf] at hexec
  have hlive : (s.winFault a false).moveLive m = s.moveLive m := by
    rw [State.moveLive, bay_winFault, State.moveLive]
  obtain ⟨hcode, hdesc, helem⟩ := fault_recorded (s.winFault a false) e m (code := cWINDOW) (by decide)
  obtain ⟨haddr, hwr⟩ := get_winFault_read s a
  have hd := dropMove_dropped (recordFault (s.winFault a false) e m cWINDOW) e m
  rw [hlive] at hexec
  refine ⟨_, hexec, ?_, ?_, ?_, ?_, ?_, fun x hx => ?queue, ?mem, fun q => ?wings⟩
  · rw [get_stopped, hcode]
  · rw [get_stopped, hdesc]
  · rw [get_stopped, helem]
  · rw [get_stopped, get_recordFault_ne _ _ _ _ (by decide), haddr]
  · rw [get_stopped, get_recordFault_ne _ _ _ _ (by decide), hwr]
  case queue =>
    rw [stopped, hd.queue] at hx
    simpa using (List.mem_filter.mp hx).2
  case mem => rw [stopped, congrArg State.mem hd.rest, mem_recordFault, State.winFault, put_mem, put_mem]
  case wings =>
    have hbay : (recordFault (s.winFault a false) e m cWINDOW).bay q = s.bay q := by
      rw [bay_recordFault, bay_winFault]
    by_cases hq : q = m.phys
    · rw [stopped, hq, hd.own, ← hq, hbay]
    · rw [stopped, hd.bays q hq, hbay]

/-! ## The statement -/

/-- Settles O24: the demand reads the element of its granule, its bytes are gathered for its place and stored there; a refused demand
records the fault and drops the MOVE. -/
theorem streamDeliversOneElement : Obligations.StreamDeliversOneElement := by
  refine ⟨?delivered, ?refused⟩
  case delivered =>
    intro s e m rest h a p o hrun hq hlast hring hplain hreqs hkept hwbuf hwatch hbehind hel hh ha ho hp hpg hperm hs hfit herr hphoto hx
    obtain ⟨n, hn, rfl⟩ : ∃ n, (n = 1 ∨ n = 2 ∨ n = 4) ∧ h = 2 * n := ⟨h / 2, by omega, by omega⟩
    rw [Nat.mul_div_cancel_left n Nat.two_pos] at ha ho hfit ⊢
    have fits (b : Nat) (hb : b % n = 0) : b % 64 + n ≤ 64 := by
      obtain rfl | rfl | rfl := hn <;> omega
    have hexec := exec_deliver hrun
    obtain ⟨-, -, hcurt⟩ := hrun
    obtain ⟨x, m', hdel, hheld, hland⟩ := element_delivered ⟨hq, by omega, hring, hplain, hwbuf, hbehind⟩ hlast hreqs hkept hwatch hel
      (fits a ha) (fits o ho) hp hpg hperm hs hcurt hfit herr hphoto hx
    rw [hdel] at hexec
    exact ⟨_, passed x m', hexec, by rw [eng_setEng_self], by rw [hheld]; rfl, by rw [hheld]; rfl, hland.inside, hland.outside, hland.mem,
      hland.bays, fun y hy => (eng_setEng_ne x _ hy).trans (hland.eng y)⟩
  case refused =>
    intro s e m rest el a hrun hq hleft hring hplain hwbuf hbehind hel hsrc hperm
    exact element_refused hrun ⟨hq, hleft, hring, hplain, hwbuf, hbehind⟩ (hel ▸ hsrc) hperm

end Sys2Proof.Proofs
end
